-- ==== Sys2Proof/Word.lean ====
section
/-!
DEFINITION. The byte, the word the module's packets and tables are written in (00 R9: every
multi-byte field is little-endian; the readers of such fields are in Machine/Operands.lean).
-/
namespace Sys2Proof

/-- One byte of a packet, an image, a record or a memory word. -/
abbrev Byte := BitVec 8

/-- A run of bytes, lowest address first. -/
abbrev Bytes := List Byte

end Sys2Proof
end

