-- ==== Sys2Proof/Config.lean ====
section
/-!
DEFINITION. What one module fixes and the manual does not give, and the free values: constants with no body, so that
nothing can be proved of their values. Each is applied to the operands it depends on, or to the count `State.free`.
-/
namespace Sys2Proof.Config

/-- The Factory key written in production (04 R105).
Log 6: DESIGN CHOICE, safe. -/
opaque factoryKey : Bytes
/-- The Maker key a module leaves Palteron with (04 R105).
Log 6: DESIGN CHOICE, safe. -/
opaque makerKey : Bytes
/-- `SERIAL` (04 Table 04-11, factory value).
Log 6: DESIGN CHOICE, safe. -/
opaque serial : Nat
/-- `FIRMWARE_VERSION` (04 Table 04-11).
Log 6: DESIGN CHOICE, safe. -/
opaque firmwareVersion : Nat
/-- Factory MAC address of a Stay port (15 R397).
Log 6: DESIGN CHOICE, safe. -/
opaque macAddress : Nat → Nat
/-- The leap-second count written in MRAM at the module's manufacture (02 R61).
Log 4: DESIGN CHOICE, safe. -/
opaque leapSeconds : Nat
/-- What the reserved bits of byte `i` of a reply read as, by the number of the free value (00 R10: undefined).
Log 16: DEDUCED, safe. -/
opaque reserved : Nat → Nat → Byte
/-- `FIRST_RETURNED` of a read that returns no records, by `FIRST` and OLDEST (17 Table 17-9 gives none).
Log 17: DESIGN CHOICE, safe. -/
opaque firstReturnedNone : Nat → Nat → Nat

/-- The 13 stored bits of a byte of DRAM that nothing has written since its domain switched on (16 R437), by controller,
switch-ons of the domain and address.
Log 9: DESIGN CHOICE, safe. -/
opaque unwritten : Nat → Nat → Nat → BitVec 13
/-- The same, of a byte of a controller's test area (16 R435).
Log 9: DESIGN CHOICE, safe. -/
opaque unwrittenTest : Nat → Nat → Nat → BitVec 13

/-- A quantity that the manual does not round, given in 2^-24 of its unit (a length as its square), goes to the whole number
above it (09 R259, R261, 12 R326 to R328, 13 Table 13-9).
Log 18: DESIGN CHOICE, safe. -/
opaque roundUp : Int → Bool
/-- Error of the fusion engine's sine of an angle of 2^-96 rad, in 2^-96; it is limited to what 12 R328 allows.
Log 18: DESIGN CHOICE, safe. -/
opaque sineError : Int → Int
/-- Error of the fusion engine's cosine, as `sineError`.
Log 18: DESIGN CHOICE, safe. -/
opaque cosineError : Int → Int
/-- The parity or CRC of a navigation message holds, by constellation, satellite, kind and bits (13 R358; the rules are
those of the constellations' interface specifications).
Log 69: DESIGN CHOICE, safe. -/
opaque navMessageOk : Nat → Nat → Nat → List Byte → Bool
/-- The data of a navigation message sent at a second of the constellation's week lie inside their validity interval at a
Mast second (13 R358).
Log 69: DESIGN CHOICE, safe. -/
opaque navMessageValid : Nat → Nat → Nat → Nat → List Byte → Nat → Bool
/-- Issue of data of a navigation message (13 R358).
Log 69: DESIGN CHOICE, safe. -/
opaque navIssue : Nat → Nat → Nat → List Byte → Nat
/-- The messages held of a satellite (kind, second of week, bits) make an ephemeris inside its validity interval at a Mast
second (13 R356).
Log 69: DESIGN CHOICE, safe. -/
opaque ephemerisValid : Nat → Nat → List (Nat × Nat × List Byte) → Nat → Bool
/-- Predicted elevation of a satellite, 10^-5 degree, from its orbit data, a position and a Mast second (13 R354).
Log 69: DESIGN CHOICE, safe. -/
opaque elevation : Nat → Nat → List (List Byte) → Int × Int × Int → Nat → Int
/-- Leap-second count that a navigation message of a kind gives, and a change it announces: whether a second is removed, and
the Mast second (13 R369).
Log 69: DESIGN CHOICE, safe. -/
opaque navLeap : Nat → List Byte → Option (Nat × Option (Bool × Nat))

/-- What a network leaves in byte `i` of its output entry, by the number of the free value used for it (12 R341: the
network alone decides).
Log 83: DESIGN CHOICE, safe. -/
opaque netOutput : Nat → Nat → Byte
/-- What a network leaves in a feature of the state grid, by the number of the free value, row, column and feature.
Log 83: DESIGN CHOICE, safe. -/
opaque netState : Nat → Nat → Nat → Nat → Byte
/-- What the engine leaves in a byte of its working area while it runs a round, by the number of the free value and address
(12 R322: the Canvas, activations).
Log 83: DESIGN CHOICE, safe. -/
opaque engineByte : Nat → Nat → Byte
/-- Ranges of fusion memory that a network reads in a run, address and size, by the number of the free value (12 R345, 16 R431).
Log 83: DESIGN CHOICE, safe. -/
opaque netReads : Nat → List (Nat × Nat)
/-- Gaps between what the engine keeps in its working area, in pages modulo 256 (12 Table 12-2).
Log 83: DESIGN CHOICE, safe. -/
opaque workGap : Nat → Nat
/-- Bytes of input descriptors 16 and 17 that 12 R342 does not give, by descriptor and offset.
Log 83: DESIGN CHOICE, safe. -/
opaque gridDescriptor : Nat → Nat → Byte
/-- `POINT_COUNT` of a scan whose total exceeds its 16 bits (12 R331).
Log 85: DEDUCED, unsafe. -/
opaque totalPoints : Nat → Nat

/-- REC of a CAN port after a good frame when it stood above 127: 119 plus this modulo 9 (14 R389; ISO 11898-1 leaves the
choice), by the number of the free value.
Log 87: DESIGN CHOICE, safe. -/
opaque recAfter : Nat → Nat

end Sys2Proof.Config
end

