-- ==== Sys2Proof/Machine/Operands.lean ====
section
/-!
DEFINITION. Reading and writing the fields of payloads, tables and structures (00 R9, R10: little-endian,
reserved bits are written as 0), saturating counters, and the sparse table the blocks keep their resources in.
-/
namespace Sys2Proof.Machine

/-! ### Bytes and fields -/

/-- The unsigned value of a little-endian run of bytes (R9). -/
def leNat : Bytes → Nat
  | [] => 0
  | b :: r => b.toNat + 256 * leNat r

/-- `n` bytes little-endian of `v` (R9); the value is cut to `n` bytes. -/
def putLE : Nat → Nat → Bytes
  | 0, _ => []
  | n + 1, v => BitVec.ofNat 8 v :: putLE n (v / 256)

/-- The unsigned field of `n` bytes at offset `off`. Bytes past the end read as 0. -/
def fieldAt (p : Bytes) (off n : Nat) : Nat := leNat ((p.drop off).take n)

def u8 (p : Bytes) (off : Nat) : Nat := fieldAt p off 1
def u16 (p : Bytes) (off : Nat) : Nat := fieldAt p off 2
def u24 (p : Bytes) (off : Nat) : Nat := fieldAt p off 3
def u32 (p : Bytes) (off : Nat) : Nat := fieldAt p off 4
def u64 (p : Bytes) (off : Nat) : Nat := fieldAt p off 8

/-- Two's-complement reading of the low `bits` bits of `v`. -/
def toSigned (bits v : Nat) : Int :=
  let w := v % 2 ^ bits
  if w < 2 ^ (bits - 1) then (w : Int) else (w : Int) - (2 ^ bits : Nat)

/-- The two's-complement word of `bits` bits that holds `i`. -/
def ofSigned (bits : Nat) (i : Int) : Nat := (i % (2 ^ bits : Nat)).toNat

def s8 (p : Bytes) (off : Nat) : Int := toSigned 8 (u8 p off)
def s16 (p : Bytes) (off : Nat) : Int := toSigned 16 (u16 p off)
def s32 (p : Bytes) (off : Nat) : Int := toSigned 32 (u32 p off)
def s64 (p : Bytes) (off : Nat) : Int := toSigned 64 (u64 p off)

/-- Bits `lo` to `lo + n - 1` of `v`. -/
def bitsOf (v lo n : Nat) : Nat := v / 2 ^ lo % 2 ^ n

/-- Bit `i` of `v`. -/
def bitOf (v i : Nat) : Bool := v / 2 ^ i % 2 == 1

/-- Bit `i` of the byte at `off`. -/
def flagAt (p : Bytes) (off i : Nat) : Bool := bitOf (u8 p off) i

/-- `v` as `n` bytes of two's complement. -/
def putS (n : Nat) (v : Int) : Bytes := putLE n (ofSigned (8 * n) v)

/-- `n` zero bytes: a reserved field as it is written (R10). -/
def zeros (n : Nat) : Bytes := List.replicate n 0

/-- `p` cut or filled with zeros to exactly `n` bytes. -/
def fitTo (n : Nat) (p : Bytes) : Bytes := (p ++ zeros n).take n

/-- `p` with the bytes `b` written at `off`; `p` keeps its length. -/
def setBytes (p : Bytes) (off : Nat) (b : Bytes) : Bytes :=
  (p.take off ++ b ++ p.drop (off + b.length)).take p.length

/-- `p` padded with zeros to a multiple of 8 bytes. -/
def pad8 (p : Bytes) : Bytes := p ++ zeros ((8 - p.length % 8) % 8)

/-- The number a flag has in a packed byte. -/
def b2n (b : Bool) : Nat := if b then 1 else 0

/-- Flags packed into a number, the first in bit 0. -/
def packFlags : List Bool → Nat
  | [] => 0
  | b :: r => b2n b + 2 * packFlags r

/-! ### Saturating counters and limits -/

/-- The largest value of a 32-bit field. -/
def max32 : Nat := 4294967295

/-- A 32-bit saturating counter moved on by `k`.
Log 112: DESIGN CHOICE, unsafe. -/
def sat32 (v k : Nat) : Nat := min (v + k) max32

/-- A 16-bit saturating counter moved on by `k`.
Log 112: DESIGN CHOICE, unsafe. -/
def sat16 (v k : Nat) : Nat := min (v + k) 65535

/-- A 64-bit saturating counter moved on by `k`.
Log 112: DESIGN CHOICE, unsafe. -/
def sat64 (v k : Nat) : Nat := min (v + k) 18446744073709551615

/-- `v` held between `lo` and `hi`. -/
def clampI (lo hi v : Int) : Int := if v < lo then lo else if hi < v then hi else v

/-- A value held to a signed field of `bits` bits. -/
def satS (bits : Nat) (v : Int) : Int := clampI (-(2 ^ (bits - 1) : Nat)) ((2 ^ (bits - 1) : Nat) - 1) v

/-- The difference `a - b` of two 32-bit counts that wrap. -/
def wrapDiff (a b : Nat) : Nat := (a + 4294967296 - b % 4294967296) % 4294967296

/-! ### Sparse tables -/

/-- A table of resources by number, ascending; a number not listed stands at its reset value. -/
abbrev Tbl (α : Type) := List (Nat × α)

/-- The entry of number `k`, if one is listed. -/
def Tbl.find {α : Type} : Tbl α → Nat → Option α
  | [], _ => none
  | (i, a) :: r, k => if i = k then some a else Tbl.find r k

/-- The entry of number `k`, or the reset value `d`. -/
def Tbl.getD {α : Type} (t : Tbl α) (k : Nat) (d : α) : α := (Tbl.find t k).getD d

/-- The table with the entry of number `k` set; order and the other entries are kept. -/
def Tbl.put {α : Type} : Tbl α → Nat → α → Tbl α
  | [], k, a => [(k, a)]
  | (i, b) :: r, k, a =>
    if i = k then (k, a) :: r
    else if k < i then (k, a) :: (i, b) :: r
    else (i, b) :: Tbl.put r k a

/-- The table without the entry of number `k`. -/
def Tbl.del {α : Type} : Tbl α → Nat → Tbl α
  | [], _ => []
  | (i, b) :: r, k => if i = k then Tbl.del r k else (i, b) :: Tbl.del r k

/-- The entry of number `k` changed by `f`, from the reset value `d` when it is not listed. -/
def Tbl.upd {α : Type} (t : Tbl α) (k : Nat) (d : α) (f : α → α) : Tbl α :=
  Tbl.put t k (f (Tbl.getD t k d))

/-- The numbers of a table rise strictly from `lo`. -/
def Tbl.rising {α : Type} : Nat → Tbl α → Bool
  | _, [] => true
  | lo, (i, _) :: r => decide (lo ≤ i) && Tbl.rising (i + 1) r

/-! ### Small list helpers -/

/-- The numbers `0` to `n - 1`. -/
def upto (n : Nat) : List Nat := List.range n

/-- The sum of a list. -/
def sumNat (l : List Nat) : Nat := l.foldl (· + ·) 0

/-- Insertion into a list kept in ascending order of `key`, after equal keys. -/
def insertBy {α : Type} (key : α → Nat) (a : α) : List α → List α
  | [] => [a]
  | b :: r => if key a < key b then a :: b :: r else b :: insertBy key a r

/-- A list in ascending order of `key`; equal keys keep their order. -/
def sortBy {α : Type} (key : α → Nat) : List α → List α
  | [] => []
  | a :: r => insertFront (sortBy key r) a
where
  /-- Insertion in front of equal keys. -/
  insertFront (l : List α) (a : α) : List α :=
    match l with
    | [] => [a]
    | b :: r => if key a ≤ key b then a :: b :: r else b :: insertFront r a

/-- Division rounded to the nearest whole number, halves away from zero. -/
def roundDiv (a : Int) (b : Nat) : Int :=
  if 0 ≤ a then (2 * a + b) / (2 * b) else -((2 * (-a) + b) / (2 * b))

end Sys2Proof.Machine
end

