-- ==== Sys2Proof/Machine/Hash.lean ====
section
/-!
DEFINITION. The two checks a packet carries: CRC-32C (04 R100) and the authorisation tag, the first 8 bytes of
HMAC-SHA-256 (04 R104; SHA-256 as FIPS 180-4 gives it, HMAC as FIPS 198-1 gives it).
-/
namespace Sys2Proof.Machine

/-- One bit of the reflected Castagnoli division (R100). -/
def crcBit (c : Nat) : Nat := if c % 2 = 1 then (c / 2) ^^^ 0x82F63B78 else c / 2

/-- One byte of the CRC-32C. -/
def crcByte (c : Nat) (b : Byte) : Nat :=
  crcBit (crcBit (crcBit (crcBit (crcBit (crcBit (crcBit (crcBit (c ^^^ b.toNat))))))))

/-- The CRC-32C of a run of bytes (R100). -/
def crc32c (p : Bytes) : Nat := p.foldl crcByte 0xFFFFFFFF ^^^ 0xFFFFFFFF

/-! ### SHA-256 -/

/-- The largest `r` of at most `bits` bits more than `r` with `fits`, taken bit by bit from the top. -/
def rootBits (fits : Nat → Bool) : Nat → Nat → Nat
  | 0, r => r
  | bits + 1, r => rootBits fits bits (if fits (r + 2 ^ bits) then r + 2 ^ bits else r)

/-- The primes below 312, 64 of them, by trial division. -/
def shaPrimes : List Nat :=
  (List.range 312).filter fun n => decide (2 ≤ n) && [2, 3, 5, 7, 11, 13, 17].all fun d => n == d || n % d != 0

/-- First 32 bits of the fraction of a prime's square root: where the hash starts. -/
def squareFraction (p : Nat) : Nat := rootBits (fun r => decide (r * r ≤ p * 2 ^ 64)) 37 0 % 2 ^ 32

/-- First 32 bits of the fraction of a prime's cube root: a round's constant. -/
def cubeFraction (p : Nat) : Nat := rootBits (fun r => decide (r * r * r ≤ p * 2 ^ 96)) 35 0 % 2 ^ 32

def shaConstants : List Nat := shaPrimes.map cubeFraction

/-- A 32-bit word turned right by each of a list of places, the turned words added bit by bit. -/
def turned (x : Nat) (places : List Nat) : Nat :=
  places.foldl (fun v n => v ^^^ (x / 2 ^ n + x % 2 ^ n * 2 ^ (32 - n))) 0

/-- Each bit from `y` where `x` has 1, else from `z`. -/
def pick (x y z : Nat) : Nat := z ^^^ (x &&& (y ^^^ z))

/-- Each bit as two or more of the three have it. -/
def most (x y z : Nat) : Nat := (x &&& y) ||| (z &&& (x ||| y))

/-- The hash between rounds: a round makes one word of each of two sequences, of which the last four count, newest first. -/
structure ShaState where
  upper : List Nat
  lower : List Nat
deriving DecidableEq, Repr

/-- One round, with its constant and message word added. -/
def ShaState.round (s : ShaState) (word : Nat) : ShaState :=
  let u (i : Nat) : Nat := s.upper.getD i 0
  let l (i : Nat) : Nat := s.lower.getD i 0
  let t := l 3 + turned (l 0) [6, 11, 25] + pick (l 0) (l 1) (l 2) + word
  { upper := (t + turned (u 0) [2, 13, 22] + most (u 0) (u 1) (u 2)) % 2 ^ 32 :: s.upper.take 3
    lower := (t + u 3) % 2 ^ 32 :: s.lower.take 3 }

/-- `n` more words of the message schedule, in front of those there are. -/
def extendWords : Nat → List Nat → List Nat
  | 0, l => l
  | n + 1, l =>
    let back (i : Nat) : Nat := l.getD (i - 1) 0
    let near := turned (back 2) [17, 19] ^^^ (back 2 / 2 ^ 10)
    let far := turned (back 15) [7, 18] ^^^ (back 15 / 2 ^ 3)
    extendWords n ((near + back 7 + far + back 16) % 2 ^ 32 :: l)

/-- The words of a run of bytes, most significant byte first, the last word in front. -/
def wordsBack : Nat → Bytes → List Nat → List Nat
  | 0, _, l => l
  | n + 1, p, l => wordsBack n (p.drop 4) (leNat (p.take 4).reverse :: l)

/-- A block of 64 bytes taken in. -/
def ShaState.block (s : ShaState) (p : Bytes) : ShaState :=
  let words := (extendWords 48 (wordsBack 16 p [])).reverse
  let z := (shaConstants.zip words).foldl (fun s x => s.round (x.1 + x.2)) s
  let sum (x y : List Nat) : List Nat := (x.zip y).map fun v => (v.1 + v.2) % 2 ^ 32
  { upper := sum s.upper z.upper, lower := sum s.lower z.lower }

/-- `n` blocks in order. -/
def ShaState.blocks : Nat → Bytes → ShaState → ShaState
  | 0, _, s => s
  | n + 1, p, s => ShaState.blocks n (p.drop 64) (s.block (p.take 64))

/-- The message with a 1 bit, zeros up to a whole number of blocks, and its length in bits. -/
def shaPadded (m : Bytes) : Bytes :=
  m ++ 128#8 :: zeros ((119 - m.length % 64) % 64) ++ (putLE 8 (8 * m.length)).reverse

/-- SHA-256 of a run of bytes. -/
def sha256 (m : Bytes) : Bytes :=
  let first := (shaPrimes.take 8).map squareFraction
  let p := shaPadded m
  let s := ShaState.blocks (p.length / 64) p ⟨first.take 4, first.drop 4⟩
  ((s.upper ++ s.lower).map fun w => (putLE 4 w).reverse).flatten

/-- HMAC-SHA-256 with a 32-byte key (R104). -/
def hmacSha256 (key m : Bytes) : Bytes :=
  let k := fitTo 64 key
  let ipad := k.map (fun b => b ^^^ 0x36#8)
  let opad := k.map (fun b => b ^^^ 0x5C#8)
  sha256 (opad ++ sha256 (ipad ++ m))

/-- The authorisation tag over a header with `TAG` 0 and its payload (R104 steps 2 and 3). -/
def tagOf (key headerAndPayload : Bytes) : Nat := leNat ((hmacSha256 key headerAndPayload).take 8)

end Sys2Proof.Machine
end

