-- ==== Sys2Proof/Syntax.lean ====
section
/-!
DEFINITION. The commands of the block: one constructor of `Instr` for each row of the table, 114 Halyard opcodes
(each carries the request packet's fields) and 131 events (each carries what the environment decides about it).
Every command carries `dt`, the ticks of 1 ns that have passed since the command before it (02 R34, R37).
-/
namespace Sys2Proof

/-- A compute lane (01 R19). -/
inductive Lane where
  | main
  | mizzen
deriving DecidableEq, Repr

/-- The other lane. -/
def Lane.other : Lane → Lane
  | .main => .mizzen
  | .mizzen => .main

/-- Its number in packets and records: 0 Main, 1 Mizzen. -/
def Lane.code : Lane → Nat
  | .main => 0
  | .mizzen => 1

/-- A path by which a Halyard packet reaches the interpreter (04 Table 04-6). -/
inductive Path where
  /-- A datagram to an Ethernet port, with its source address and UDP port (15 R417). -/
  | eth (port ip udp : Nat)
  | stay (port : Nat)
  | service
  | mailbox (task : Nat)
  | initial
  | firmware (lane : Lane)
deriving DecidableEq, Repr

/-- The fields of a request packet an opcode acts on (04 Table 04-1), and the path it came by. -/
structure Request where
  path     : Path
  target   : Nat
  sequence : Nat
  origin   : Nat
  boundary : Nat
  tag      : Nat
  payload  : Bytes
  /-- The one lane whose interpreter holds the packet, where the lanes' queues differ; none: both hold it. -/
  only     : Option Lane := none
deriving DecidableEq, Repr

/-- What the tests of one slot find: cores and engines of a lane that fail their self-test. -/
structure SlotFaults where
  coreFail   : List (Lane × Nat)
  engineFail : List Lane
deriving DecidableEq, Repr

/-- A task's access to memory (03 R71). -/
inductive Access where
  | read
  | write
  | execute
deriving DecidableEq, Repr

/-- An activation as an event names it: the task, and the core it runs on (03 R74). -/
structure TaskOn where
  task : Nat
  core : Nat
deriving DecidableEq, Repr

/-- A start of the loop at the head of a pipeline's queue (06 R179), with the stored bytes of the lane's SRAM that the engine
finds wrong as it reads for it (06 R187). -/
structure PipeStart where
  pipeline : Nat
  found    : List (Nat × BitVec 13)
deriving DecidableEq, Repr

/-- One access of a task to its lane's memory: a run of bytes read as data or as instructions, or a byte stored (03 R71). -/
inductive TaskAccess where
  | load (address size : Nat)
  | fetch (address size : Nat)
  | store (address : Nat) (value : Byte)
deriving DecidableEq, Repr

/-- What a task's own code has done when its activation finishes: the signals it writes, its outbound mailbox area and its
accesses to memory, in order. -/
structure TaskResult where
  writes   : List (Nat × Nat)
  mail     : Bytes
  accesses : List TaskAccess
deriving DecidableEq, Repr

/-- One measurement interval of a power channel (07 R207): mean current and voltage, die temperature at its end. -/
structure ChanSample where
  current     : Int
  voltage     : Int
  temperature : Int
deriving DecidableEq, Repr

/-- One 100 µs interval of the supply inputs (07 R193, R206): voltage and current of SUP0 to SUP3, in order. -/
structure SupplySample where
  volts    : List Nat
  currents : List Int
deriving DecidableEq, Repr

/-- An item that a shared block holds in its SRAM (16 Table 16-1): a lane's copy in a receiver's pair store, by the
receiver's key; a frame in a CAN port's queue; a record in the recorder's hold queue; the latest line in a camera port's
line buffers. -/
inductive SharedItem where
  | copy (key resource item seq : Nat) (lane : Lane)
  | txFrame (port index : Nat)
  | record (index : Nat)
  | line (port : Nat)
deriving DecidableEq, Repr

/-- What the once-a-second read of an SRAM finds (16 R433): the controller, and stored bytes that have gone wrong; and, of
the shared blocks' SRAM, what the blocks have found wrong as they read items of theirs (Table 16-6). -/
structure PatrolReads where
  ctrl  : Nat
  found : List (Nat × BitVec 13)
  items : List (Nat × BitVec 13 × SharedItem) := []
deriving DecidableEq, Repr

/-- One 100 µs interval of the sensing block (09 R244, R246, R254): the mean of each universal input in the unit of its
mode, its rising edges as grid times, and the voltage (mV) and current (µA) of each sensor supply. -/
structure UniSample where
  values   : List Int
  edges    : List (Nat × List Nat)
  supplies : List (Int × Int)
deriving DecidableEq, Repr

/-- The 1 µs samples of a loss-sensor hit, mV, from the first to the last at or above the threshold (09 R250). -/
structure HitData where
  samples : List Int
deriving DecidableEq, Repr

/-- A satellite observed at an epoch (13 Table 13-10, R358): the largest difference between two of its signals'
pseudoranges once the ionospheric term and the group delays are removed, and how far its pseudorange lies from the range
predicted from an aided ephemeris, mm. -/
structure SatObs where
  constellation : Nat
  sv            : Nat
  rangeDiff     : Nat
  aidError      : Nat
deriving DecidableEq, Repr

/-- A horizontal solution of one constellation alone, mm on a common plane (13 Table 13-10). -/
structure SoloFix where
  constellation : Nat
  east          : Int
  north         : Int
deriving DecidableEq, Repr

/-- A navigation message, decoded by the block or passed on as aiding (13 R357, R358); `tow` is `TRANSMIT_TOW`. -/
structure NavMessage where
  constellation : Nat
  sv            : Nat
  kind          : Nat
  tow           : Nat
  bits          : Bytes
deriving DecidableEq, Repr

/-- The almanac of a satellite (13 R356). -/
structure Almanac where
  constellation : Nat
  sv            : Nat
  data          : Bytes
deriving DecidableEq, Repr

/-- What the sky gives the GNSS block at one epoch: its observations, and the solutions its tracker forms of them.
Log 69: DESIGN CHOICE, safe. -/
structure EpochData where
  /-- Measurements of 32 bytes each (13 Table 13-8), one a channel; bit 4 of `FLAGS` says that the solution takes it. -/
  measurements : List Bytes
  sats         : List SatObs
  solos        : List SoloFix
  /-- A position solution is formed: PDOP × 10, dual frequency. -/
  fix          : Bool
  pdop         : Nat
  dual         : Bool
  lat          : Int
  lon          : Int
  height       : Int
  hAcc         : Nat
  vAcc         : Nat
  /-- A time solution is formed: Mast time minus satellite time, ns, and its bound. -/
  timeFix      : Bool
  offset       : Int
  timeBound    : Nat
  /-- The Doppler solution and its satellites: constellation and number. -/
  velSats      : List (Nat × Nat)
  velPdop      : Nat
  velE         : Int
  velN         : Int
  velU         : Int
  /-- The baseline: satellites with their ambiguities resolved, length, azimuth (10^-5 degree), bound, pitch. -/
  resolved     : List (Nat × Nat)
  baseline     : Nat
  azimuth      : Nat
  headAcc      : Nat
  pitch        : Int
  /-- Yaw rate of an epoch whose predecessor gave no heading (13 R362). -/
  yawRate      : Int
  /-- In-band power over the noise floor, 0.1 dB: three bands of A0, then of A1. -/
  powers       : List Int
  /-- Narrowband lines: band, kHz, level above the noise floor, 0.1 dB (13 R353). -/
  lines        : List (Nat × Nat × Int)
  messages     : List NavMessage
  almanacs     : List Almanac
deriving DecidableEq, Repr

/-- One line of a camera (10 R271, R274): what D0 to D15 carry at the rising and at the falling edges of the pixel clock
while line-valid, after its inversion, is asserted. -/
structure LineData where
  rising  : List Nat
  falling : List Nat
deriving DecidableEq, Repr

/-- How a transaction of a sensor control link ends (10 R286): 0 done, 1 no acknowledge, 2 stretched beyond 1 ms; the
bytes read; and how many bytes the port had sent where it did not end well, an unacknowledged one included. -/
structure LinkResult where
  outcome : Nat
  data    : Bytes
  sent    : Nat
deriving DecidableEq, Repr

/-- What the bus does to a CAN port beside a good frame (14 R389), as ISO 11898-1 counts it: a transmit error that adds 8
to TEC or, in its exceptions, nothing; a receive error that adds 1 or 8 to REC; or an arbitration that is lost. -/
inductive BusError where
  | transmit
  | transmitUncounted
  | receive
  | receiveEight
  | arbitrationLost
deriving DecidableEq, Repr

/-- A CAN frame on the bus (14 Table 14-6). -/
structure CanFrame where
  identifier : Nat
  dlc        : Nat
  ide        : Bool
  rtr        : Bool
  fdf        : Bool
  brs        : Bool
  esi        : Bool
  data       : Bytes
deriving DecidableEq, Repr

/-- A frame as a Stay port receives it: source address, EtherType and MAC payload (15 R397). -/
structure StayFrame where
  mac       : Nat
  etherType : Nat
  payload   : Bytes
deriving DecidableEq, Repr

/-- A time frame as a station takes it: `HOPS` of its header, and its body (15 Table 15-5). -/
structure TimeFrame where
  hops : Nat
  body : Bytes
deriving DecidableEq, Repr

/-- A control frame as a station takes it: `SOURCE` of its header, and its body (15 R411). -/
structure ControlFrame where
  source : Nat
  body   : Bytes
deriving DecidableEq, Repr

/-- What an Ethernet frame carries (15 R416 to R418); addresses are IPv4 words, and a gPTP turnaround is T3 - T2 in ns. -/
inductive EthBody where
  | arpRequest (target sender : Nat)
  | arpReply
  | echoRequest (dst src : Nat) (data : Bytes)
  | udp (dst dport src sport : Nat) (data : Bytes)
  | fragment
  | announce
  | pdelayRequest (sequence : Nat)
  | pdelayResponse (turnaround : Int)
  | other
deriving DecidableEq, Repr

/-- A frame as an Ethernet port receives it: its VLAN tag, if it has one, and what it carries. -/
structure EthFrame where
  vlan : Option Nat
  body : EthBody
deriving DecidableEq, Repr

/-- A measurement of the power-domain controller (18 R462, Table 18-10): ESUP in mV, its power in 0.1 W, and the
temperatures of the sensors of Table 18-10 in order, 0.1 °C. -/
structure PwrSample where
  mv       : Nat
  deciWatt : Nat
  temps    : List Int
deriving DecidableEq, Repr

/-- The commands of the block, in the order of the table. -/
inductive Instr where
  /-- Returns the time status of the most recent major boundary (R62). -/
  | timeGetStatus (dt : Nat) (r : Request)
  /-- Stages a leap-second count and pending leap second for a major boundary (R61). -/
  | timeSetLeap (dt : Nat) (r : Request)
  /-- Sets a pending manual step of Mast time while NO_TIME is set, replacing any earlier manual step (R501). -/
  | timeSetManual (dt : Nat) (r : Request)
  /-- Starts or restarts loading a schedule image into an inactive bank (R94). -/
  | schedLoadBegin (dt : Nat) (r : Request)
  /-- Writes the next chunk of a schedule image into the loading bank (R94). -/
  | schedLoadData (dt : Nat) (r : Request)
  /-- Ends a load and runs the image load checks, making the bank valid or invalid (R89). -/
  | schedLoadEnd (dt : Nat) (r : Request)
  /-- Stages a valid bank's image, with its initial commands, for activation at a major boundary (R95). -/
  | schedActivate (dt : Nat) (r : Request)
  /-- Stages the bank used at start-up (R97). -/
  | schedSetStartBank (dt : Nat) (r : Request)
  /-- Returns bank states and schedule overrun counters (R98). -/
  | schedGetStatus (dt : Nat) (r : Request)
  /-- Returns issue, keys set, station number and serial (R126). -/
  | sysGetInfo (dt : Nat) (r : Request)
  /-- Stages a new key for a role below the sender's (R127). -/
  | sysSetKey (dt : Nat) (r : Request)
  /-- Empties both lanes' origin tables (R128). -/
  | sysClearOrigins (dt : Nat) (r : Request)
  /-- Returns the packet discard and refusal counters (R126). -/
  | sysGetPacketCounters (dt : Nat) (r : Request)
  /-- Returns the lane status from the lane's own signal table (R160). -/
  | laneGetStatus (dt : Nat) (r : Request)
  /-- Stages the Crosstree's discrepancy, recovery, clean-period and reset-hold policy (R161). -/
  | laneSetPolicy (dt : Nat) (r : Request)
  /-- Stages a new dedup window for one or all receivers of a block (R138). -/
  | laneSetDedupWindow (dt : Nat) (r : Request)
  /-- Returns a receiver's take, mismatch, missing, stale and loss counters (R140). -/
  | laneGetReceiverCounters (dt : Nat) (r : Request)
  /-- Stages a diagnostic burst order for a major period (R152). -/
  | laneRequestBurst (dt : Nat) (r : Request)
  /-- Stages designation of the standby lane as active (R159). -/
  | laneRequestSwitch (dt : Nat) (r : Request)
  /-- Moves a FAILED lane to RECOVERING with its recovery count cleared (R154). -/
  | laneRecover (dt : Nat) (r : Request)
  /-- A booted lane asks to enter RESYNC at the next major boundary (R155). -/
  | laneResyncRequest (dt : Nat) (r : Request)
  /-- Checks and stages a loop descriptor for a major boundary (R165). -/
  | ctrlSetLoop (dt : Nat) (r : Request)
  /-- Stages section coefficients for the loop's next period boundary (R184). -/
  | ctrlSetCoeffs (dt : Nat) (r : Request)
  /-- Stages output clamps for the loop's next period boundary (R175). -/
  | ctrlSetClamp (dt : Nat) (r : Request)
  /-- Stages section states for the loop's next period boundary (R184). -/
  | ctrlPresetState (dt : Nat) (r : Request)
  /-- Returns a loop's descriptor, clamps and coefficients in force (R189). -/
  | ctrlGetLoop (dt : Nat) (r : Request)
  /-- Returns a loop's last-period flags, values and counters (R189). -/
  | ctrlGetStatus (dt : Nat) (r : Request)
  /-- Zeroes a loop's counters in both engines (R189). -/
  | ctrlClearCounters (dt : Nat) (r : Request)
  /-- Checks and stages a power-channel configuration for a major boundary (R195). -/
  | chanSetConfig (dt : Nat) (r : Request)
  /-- Returns a channel's configuration in force (R214). -/
  | chanGetConfig (dt : Nat) (r : Request)
  /-- Returns a channel's state, duty, measurements and counters (R214). -/
  | chanGetStatus (dt : Nat) (r : Request)
  /-- Returns the supply input voltages, currents and overload flags (R214). -/
  | chanGetSupply (dt : Nat) (r : Request)
  /-- Zeroes the status counters of one or all channels (R214). -/
  | chanClearCounters (dt : Nat) (r : Request)
  /-- Checks and stages a channel's protection settings (R216). -/
  | chanSetProtection (dt : Nat) (r : Request)
  /-- Returns a channel's protection state, retry budget and trip counters (R242). -/
  | chanGetProtection (dt : Nat) (r : Request)
  /-- Clears a channel's thermal latch if cool enough and its free-wheel latch, ending a hold episode if none remains (R225). -/
  | chanReleaseLatch (dt : Nat) (r : Request)
  /-- Refills a channel's retry budget and ends TRIPPED (R223). -/
  | chanRefillRetry (dt : Nat) (r : Request)
  /-- Clears the STOP hold of every channel once STOP has been deasserted for 10 ms (R234). -/
  | chanStopReset (dt : Nat) (r : Request)
  /-- Returns the channel generation counter and adoption flags (R239). -/
  | chanGetGeneration (dt : Nat) (r : Request)
  /-- A lane quotes the generation counter to regain the right to change channel state (R239). -/
  | chanAdopt (dt : Nat) (r : Request)
  /-- Stages a universal input's mode, limits and publishing (R244). -/
  | senseSetInput (dt : Nat) (r : Request)
  /-- Stages a loss-sensor input's hit detection settings (R250). -/
  | senseSetLoss (dt : Nat) (r : Request)
  /-- Stages a bridge input's enable, rate and publishing (R253). -/
  | senseSetBridge (dt : Nat) (r : Request)
  /-- Stages a sensor supply's voltage and publishing (R254). -/
  | senseSetSupply (dt : Nat) (r : Request)
  /-- Returns a sensing resource's fault flags, last value and counters (R269). -/
  | senseGetStatus (dt : Nat) (r : Request)
  /-- Stages the yield grid origin, geometry and placement, clearing the grid (R261). -/
  | yieldSetGrid (dt : Nat) (r : Request)
  /-- Stages the yield tally's enable, inputs, calibration, delay and lever arm (R267). -/
  | yieldSetSources (dt : Nat) (r : Request)
  /-- Stages a grid clear and optionally a clearing of totals and remainders (R265). -/
  | yieldClearGrid (dt : Nat) (r : Request)
  /-- Returns the tally's placed and unplaced totals and step counters (R269). -/
  | yieldGetTotals (dt : Nat) (r : Request)
  /-- Stages a camera port's enable, bus and link settings for a frame boundary (R295). -/
  | camSetPort (dt : Nat) (r : Request)
  /-- Stages a port's width, height, exposures and skips (R274). -/
  | camSetGeometry (dt : Nat) (r : Request)
  /-- Stages a port's linearisation knee table (R282). -/
  | camSetLinear (dt : Nat) (r : Request)
  /-- Stages an exposure set that enters the port's write queue at its frame boundary (R288). -/
  | camSetExposure (dt : Nat) (r : Request)
  /-- Queues one sensor control link read or write transfer (R287). -/
  | camSensorTransfer (dt : Nat) (r : Request)
  /-- Returns a port's state, frame, tags and counters (R295). -/
  | camGetStatus (dt : Nat) (r : Request)
  /-- Zeroes a port's capture and stream counters (R295). -/
  | camClearCounters (dt : Nat) (r : Request)
  /-- Stages a port's colour filter pattern (R302). -/
  | camSetCfa (dt : Nat) (r : Request)
  /-- Stages a port's white-balance gains (R304). -/
  | camSetWb (dt : Nat) (r : Request)
  /-- Stages a port's colour matrix and offsets (R305). -/
  | camSetMatrix (dt : Nat) (r : Request)
  /-- Stages tone curves for one or all channels of a port (R306). -/
  | camSetTone (dt : Nat) (r : Request)
  /-- Stages an output stream's crop, scale, format and ring placement (R321). -/
  | camSetStream (dt : Nat) (r : Request)
  /-- Stages a port's statistics enable and ring (R316). -/
  | camSetStats (dt : Nat) (r : Request)
  /-- Returns a stream's or the statistics' last entry and counters (R320). -/
  | camGetStreamStatus (dt : Nat) (r : Request)
  /-- Checks and stages a fusion source descriptor (R329). -/
  | fusionSetSource (dt : Nat) (r : Request)
  /-- Checks and stages a fusion round descriptor (R347). -/
  | fusionSetRound (dt : Nat) (r : Request)
  /-- Stages the Canvas reference cell and antenna lever arm (R324). -/
  | fusionSetCanvas (dt : Nat) (r : Request)
  /-- Stages a reset of the recurrent state grid (R325). -/
  | fusionResetState (dt : Nat) (r : Request)
  /-- Starts loading a network image into a slot (R346). -/
  | fusionNetLoadBegin (dt : Nat) (r : Request)
  /-- Writes the next chunk of a network image into the loading slot (R346). -/
  | fusionNetLoadData (dt : Nat) (r : Request)
  /-- Ends a network load, checks the image and starts its copy to fusion memory (R346). -/
  | fusionNetLoadEnd (dt : Nat) (r : Request)
  /-- Returns a round descriptor's last release and counters (R351). -/
  | fusionGetRoundStatus (dt : Nat) (r : Request)
  /-- Returns a source's sample counters (R351). -/
  | fusionGetSourceStatus (dt : Nat) (r : Request)
  /-- Returns the state of every network slot (R351). -/
  | fusionGetNetStatus (dt : Nat) (r : Request)
  /-- Zeroes the round and source counters (R351). -/
  | fusionClearCounters (dt : Nat) (r : Request)
  /-- Stages GNSS signals, rates, checks and ring placement (R376). -/
  | gnssSetConfig (dt : Nat) (r : Request)
  /-- Stages a time pulse output's period, width, offset and gate (R370). -/
  | gnssSetTimePulse (dt : Nat) (r : Request)
  /-- Stages the watch tracker's burst and refresh settings (R372). -/
  | gnssSetWatch (dt : Nat) (r : Request)
  /-- Judges and takes a list of time, position and navigation aiding records (R358). -/
  | gnssAid (dt : Nat) (r : Request)
  /-- Discards selected ephemerides, almanacs, position or exclusions (R375). -/
  | gnssResetData (dt : Nat) (r : Request)
  /-- Returns the time state, antenna flags and GNSS counters (R375). -/
  | gnssGetStatus (dt : Nat) (r : Request)
  /-- Zeroes the GNSS counters (R375). -/
  | gnssClearCounters (dt : Nat) (r : Request)
  /-- Checks and stages a CAN port's mode, bit timing and receive region (R391). -/
  | canSetPort (dt : Nat) (r : Request)
  /-- Stages a range of a CAN port's receive filters (R386). -/
  | canSetFilters (dt : Nat) (r : Request)
  /-- Starts the bus-off recovery sequence of a CAN port (R389). -/
  | canRecover (dt : Nat) (r : Request)
  /-- Returns a CAN port's state, error counters and frame counters (R394). -/
  | canGetStatus (dt : Nat) (r : Request)
  /-- Zeroes a CAN port's counters (R394). -/
  | canClearCounters (dt : Nat) (r : Request)
  /-- On the master, stages a join of a ready listener and broadcasts the control frame (R411). -/
  | stayJoin (dt : Nat) (r : Request)
  /-- On the master, stages a leave of a member and broadcasts the control frame (R411). -/
  | stayLeave (dt : Nat) (r : Request)
  /-- Returns the station's membership, sync state and Stay counters (R421). -/
  | stayGetStatus (dt : Nat) (r : Request)
  /-- On the master, returns what it holds about one station (R421). -/
  | stayGetStation (dt : Nat) (r : Request)
  /-- Stages an Ethernet port's addressing, VLAN, gPTP and Halyard peer (R416). -/
  | ethSetPort (dt : Nat) (r : Request)
  /-- Returns an Ethernet port's link state and counters (R421). -/
  | ethGetStatus (dt : Nat) (r : Request)
  /-- Zeroes the Stay and Ethernet counters (R421). -/
  | stayClearCounters (dt : Nat) (r : Request)
  /-- Stages LOG or QUIET mode for a memory region (R427). -/
  | memSetMode (dt : Nat) (r : Request)
  /-- Stages a DRAM controller's patrol mode and ranges (R432). -/
  | memSetPatrol (dt : Nat) (r : Request)
  /-- Returns a controller's modes, counters and address table (R439). -/
  | memGetStatus (dt : Nat) (r : Request)
  /-- Empties a controller's address table and zeroes its counters (R429). -/
  | memClearLog (dt : Nat) (r : Request)
  /-- Reads, corrects and writes back one memory word atomically (R434). -/
  | memRewrite (dt : Nat) (r : Request)
  /-- Writes raw data and check bits to the test area or, with ANYWHERE, to memory (R435). -/
  | memTestWrite (dt : Nat) (r : Request)
  /-- Returns a test-area word raw and decoded with per-byte outcomes (R435). -/
  | memTestRead (dt : Nat) (r : Request)
  /-- Stages the nonvolatile FILL_AT_POWER_ON bit (R438). -/
  | memSetFill (dt : Nat) (r : Request)
  /-- Returns consecutive records of the event store, change log or clear history (R452). -/
  | recRead (dt : Nat) (r : Request)
  /-- The named lane returns entries of its trouble log (R459). -/
  | recReadTrouble (dt : Nat) (r : Request)
  /-- Returns freeze state, hold depth and store positions (R460). -/
  | recGetStatus (dt : Nat) (r : Request)
  /-- Freezes the event store for a time limit, holding new records (R450). -/
  | recFreeze (dt : Nat) (r : Request)
  /-- Ends a freeze and commits the held records (R450). -/
  | recUnfreeze (dt : Nat) (r : Request)
  /-- Erases the event store and commits a pinned clear record (R453). -/
  | recClear (dt : Nat) (r : Request)
  /-- Stages token-bucket capacity and refill for a range of codes (R449). -/
  | recSetRate (dt : Nat) (r : Request)
  /-- Returns one code's bucket state and suppression counts (R460). -/
  | recGetRate (dt : Nat) (r : Request)
  /-- Checks and stages switching of power domains on and off (R474). -/
  | pwrSetDomain (dt : Nat) (r : Request)
  /-- Returns module state, domains, connectors, supply and temperatures (R480). -/
  | pwrGetStatus (dt : Nat) (r : Request)
  /-- Stages nonvolatile low-power, wake, run-on, alarm and thermal warning settings (R480). -/
  | pwrSetConfig (dt : Nat) (r : Request)
  /-- Stages entry into Sleep or Watch unless WAKE is asserted (R472). -/
  | pwrEnterLow (dt : Nat) (r : Request)
  /-- Stages a commanded module reset at a major boundary (R471). -/
  | pwrReset (dt : Nat) (r : Request)
  /-- A transport unit arrives on an Ethernet, Stay or service port and is fanned out to both interpreter queues or discarded (R23). -/
  | halyardUnitArrival (dt : Nat) (path : Path) (unit : Bytes)
  /-- A reply packet is checked and delivered to the inbound mailbox of the task its ORIGIN names, or discarded (R110). -/
  | halyardReplyReceived (dt : Nat) (path : Path) (unit : Bytes)
  /-- A slot begins on grid time: deliveries become visible, staleness is judged, tasks are dispatched and scheduled slot work begins (R40). -/
  | slotStart (dt : Nat) (faults : SlotFaults)
  /-- A major boundary swaps in every staged major-kind command together and runs the lane, time and membership decisions due there (R54). -/
  | majorBoundary (dt : Nat) (canBusy : Nat)
  /-- An activation finishes within its run and its writes are held for the commit (R74). -/
  | taskFinish (dt : Nat) (lane : Lane) (task : TaskOn) (result : TaskResult)
  /-- At the end of the run's last slot the held writes take effect, mailbox packets are released and the commit digest is formed (R74). -/
  | taskCommit (dt : Nat) (lane : Lane) (task : TaskOn)
  /-- A task's budget expires before it finishes, ending the activation without commit and sending a SCHEDULE_OVERRUN report (R90). -/
  | taskBudgetExpiry (dt : Nat) (lane : Lane) (task : TaskOn)
  /-- A task accesses outside its windows or against their access, ending the activation as an overrun (R71). -/
  | taskWindowFault (dt : Nat) (lane : Lane) (task : TaskOn) (address : Nat) (access : Access)
  /-- At a transfer entry's slot and offset the lane sends the signal's visible value to the receiver named (R75). -/
  | transferSend (dt : Nat) (lane : Lane) (entry : Nat)
  /-- A lane's copy of an item reaches a receiver and is judged new, joining, stale or out of window, then taken, waited on or compared (R131). -/
  | receiverCopyArrival (dt : Nat) (lane : Lane) (block : Nat) (resource : Nat)
  /-- A dedup window expires without the active copy and the standby's copy is taken (R132). -/
  | dedupWindowExpiry (dt : Nat) (block : Nat) (resource : Nat)
  /-- A pair limit is reached, counting missing copies and lost items and sending discrepancy reports (R134). -/
  | pairLimitExpiry (dt : Nat) (block : Nat) (resource : Nat)
  /-- The Crosstree accepts a heartbeat, restarts the lane's timer, acknowledges it and acts on a FATAL flag (R141). -/
  | heartbeatReceived (dt : Nat) (lane : Lane)
  /-- A lane's heartbeat timer expires, counting a miss and failing the lane at the third (R141). -/
  | heartbeatTimerExpiry (dt : Nat) (lane : Lane)
  /-- A lane receives the Crosstree's acknowledgement with both lane states, clearing CROSSTREE_LOST if set (R142). -/
  | heartbeatAckReceived (dt : Nat) (lane : Lane)
  /-- A lane detects a fatal fault in itself and sends a FATAL heartbeat outside the schedule (R143). -/
  | laneFatalFault (dt : Nat) (lane : Lane)
  /-- The Crosstree takes a lane's health report for the period's cleanliness (R144). -/
  | healthReportReceived (dt : Nat) (lane : Lane)
  /-- The Crosstree counts and attributes a discrepancy and orders a burst at the threshold (R147). -/
  | discrepancyReportReceived (dt : Nat)
  /-- The Crosstree receives a SCHEDULE_OVERRUN report from a lane or block (R91). -/
  | scheduleOverrunReceived (dt : Nat)
  /-- At the end of the slot after the run the Crosstree classifies an overrun as schedule or lane overrun (R92). -/
  | overrunClassify (dt : Nat)
  /-- An active lane's commit digest reaches the standby's pending queue or overflows it (R146). -/
  | commitDigestArrival (dt : Nat)
  /-- Once the standby reaches the end of the commit slot it compares the digest with its own (R146). -/
  | commitDigestCompare (dt : Nat)
  /-- The Crosstree receives a lane's burst result (R152). -/
  | burstResultReceived (dt : Nat) (lane : Lane)
  /-- At the end of the slot after the burst the Crosstree judges both results and fails lanes accordingly (R152). -/
  | burstResultDeadline (dt : Nat)
  /-- A lane's reset hold ends and it is released to boot (R154). -/
  | resetHoldExpiry (dt : Nat) (lane : Lane)
  /-- A lane reports ready after adoption, and after a lane restart the Crosstree names the rejoin boundary (R150). -/
  | laneReadyReport (dt : Nat) (lane : Lane)
  /-- A lane not ready within 10 s of its release after a lane restart is failed (R150). -/
  | laneReadyTimeout (dt : Nat) (lane : Lane)
  /-- The background copy of lane state completes and the lane issues ADOPT (R156). -/
  | resyncCopyComplete (dt : Nat) (lane : Lane)
  /-- At a loop's phase 0 its loop-kind swaps are applied and its input and setpoint are sampled and queued on its pipeline (R167). -/
  | loopPeriodBoundary (dt : Nat) (loop : Nat)
  /-- A queued loop starts on its pipeline once delivery is complete and the previous loop's occupancy has passed (R179). -/
  | loopStart (dt : Nat) (lane : Lane) (pipeline : PipeStart)
  /-- A loop's sections and output stage complete exactly (24 + 5S) cycles after its start (R180). -/
  | loopResultReady (dt : Nat) (lane : Lane) (loop : Nat)
  /-- At the release edge the loop's output goes to its signal and duty destinations, or is counted late (R181). -/
  | loopOutputRelease (dt : Nat) (lane : Lane) (loop : Nat)
  /-- A channel's PWM period starts: the set duty, compensation and on-time are applied and the open-load check is made (R197). -/
  | pwmPeriodStart (dt : Nat) (chan : Nat)
  /-- A channel's measurement interval ends: values are published, inputs debounced and the sampled overcurrent count updated (R207). -/
  | channelSampleEnd (dt : Nat) (chan : Nat) (sample : ChanSample)
  /-- A 100 µs supply interval ends: supply quantities and STOP state are published and OVERLOAD judged (R206). -/
  | supplySampleEnd (dt : Nat) (sample : SupplySample)
  /-- A switch's current reaches the fast-trip current and the output stage switches off (R218). -/
  | overcurrentFast (dt : Nat) (chan : Nat) (low : Bool)
  /-- The inrush window ends and OC_LIMIT_MA becomes the limit in force (R219). -/
  | inrushWindowEnd (dt : Nat) (chan : Nat)
  /-- A pending retry falls due, spending budget and returning the channel to OFF (R221). -/
  | retry (dt : Nat) (chan : Nat)
  /-- A channel's junction reaches 170 °C and its thermal latch sets (R224). -/
  | thermalLatch (dt : Nat) (chan : Nat)
  /-- The contact stays below −4,000 mV for over 2,000 ns after turn-off and the free-wheel latch sets (R228). -/
  | freewheelMissing (dt : Nat) (chan : Nat)
  /-- The free-wheel watch ends and FREEWHEEL_MISSING is recorded with its lowest voltage and duration (R228). -/
  | freewheelWatchEnd (dt : Nat) (chan : Nat) (mv : Int) (ns : Nat)
  /-- STOP is asserted and every stop-group output channel enters STOPPED (R233). -/
  | stopAsserted (dt : Nat)
  /-- The STOP contact stays at or above 7.0 V for 10 ms and STOP deasserts (R232). -/
  | stopDeasserted (dt : Nat)
  /-- A 100 µs sensing interval ends: universal inputs and sensor supplies are sampled, fault-judged and published (R244). -/
  | universalSampleEnd (dt : Nat) (sample : UniSample)
  /-- A 4–20 mA input's current exceeds 25 mA for 1 ms and its shunt opens (R245). -/
  | shuntOpen (dt : Nat) (input : Nat)
  /-- Each 1,000 ms the open shunt is closed for 1 ms and kept closed only if the current is in range (R245). -/
  | shuntTrial (dt : Nat) (input : Nat) (inRange : Bool)
  /-- A loss-sensor hit ends after its hold-off or maximum length, adding to the interval's count and energy (R250). -/
  | lossHitEnd (dt : Nat) (input : Nat) (hit : HitData)
  /-- A loss interval ends and its hit count, energy and peak are published (R251). -/
  | lossIntervalEnd (dt : Nat) (input : Nat) (peak : Nat)
  /-- The capacitance test after a major boundary completes and faults or clears the loss input (R252). -/
  | capCheckComplete (dt : Nat) (input : Nat) (capacitance : Nat)
  /-- A bridge input's sample interval ends and its reading is published (R253). -/
  | bridgeSampleEnd (dt : Nat) (input : Nat) (reading : Int)
  /-- The block detects an open bridge wire and faults the input from the next sample (R253). -/
  | bridgeWireBreak (dt : Nat) (input : Nat) (open_ : Bool)
  /-- A sensor supply exceeds 250 mA for 10 ms and switches off protected (R254). -/
  | sensorSupplyTrip (dt : Nat) (supply : Nat)
  /-- Each 1,000 ms a protected sensor supply is retried (R254). -/
  | sensorSupplyRetry (dt : Nat) (supply : Nat) (exceeds : Bool)
  /-- Once record and mass interval are both available the step's mass, moisture and area are computed and placed or unplaced (R258). -/
  | yieldStepProcess (dt : Nat)
  /-- A placed step's cell update is written into both lanes at the slot start R73 gives (R263). -/
  | yieldCellWrite (dt : Nat)
  /-- Frame-valid rises: a frame opens with its number, frame-kind swaps and exposure carriage apply and a generation may be taken (R280). -/
  | frameValidRise (dt : Nat) (port : Nat)
  /-- A line-valid run ends and is discarded, taken as an image line or counted stray or excess (R274). -/
  | lineEnd (dt : Nat) (port : Nat) (line : LineData)
  /-- Frame-valid falls and the frame closes, padded if short, with its frame, stream and statistics records delivered (R281). -/
  | frameValidFall (dt : Nat) (port : Nat)
  /-- Frame-valid stays asserted for FV_TIMEOUT_MS and the frame closes with TIMEOUT (R278). -/
  | frameTimeout (dt : Nat) (port : Nat)
  /-- No pixel-clock edge for 10 µs while a frame is open closes it with CLOCK_LOST (R278). -/
  | cameraClockLost (dt : Nat) (port : Nat)
  /-- Each 1 ms the port measures its pixel clock and sets or clears CLOCK_MISMATCH (R273). -/
  | pclkMeasure (dt : Nat) (port : Nat) (edges : Nat)
  /-- In a port's write slot with frame-valid deasserted the port starts the waiting exposure set or a queued link transfer (R287). -/
  | cameraWriteSlot (dt : Nat) (port : Nat)
  /-- A sensor control link transaction ends with STOP, completing or failing the exposure set or transfer (R289). -/
  | linkTransactionEnd (dt : Nat) (port : Nat) (result : LinkResult)
  /-- A round's instant falls: the round opens its windows or is skipped if the engine is busy or its slot not ready (R334). -/
  | fusionRoundInstant (dt : Nat) (round : Nat)
  /-- A scan datagram is taken into its partial scan, completing the scan on LAST (R331). -/
  | pointCloudDatagram (dt : Nat) (source : Nat) (datagram : Bytes)
  /-- A source sample becomes usable and is judged candidate, surplus, unused or late, issuing the round when the last candidate arrives (R335). -/
  | fusionSampleArrival (dt : Nat) (source : Nat)
  /-- The wait limit T + W expires and the round is issued with absent sources zeroed (R336). -/
  | roundWaitExpiry (dt : Nat) (round : Nat)
  /-- The round's warp and network complete and the output write begins (R345). -/
  | roundNetworkComplete (dt : Nat)
  /-- The output entry is written into both lanes and the engine becomes free (R338). -/
  | roundOutputWritten (dt : Nat)
  /-- The round record is delivered at the release slot, flagged late or skipped as applicable (R339). -/
  | roundRelease (dt : Nat) (round : Nat)
  /-- A network slot's copy into fusion memory completes and the slot is ready (R346). -/
  | netSlotCopyComplete (dt : Nat) (slot : Nat)
  /-- At each epoch the block allocates channels, runs the consistency checks, forms the solution and updates the time state (R359). -/
  | gnssEpoch (dt : Nat) (epoch : EpochData)
  /-- At epoch plus output delay the navigation record and measurement entry are delivered to lanes, sensing and fusion (R360). -/
  | gnssDelivery (dt : Nat)
  /-- An exclusion ends 60 s after its check last failed (R365). -/
  | exclusionExpiry (dt : Nat) (key : Nat)
  /-- An antenna's current stays below 2 mA for 1 s and its open flag is set (R352). -/
  | antennaOpen (dt : Nat) (antenna : Nat) (open_ : Bool) (current : Nat)
  /-- An antenna's current exceeds 150 mA for 1 ms and its supply switches off (R352). -/
  | antennaSupplyFault (dt : Nat) (antenna : Nat) (current : Nat)
  /-- Each 1,000 ms a faulted antenna supply is retried (R352). -/
  | antennaSupplyRetry (dt : Nat) (antenna : Nat) (exceeds : Bool)
  /-- On the whole-second tick a pending step of Mast time is applied, moving pending expiries and GRID_SHIFT (R35). -/
  | timeStepApplied (dt : Nat)
  /-- A slew reaches zero offset and SLEWING clears (R35). -/
  | slewComplete (dt : Nat)
  /-- At Mast second E the pending leap second takes effect and L changes (R60). -/
  | leapSecondEffective (dt : Nat)
  /-- A time pulse begins on the tick Mast time reaches its next instant, unless its gate suppresses it (R370). -/
  | timePulseStart (dt : Nat) (tp : Nat)
  /-- A time pulse ends after WIDTH_NS ticks (R370). -/
  | timePulseEnd (dt : Nat) (tp : Nat)
  /-- In watch mode a burst each second tracks briefly and gives one epoch for time and position (R372). -/
  | watchBurst (dt : Nat) (epoch : EpochData)
  /-- Every 10 min or on a leap-data change the GNSS data is saved to MRAM (R356). -/
  | gnssDataSave (dt : Nat)
  /-- The head frame's transmission ends successfully and it leaves the queue (R384). -/
  | canTxComplete (dt : Nat) (port : Nat)
  /-- An error or lost arbitration updates the error counters, possibly entering error-passive or bus-off with a queue flush (R389). -/
  | canBusError (dt : Nat) (port : Nat) (error : BusError)
  /-- A frame received without error is filtered into RXQ0, RXQ1 or rejected and written to both lanes (R386). -/
  | canFrameReceived (dt : Nat) (port : Nat) (frame : CanFrame)
  /-- The bus-off recovery sequence completes and the port becomes error-active (R389). -/
  | busRecovered (dt : Nat) (port : Nat)
  /-- The dwell on a bit-rate candidate ends and the port moves to the next candidate (R390). -/
  | detectDwellExpiry (dt : Nat) (port : Nat)
  /-- Every 100 µs each port publishes its status word (R388). -/
  | canStatusProduce (dt : Nat)
  /-- A Stay frame is taken, forwarded or discarded, delivering signal and Halyard frames (R398). -/
  | stayFrameReceived (dt : Nat) (port : Nat) (frame : StayFrame)
  /-- The master broadcasts a time frame at each whole millisecond of grid time (R405). -/
  | timeFrameSend (dt : Nat)
  /-- A station takes a time frame from its master, forms the offset and steers, steps or loses sync (R405). -/
  | timeFrameReceived (dt : Nat) (port : Nat) (frame : TimeFrame)
  /-- At its next slot boundary a listener steps Mast time by −O and takes the master's GRID_SHIFT (R405). -/
  | listenerTimeStep (dt : Nat)
  /-- At its next slot boundary a station applies the master's step to Mast time and GRID_SHIFT (R406). -/
  | gridShiftAdopt (dt : Nat)
  /-- Each second a Stay port sends a peer-delay request to measure link delay (R404). -/
  | peerDelayRequest (dt : Nat) (port : Nat)
  /-- The designated master receives no time frame within 10 ms of link-up and becomes master (R407). -/
  | masterElectionTimeout (dt : Nat)
  /-- No time frame from the master for 3 ms sets MASTER_LOST and HOLDOVER (R408). -/
  | masterLost (dt : Nat)
  /-- Every station unicasts a beacon to its master 5,000 ns after each major boundary (R410). -/
  | beaconSend (dt : Nat)
  /-- A station stages the join or leave named in a master's control frame (R411). -/
  | controlFrameReceived (dt : Nat) (frame : ControlFrame)
  /-- A Stay link comes up or goes down (R396). -/
  | stayLinkChange (dt : Nat) (port : Nat) (up : Bool)
  /-- An Ethernet frame is taken as ARP, ICMP echo, UDP or gPTP, or discarded (R416). -/
  | ethFrameReceived (dt : Nat) (port : Nat) (frame : EthFrame)
  /-- A gPTP port sends Sync and Follow_Up as grandmaster from Mast time (R418). -/
  | gptpSyncSend (dt : Nat) (port : Nat)
  /-- Each second each SRAM is read through on its own port (R433). -/
  | sramPatrol (dt : Nat) (reads : PatrolReads)
  /-- A memory fill completes and the controller sets FILLED (R438). -/
  | memFillDone (dt : Nat) (ctrl : Nat)
  /-- A record reaches the recorder and is judged by its code's token bucket, held or discarded (R446). -/
  | eventRecordArrival (dt : Nat)
  /-- A held record is committed to the event store with the next record number and UTC fields (R445). -/
  | recordCommit (dt : Nat)
  /-- A bucket's refill timer expires, adding a token or writing a RECORDS_SUPPRESSED summary (R447). -/
  | tokenRefill (dt : Nat) (code : Nat)
  /-- A freeze's limit expires and the held records are committed (R450). -/
  | freezeExpired (dt : Nat)
  /-- A change-log entry is committed to the change-log store (R455). -/
  | changeLogEntry (dt : Nat)
  /-- ESUP rises from below 6.0 V, a power-on reset (R470). -/
  | powerOn (dt : Nat) (rtcHeld : Bool)
  /-- ESUP is measured and its 1 ms mean judged against the supply bands (R462). -/
  | esupMeasure (dt : Nat) (sample : PwrSample)
  /-- ESUP below 10.0 V for 10 ms runs the supply-fail shutdown sequence (R463). -/
  | supplyFail (dt : Nat)
  /-- The WAKE contact asserts or deasserts after 20 ms, starting or stopping the run-on timer or a start (R466). -/
  | wakeChange (dt : Nat) (asserted : Bool)
  /-- A CAN transceiver in standby detects the wake-up pattern on an enabled port (R466). -/
  | canWakePattern (dt : Nat) (port : Nat)
  /-- The real-time clock alarm falls due in Sleep or Watch (R466). -/
  | rtcAlarm (dt : Nat)
  /-- With ESUP at 16.0 V or more and a wake source present the module begins a start (R466). -/
  | moduleStart (dt : Nat)
  /-- A start-up phase completes and the next phase begins (R467). -/
  | startPhaseComplete (dt : Nat)
  /-- The time-wait or cascade wait for the start-up boundary ends (R468). -/
  | startupWaitExpiry (dt : Nat)
  /-- The grid is anchored, the image becomes active with Main ACTIVE and the first major period begins (R468). -/
  | startupBoundary (dt : Nat)
  /-- The run-on timer expires and low-power entry is set for the next major boundary (R472). -/
  | runOnExpiry (dt : Nat)
  /-- 2 ms after a PWR_RESET swap the domains switch off and the start resumes at phase 2 (R471). -/
  | moduleResetBegin (dt : Nat)
  /-- A connector's mate-detect pair closes and the mating is reported (R475). -/
  | connectorMated (dt : Nat) (connector : Nat)
  /-- A connector's mate-detect pair opens and the unmating is reported (R475). -/
  | connectorUnmated (dt : Nat) (connector : Nat)
  /-- A temperature sensor crosses its warning level or the fusion or lane die reaches its action limit (R477). -/
  | thermalWarning (dt : Nat) (sensor : Nat) (temp : Int)
  /-- The cold-plate outlet stays at 95 °C for 10 s and the module enters Sleep by thermal reset (R478). -/
  | thermalLimit (dt : Nat) (temp : Int)
  /-- A compute lane stops sending anything, as when its core clock fails, without reporting a fatal fault (R28). -/
  | laneStopped (dt : Nat) (lane : Lane)
  /-- The Crosstree stops, so receivers keep their last designation and reports, heartbeats and held lanes are no longer served (R28). -/
  | crosstreeStopped (dt : Nat)
  /-- The Crosstree resumes, acknowledging heartbeats again and letting the remaining reset hold of a held lane run (R154). -/
  | crosstreeResumed (dt : Nat)
  /-- A CAN port that is integrating after enable or a settings swap sees 11 recessive bits and starts taking part in bus traffic as error-active (R391). -/
  | canIntegrationComplete (dt : Nat) (port : Nat)
  /-- An Ethernet port's or the service port's link comes up or goes down, setting LINK, recording LINK_UP or LINK_DOWN and starting gPTP once per link-up (R420). -/
  | ethLinkChange (dt : Nat) (port : Nat) (up : Bool)
deriving DecidableEq, Repr

end Sys2Proof
end

