-- ==== Sys2Proof/Machine/StateCore.lean ====
section
/-!
DEFINITION. State of the common parts: the time generator and boundaries (02), the schedule image and lanes' tables (03),
Halyard (04), receivers, lanes and the Crosstree (05), the recorder (17) and the power-domain controller (18).
A field without a stated reset value resets to 0, false, none or empty; the `reset…` definitions give the others.
Due times of timers are counted in `TimeSt.ticks`, so that a step of Mast time moves none of them (02 R37).
-/
namespace Sys2Proof.Machine
open Sys2Proof

/-! ### Time (02) -/

/-- A step of Mast time that is pending (R501). -/
structure PendingStep where
  /-- Δ, ns. -/
  delta  : Int
  /-- The whole second, in ns of Mast time, at which it is applied (R35). -/
  second : Nat
  /-- The `TIME_SET_MANUAL` it comes from; none: from the GNSS block. -/
  manual : Option Request
deriving DecidableEq, Repr

/-- The Mast time generator and its status (R33 to R39, R59 to R62). -/
structure TimeSt where
  /-- Mast time, ns (R33). -/
  mast           : Nat := 0
  /-- Ticks since power-on: the count durations are measured in (R37). -/
  ticks          : Nat := 0
  /-- `GRID_SHIFT` (R38). -/
  gridShift      : Int := 0
  /-- Δ of the most recent step. -/
  lastStep       : Int := 0
  /-- `UNCERTAINTY`, ns. -/
  uncertainty    : Nat := 0
  /-- `STEP_COUNT` (R36). -/
  stepCount      : Nat := 0
  /-- L (R59). -/
  leapSeconds    : Nat := 0
  holdover       : Bool := false
  /-- A step was applied since the previous major boundary. -/
  timeStep       : Bool := false
  slewing        : Bool := false
  leapValid      : Bool := false
  /-- `LEAP_VALID` comes from a decoded value (R61). -/
  leapDecoded    : Bool := false
  leapPending    : Bool := false
  leapDirection  : Bool := false
  timeFromMaster : Bool := false
  noTime         : Bool := false
  /-- E of a pending leap second (R60). -/
  leapEffective  : Nat := 0
  /-- The leap second that took effect last: E and L before it; 0 if none since power-on (17 R444). -/
  prevEffective  : Nat := 0
  prevLeap       : Nat := 0
  /-- The grid is anchored (R38). -/
  anchored       : Bool := false
  /-- The step that is pending (R501). -/
  pendingStep    : Option PendingStep := none
  /-- The time status of the most recent major boundary, Table 02-4 (R62). -/
  status         : Bytes := []
  /-- The major boundary and the slot that began last, counted from grid time 0: each begins once. -/
  lastMajor      : Option Nat := none
  lastSlot       : Option Nat := none
deriving DecidableEq, Repr

/-! ### Staging (02 R47 to R55) -/

/-- Swap kinds (02 Table 02-3). -/
inductive SwapKind where
  | immediate
  | major
  | frame
  | loop
deriving DecidableEq, Repr

/-- A staged command (R49 to R52). -/
structure Staged where
  /-- Block code of Table 03-10 of the block that holds it; 0 for the lanes' interpreter. -/
  block    : Nat
  opcode   : Nat
  target   : Nat
  req      : Request
  kind     : SwapKind
  /-- The major boundary number of its replies (04 R114). -/
  boundary : Nat
  /-- Grid time of the major boundary it names, as resolved. -/
  gridAt   : Nat
  /-- A frame or loop command swaps at its first boundary at or after this tick (R48, R49). -/
  after    : Nat
  /-- An initial command of an image being activated (03 R502). -/
  initial  : Bool
deriving DecidableEq, Repr

/-! ### Halyard (04) -/

/-- The system part: keys, identity, packet counters (04 R105, Tables 04-11 and 04-13). -/
structure SysSt where
  /-- The key of each role that is set, by role number (R105). -/
  keys           : Tbl Bytes := []
  /-- Station number in force. -/
  station        : Nat := 0
  serial         : Nat := 0
  firmware       : Nat := 0
  runts          : Nat := 0
  syncDiscards   : Nat := 0
  lengthExceeds  : Nat := 0
  badCrc         : Nat := 0
  notAuthorised  : Nat := 0
  sequenceStale  : Nat := 0
  originFull     : Nat := 0
  replyDiscards  : Nat := 0
deriving DecidableEq, Repr

/-- A packet waiting in an interpreter queue (R119): its unit is kept whole. -/
structure QPacket where
  stamp : Nat
  /-- The slot at whose start it becomes eligible (03 R73). -/
  slot  : Nat
  path  : Path
  unit  : Bytes
deriving DecidableEq, Repr

/-- A reply as it leaves (R113). -/
structure Reply where
  path     : Path
  /-- `VERSION` of its request. -/
  version  : Nat
  opcode   : Nat
  target   : Nat
  sequence : Nat
  origin   : Nat
  status   : Nat
  final    : Bool
  boundary : Nat
  payload  : Bytes
  tag      : Nat
deriving DecidableEq, Repr

/-- Where a staged command's boundary lies (02 R48, R49). -/
structure Resolved where
  /-- The major boundary number of the replies (R114). -/
  number : Nat
  /-- Grid time of the major boundary named, for swap kind major. -/
  gridAt : Nat
  /-- First tick at which a frame or loop boundary may be the one named. -/
  after  : Nat
deriving DecidableEq, Repr

/-- An event record before it has its number and calendar time (Table 17-3). -/
structure Event where
  code     : Nat
  source   : Nat
  mast     : Nat
  step     : Nat
  resource : Nat
  details  : Bytes
deriving DecidableEq, Repr

/-- What an item carries that is not a signal's value: a command (03 R502), a reply that leaves by a port (05 R130), a
packet of an outbound mailbox (04 R121), a record of the command path or a change-log entry (17 R442, R455). -/
inductive Cargo where
  | none
  | command (opcode : Nat) (req : Request) (z : Resolved)
  | reply (r : Reply)
  /-- `DEST_KIND` and `DEST_INDEX` of its envelope, and the packet. -/
  | mail (kind dest : Nat) (packet : Bytes)
  | event (e : Event)
  | change (entry : Bytes)
deriving DecidableEq, Repr

/-! ### The schedule image (03) -/

/-- A slot table entry (Table 03-4). -/
structure SlotEntry where
  start    : Nat
  repeat_  : Nat
  length   : Nat
  owner    : Nat
  kind     : Nat
  resource : Nat
deriving DecidableEq, Repr

/-- A task descriptor (Table 03-6). -/
structure TaskDesc where
  index        : Nat
  critical     : Bool
  objectOffset : Nat
  objectLength : Nat
  entryOffset  : Nat
  budget       : Nat
  compute      : Nat
  readList     : Nat
  readCount    : Nat
  writeList    : Nat
  writeCount   : Nat
  windowFirst  : Nat
  windowCount  : Nat
  mailDepth    : Nat
  mailSends    : Nat
  mailBytes    : Nat
deriving DecidableEq, Repr

/-- A memory window (R71). -/
structure Window where
  base   : Nat
  size   : Nat
  read   : Bool
  write  : Bool
  exec   : Bool
deriving DecidableEq, Repr

/-- A signal definition (Table 03-7). -/
structure SigDef where
  id      : Nat
  type    : Nat
  source  : Nat
  index   : Nat
  stale   : Nat
  initial : Nat
deriving DecidableEq, Repr

/-- A transfer entry (Table 03-9). -/
structure Transfer where
  start    : Nat
  repeat_  : Nat
  offset   : Nat
  receiver : Nat
  resource : Nat
  signal   : Nat
  item     : Nat
deriving DecidableEq, Repr

/-- An initial-command entry (R76). -/
structure InitCmd where
  opcode  : Nat
  target  : Nat
  payload : Bytes
deriving DecidableEq, Repr

/-- An image, read into its sections (R64, R65). -/
structure Image where
  /-- P, slots in a major period. -/
  majorSlots : Nat
  station    : Nat
  imageId    : Nat
  core       : List SlotEntry
  block      : List SlotEntry
  tasks      : List TaskDesc
  windows    : List Window
  signals    : List SigDef
  /-- The signal lists: local signal identifiers. -/
  lists      : List Nat
  transfers  : List Transfer
  inits      : List InitCmd
  /-- CAN bus model entries (14 Table 14-4). -/
  bus        : List Bytes := []
  /-- The cascade table section, as its chapter reads it (15 R399). -/
  cascade    : Option Bytes
  /-- Bytes of the image (18 Table 18-2, phase 6). -/
  length     : Nat
deriving DecidableEq, Repr

/-- The state of a flash bank (R94). -/
inductive BankState where
  | empty
  | loading
  | valid
  | invalid
deriving DecidableEq, Repr

/-- A flash bank (R94). -/
structure Bank where
  state  : BankState := .empty
  /-- `IMAGE_LENGTH` of the begin. -/
  length : Nat := 0
  /-- `IMAGE_CRC` of the begin. -/
  crc    : Nat := 0
  /-- The bytes written so far. -/
  data   : Bytes := []
deriving DecidableEq, Repr

/-- The schedule subsystem (03 Table 03-20).
Log 5: DESIGN CHOICE, unsafe. -/
structure SchedSt where
  bank0            : Bank := {}
  bank1            : Bank := {}
  startBank        : Nat := 0
  /-- 0, 1, or 0xFF for the service schedule. -/
  activeBank       : Nat := 255
  image            : Image
  activatedAt      : Nat := 0
  /-- Activations made: tells a lane's loaded image from the active one (05 R155). -/
  activations      : Nat := 0
  scheduleOverruns : Nat := 0
  mainOverruns     : Nat := 0
  mizzenOverruns   : Nat := 0
  interpreterDrops : Nat := 0
  mailboxDrops     : Nat := 0
deriving DecidableEq, Repr

/-- The service schedule (R97).
Log 5: DESIGN CHOICE, unsafe; log 20: PRESUMED, unsafe. -/
def serviceImage (station : Nat) : Image :=
  { majorSlots := 100
    station := station
    imageId := 0
    core := (upto 12).map (fun c => ⟨90, 0, 10, 65535, 2, c⟩) ++ [⟨0, 0, 50, 65535, 3, 0⟩]
    block := []
    tasks := []
    windows := []
    signals := []
    lists := []
    transfers := [⟨99, 0, 9000, 0x0B, 0, 0, 1⟩, ⟨98, 0, 2000, 0x0B, 0, 0, 2⟩]
    inits := []
    cascade := none
    length := 0 }

/-! ### Lanes (03, 05) -/

/-- A signal record (Table 03-8). -/
structure SigRec where
  value   : Nat := 0
  stamp   : Nat := 0
  /-- The tick of its stamp, which its age is counted from (02 R37); none: it has not been produced. -/
  born    : Option Nat := none
  seq     : Nat := 0
  valid   : Bool := false
  stale   : Bool := false
  absent  : Bool := false
  overrun : Bool := false
  initial : Bool := true
deriving DecidableEq, Repr

/-- An item delivered by fan-out that is not yet visible (R73). -/
structure Delivery where
  /-- The slot at whose start it becomes visible. -/
  slot   : Nat
  signal : Nat
  value  : Nat
  stamp  : Nat
  /-- The tick of its stamp. -/
  born   : Nat
  valid  : Bool
  /-- Of a signal frame of another station: the record's `SEQUENCE`, `OVERRUN` and `INITIAL` (15 R402). -/
  remote : Option (Nat × Bool × Bool) := none
deriving DecidableEq, Repr

/-- An entry of an inbound mailbox (04 R122): the slot at whose start it becomes visible (R73), the Mast stamp of its
arrival, and the packet. -/
structure MailEntry where
  slot   : Nat
  stamp  : Nat
  packet : Bytes
deriving DecidableEq, Repr

/-- The result a task's activation leaves when it finishes: what its own code computed. -/
structure Finished where
  writes : List (Nat × Nat)
  /-- The outbound mailbox area (04 R121). -/
  mail   : Bytes
deriving DecidableEq, Repr

/-- A running activation (R74, R78). -/
structure Activation where
  task     : Nat
  core     : Nat
  /-- Slot number, on grid time, of the first slot of the run. -/
  slot     : Nat
  /-- Slot number of the last slot of the run. -/
  last     : Nat
  /-- The records its read list names, as loaded at dispatch. -/
  view     : List (Nat × SigRec)
  /-- Inbound mailbox entries in its view. -/
  mailSeen : Nat
  /-- Budget end, in ticks (R78). -/
  budget   : Nat
  finished : Option Finished
deriving DecidableEq, Repr

/-- A copy of an output item as it is sent and compared (05 R135). -/
structure Copy where
  signal : Nat
  value  : Nat
  stamp  : Nat
  valid  : Bool
  /-- Values, stamps and `VALID` of the further signals of a CAN item (14 R381); flags and `SEQUENCE` of the record of an
  export item (15 R401). -/
  more   : List (Nat × Nat × Bool) := []
  cargo  : Cargo := .none
deriving DecidableEq, Repr

/-- The copy of an item that is no signal's value. -/
def Cargo.copy (c : Cargo) : Copy := { signal := 0, value := 0, stamp := 0, valid := false, cargo := c }

/-- An item that a receiver has taken from a lane, for its block to act on (05 R132). -/
structure Taken where
  block    : Nat
  resource : Nat
  item     : Nat
  seq      : Nat
  copy     : Copy
deriving DecidableEq, Repr

/-- A heartbeat (05 Table 05-4); `LANE` is the lane it is in flight from. -/
structure Heartbeat where
  fatal : Bool
  /-- `HEARTBEAT_COUNT`. -/
  count : Nat
  major : Nat
  slot  : Nat
deriving DecidableEq, Repr

/-- An acknowledgement of a heartbeat: the lane states of both lanes, by Table 05-1 (05 R142). -/
structure HeartbeatAck where
  main   : Nat
  mizzen : Nat
deriving DecidableEq, Repr

/-- An output item on its way from a lane to a receiver (R75). -/
structure Item where
  block    : Nat
  resource : Nat
  item     : Nat
  seq      : Nat
  copy     : Copy
deriving DecidableEq, Repr

/-- A commit digest (05 R146). -/
structure Digest where
  task : Nat
  slot : Nat
  crc  : Nat
deriving DecidableEq, Repr

/-- What a lane gathers for its health report (05 Table 05-5). -/
structure Health where
  engineCheckFail : Bool := false
  digestOverflow  : Bool := false
  coreFail        : Nat := 0
  overruns        : Nat := 0
  digestMismatch  : Nat := 0
  correctable     : Nat := 0
  tableCrc        : Nat := 0
  tempMax         : Int := 0
deriving DecidableEq, Repr

/-- A trouble log entry (17 Table 17-5). -/
structure Trouble where
  mast  : Nat
  step  : Nat
  kind  : Nat
  code  : Nat
  entry : Nat
  data  : Bytes
deriving DecidableEq, Repr

/-- A lane's burst result (05 R152). -/
structure BurstResult where
  pass : Bool
  crc  : Nat
deriving DecidableEq, Repr

/-- A command that has had no reply from a stopped Crosstree (05 R504). -/
structure OpenCmd where
  opcode : Nat
  req    : Request
deriving DecidableEq, Repr

/-- One compute lane. -/
structure LaneSt where
  /-- Its core clock runs and it is not held in reset. -/
  running      : Bool := false
  /-- Sends a `FATAL` flag in its heartbeats (R143). -/
  fatal        : Bool := false
  signals      : Tbl SigRec := []
  deliveries   : List Delivery := []
  acts         : List Activation := []
  /-- Sequence of the next item of each stream, by stream number (R75). -/
  streams      : Tbl Nat := []
  /-- Items sent and not yet at their receivers. -/
  items        : List Item := []
  /-- Inbound mailbox of each task (04 R122). -/
  inbound      : Tbl (List MailEntry) := []
  queue        : List QPacket := []
  /-- Packets taken by the `INTERPRETER` run in progress, each with the slot in which it executes (03 R86). -/
  taking       : List (Nat × QPacket) := []
  /-- Origin table: `ORIGIN` without its `LANE` bits, last `SEQUENCE` (04 R107). -/
  origins      : Tbl Nat := []
  /-- The lane status it holds, Table 05-10. -/
  status       : Bytes := []
  /-- The time status it holds, Table 02-4. -/
  timeStatus   : Bytes := []
  crosstreeLost : Bool := false
  missedAcks   : Nat := 0
  /-- An acknowledgement has come since its last heartbeat (R142). -/
  ackSeen      : Bool := false
  openCmds     : List OpenCmd := []
  /-- `HEARTBEAT_COUNT`: heartbeats sent since lane start, wrapping. -/
  heartbeats   : Nat := 0
  /-- A heartbeat has been sent since lane start: the next one looks for its acknowledgement (R142). -/
  hbSent       : Bool := false
  /-- The lane states that the last acknowledgement brought (R142). -/
  lastAck      : Option HeartbeatAck := none
  health       : Health := {}
  /-- Digests received and not yet compared, oldest first (R146). -/
  digests      : List Digest := []
  ownDigests   : List Digest := []
  /-- The next step of the self-test rotation: 0 to 11 the self-test of a core, 12 the engine check (Table 05-6). -/
  selfTestStep : Nat := 0
  /-- Slots that the core self-test under way still takes. -/
  selfTestLeft : Nat := 0
  trouble      : List Trouble := []
  troubleNext  : Nat := 0
  /-- `activations` of the image it has loaded (05 R155). -/
  loaded       : Nat := 0
  /-- Heartbeats sent and not yet at the Crosstree. -/
  hbInFlight   : List Heartbeat := []
  /-- Acknowledgements sent and not yet at the lane. -/
  acksInFlight : List HeartbeatAck := []
  /-- Health reports sent and not yet at the Crosstree (Table 05-5). -/
  healthInFlight : List Bytes := []
  /-- Digests it has sent over the cross-lane path, not yet at the other lane. -/
  digestsInFlight : List Digest := []
  /-- A step of the burst that runs has failed, and the CRC it reports (R152). -/
  burstFailed  : Bool := false
  burstCrc     : Nat := 0
  /-- Its burst result, on the way to the Crosstree. -/
  burstInFlight : Option BurstResult := none
deriving DecidableEq, Repr

/-! ### Receivers (05 R130 to R140) -/

/-- The record of one item at a receiver (R131, R134). -/
structure Pair where
  resource  : Nat
  item      : Nat
  seq       : Nat
  /-- Mast stamp of its first copy. -/
  stamp     : Nat
  main      : Option Copy
  mizzen    : Option Copy
  taken     : Option Lane
  /-- Due tick of its dedup window, while it runs (R132). -/
  window    : Option Nat
  /-- Due tick of its pair limit (R134). -/
  limit     : Nat
deriving DecidableEq, Repr

/-- A receiver with its counters (Table 05-12). -/
structure Receiver where
  windowNs      : Nat := 2000
  takenMain     : Nat := 0
  takenMizzen   : Nat := 0
  lateActive    : Nat := 0
  mismatch      : Nat := 0
  missingMain   : Nat := 0
  missingMizzen : Nat := 0
  staleMain     : Nat := 0
  staleMizzen   : Nat := 0
  lost          : Nat := 0
  overflow      : Nat := 0
  /-- N of each stream, by its number; 0xFFFF_FFFF where none is listed (R131). -/
  streams       : Tbl Nat := []
  /-- Open pairs, oldest first (R136). -/
  pairs         : List Pair := []
deriving DecidableEq, Repr

/-! ### The Crosstree (05) -/

/-- Lane states (Table 05-1). -/
inductive LaneState where
  | active
  | standby
  | probation
  | resync
  | recovering
  | failed
deriving DecidableEq, Repr

/-- A discrepancy report (Table 05-2). -/
structure Discrepancy where
  block    : Nat
  resource : Nat
  kind     : Nat
  takenFrom : Nat
  item     : Nat
  seq      : Nat
  stampLow : Nat
deriving DecidableEq, Repr

/-- A `SCHEDULE_OVERRUN` report (Table 03-14). -/
structure Overrun where
  lane     : Nat
  core     : Nat
  task     : Nat
  cause    : Nat
  critical : Bool
  major    : Nat
  slot     : Nat
  /-- Slot number, on grid time, at whose end the Crosstree classifies it (R92). -/
  judgeAt  : Nat
deriving DecidableEq, Repr

/-- What the Crosstree holds of one lane. -/
structure XtLane where
  state      : LaneState
  clean      : Nat := 0
  /-- Recovery count (R154). -/
  recoveries : Nat := 0
  /-- Consecutive missed heartbeats (R141). -/
  misses     : Nat := 0
  /-- Due tick of the heartbeat timer; none: not started (R150). -/
  timer      : Option Nat := none
  healthSeen : Bool := false
  healthBad  : Bool := false
  /-- A discrepancy was attributed to it in the period (R147). -/
  attributed : Bool := false
  hbMissed   : Bool := false
  /-- Due tick of the reset hold (R154); none: not held. -/
  hold       : Option Nat := none
  /-- The hold is over, and the release waits for the fill of the lane's DRAM (16 R438, 18 R469). -/
  filling    : Bool := false
  /-- Booted from `RECOVERING`, waiting to ask for resynchronisation (R155). -/
  booted     : Bool := false
  /-- A `LANE_RESYNC_REQUEST` was accepted: enters RESYNC at the next major boundary. -/
  resyncNext : Bool := false
  copyDone   : Bool := false
  adopted    : Bool := false
  /-- Reported ready after its release (18 R467 phase 7). -/
  ready      : Bool := false
  /-- Tick by which it must be ready after a lane restart (R150). -/
  readyDue   : Option Nat := none
deriving DecidableEq, Repr

/-- The Crosstree arbiter. -/
structure XtSt where
  stopped       : Bool := false
  /-- The designation: the active lane. -/
  active        : Lane := .main
  main          : XtLane
  mizzen        : XtLane
  /-- Lane restart in progress (R149). -/
  restart       : Bool := false
  /-- Rejoin boundary named: its grid time (R150). -/
  rejoin        : Option Nat := none
  discrepancies : Nat := 0
  discrepanciesLast : Nat := 0
  /-- The threshold has been reached in this period. -/
  thresholdHit  : Bool := false
  /-- Major period a burst is ordered for. -/
  burstFor      : Option Nat := none
  /-- The burst runs in this period. -/
  burstNow      : Bool := false
  /-- Slot number, on grid time, at whose end the results are judged. -/
  burstJudge    : Option Nat := none
  burstMain     : Option BurstResult := none
  burstMizzen   : Option BurstResult := none
  switchovers   : Nat := 0
  /-- Bytes of lane state copied (`RESYNC_PROGRESS` counts KiB). -/
  resyncBytes   : Nat := 0
  crossLane     : Bool := false
  /-- Policy (Table 05-13). -/
  threshold     : Nat := 8
  attempts      : Nat := 3
  cleanPeriods  : Nat := 10
  resetHoldMs   : Nat := 100
  /-- Overrun reports received, waiting for their class (R92). -/
  overruns      : List Overrun := []
  /-- Reports sent and not yet received. -/
  reportsInFlight  : List Discrepancy := []
  overrunsInFlight : List Overrun := []
  /-- Tick at which it stopped, for the holds it times (R154). -/
  stoppedAt     : Nat := 0
deriving DecidableEq, Repr

/-! ### The recorder (17) -/

/-- A committed event record (Table 17-3). -/
structure EventRec where
  number : Nat
  event  : Event
  unsure : Bool
  held   : Bool
  pinned : Bool
  /-- Bytes 0x0011 to 0x001B: second, minute, hour, day, month, year, nanosecond. -/
  utc    : Bytes
deriving DecidableEq, Repr

/-- A token bucket (R446). -/
structure Bucket where
  capacity   : Nat := 8
  tokens     : Nat := 8
  refillMs   : Nat := 1000
  suppressed : Nat := 0
  first      : Nat := 0
  last       : Nat := 0
  /-- Due tick of the refill timer. -/
  due        : Option Nat := none
deriving DecidableEq, Repr

/-- Records lost at a full hold queue (R450, R451). -/
structure LostRun where
  count : Nat := 0
  first : Nat := 0
  last  : Nat := 0
deriving DecidableEq, Repr

/-- The event recorder, the change log and the clear history.
Log 8: DESIGN CHOICE, unsafe. -/
structure RecSt where
  /-- Records on their way to the recorder, oldest first. -/
  arriving     : List Event := []
  changeArriving : List Bytes := []
  store        : List EventRec := []
  next         : Nat := 0
  change       : List Bytes := []
  changeNext   : Nat := 0
  history      : List Bytes := []
  clears       : Nat := 0
  buckets      : Tbl Bucket := []
  /-- Hold queue (R445, R506): the event, and whether it waited through a freeze. -/
  hold         : List (Event × Bool) := []
  /-- Due tick of the freeze (R450). -/
  frozen       : Option Nat := none
  freezeLost   : LostRun := {}
  lost         : LostRun := {}
  /-- Recorder's own records that wait for a reserved entry. -/
  owedFreeze   : Bool := false
  owedExpired  : Option Nat := none
  suppressed   : Nat := 0
deriving DecidableEq, Repr

/-! ### Power domains (18) -/

/-- Module states (R464), with start-up split off from operation. The entry sequence of R473 is one step of the model. -/
inductive ModuleState where
  | unpowered
  | sleep
  | watch
  | starting
  | run
deriving DecidableEq, Repr

/-- The settings of Table 18-11 as a module leaves the factory.
Log 10: DESIGN CHOICE, unsafe. -/
def pwrConfigFactory : Bytes := [1#8, 0#8] ++ putLE 2 0 ++ putLE 2 30 ++ putLE 2 0 ++ putLE 4 0 ++ [75#8, 100#8] ++ zeros 2

/-- The power-domain controller.
Log 10: DESIGN CHOICE, unsafe. -/
structure PwrSt where
  module_      : ModuleState := .starting
  /-- Phase of Table 18-2 that runs; 0 when none does. -/
  phase        : Nat := 1
  resetCause   : Nat := 0
  /-- Bit n: domain Dn is on. -/
  domains      : Nat := 1
  connectors   : Nat := 255
  wake         : Bool := true
  /-- Tick the run-on timer counts from, while it runs (R472). -/
  runOn        : Option Nat := none
  /-- Tick since which the cold-plate outlet has been at 95 °C or above (R477). -/
  hotSince     : Option Nat := none
  supplyLow    : Bool := false
  /-- Thermal warning of each sensor of Table 18-10, bit n sensor n. -/
  thermalWarn  : Nat := 0
  /-- ESUP samples of the last 1 ms, newest first (R462). -/
  esup         : List Nat := []
  /-- Tick since which ESUP has been below 10.0 V. -/
  esupFailAt   : Option Nat := none
  lowestEsup   : Nat := 0
  /-- Temperatures, 0.1 °C, in the order of Table 18-10. -/
  temps        : Tbl Int := []
  startMs      : Nat := 0
  startupMajor : Nat := 0
  electronicsW : Nat := 0
  supplyLowEvents : Nat := 0
  /-- Settings of Table 18-11, nonvolatile. -/
  config       : Bytes := pwrConfigFactory
  /-- The real-time clock has lost its count (R465). While D0 is off, `TimeSt.mast` is what the clock runs on with. -/
  rtcLost      : Bool := false
  /-- Mast time last saved to MRAM (R465). -/
  savedMast    : Nat := 0
  /-- Start-up boundary named: its grid time (R468). -/
  startupAt    : Option Nat := none
  /-- Ticks at which the start began, and at which D13 and D15 switched on in it (R468). -/
  phase1At     : Nat := 0
  d13At        : Nat := 0
  d15At        : Nat := 0
  /-- Entry into a low state set for the next major boundary: state (0 Sleep, 1 Watch), by command. -/
  lowEntry     : Option (Nat × Bool) := none
  /-- A wake source waits until an entry is complete or the plate is cool. -/
  wakePending  : Bool := false
  /-- Due tick of a commanded module reset (R471). -/
  resetAt      : Option Nat := none
  /-- Real-time clock count at which the alarm falls due. -/
  alarmAt      : Option Nat := none
deriving DecidableEq, Repr

/-! ### What has left the module -/

/-- A frame, datagram, transaction or level that left the module: the model's own record, newest last. -/
inductive Out where
  /-- A Halyard reply leaving by an Ethernet or service port, or answered to a lane's firmware; a mailbox packet to a peer. -/
  | reply (r : Reply)
  | mailEth (port : Nat) (packet : Bytes)
  /-- A CAN frame sent with success. -/
  | can (port : Nat) (frame : Bytes)
  /-- A Stay frame on a port: destination and source address, and MAC payload. -/
  | stay (port : Nat) (mac source : Nat) (payload : Bytes)
  /-- An Ethernet frame of a port: 0 ARP reply, 1 ICMP echo reply, 2 Sync, 3 Follow_Up, 4 Announce, 5 peer delay request,
  6 peer delay response. -/
  | eth (port : Nat) (kind : Nat) (body : Bytes)
  /-- A time pulse edge, with its Mast time. -/
  | pulse (tp : Nat) (level : Bool) (mast : Nat)
  /-- A sensor control link transaction. -/
  | link (port : Nat) (body : Bytes)
deriving DecidableEq, Repr

/-! ### Reset values -/

/-- The time status at reset (Table 02-4, reset column). -/
def timeStatusReset (leap : Nat) : Bytes :=
  zeros 24 ++ putLE 4 max32 ++ zeros 4 ++ putLE 1 leap ++ zeros 1 ++ putLE 2 128 ++ zeros 4

/-- The lane status at reset (Table 05-10). -/
def laneStatusReset : Bytes := zeros 2 ++ [1#8] ++ zeros 29

/-- A lane at reset: held, with the status values of its tables.
Log 4: DESIGN CHOICE, safe. -/
def resetLane (leap : Nat) : LaneSt := { status := laneStatusReset, timeStatus := timeStatusReset leap }

/-- Time at reset (Table 02-4).
Log 3: DESIGN CHOICE, unsafe; log 4: DESIGN CHOICE, safe. -/
def resetTime (leap : Nat) : TimeSt :=
  { uncertainty := max32, leapSeconds := leap, noTime := true, status := timeStatusReset leap }

/-- The Crosstree at reset: Main designated, both lanes in reset until they boot (18 R467). -/
def resetXt : XtSt := { main := { state := .active }, mizzen := { state := .standby } }

end Sys2Proof.Machine
end

