-- ==== Sys2Proof/Machine/StateControl.lean ====
section
/-!
DEFINITION. State of the control engine (06) and of the power-channel block (07, 08).
-/
namespace Sys2Proof.Machine
open Sys2Proof

/-! ### Control engine (06), one in each lane -/

/-- The states of one section (R171).
Log 7: DEDUCED, unsafe. -/
structure SecState where
  x1 : Int := 0
  x2 : Int := 0
  y1 : Int := 0
  y2 : Int := 0
deriving DecidableEq, Repr

/-- A period of a loop on its way through the pipeline (R167 to R182). -/
structure LoopRun where
  /-- Grid time of phase 0, and of the nominal output instant phase 0 + φ. -/
  phase0   : Nat
  outAt    : Nat
  input    : Int
  setpoint : Int
  bad      : Bool
  /-- Tick at which it started on its pipeline. -/
  started  : Option Nat := none
  /-- Its output, once ready, with `CLAMPED` and `SATURATED` of the period. -/
  output   : Option Int := none
  clamped  : Bool := false
  saturated : Bool := false
  /-- The release edge of the duty item, and of the signal record, has passed (R181). -/
  dutyPast : Bool := false
  sigPast  : Bool := false
  /-- A release edge passed before the result was ready (R182). -/
  late     : Bool := false
deriving DecidableEq, Repr

/-- One loop of an engine (Tables 06-1, 06-5, 06-10 and 06-12). -/
structure Loop where
  desc       : Bytes
  outMin     : Int := -2147483648
  outMax     : Int := 2147483647
  /-- Coefficient words, one a section (Table 06-5). -/
  coeffs     : List Bytes
  states     : List SecState := [{}]
  run        : Option LoopRun := none
  /-- The output computed last; 0 once the loop is enabled (Table 06-2). -/
  held       : Int := 0
  /-- Flags, values and stamp of the most recent period that has completed (Table 06-12). -/
  inputBad   : Bool := false
  clamped    : Bool := false
  saturated  : Bool := false
  late       : Bool := false
  lastInput  : Int := 0
  lastSetpoint : Int := 0
  lastOutput : Int := 0
  lastStamp  : Nat := 0
  itemsSent  : Nat := 0
  saturations : Nat := 0
  clamps     : Nat := 0
  inputFaults : Nat := 0
  lateOutputs : Nat := 0
deriving DecidableEq, Repr

/-- A pipeline: the loops waiting, and when the previous one started with how many sections (R179). -/
structure Pipeline where
  waiting   : List Nat := []
  lastStart : Nat := 0
  lastS     : Nat := 0
deriving DecidableEq, Repr

/-- An engine: its loops by number and its four pipelines. -/
structure Engine where
  loops : Tbl Loop := []
  pipes : Tbl Pipeline := []
deriving DecidableEq, Repr

/-- Both lanes' engines. -/
structure CtrlSt where
  main   : Engine := {}
  mizzen : Engine := {}
deriving DecidableEq, Repr

/-! ### Power channels (07, 08) -/

/-- The state a channel has by its mode and duty, before any protection state (Table 07-8). -/
inductive ChanBase where
  | unconfigured
  | off
  | driving
  | input
deriving DecidableEq, Repr

/-- One power channel. -/
structure Chan where
  /-- Configuration, Table 07-3, held in D1. -/
  cfg          : Bytes
  /-- Protection settings, Table 08-1, held in D1. -/
  prot         : Bytes
  base         : ChanBase := .unconfigured
  dutySet      : Int := 0
  dutyEff      : Int := 0
  /-- Items taken and not yet the set duty: duty, tick of the take and `ITEM`, in that order of tick and `ITEM` (R203). -/
  pending      : List (Int × Nat × Nat) := []
  /-- An item has been taken since the channel last became an output. -/
  itemSeen     : Bool := false
  /-- Sign of the duty of the period before (R200). -/
  prevDuty     : Int := 0
  /-- On-time of the period in progress and its start in grid time (R197). -/
  onNs         : Nat := 0
  periodAt     : Nat := 0
  /-- Start of the on-time in grid time (R198). -/
  onAt         : Nat := 0
  /-- Tick of the start of the period in progress, and its length (R43). -/
  periodTick   : Nat := 0
  periodNs     : Nat := 0
  /-- The period began with an edge of this channel, a half of a bridge: its switches wait the dead time (R199, R200). -/
  edge         : Bool := false
  current      : Int := 0
  voltage      : Int := 0
  temperature  : Int := 0
  sampleStamp  : Nat := 0
  /-- Sum and number of the current samples of the period (R212). -/
  sumCurrent   : Int := 0
  numCurrent   : Nat := 0
  compLimited  : Bool := false
  openLoad     : Bool := false
  dutyLimited  : Bool := false
  inputState   : Bool := false
  /-- The next sample is the first after the mode swap (R211). -/
  firstSample  : Bool := true
  debounce     : Nat := 0
  itemsTaken   : Nat := 0
  dutyLimits   : Nat := 0
  itemsRefused : Nat := 0
  compLimits   : Nat := 0
  /-- Protection (08): due tick of a pending retry while it runs. -/
  retryDue     : Option Nat := none
  /-- Remaining ns of a pending retry while it is frozen (R229). -/
  retryFrozen  : Option Nat := none
  tripped      : Bool := false
  thermalLatch : Bool := false
  freewheelLatch : Bool := false
  stopHold     : Bool := false
  /-- A latch set during the hold episode (R231). -/
  episodeLatch : Bool := false
  retryLeft    : Nat := 3
  overCount    : Nat := 0
  /-- Tick at which a hold condition last took the channel out of `DRIVING`, with its over-limit count and that of the odd half
  of its pair (R230). -/
  heldAt       : Option (Nat × Nat × Nat) := none
  /-- Due tick of the inrush window (R219). -/
  inrushDue    : Option Nat := none
  fastTrips    : Nat := 0
  sampledTrips : Nat := 0
  retriesDone  : Nat := 0
  thermalLatches : Nat := 0
  freewheelLatches : Nat := 0
  /-- Free-wheel watch: due tick (R228). -/
  watchDue     : Option Nat := none
deriving DecidableEq, Repr

/-- A supply input (R193, R206).
Log 22: DEDUCED, unsafe. -/
structure Supply where
  /-- Complete 100 µs intervals, newest first: grid time of the end and voltage. -/
  volts    : List (Nat × Nat) := []
  /-- Currents of the complete intervals of the last 1 s, newest first. -/
  currents : List Int := []
  mean     : Int := 0
  overload : Bool := false
deriving DecidableEq, Repr

/-- The power-channel block. -/
structure PowerSt where
  chans        : Tbl Chan := []
  supplies     : Tbl Supply := []
  supplyStamp  : Nat := 0
  /-- Channel generation counter (R238). -/
  generation   : Nat := 0
  adoptedMain  : Bool := true
  adoptedMizzen : Bool := true
  /-- `NOT_ADOPTED` has been recorded since the flag was cleared (R237). -/
  refusedMain  : Bool := false
  refusedMizzen : Bool := false
  stopAsserted : Bool := true
deriving DecidableEq, Repr

/-! ### Reset values -/

/-- Coefficient word of an identity section (Table 06-5). -/
def identityCoeffs : Bytes := putLE 4 1 ++ zeros 24

/-- Loop descriptor at reset (Table 06-1). -/
def loopDescReset : Bytes :=
  [0#8, 1#8, 0#8, 0#8] ++ putLE 4 100 ++ putLE 4 1000 ++ zeros 8 ++ putLE 2 65535 ++ zeros 10

/-- A loop at reset (R164, R175).
Log 7: DEDUCED, unsafe. -/
def resetLoop : Loop := { desc := loopDescReset, coeffs := [identityCoeffs] }

/-- Channel configuration at reset (Table 07-3). -/
def chanCfgReset : Bytes :=
  zeros 4 ++ putLE 4 10000000 ++ zeros 4 ++ putLE 2 27000 ++ putLE 2 500 ++ zeros 4 ++ putLE 2 2000 ++
  putLE 2 4000 ++ [0#8, 1#8] ++ zeros 6

/-- Channel class (Table 07-1): 0 standard, 1 heavy, 2 bridge. -/
def chanClass (c : Nat) : Nat := if c < 64 then 0 else if c < 88 then 1 else 2

/-- `OC_LIMIT_MA` at reset, by class (Table 08-1). -/
def ocLimitReset (c : Nat) : Nat :=
  if chanClass c = 0 then 22500 else if chanClass c = 1 then 60000 else 30000

/-- Protection settings at reset (Table 08-1). -/
def chanProtReset (c : Nat) : Bytes :=
  putLE 4 (ocLimitReset c) ++ zeros 6 ++ [4#8, 3#8, 50#8, 1#8] ++ zeros 2

/-- A channel at reset (Table 07-9, R222). -/
def resetChan (c : Nat) : Chan := { cfg := chanCfgReset, prot := chanProtReset c }

end Sys2Proof.Machine
end

