-- ==== Sys2Proof/Machine/StateMem.lean ====
section
/-!
DEFINITION. State of the protected memories (16). A stored byte is 13 bits: data in bits 7 to 0, check bits c4 to c0 in
bits 12 to 8. Only bytes that differ from what their unwritten neighbours hold are listed.
-/
namespace Sys2Proof.Machine
open Sys2Proof

/-- Stored bytes of a memory, by byte address, strictly rising.
Log 114: DESIGN CHOICE, safe. -/
abbrev Cells := List (Nat × BitVec 13)

/-- An address table entry (Table 16-5). -/
structure MemEntry where
  word     : Nat
  first    : Nat
  last     : Nat
  count    : Nat
  byte     : Nat
  position : Nat
  patrol   : Bool
deriving DecidableEq, Repr

/-- A state buffer of the fusion engine (12 R325): what a network left in it, moved by a warp.
Log 83: DESIGN CHOICE, safe. -/
structure GridBuf where
  /-- Number of the free value the last network left; none: zeros. -/
  base : Option Nat := none
  /-- Rows, columns and turn (2^-9 rad) of the warp since, with the reference cell. -/
  warp : Option (Int × Int × Int × Nat × Nat) := none
deriving DecidableEq, Repr

/-- What unlisted bytes of a memory hold. -/
inductive Contents where
  /-- Zero data with valid check bits. -/
  | zeros
  /-- Undefined contents, by the two numbers of their free values. -/
  | undefined (ctrl n : Nat)
  /-- What the fusion engine left there, by the number of a free value (12 R322). -/
  | engine (n : Nat)
  /-- A state buffer that begins at an address (12 R324). -/
  | grid (base : Nat) (buf : GridBuf)
deriving DecidableEq, Repr

/-- What unlisted bytes of a range of addresses hold. -/
structure Ground where
  base : Nat
  size : Nat
  what : Contents
deriving DecidableEq, Repr

/-- A memory controller with its memory (Table 16-1). -/
structure MemCtrl where
  cells    : Cells := []
  /-- Every word has been filled with zeros: an unlisted byte holds zero data with valid check bits (`FILLED`). -/
  filled   : Bool := false
  /-- Ranges whose unlisted bytes hold something else than the rest of the memory, the first that fits counting: copied from
  the other lane's memory (05 R155), become undefined (11 R318), or the fusion engine's own (12 R322). -/
  grounds  : List Ground := []
  /-- Times the domain has switched on: the undefined contents are new each time (R437). -/
  powerUps : Nat := 0
  /-- Bytes of the test area that have been written (R435). -/
  test     : Cells := []
  /-- Tick at which a fill began, while it runs (R438). -/
  fillFrom : Option Nat := none
  quiet    : Nat := 0
  patrolMode : Nat := 0
  /-- Ranges of the patrol: base and size. -/
  ranges   : List (Nat × Nat) := []
  /-- Tick from which an SRAM is read through again (R433). -/
  patrolDue : Nat := 0
  /-- Range the patrol is in, and its next address. -/
  rangeIdx : Nat := 0
  pos      : Nat := 0
  /-- Corrections found in the pass. -/
  found    : Nat := 0
  corrected : Nat := 0
  uncorrectable : Nat := 0
  overflows : Nat := 0
  passes   : Nat := 0
  table    : List MemEntry := []
  /-- `MEM_LOG_FULL` has been recorded for this filling of the table. -/
  fullNoted : Bool := false
deriving DecidableEq, Repr

/-- The six controllers, and the nonvolatile `FILL_AT_POWER_ON` (R438). -/
structure MemSt where
  ctrls         : Tbl MemCtrl := []
  fillAtPowerOn : Bool := false
deriving DecidableEq, Repr

/-- A controller at module reset: an SRAM is filled (R423), a DRAM is not. -/
def resetMemCtrl (c : Nat) : MemCtrl :=
  { filled := c == 2 || c == 3 || c == 5
    patrolMode := if c = 2 ∨ c = 3 ∨ c = 5 then 2 else 0 }

end Sys2Proof.Machine
end

