-- ==== Sys2Proof/Machine/StateSense.lean ====
section
/-!
DEFINITION. State of the sensing block and the yield tally (09) and of the GNSS block (13).
-/
namespace Sys2Proof.Machine
open Sys2Proof

/-! ### Sensing inputs (09) -/

/-- What every sensing resource holds beside its settings (Table 09-9). -/
structure InputState where
  fault     : Bool := false
  below     : Bool := false
  above     : Bool := false
  /-- Consecutive samples beyond, and within, the fault limits (R248). -/
  bad       : Nat := 0
  good      : Nat := 0
  /-- Shunt open, or supply off under protection (R245, R254). -/
  shut      : Bool := false
  /-- Due tick of the next trial or retry. -/
  trialDue  : Option Nat := none
  capFail   : Bool := false
  wireFail  : Bool := false
  value     : Int := 0
  aux       : Int := 0
  faultCount : Nat := 0
  stamp     : Nat := 0
  /-- Samples since the last restart, newest first, for the mean published (R256). -/
  acc       : List Int := []
  /-- The same of a supply's current. -/
  acc2      : List Int := []
  /-- Edge count, and the edges of the longest frequency window as grid times (R246). -/
  edgeCount : Nat := 0
  edges     : List Nat := []
  /-- Hits, energy and long hits of the loss interval in progress (R251). -/
  hits      : Nat := 0
  energy    : Nat := 0
  longHits  : Nat := 0
  /-- Grid time of the last restart (R505). -/
  since     : Nat := 0
  /-- Boundary, as grid time, whose capacitance check is done (R252). -/
  capAt     : Option Nat := none
deriving DecidableEq, Repr

/-- A sensing resource: its settings payload and its state. -/
structure SenseInput where
  cfg : Bytes
  st  : InputState := {}
deriving DecidableEq, Repr

/-! ### The yield tally (09) -/

/-- A navigation record as delivered: grid time of its epoch, and the 96 bytes of 13 Table 13-7. -/
structure NavRec where
  epoch : Nat
  bytes : Bytes
deriving DecidableEq, Repr

/-- A sample held for the tally: its input, grid time of its end, value, fault, and the bridge interval T_b. -/
structure TallySample where
  input : Nat
  at_   : Nat
  value : Int
  fault : Bool
  tb    : Nat
deriving DecidableEq, Repr

/-- A cell update on its way to both lanes (R263): the slot it is applied in and the cell's address. -/
structure CellWrite where
  slot  : Nat
  addr  : Nat
  mass  : Nat
  moist : Nat
  area  : Nat
deriving DecidableEq, Repr

/-- A record that waits for its mass interval (R257, R258). -/
structure TallyStep where
  record  : NavRec
  /-- Sources in force when it was taken (R267). -/
  sources : Bytes
  /-- Record f - 1 is absent. -/
  fresh   : Bool
  /-- The first step since an enabling: grid time after which its mass interval starts. -/
  start   : Option Nat
deriving DecidableEq, Repr

/-- Totals and counters of Table 09-14. -/
structure YieldTotals where
  placedMass     : Nat := 0
  placedMoist    : Nat := 0
  placedArea     : Nat := 0
  unplacedMass   : Nat := 0
  unplacedMoist  : Nat := 0
  unplacedArea   : Nat := 0
  placedSteps    : Nat := 0
  clearingSteps  : Nat := 0
  noPosition     : Nat := 0
  gapSteps       : Nat := 0
  offGrid        : Nat := 0
  moistureHeld   : Nat := 0
  bridgeFault    : Nat := 0
deriving DecidableEq, Repr

/-- The tally. -/
structure YieldSt where
  grid      : Bytes
  sources   : Bytes
  am        : Nat := 0
  aw        : Nat := 0
  aa        : Nat := 0
  totals    : YieldTotals := {}
  /-- Slots of a clear still to run, and slots taken. -/
  clearing  : Option (Nat × Nat) := none
  gridLost  : Bool := false
  placedSinceClear : Nat := 0
  swath     : Option Int := none
  /-- Moisture of the last step that had unfaulted samples. -/
  lastMoist : Nat := 0
  /-- Records waiting for their mass interval, oldest first (R258). -/
  queue     : List TallyStep := []
  /-- The next record taken finds record f - 1 absent: an enabling, or a record that the full queue discarded. -/
  fresh     : Bool := true
  /-- After an enabling, until its first record: grid time after which the first mass interval starts. -/
  opening   : Option Nat := none
  /-- After a disabling: its boundary's grid time and the sources before it (R267). -/
  closing   : Option (Nat × Bytes) := none
  prev      : Option NavRec := none
  /-- Grid time after which the next mass interval starts. -/
  massStart : Nat := 0
  mass      : List TallySample := []
  moist     : List TallySample := []
  writes    : List CellWrite := []
deriving DecidableEq, Repr

/-- The sensing block. -/
structure SenseSt where
  inputs : Tbl SenseInput := []
  yield_ : YieldSt
deriving DecidableEq, Repr

/-! ### GNSS (13) -/

/-- A time pulse output (R370). -/
structure Pulse where
  cfg   : Bytes
  /-- Pulse instants below this Mast time are done. -/
  bound : Nat := 0
  /-- Tick at which the pulse in progress ends. -/
  endAt : Option Nat := none
deriving DecidableEq, Repr

/-- A navigation message held, whether the block decoded it itself, and whether it may enter a solution (R358). -/
structure HeldMessage where
  msg    : NavMessage
  own    : Bool
  usable : Bool
deriving DecidableEq, Repr

/-- The data of R356. -/
structure NavData where
  messages : List HeldMessage := []
  almanacs : List Almanac := []
  position : Option (Int × Int × Int) := none
  leap     : Nat := 0
deriving DecidableEq, Repr

/-- A tracking channel (R354). -/
structure Channel where
  antenna       : Nat
  constellation : Nat
  sv            : Nat
  signal        : Nat
  /-- It searches a satellite that has no prediction. -/
  search        : Bool
  /-- Tick of the last epoch with code lock. -/
  lockAt        : Option Nat
  /-- Uncertainty of time the search was given, ns (R358). -/
  window        : Nat
deriving DecidableEq, Repr

/-- A notch filter (R353): its band, three of A0 then three of A1, its line, kHz, and the tick from which the line is gone. -/
structure Notch where
  band   : Nat
  freq   : Nat
  goneAt : Option Nat
deriving DecidableEq, Repr

/-- A record and a measurement entry waiting for their delivery stamp (R360).
Log 71: DEDUCED, unsafe. -/
structure NavDelivery where
  due     : Nat
  mast    : Nat
  number  : Nat
  record  : NavRec
  entry   : Bytes
  count   : Nat
deriving DecidableEq, Repr

/-- The GNSS block. -/
structure GnssSt where
  config    : Bytes
  watch     : Bytes
  tp0       : Pulse
  tp1       : Pulse
  /-- Time state: 0 NO_TIME, 1 LOCKED, 2 HOLDOVER, 3 ACCEPTING (Table 13-11). -/
  timeState : Nat := 0
  suspect   : Bool := false
  checkFailing : Bool := false
  clockOffset : Int := 0
  /-- First offset of the run under acceptance, and its epochs (R368). -/
  acceptFirst : Int := 0
  acceptCount : Nat := 0
  /-- Time bound of the last LOCKED epoch, its uncertainty U_0, and its tick (R366, R367). -/
  bound     : Nat := 0
  u0        : Nat := 0
  lockedAt  : Nat := 0
  /-- A slew in progress: its size and the tick it began (R35). -/
  slew      : Int := 0
  slewAt    : Nat := 0
  leapConflict : Bool := false
  /-- The last epoch and its tick. -/
  epochAt   : Option (Nat × Nat) := none
  a0Open    : Bool := false
  a1Open    : Bool := false
  a0Fault   : Bool := false
  a1Fault   : Bool := false
  a0Retry   : Option Nat := none
  a1Retry   : Option Nat := none
  channels  : List Channel := []
  notches   : List Notch := []
  /-- Leap-second counts decoded, and changes announced (removed, effective second), by constellation (R369). -/
  leaps     : Tbl (Nat × Option (Bool × Nat)) := []
  jamLevels : List Nat := []
  /-- Exclusions: key and due tick; a satellite is 64·constellation + sv, a constellation 256 + its code (R365). -/
  exclusions : Tbl Nat := []
  spoof     : Bool := false
  headingValid : Bool := false
  /-- Epoch and heading of the last epoch with a heading (R362). -/
  lastHeading : Option (Nat × Nat) := none
  satExclusions : Nat := 0
  constExclusions : Nat := 0
  clockFails : Nat := 0
  aidsAccepted : Nat := 0
  aidsRejected : Nat := 0
  disagreements : Nat := 0
  ttffMs    : Nat := 0
  /-- Tick at which D9 switched on, until the first valid position is delivered. -/
  startAt   : Option Nat := none
  /-- Kind of that start: 0 cold, 1 warm, 2 hot, 3 from watch (Table 13-3). -/
  startKind : Nat := 0
  /-- Tick from which the watch tracker has run. -/
  watchFrom : Option Nat := none
  /-- Tick at which the burst in progress ends, and at which its continuous tracking does (R372, R373). -/
  burstEnd  : Nat := 0
  refreshEnd : Nat := 0
  /-- Tick of the last extended burst, or of the begin of watch mode. -/
  refreshFrom : Nat := 0
  /-- Tick of the last save of the 10 min interval (R356). -/
  savedAt   : Nat := 0
  /-- Last record formed: fields whose flag is clear keep the last valid value. -/
  last      : Bytes := []
  /-- Tick of the last valid position. -/
  positionAt : Option Nat := none
  deliveries : List NavDelivery := []
  data      : NavData := {}
  /-- The copy in MRAM (R356). -/
  saved     : NavData := {}
  /-- Aids in use: time uncertainty and position. -/
  timeAid   : Option Nat := none
  positionAid : Option (Int × Int × Int × Nat) := none
deriving DecidableEq, Repr

/-! ### Reset values -/

/-- `SENSE_SET_INPUT` settings at reset (Table 09-10). -/
def uniReset : Bytes :=
  zeros 2 ++ [1#8] ++ zeros 1 ++ putS 4 (-2147483648) ++ putS 4 2147483647 ++ [10#8] ++ zeros 1 ++ putLE 2 10 ++
  putLE 2 1000 ++ putLE 2 3000

/-- `SENSE_SET_LOSS` settings at reset (Table 09-11). -/
def lossReset : Bytes :=
  zeros 2 ++ putLE 2 200 ++ putLE 2 20 ++ putLE 2 2000 ++ putLE 4 10000 ++ putLE 2 10 ++ putLE 2 60000

/-- `SENSE_SET_BRIDGE` and `SENSE_SET_SUPPLY` settings at reset (Table 09-15). -/
def bridgeReset : Bytes := [0#8, 1#8, 0#8, 0#8]

/-- Class of a sensing index: 0 universal, 1 loss, 2 bridge, 3 supply, 4 none (Table 09-1). -/
def senseKind (i : Nat) : Nat :=
  if i < 96 then 0 else if i < 120 then 1 else if i < 124 then 2
  else if 128 ≤ i ∧ i < 136 then 3 else 4

/-- A sensing resource at reset. -/
def resetInput (i : Nat) : SenseInput :=
  { cfg := if senseKind i = 0 then uniReset else if senseKind i = 1 then lossReset else bridgeReset }

/-- The tally at reset (Tables 09-12 and 09-13). -/
def resetYield : YieldSt :=
  { grid := zeros 20 ++ putLE 2 10000 ++ zeros 18
    sources := zeros 2 ++ [255#8] ++ zeros 29 }

/-- `GNSS_SET_CONFIG` at reset (Table 13-16). -/
def gnssReset : Bytes :=
  putLE 2 0x01FF ++ putLE 2 0x0089 ++ [10#8, 10#8] ++ putLE 2 20 ++ putLE 2 0 ++ putLE 2 20 ++ zeros 6 ++
  [10#8, 0#8] ++ putLE 2 30 ++ putLE 2 50 ++ putLE 2 1000 ++ putLE 2 30 ++ putLE 2 550 ++ zeros 18

/-- `GNSS_SET_WATCH` at reset (Table 13-18). -/
def watchReset : Bytes := putLE 2 50 ++ [24#8, 30#8] ++ zeros 4

/-- `GNSS_SET_TIME_PULSE` at reset (Table 13-17). -/
def pulseReset : Bytes := [4#8] ++ zeros 3 ++ putLE 4 1000000000 ++ putLE 4 100000000 ++ putLE 4 0

/-- The GNSS block at reset. -/
def resetGnss : GnssSt := { config := gnssReset, watch := watchReset, tp0 := { cfg := pulseReset }, tp1 := { cfg := pulseReset } }

end Sys2Proof.Machine
end

