-- ==== Sys2Proof/Machine/StateMedia.lean ====
section
/-!
DEFINITION. State of the camera block (10, 11), of the fusion engine (12) and of the CAN ports (14).
-/
namespace Sys2Proof.Machine
open Sys2Proof

/-- The frame-kind settings of a port, as the payloads that set them (Tables 10-7 to 10-9 and 11-8 to 11-13). -/
structure CamSettings where
  port    : Bytes
  geom    : Bytes
  linear  : Bytes
  cfa     : Bytes
  wb      : Bytes
  matrix  : Bytes
  toneR   : Bytes
  toneG   : Bytes
  toneB   : Bytes
  streams : List Bytes
  stats   : Bytes
deriving DecidableEq, Repr

/-- A frame that is open (R274), with the settings in force at its boundary (R299). -/
structure OpenFrame where
  number    : Nat
  /-- Mast stamp and tick of its boundary. -/
  stamp     : Nat
  openedAt  : Nat
  gen       : Nat
  newGen    : Bool
  uncertain : Bool
  exposure  : Bytes
  set       : CamSettings
  mismatch  : Bool
  /-- Image lines as taken, oldest first. -/
  lines     : List (List Nat) := []
  received  : Nat := 0
  discarded : Nat := 0
  shortLines : Bool := false
  longLines : Bool := false
deriving DecidableEq, Repr

/-- The transfer the sensor control link runs (R286, R287). -/
structure LinkJob where
  /-- An exposure set, or none for a `CAM_SENSOR_TRANSFER`. -/
  set      : Option Bytes
  req      : Option Request
  /-- Write entry in progress. -/
  entry    : Nat
  /-- Tick at which the transaction in progress began. -/
  startAt  : Nat
  /-- A real frame boundary has fallen since the set started (R291). -/
  crossed  : Bool
deriving DecidableEq, Repr

/-- What a stream or the statistics report (Table 11-14). -/
structure StreamSt where
  entry   : Nat := 0
  gen     : Nat := 0
  frame   : Nat := 0
  written : Nat := 0
  drops   : Nat := 0
deriving DecidableEq, Repr

/-- A camera port (Table 10-12). -/
structure CamPort where
  set        : CamSettings
  /-- Frame-valid after inversion. -/
  fv         : Bool := false
  frame      : Option OpenFrame := none
  /-- Number of the next frame, and of the last one opened. -/
  next       : Nat := 0
  last       : Nat := 0
  gen        : Nat := 0
  genPending : Bool := false
  /-- A rising edge or an open frame in the major period in progress (R279). -/
  activity   : Bool := false
  idle       : Bool := false
  mismatch   : Bool := false
  measured   : Nat := 0
  /-- The exposure set in force (R293). -/
  exposure   : Bytes
  /-- Sets written and not yet carried: real boundaries still to come, the carrying frame's included. -/
  carries    : List (Nat × Bytes) := []
  /-- The same for frames that will be marked `EXP_UNCERTAIN`. -/
  marks      : List Nat := []
  waiting    : Option Bytes := none
  /-- A set has completed since the last frame boundary (R287). -/
  setDone    : Bool := false
  job        : Option LinkJob := none
  queue      : List Request := []
  lastStamp  : Nat := 0
  shortFrames : Nat := 0
  longFrames : Nat := 0
  discarded  : Nat := 0
  stray      : Nat := 0
  clockFaults : Nat := 0
  dropped    : Nat := 0
  failures   : Nat := 0
  uncertain  : Nat := 0
  /-- Streams 0 to 3, then the statistics. -/
  streams    : List StreamSt := List.replicate 5 {}
  /-- `STREAM_TARGET_OFF` is recorded for this switch-off of D7. -/
  targetOff  : Bool := false
deriving DecidableEq, Repr

/-! ### Reset values -/

def camPortReset : Bytes := [0#8, 12#8, 2#8, 0#8] ++ putLE 4 74250 ++ putLE 2 200 ++ zeros 6
def camGeomReset : Bytes := putLE 2 4096 ++ putLE 2 3072 ++ [1#8, 0#8] ++ zeros 10
def camWbReset : Bytes := putLE 2 4096 ++ putLE 2 4096 ++ putLE 2 4096 ++ zeros 2
def camMatrixReset : Bytes :=
  ([4096, 0, 0, 0, 4096, 0, 0, 0, 4096].map (putLE 2)).flatten ++ zeros 14
def camToneReset : Bytes := [2#8] ++ zeros 3 ++ putLE 4 0 ++ putLE 4 0 ++ putLE 4 0xFFFFFF ++ putLE 4 65535
def camStreamReset : Bytes :=
  [0#8, 1#8, 1#8, 2#8] ++ zeros 4 ++ putLE 2 4096 ++ putLE 2 3072 ++ putLE 2 1 ++ zeros 2 ++ putLE 4 4096 ++
  putLE 4 0x00C00000 ++ zeros 24
def camStatsReset : Bytes := [0#8, 2#8] ++ zeros 2 ++ putLE 4 0xFF0000 ++ zeros 8
/-- The exposure set in force before any is carried (R293). -/
def camExposureReset : Bytes :=
  zeros 8 ++ putLE 2 256 ++ putLE 2 256 ++ putLE 4 0xFFFFFE ++ putLE 4 0xFFFFFF ++ putLE 4 0xFFFFFE ++ putLE 4 0xFFFFFF ++ zeros 4

def camSettingsReset : CamSettings :=
  { port := camPortReset
    geom := camGeomReset
    linear := zeros 4
    cfa := zeros 4
    wb := camWbReset
    matrix := camMatrixReset
    toneR := camToneReset
    toneG := camToneReset
    toneB := camToneReset
    streams := List.replicate 4 camStreamReset
    stats := camStatsReset }

/-- A port at reset. -/
def resetCamPort : CamPort := { set := camSettingsReset, exposure := camExposureReset }

/-! ### Fusion (12) -/

/-- A sample of a source (R329 to R332): what its input descriptor says of it. -/
structure Sample where
  source  : Nat
  /-- Mast time it describes, and the tick of that instant. -/
  stamp   : Nat
  tick    : Nat
  seq     : Nat
  /-- Stream settings of a camera frame (R347). -/
  stream  : Bytes
  partial_ : Bool
  uncertain : Bool
  dimX    : Nat
  dimY    : Nat
  pitch   : Nat
  address : Nat
  gen     : Nat
  tag     : Nat
  /-- The values of a scalar group (R332). -/
  values  : List Int := []
deriving DecidableEq, Repr

/-- A frame on its way to the engine as a sample of a source (R330). -/
structure FrameSample where
  /-- Tick of its arrival. -/
  due    : Nat
  sample : Sample
deriving DecidableEq, Repr

/-- A scan being received (R331). -/
structure Scan where
  number : Nat
  /-- Index the next datagram must carry. -/
  next   : Nat
  /-- Points received, those beyond `PC_MAX_POINTS` left out. -/
  points : Bytes
  total  : Nat
deriving DecidableEq, Repr

/-- A source with its counters (Table 12-15). -/
structure FusSource where
  cfg      : Bytes
  used     : Nat := 0
  late     : Nat := 0
  surplus  : Nat := 0
  unused   : Nat := 0
  rejected : Nat := 0
  maxLate  : Nat := 0
  lastStamp : Nat := 0
  /-- Latest value taken of each element of a scalar group. -/
  values   : Tbl Int := []
  /-- Samples completed by a scalar group. -/
  completed : Nat := 0
  scan     : Option Scan := none
deriving DecidableEq, Repr

/-- A round descriptor with its counters (Table 12-14). -/
structure FusRound where
  cfg      : Bytes
  /-- Number of the next round. -/
  next     : Nat := 0
  number   : Nat := 0
  presence : Nat := 0
  flags    : Nat := 0
  run      : Nat := 0
  waited   : Nat := 0
  late     : Nat := 0
  skipped  : Nat := 0
  maxIssue : Nat := 0
deriving DecidableEq, Repr

/-- A round whose instant has come and that is not issued (R335, R336), with its descriptor. -/
structure OpenRound where
  round  : Nat
  number : Nat
  cfg    : Bytes
  /-- T: Mast time, grid time and tick. -/
  instant : Nat
  grid    : Nat
  tick    : Nat
  cands   : List Sample
deriving DecidableEq, Repr

/-- A round that has been issued or skipped: its window, for samples that come later (R335, R337).
Log 86: DEDUCED, unsafe. -/
structure PastRound where
  round   : Nat
  number  : Nat
  sources : Nat
  /-- Tick of its instant. -/
  tick    : Nat
  wait    : Nat
  /-- Tick of its issue; none: it was skipped. -/
  issued  : Option Nat
  /-- Sources that gave it a candidate. -/
  had     : List Nat
deriving DecidableEq, Repr

/-- The round the engine runs. -/
structure RunRound where
  round    : Nat
  number   : Nat
  cfg      : Bytes
  /-- Output header but for `FLAGS` at 0x0006. -/
  head     : Bytes
  flags    : Nat
  bytes    : Nat
  useState : Bool
  /-- The network is complete: the number of the free value that its output is. -/
  output   : Option Nat
  /-- The round has read an uncorrectable byte: its record has `OUTPUT_VALID` clear (16 Table 16-6). -/
  spoiled  : Bool := false
deriving DecidableEq, Repr

/-- A round record that waits for its release slot (R338 to R340). -/
structure Release where
  round    : Nat
  number   : Nat
  /-- Release slot, on grid time. -/
  slot     : Nat
  instant  : Nat
  presence : Nat
  flags    : Nat
  entry    : Nat
  issueUs  : Nat
  written  : Bool
  /-- The round has read an uncorrectable byte (16 Table 16-6). -/
  spoiled  : Bool := false
deriving DecidableEq, Repr

/-- A network slot (R346): 0 empty, 1 loading, 2 invalid, 3 valid and copying, 4 ready. -/
structure NetSlot where
  state  : Nat := 0
  length : Nat := 0
  crc    : Nat := 0
  data   : Bytes := []
deriving DecidableEq, Repr

/-- The Canvas fusion engine. -/
structure FusSt where
  sources  : Tbl FusSource := []
  rounds   : Tbl FusRound := []
  canvas   : Bytes
  /-- Network slots; stored in flash. -/
  slots    : Tbl NetSlot := []
  /-- Position records taken, oldest first (R326). -/
  poses    : List NavRec := []
  /-- Record of the most recent round with `EGO_PRESENT` since the last state reset. -/
  prevPose : Option NavRec := none
  resX     : Int := 0
  resY     : Int := 0
  /-- Heading residual, 2^-24 rad. -/
  resH     : Int := 0
  /-- Cause of the state reset of the next round that uses state (Table 12-11). -/
  resetCause : Option Nat := some 0
  /-- The state buffer written last, and the other. -/
  grid     : GridBuf := {}
  spare    : GridBuf := {}
  /-- Which of the two buffers was written last. -/
  gridAt   : Nat := 0
  open_    : List OpenRound := []
  past     : List PastRound := []
  running  : Option RunRound := none
  releases : List Release := []
  frames   : List FrameSample := []
deriving DecidableEq, Repr

/-- A source at reset (Table 12-3). -/
def fusSourceReset : Bytes :=
  zeros 6 ++ putLE 2 50500 ++ putLE 4 65536 ++ [2#8] ++ zeros 43

/-- A round at reset (Table 12-5). -/
def fusRoundReset : Bytes := zeros 8 ++ putLE 4 1 ++ [2#8] ++ zeros 3 ++ putLE 4 0x00400000 ++ zeros 12

/-- The engine at reset (Table 12-13). -/
def resetFus : FusSt := { canvas := putLE 2 384 ++ putLE 2 256 ++ zeros 12 }

/-! ### CAN (14) -/

/-- `CAN_SET_PORT` at reset (Table 14-12). -/
def canPortReset : Bytes :=
  [0#8, 4#8] ++ putLE 2 63 ++ [16#8, 16#8, 2#8, 15#8, 4#8, 4#8, 0#8, 4#8] ++ putLE 2 0x01FF ++ putLE 2 1000 ++ zeros 16

/-- A frame in a transmit queue, with the tick it entered. -/
structure TxFrame where
  frame : CanFrame
  at_   : Nat
deriving DecidableEq, Repr

/-- A CAN port (Table 14-14). -/
structure CanPort where
  cfg       : Bytes := canPortReset
  /-- Filters by number (Table 14-5). -/
  filters   : Tbl Bytes := []
  /-- 0 disabled, 1 integrating, 2 error-active, 3 error-passive, 4 bus-off, 5 recovering, 6 listen-only, 7 detecting. -/
  state     : Nat := 0
  tec       : Nat := 0
  rec_      : Nat := 0
  queue     : List TxFrame := []
  /-- Settings that wait for the end of the frame on the bus (R391). -/
  next      : Option Bytes := none
  /-- Tick at which the state, or the candidate, was entered. -/
  since     : Nat := 0
  detected  : Nat := 0
  /-- Candidate the port listens at, and good frames on it (R390). -/
  candidate : Nat := 0
  good      : Nat := 0
  rx0       : Nat := 0
  rx1       : Nat := 0
  txFrames  : Nat := 0
  rxFrames  : Nat := 0
  rejected  : Nat := 0
  overflow  : Nat := 0
  refused   : Nat := 0
  flushed   : Nat := 0
  busOffs   : Nat := 0
  errors    : Nat := 0
  arbLost   : Nat := 0
  maxLatency : Nat := 0
deriving DecidableEq, Repr

end Sys2Proof.Machine
end

