-- ==== Sys2Proof/Machine/StateNet.lean ====
section
/-!
DEFINITION. State of the Stay links, the cascade and the Ethernet ports (15).
-/
namespace Sys2Proof.Machine
open Sys2Proof

/-- A Stay port. -/
structure StayPort where
  up        : Bool := false
  /-- Address of the neighbour, once a frame of its has come (R397). -/
  neighbour : Option Nat := none
  /-- Twice the link delays measured, ns, newest first: at most eight (R404). -/
  delays    : List Int := []
  /-- t1 of the request that waits for its response. -/
  asked     : Option Nat := none
  /-- Due tick of the next request. -/
  askAt     : Nat := 0
  /-- The frames in transmission and waiting: where each ends, in tenths of a tick, and whether it goes before those that wait
  in the queue (R403). -/
  ends      : List (Nat × Bool) := []
deriving DecidableEq, Repr

/-- A station in the master's table (Table 15-10). -/
structure Member where
  state     : Nat := 0
  lanesDown : Bool := false
  autoJoin  : Bool := false
  missed    : Nat := 0
  joinedAt  : Nat := 0
  imageId   : Nat := 0
  /-- Its beacon has arrived since the last major boundary. -/
  seen      : Bool := false
deriving DecidableEq, Repr

/-- A staged change of membership (R411). -/
structure Change where
  join    : Bool
  cause   : Nat
  station : Nat
  /-- `BOUNDARY` of the control frame. -/
  number  : Nat
  /-- Grid time of the major boundary at which it applies. -/
  gridAt  : Nat
deriving DecidableEq, Repr

/-- A step of Mast time that waits for the next slot boundary (R405, R406). -/
structure SlotStep where
  /-- Δ of Mast time. -/
  delta  : Int
  /-- `GRID_SHIFT` from then on. -/
  shift  : Int
  /-- `STEP_COUNT` from then on. -/
  count  : Nat
  /-- Tick of the slot boundary. -/
  due    : Nat
deriving DecidableEq, Repr

/-- The Stay block (Table 15-9). -/
structure StaySt where
  ports       : Tbl StayPort := []
  /-- 0 alone, 1 listener, 2 member, 3 master. -/
  membership  : Nat := 0
  /-- It follows a master whose time frame it has taken. -/
  following   : Bool := false
  synced      : Bool := false
  /-- Consecutive frames with |O| below 200 ns (R405). -/
  syncRun     : Nat := 0
  masterLost  : Bool := false
  /-- Major boundaries since `MASTER_LOST` was set (R408). -/
  lostBounds  : Nat := 0
  stepSkew    : Bool := false
  master      : Nat := 0
  rank        : Nat := 255
  hops        : Nat := 0
  /-- The last O. -/
  offset      : Int := 0
  /-- Tick of the last time frame taken. -/
  frameAt     : Nat := 0
  /-- Tick at which the first Stay link came up. -/
  linkAt      : Option Nat := none
  /-- Pending step of a listener (R405), and pending shift by the master's step (R406). -/
  step        : Option SlotStep := none
  adopt       : Option SlotStep := none
  /-- `FOREIGN_MASTER` has been recorded. -/
  foreignSeen : Bool := false
  /-- On the master: the station table. -/
  stations    : Tbl Member := []
  changes     : List Change := []
  /-- Stations that have left, with the grid time of their boundary (R413). -/
  departed    : Tbl Nat := []
  /-- Header `SEQUENCE` delivered last of each signal (R402). -/
  importSeq   : Tbl Nat := []
  exports     : Nat := 0
  departedDiscards : Nat := 0
  staleDiscards    : Nat := 0
  foreignFrames    : Nat := 0
  rxDiscards       : Nat := 0
deriving DecidableEq, Repr

/-- `ETH_SET_PORT` at reset (Table 15-11). -/
def ethReset : Bytes :=
  [0#8, 128#8] ++ putLE 2 1 ++ zeros 4 ++ [24#8] ++ zeros 11 ++ putLE 2 50417 ++ zeros 10

/-- An Ethernet port (Table 15-12). -/
structure EthPort where
  cfg         : Bytes := ethReset
  up          : Bool := false
  /-- Peer delays measured, twice ns, newest first: at most eight. -/
  delays      : List Int := []
  asked       : Option Nat := none
  /-- Due tick of the next Sync, and its number (R418). -/
  syncAt      : Nat := 0
  syncs       : Nat := 0
  foreignSeen : Bool := false
  rxFrames    : Nat := 0
  txFrames    : Nat := 0
  rxDiscards  : Nat := 0
  halyardRx   : Nat := 0
  noPeer      : Nat := 0
  announces   : Nat := 0
deriving DecidableEq, Repr

end Sys2Proof.Machine
end

