-- ==== Sys2Proof/Machine/State.lean ====
section
/-!
DEFINITION. The state of the block, its fault and refusal reasons, and the state right after reset.
-/
namespace Sys2Proof.Machine
open Sys2Proof

/-- Why a command stops the model. -/
inductive Fault where
  /-- Mast time would pass 2^64 - 1 ns. Raised by every command whose `dt` reaches it: no block of the module
  handles a wrap of the count (02 R33), so the manual gives no next state. Safe: the model stops. -/
  | mastWrap
deriving DecidableEq, Repr

/-- Why a command has no meaning. -/
inductive Refusal where
  /-- The command's meaning is not written yet. Raised only by an arm of `exec`. Safe: the model stops. -/
  | notModelled (mnemonic : String)
deriving DecidableEq, Repr

/-- Everything the module holds, and the queue of the commands that are waiting. -/
structure State where
  /-- Commands waiting, the next one first. -/
  pending : List Instr := []
  time    : TimeSt
  staged  : List Staged := []
  sys     : SysSt
  sched   : SchedSt
  main    : LaneSt := {}
  mizzen  : LaneSt := {}
  /-- Receivers by `block + 256 * port` (05 R130). -/
  recvs   : Tbl Receiver := []
  xt      : XtSt
  ctrl    : CtrlSt := {}
  power   : PowerSt := {}
  sense   : SenseSt := { yield_ := resetYield }
  gnss    : GnssSt := resetGnss
  /-- Camera ports 0 to 7. -/
  cams    : Tbl CamPort := []
  fus     : FusSt := resetFus
  /-- CAN ports 0 to 11. -/
  cans    : Tbl CanPort := []
  /-- The Stay ports and the cascade. -/
  stay    : StaySt := {}
  /-- Ethernet ports 0 to 3, and the service port as 4. -/
  eths    : Tbl EthPort := []
  mem     : MemSt := {}
  rec_    : RecSt := {}
  pwr     : PwrSt
  /-- Commands that their receivers have taken and their blocks have not yet acted on (05 R132); empty between commands. -/
  taken   : List Taken := []
  /-- The model's own count of the free values it has used; no field of the hardware. -/
  free    : Nat := 0
  /-- The model's own record of what has left the module, newest last; no field of the hardware. -/
  out     : List Out := []
deriving DecidableEq, Repr

/-- The machine right after reset: a module reset by power-on has just begun, in phase 1 of the start, with D0 on and every
other domain off (18 R467, R470). Every setting stands at its reset value, and what MRAM and flash hold stands as the
module left the factory.
Log 3: DESIGN CHOICE, unsafe; log 4: DESIGN CHOICE, safe; log 5: DESIGN CHOICE, unsafe; log 6: DESIGN CHOICE, safe; log 8: DESIGN CHOICE, unsafe. -/
def State.reset : State :=
  { time := resetTime Config.leapSeconds
    sys :=
      { keys := [(2, Config.makerKey), (3, Config.factoryKey)]
        serial := Config.serial
        firmware := Config.firmwareVersion }
    sched := { image := serviceImage 0 }
    main := resetLane Config.leapSeconds
    mizzen := resetLane Config.leapSeconds
    xt := resetXt
    gnss := { resetGnss with
      data := { leap := Config.leapSeconds }
      saved := { leap := Config.leapSeconds } }
    pwr := {} }

end Sys2Proof.Machine
end

