-- ==== Sys2Proof/Machine/Ops.lean ====
section
/-!
DEFINITION. The operations every block uses: passing time, grid time, lanes, records, fan-out, trouble logs.
-/
namespace Sys2Proof.Machine
open Sys2Proof

/-! ### Passing time (02) -/

/-- `dt` ticks pass: Mast time and the tick count move on by `dt` (R34).
Log 1: DESIGN CHOICE, unsafe. -/
def State.elapse (s : State) (dt : Nat) : State :=
  { s with time := { s.time with mast := s.time.mast + dt, ticks := s.time.ticks + dt } }

/-- The largest Mast time is 2^64 - 1 (R33). -/
def mastEnd : Nat := 18446744073709551616

/-- One command: the ticks before it pass, then it has its effect.
Log 1: DESIGN CHOICE, unsafe; log 19: DESIGN CHOICE, safe. -/
def runCmd (dt : Nat) (s : State) (f : State → State) : Host.Outcome State Fault Refusal :=
  if s.time.mast + dt < mastEnd then .next (f (s.elapse dt)) else .fault .mastWrap

/-- Ticks since power-on. -/
def State.now (s : State) : Nat := s.time.ticks

/-- Grid time of the present tick (R38). -/
def State.grid (s : State) : Nat := ((s.time.mast : Int) - s.time.gridShift).toNat

/-- The Mast time that goes with grid time `g` under the present `GRID_SHIFT` (R38). -/
def State.mastOfGrid (s : State) (g : Nat) : Nat := ((g : Int) + s.time.gridShift).toNat

/-- The tick of a stamp in present Mast time (R37). -/
def State.tickOf (s : State) (stamp : Nat) : Nat := s.now + stamp - s.time.mast

/-- Slot in progress, counted from grid time 0 (R40). -/
def State.slot (s : State) : Nat := s.grid / 10000

/-- P of the image in force. -/
def State.slots (s : State) : Nat := s.sched.image.majorSlots

/-- Length of a major period, ns (R40). -/
def State.majorLen (s : State) : Nat := s.slots * 10000

/-- Major boundary number of the most recent boundary at or before grid time `g` (R40). -/
def State.majorAt (s : State) (g : Nat) : Nat := g / s.majorLen % 4294967296

/-- Major boundary number of the most recent boundary. -/
def State.major (s : State) : Nat := s.majorAt s.grid

/-- Slot of the major period in progress. -/
def State.slotInMajor (s : State) : Nat := s.slot % s.slots

/-! ### Lanes (01 R19, 05) -/

def State.lane (s : State) : Lane → LaneSt
  | .main => s.main
  | .mizzen => s.mizzen

/-- One lane changed. -/
def State.updLane (s : State) (l : Lane) (f : LaneSt → LaneSt) : State :=
  match l with
  | .main => { s with main := f s.main }
  | .mizzen => { s with mizzen := f s.mizzen }

/-- Both lanes changed alike. -/
def State.updLanes (s : State) (f : LaneSt → LaneSt) : State :=
  { s with main := f s.main, mizzen := f s.mizzen }

def State.xtLane (s : State) : Lane → XtLane
  | .main => s.xt.main
  | .mizzen => s.xt.mizzen

/-- What the Crosstree holds of one lane, changed. -/
def State.updXt (s : State) (l : Lane) (f : XtLane → XtLane) : State :=
  match l with
  | .main => { s with xt := { s.xt with main := f s.xt.main } }
  | .mizzen => { s with xt := { s.xt with mizzen := f s.xt.mizzen } }

/-- The lane runs the schedule: the grid is anchored (18 R468), no lane restart is in progress (05 R150), its clock
runs, and it is ACTIVE, STANDBY or PROBATION (05 Table 05-1). -/
def State.computes (s : State) (l : Lane) : Bool :=
  s.time.anchored && !s.xt.restart && (s.lane l).running &&
  match (s.xtLane l).state with
  | .active | .standby | .probation => true
  | .resync | .recovering | .failed => false

/-- The lane whose copies are taken: the active lane while it runs, else a running STANDBY (05 R132). -/
def State.taking (s : State) : Option Lane :=
  if s.computes s.xt.active then some s.xt.active
  else if s.computes s.xt.active.other && (s.xtLane s.xt.active.other).state == .standby
    then some s.xt.active.other
  else none

/-- Domain Dn is on (01 Table 01-7). -/
def State.domain (s : State) (n : Nat) : Bool := bitOf s.pwr.domains n

/-- Each major boundary comes once, on its tick of an anchored grid (02 R40). While it is due, what a boundary's swaps come
before waits for it (02 R55).
Log 12: DESIGN CHOICE, unsafe; log 109: DEDUCED, unsafe. -/
def State.majorDue (s : State) : Bool :=
  s.time.anchored && s.domain 0 && s.grid % s.majorLen == 0 && s.time.lastMajor != some s.grid

/-- The next free value's number is used up.
Log 2: DESIGN CHOICE, safe. -/
def State.useFree (s : State) : State := { s with free := s.free + 1 }

/-- Something leaves the module.
Log 2: DESIGN CHOICE, safe. -/
def State.emit (s : State) (o : Out) : State := { s with out := s.out ++ [o] }

/-! ### Trouble logs (17 R456, R457) -/

/-- A lane appends an entry to its trouble log: a ring of 32,768 entries. A stopped lane writes nothing. -/
def State.logTrouble (s : State) (l : Lane) (kind code : Nat) (data : Bytes) : State :=
  s.updLane l fun a =>
    if a.running then
      { a with
        trouble := (a.trouble ++ [Trouble.mk s.time.mast s.time.stepCount kind code a.troubleNext (fitTo 16 data)]).drop
          (a.trouble.length + 1 - 32768)
        troubleNext := (a.troubleNext + 1) % 4294967296 }
    else a

/-! ### Records (17 R442, R443) -/

/-- Details of 32-bit items (R443). -/
def details (l : List Int) : Bytes := (l.map (putS 4)).flatten

/-- A record of a shared block, the Crosstree or a controller starts for the recorder. While D14 is off it is lost. -/
def State.raiseAt (s : State) (mast code source resource : Nat) (d : Bytes) : State :=
  if s.domain 14 then
    let e : Event := ⟨code, source, mast, s.time.stepCount, resource, fitTo 32 d⟩
    { s with rec_ := { s.rec_ with arriving := s.rec_.arriving ++ [e] } }
  else s

/-- The same, stamped with the present Mast time. -/
def State.raise (s : State) (code source resource : Nat) (d : Bytes) : State :=
  s.raiseAt s.time.mast code source resource d

/-- A lane's record about itself, a single-lane item (R442); it also enters the lane's trouble log. -/
def State.raiseLane (s : State) (l : Lane) (code : Nat) (d : Bytes) : State :=
  if (s.lane l).running then
    (s.raise code (16 + l.code) l.code d).logTrouble l 1 code d
  else s

/-- The identifier of a local signal of an image's station (Table 03-7). -/
def Image.localId (i : Image) (n : Nat) : Nat := i.station * 8192 + n

/-! ### Fan-out (01 R22, 03 R73) -/

/-- The slot at whose start an item stamped at grid time `g` becomes visible (R73).
Log 13: DESIGN CHOICE, safe. -/
def visibleSlot (g : Nat) : Nat := if 100 ≤ 10000 - g % 10000 then g / 10000 + 1 else g / 10000 + 2

/-- A value for one signal on its way into both lanes' signal tables, with its stamp in Mast time. A lane that is down
loses its copy (R22). -/
def State.deliverSignal (s : State) (signal value stamp deliverGrid : Nat) (valid : Bool) : State :=
  s.updLanes fun a =>
    if a.running then
      let d : Delivery := ⟨visibleSlot deliverGrid, signal, value, stamp, s.tickOf stamp, valid, none⟩
      { a with deliveries := a.deliveries ++ [d] }
    else a

/-- A block's production with a stamp in Mast time: it goes to every signal defined with `SOURCE_KIND` 0x03 and this item
code (R72). -/
def State.publishMast (s : State) (code value stamp deliverGrid : Nat) (valid : Bool) : State :=
  (s.sched.image.signals.filter (fun d => d.source == 3 && d.index == code)).foldl
    (fun t d => t.deliverSignal d.id value stamp deliverGrid valid) s

/-- A block's production stamped at grid time `stampGrid`. -/
def State.publish (s : State) (code value stampGrid deliverGrid : Nat) (valid : Bool := true) : State :=
  s.publishMast code value (s.mastOfGrid stampGrid) deliverGrid valid

/-- A signed production of 32 bits. -/
def State.publishI (s : State) (code : Nat) (v : Int) (stampGrid deliverGrid : Nat) : State :=
  s.publish code (ofSigned 32 v) stampGrid deliverGrid

/-- One more lost record (R450, R451). -/
def LostRun.add (l : LostRun) (stamp : Nat) : LostRun :=
  { count := sat32 l.count 1
    first := if l.count = 0 then stamp else l.first
    last := stamp }

/-! ### Blocks and receivers -/

/-- Key of the receiver of a block: by port for CAN, Stay and Ethernet, else one for the block (05 R161). -/
def recvKey (block resource : Nat) : Nat :=
  if block = 7 ∨ block = 8 ∨ block = 9 then block + 256 * resource else block

def State.recv (s : State) (k : Nat) : Receiver := Tbl.getD s.recvs k {}

def State.updRecv (s : State) (k : Nat) (f : Receiver → Receiver) : State :=
  { s with recvs := Tbl.upd s.recvs k {} f }

/-- A discrepancy report starts for the Crosstree (05 R139). -/
def State.report (s : State) (d : Discrepancy) : State :=
  { s with xt := { s.xt with reportsInFlight := s.xt.reportsInFlight ++ [d] } }

/-- A shared block's late operation is reported as an overrun (03 R93). -/
def State.blockLate (s : State) (block op : Nat) : State :=
  let r : Overrun := ⟨255, block, op, 4, false, s.major, s.slotInMajor, s.slot⟩
  { s with xt := { s.xt with overrunsInFlight := s.xt.overrunsInFlight ++ [r] } }

end Sys2Proof.Machine
end

