-- ==== Sys2Proof/Machine/StayCore.lean ====
section
/-!
DEFINITION. The Stay links and the Ethernet ports (15), first part: the cascade table, how frames leave, export items.
-/
namespace Sys2Proof.Machine
open Sys2Proof

/-! ### The cascade table (Table 15-2) -/

def cascadeId (c : Bytes) : Nat := u64 c 0
def cascadeMaster (c : Bytes) : Nat := u16 c 8 % 4096
def cascadeAbsent (c : Bytes) : Nat := u8 c 0x1A
def portEnabled (c : Bytes) (p : Nat) : Bool := flagAt c 0x1C p && decide (p < 4)
def treePort (c : Bytes) (p : Nat) : Bool := flagAt c 0x1C (4 + p) && decide (p < 4)
def cascadeAutoJoin (c : Bytes) : Bool := flagAt c 0x1D 4
/-- `SUCCESSOR_r`. -/
def successor (c : Bytes) (r : Nat) : Nat := u16 c (0x0C + 2 * (r - 1))
/-- `ROUTE` to a station. -/
def route (c : Bytes) (station : Nat) : Nat := u8 c (0x20 + station)

/-- The cascade table in force; empty where the image has none. -/
def State.cascade (s : State) : Bytes := s.sched.image.cascade.getD []

/-- The station runs in a cascade (R399). -/
def State.inCascade (s : State) : Bool := s.sched.image.cascade.isSome

/-- Rank of a station in the list of successors, if it is in it (R408). -/
def successorRank (c : Bytes) (station : Nat) : Option Nat :=
  [1, 2, 3, 4, 5, 6, 7].find? (fun r => successor c r == station)

def State.updStay (s : State) (f : StaySt → StaySt) : State := { s with stay := f s.stay }
def State.stayPort (s : State) (p : Nat) : StayPort := Tbl.getD s.stay.ports p {}
def State.updStayPort (s : State) (p : Nat) (f : StayPort → StayPort) : State :=
  s.updStay fun x => { x with ports := Tbl.upd x.ports p {} f }
def State.eth (s : State) (p : Nat) : EthPort := Tbl.getD s.eths p {}
def State.updEth (s : State) (p : Nat) (f : EthPort → EthPort) : State := { s with eths := Tbl.upd s.eths p {} f }

/-- A record of a Stay port, or of an Ethernet port. -/
def State.raiseStay (s : State) (code resource : Nat) (l : List Int) : State := s.raise code 8 resource (details l)
def State.raiseEth (s : State) (code resource : Nat) (l : List Int) : State := s.raise code 9 resource (details l)

/-- Frames discarded and counted in `RX_DISCARDS`. -/
def State.stayDiscard (s : State) : State := s.updStay fun x => { x with rxDiscards := sat32 x.rxDiscards 1 }

/-! ### Frames on a port (R397, R403) -/

/-- A Stay frame's header and body (Table 15-1), filled up to the smallest MAC payload. -/
def stayPayload (kind source dest : Nat) (broadcast : Bool) (hops seq : Nat) (body : Bytes) : Bytes :=
  let p := putLE 1 1 ++ putLE 1 kind ++ putLE 2 source ++ putLE 2 (dest + 4096 * b2n broadcast) ++ putLE 1 hops ++ zeros 1 ++
    putLE 4 seq ++ putLE 2 body.length ++ zeros 2 ++ body
  fitTo (max 46 p.length) p

/-- Time of a frame on the wire, tenths of a tick: 0.8 ns for each byte, with preamble, header, check sequence and gap.
Log 89: DEDUCED, unsafe. -/
def wireTenths (payload : Bytes) : Nat := 8 * (38 + max 46 payload.length)

/-- Frames of a port that have not ended at `now`, tenths of a tick: the one in transmission, then those that wait. -/
def StayPort.live (p : StayPort) (now : Nat) : List (Nat × Bool) := p.ends.filter (fun e => decide (now < e.1))

/-- The frames that go before a new one: a time or peer-delay frame waits only for the one in transmission and for earlier
frames of its kind (R403). -/
def StayPort.ahead (p : StayPort) (now : Nat) (first : Bool) : List (Nat × Bool) :=
  let l := p.live now
  if first then l.take 1 ++ (l.drop 1).takeWhile (·.2) else l

/-- When the next frame of a port starts. -/
def StayPort.start (p : StayPort) (now : Nat) (first : Bool) : Nat :=
  match (p.ahead now first).getLast? with
  | some e => e.1
  | none => now

/-- The queue of the other frames holds 1,024. -/
def StayPort.full (p : StayPort) (now : Nat) : Bool := decide (1024 ≤ (((p.live now).drop 1).filter (fun e => !e.2)).length)

/-- A frame of `len` tenths is to be sent by a port.
Log 89: DEDUCED, unsafe. -/
def StayPort.enqueue (p : StayPort) (now len : Nat) (first : Bool) : StayPort :=
  let before := p.ahead now first
  let after := (p.live now).drop before.length
  { p with ends := before ++ (p.start now first + len, first) :: after.map (fun e => (e.1 + len, e.2)) }

/-- How long, in tenths of a tick, a frame waits that is sent on a port now. -/
def State.stayWait (s : State) (p : Nat) (first : Bool) : Nat := (s.stayPort p).start (10 * s.now) first - 10 * s.now

/-- A frame leaves by a Stay port that is up; the destination is the neighbour, or every station while it is not known
(R397). -/
def State.stayOut (s : State) (p : Nat) (first : Bool) (payload : Bytes) : State :=
  let x := s.stayPort p
  if !s.domain 13 || !x.up then s
  else if !first && x.full (10 * s.now) then s.stayDiscard
  else
    (s.updStayPort p fun x => x.enqueue (10 * s.now) (wireTenths payload) first).emit
      (.stay p (x.neighbour.getD 0xFFFFFFFFFFFF) (Config.macAddress p) payload)

/-- A broadcast leaves by every tree port but `except`. -/
def State.stayBroadcast (s : State) (except : Option Nat) (first : Bool) (payload : State → Nat → Bytes) : State :=
  ((upto 4).filter (fun p => treePort s.cascade p && some p != except)).foldl (fun t p => t.stayOut p first (payload t p)) s

/-- A frame for another station leaves by its route; without one it is discarded and counted (R398). -/
def State.stayUnicast (s : State) (dest : Nat) (payload : Bytes) : State :=
  let r := route s.cascade dest
  if !s.inCascade then s
  else if 3 < r then s.stayDiscard
  else s.stayOut r false payload

/-- A Halyard packet for another station (R414). -/
def State.stayPacket (s : State) (station : Nat) (packet : Bytes) : State :=
  s.stayUnicast station (stayPayload 2 s.sys.station station false 0 0 packet)

/-- An export item is taken (R401, Table 15-3): a member, or the master, broadcasts it. -/
def State.takeExport (s : State) (item seq : Nat) (c : Copy) : State :=
  let id := s.sched.image.localId (item - 0x8000)
  match c.more with
  | (flags, recordSeq, _) :: _ =>
    if s.stay.membership < 2 then s.updStay fun x => { x with exports := sat32 x.exports 1 }
    else
      let body := putLE 4 id ++ putLE 4 flags ++ putLE 8 c.stamp ++ putLE 16 c.value ++ putLE 4 recordSeq ++ zeros 4
      s.stayBroadcast none false fun t _ => stayPayload 1 t.sys.station 0 true 0 seq body
  | [] => s

/-! ### Ethernet ports (Table 15-11) -/

def eEnable (c : Bytes) : Bool := flagAt c 0 0
def eGptp (c : Bytes) : Bool := flagAt c 0 2
def eVlan (c : Bytes) : Option Nat := if flagAt c 0 3 then some (u16 c 2 % 4096) else none
def eAddress (c : Bytes) : Nat := u32 c 4
def ePrefix (c : Bytes) : Nat := u8 c 8
def eGateway (c : Bytes) : Nat := u32 c 12
def ePeer (c : Bytes) : Nat := u32 c 16

/-- A frame leaves by an Ethernet port that is up.
Log 97: DEDUCED, unsafe. -/
def State.ethOut (s : State) (p : Nat) (o : Out) : State :=
  if !s.domain 13 || !(s.eth p).up then s
  else (s.updEth p fun x => { x with txFrames := sat32 x.txFrames 1 }).emit o

/-- A mailbox packet to the configured peer of a port (R417). -/
def State.ethMail (s : State) (p : Nat) (packet : Bytes) : State :=
  if !s.domain 13 || decide (3 < p) then s
  else if ePeer (s.eth p).cfg = 0 then s.updEth p fun x => { x with noPeer := sat32 x.noPeer 1 }
  else s.ethOut p (.mailEth p packet)

end Sys2Proof.Machine
end

