-- ==== Sys2Proof/Machine/Receive.lean ====
section
/-!
DEFINITION. Receivers: how the copies of both lanes are paired, taken and compared (05 R129 to R140), and the items that are
no signal's value: commands, replies, mailbox packets, records of the command path and change-log entries.
-/
namespace Sys2Proof.Machine
open Sys2Proof

/-! ### Receiver modes (R129) -/

/-- Receiver modes (Table 05-1). -/
inductive Mode where
  | use
  | fallback
  | compare
  | ignore
deriving DecidableEq, Repr

/-- The code of a lane state (Table 05-1). -/
def LaneState.code : LaneState → Nat
  | .active => 0
  | .standby => 1
  | .probation => 2
  | .resync => 3
  | .recovering => 4
  | .failed => 5

def LaneState.mode : LaneState → Mode
  | .active => .use
  | .standby => .fallback
  | .probation => .compare
  | .resync => .ignore
  | .recovering => .ignore
  | .failed => .ignore

/-- The adoption flag of a lane (08 R237). -/
def State.adopted (s : State) : Lane → Bool
  | .main => s.power.adoptedMain
  | .mizzen => s.power.adoptedMizzen

/-- The mode in which a block's receiver treats a lane: by its state, and Ignore where the power-channel block has not
adopted it (08 R237). -/
def State.mode (s : State) (block : Nat) (l : Lane) : Mode :=
  if block == 1 && !s.adopted l then .ignore else (s.xtLane l).state.mode

/-- The block a receiver key names. -/
def keyBlock (k : Nat) : Nat := k % 256

/-- Opcodes that change the power channels: the block takes them only from a lane it has adopted (08 R237).
Log 50: DEDUCED, unsafe. -/
def changesChannels (opcode : Nat) : Bool := [0x0601, 0x0605, 0x0606, 0x0608, 0x0609, 0x060A].contains opcode

/-- The adoption flag governs the item: every item but reads and adoption itself (08 R237). -/
def Copy.needsAdoption (c : Copy) : Bool :=
  match c.cargo with
  | .command opcode _ _ => changesChannels opcode
  | _ => true

/-! ### What a receiver knows while it judges -/

/-- The lanes as a receiver sees them, and its stamp. -/
structure RecvView where
  block    : Nat
  active   : Lane
  /-- The mode of each lane's state, and its adoption flag. -/
  mode     : Lane → Mode
  adopted  : Lane → Bool
  now      : Nat
  mast     : Nat

/-- The mode in which a copy of a lane is treated. -/
def RecvView.modeOf (v : RecvView) (l : Lane) (c : Copy) : Mode :=
  if v.block == 1 && !v.adopted l && c.needsAdoption then .ignore else v.mode l

def State.view (s : State) (k : Nat) : RecvView :=
  { block := keyBlock k
    active := s.xt.active
    mode := fun l => (s.xtLane l).state.mode
    adopted := s.adopted
    now := s.now
    mast := s.time.mast }

/-! ### Pairs (R131 to R136) -/

def Pair.copy (p : Pair) : Lane → Option Copy
  | .main => p.main
  | .mizzen => p.mizzen

def Pair.setCopy (p : Pair) (l : Lane) (c : Option Copy) : Pair :=
  match l with
  | .main => { p with main := c }
  | .mizzen => { p with mizzen := c }

/-- Two records of the same item. -/
def Pair.same (p q : Pair) : Bool := p.resource == q.resource && p.item == q.item && p.seq == q.seq

/-- A copy that the pair holds. -/
def Pair.anyCopy (p : Pair) : Copy := (p.main.orElse fun _ => p.mizzen).getD Cargo.none.copy

/-- The receiver waits for, or compares, a lane's copy of the item. -/
def RecvView.expects (v : RecvView) (p : Pair) (l : Lane) : Bool := v.modeOf l p.anyCopy != .ignore

/-- The open pair of an item. -/
def Receiver.pairOf (v : Receiver) (resource item seq : Nat) : Option Pair :=
  v.pairs.find? (fun p => p.resource == resource && p.item == item && p.seq == seq)

/-- The record of an item replaced. -/
def Receiver.setPair (v : Receiver) (q : Pair) : Receiver :=
  { v with pairs := v.pairs.map (fun p => if p.same q then q else p) }

/-- The pair closes. -/
def Receiver.dropPair (v : Receiver) (q : Pair) : Receiver := { v with pairs := v.pairs.filter (fun p => !p.same q) }

/-- Counts an event for one lane. -/
def Receiver.countTaken (v : Receiver) (l : Lane) : Receiver :=
  { v with
    takenMain := sat32 v.takenMain (if l = .main then 1 else 0)
    takenMizzen := sat32 v.takenMizzen (if l = .mizzen then 1 else 0) }

/-- A receiver at work, with what it has taken and reported so far, in order. -/
structure Judging where
  recv    : Receiver
  taken   : List Taken := []
  reports : List Discrepancy := []
deriving DecidableEq, Repr

def Judging.upd (j : Judging) (f : Receiver → Receiver) : Judging := { j with recv := f j.recv }

/-- Code of a lane in a report: 0, 1 or 0xFF. -/
def laneCode : Option Lane → Nat
  | some l => l.code
  | none => 255

/-- Item codes above the 16 bits of a transfer's number the model's streams of other items. -/
def reportItem (item : Nat) : Nat := if item < 65536 then item else 0

/-- A discrepancy report about a pair (Table 05-2). -/
def Judging.report (v : RecvView) (j : Judging) (q : Pair) (kind : Nat) : Judging :=
  { j with reports := j.reports ++
      [⟨v.block, q.resource, kind, laneCode q.taken, reportItem q.item, q.seq, q.stamp % 4294967296⟩] }

/-- The item is taken from a lane; `late` counts a late-active event (R132, R133). -/
def Judging.takePair (v : RecvView) (l : Lane) (late : Bool) (j : Judging) (q : Pair) : Judging :=
  match q.copy l with
  | none => j
  | some c =>
    { j with
      recv := { ((j.recv.setPair { q with taken := some l, window := none }).countTaken l) with
        lateActive := sat32 j.recv.lateActive (b2n late) }
      taken := j.taken ++ [⟨v.block, q.resource, q.item, q.seq, c⟩] }

/-- A pair that holds every copy it waits for is compared and closed (R134). -/
def Judging.finishPair (v : RecvView) (resource item seq : Nat) (j : Judging) : Judging :=
  match j.recv.pairOf resource item seq with
  | none => j
  | some q =>
    let has (l : Lane) : Bool := (q.copy l).isSome || !v.expects q l
    if q.taken.isSome && has .main && has .mizzen then
      let j1 := j.upd fun x => x.dropPair q
      match q.main, q.mizzen with
      | some a, some b =>
        if a = b then j1
        else (j1.upd fun x => { x with mismatch := sat32 x.mismatch 1 }).report v q 1
      | _, _ => j1
    else j

/-- The pair limit is reached: each copy that should be there and is not counts as missing, an item never taken as
lost (R134, R503). -/
def Judging.limitPair (v : RecvView) (j : Judging) (q : Pair) : Judging :=
  let miss (l : Lane) : Bool := (q.copy l).isNone && v.expects q l
  let j1 := j.upd fun x =>
    { (x.dropPair q) with
      missingMain := sat32 x.missingMain (b2n (miss .main))
      missingMizzen := sat32 x.missingMizzen (b2n (miss .mizzen))
      lost := sat32 x.lost (b2n q.taken.isNone) }
  let j2 := if miss .main then j1.report v q 2 else j1
  if miss .mizzen then j2.report v q 3 else j2

/-- Dedup windows that are due at or before tick `t` take the standby's copy (R132). -/
def Judging.expireWindows (v : RecvView) (t : Nat) (ok : Pair → Bool) (j : Judging) : Judging :=
  let due := j.recv.pairs.filter fun p => ok p && (match p.window with
    | some w => decide (w ≤ t)
    | none => false)
  due.foldl (Judging.takePair v v.active.other true) j

/-- Pair limits that are due at or before tick `t` close their pairs (R134). -/
def Judging.expireLimits (v : RecvView) (t : Nat) (ok : Pair → Bool) (j : Judging) : Judging :=
  (j.recv.pairs.filter (fun p => ok p && decide (p.limit ≤ t))).foldl (Judging.limitPair v) j

/-- `a` lies below `b` in the order of wrapping sequence numbers. -/
def seqBelow (a b : Nat) : Bool := decide (1 ≤ wrapDiff b a) && decide (wrapDiff b a ≤ 2147483647)

/-- The active copy of item `seq` ends the wait on every open pair below it in its stream: oldest first, each that holds
the standby's copy takes it (R133). -/
def Judging.endWaits (v : RecvView) (resource item seq : Nat) (j : Judging) : Judging :=
  let other := v.active.other
  let wait := j.recv.pairs.filter fun p =>
    p.resource == resource && p.item == item && seqBelow p.seq seq && p.taken.isNone && (p.copy other).isSome &&
    v.modeOf other p.anyCopy == .fallback
  wait.foldl (Judging.takePair v other true) j

/-- What an arrived copy does once its pair is open (R132, R133): items of a stream are taken in ascending order. -/
def Judging.useCopy (v : RecvView) (l : Lane) (i : Item) (opened : Bool) (j : Judging) : Judging :=
  let j1 := match v.modeOf l i.copy with
    | .use =>
      let j0 := j.endWaits v i.resource i.item i.seq
      match j0.recv.pairOf i.resource i.item i.seq with
      | some q => if q.taken.isNone then j0.takePair v l false q else j0
      | none => j0
    | .fallback =>
      match j.recv.pairOf i.resource i.item i.seq with
      | some q =>
        if opened then j.upd fun x => x.setPair { q with window := some (v.now + x.windowNs) } else j
      | none => j
    | .compare => j
    | .ignore => j
  j1.finishPair v i.resource i.item i.seq

/-- A full pair store closes its oldest pair, as at its limit (R136). -/
def Judging.makeRoom (v : RecvView) (j : Judging) : Judging :=
  match j.recv.pairs with
  | [] => j
  | p :: _ =>
    if 1024 ≤ j.recv.pairs.length then
      (j.limitPair v p).upd fun x => { x with overflow := sat32 x.overflow 1 }
    else j

/-- A copy is discarded as stale (R131). -/
def Judging.stale (l : Lane) (j : Judging) : Judging :=
  j.upd fun x =>
    { x with
      staleMain := sat32 x.staleMain (if l = .main then 1 else 0)
      staleMizzen := sat32 x.staleMizzen (if l = .mizzen then 1 else 0) }

/-- The number a stream has in its receiver. -/
def streamKey (resource item : Nat) : Nat := resource * 131072 + item

/-- The pair a new copy opens (R131, R134). -/
def RecvView.newPair (v : RecvView) (window : Nat) (l : Lane) (i : Item) : Pair :=
  { resource := i.resource
    item := i.item
    seq := i.seq
    stamp := v.mast
    main := if l = .main then some i.copy else none
    mizzen := if l = .mizzen then some i.copy else none
    taken := none
    window := none
    limit := v.now + 2 * window }

/-- A new copy: its pair opens, and N moves to it (R131). -/
def Judging.openPair (v : RecvView) (l : Lane) (i : Item) (j : Judging) : Judging :=
  ((j.makeRoom v).upd fun x =>
    { x with
      streams := Tbl.put x.streams (streamKey i.resource i.item) i.seq
      pairs := x.pairs ++ [v.newPair x.windowNs l i] }).useCopy v l i true

/-- A copy whose number lies at or below N joins its open pair, or is stale (R131). -/
def Judging.joinPair (v : RecvView) (l : Lane) (i : Item) (j : Judging) : Judging :=
  match j.recv.pairOf i.resource i.item i.seq with
  | some q =>
    if (q.copy l).isNone then (j.upd fun x => x.setPair (q.setCopy l (some i.copy))).useCopy v l i false else j.stale l
  | none => j.stale l

/-- d of R131 for a copy's sequence number. -/
def Receiver.ahead (x : Receiver) (i : Item) : Nat :=
  wrapDiff i.seq (Tbl.getD x.streams (streamKey i.resource i.item) max32)

/-- A copy is judged by its sequence number (R131). -/
def Judging.judgeNow (v : RecvView) (l : Lane) (i : Item) (j : Judging) : Judging :=
  let d := j.recv.ahead i
  if 1 ≤ d ∧ d ≤ 1048576 then j.openPair v l i
  else if d = 0 ∨ 4293918721 ≤ d then j.joinPair v l i
  else j.stale l

/-- A copy reaches its receiver (R131 to R134). Expiries before this tick come first, those of this tick after it
(02 R57). A copy in Ignore mode is discarded and not counted (R129). -/
def Judging.judge (v : RecvView) (l : Lane) (i : Item) (j : Judging) : Judging :=
  if v.modeOf l i.copy = .ignore then j
  else ((j.expireWindows v (v.now - 1) fun _ => true).expireLimits v (v.now - 1) fun _ => true).judgeNow v l i

/-- A receiver judges: its record changes, its reports start for the Crosstree, and what it has taken is handed on. -/
def State.judging (s : State) (k : Nat) (f : RecvView → Judging → Judging) : State × List Taken :=
  let j := f (s.view k) { recv := s.recv k }
  ({ s with
    recvs := Tbl.put s.recvs k j.recv
    xt := { s.xt with reportsInFlight := s.xt.reportsInFlight ++ j.reports } }, j.taken)

/-! ### Items that are no signal's value -/

/-- Stream numbers of commands, replies, mailbox packets, records and change-log entries; they lie above the item codes of
transfers. -/
def cmdItem : Nat := 65536
def replyItem : Nat := 65537
def mailItem : Nat := 65538
def eventItem : Nat := 65539
def changeItem : Nat := 65540

/-- The number of a stream in a lane: by receiver, resource and item code (R130). -/
def laneStreamKey (block resource item : Nat) : Nat := (block * 256 + resource) * 131072 + item

/-- A lane sends its copy of an item at once to the receiver of a block; where the block is off, it is lost. -/
def State.sendCopy (s : State) (powered : Bool) (block resource item : Nat) (l : Lane) (c : Cargo) : State × List Taken :=
  let k := laneStreamKey block resource item
  let n := Tbl.getD (s.lane l).streams k 0
  let s1 := s.updLane l fun a => { a with streams := Tbl.put a.streams k ((n + 1) % 4294967296) }
  if !powered then (s1, [])
  else s1.judging (recvKey block resource) fun v j => j.judge v l ⟨block, resource, item, n, c.copy⟩

/-- A single-lane item forms no pair: it is taken from its lane's stream on arrival, whatever the lane's mode (R137). -/
def State.sendSingle (s : State) (powered : Bool) (block resource item : Nat) (l : Lane) (c : Cargo) : State × List Taken :=
  if !powered then (s, [])
  else (s.updRecv (recvKey block resource) fun v => v.countTaken l, [⟨block, resource, item, 0, c.copy⟩])

/-- The lanes that send an item, and whether it is a single-lane one. -/
structure Senders where
  lanes  : List Lane
  single : Bool
deriving DecidableEq, Repr

/-- The lanes' copies of one item reach its receiver, the active lane's first (02 R58): the state after them, and what the
receiver has taken.
Log 15: DEDUCED, unsafe. -/
def State.offer (s : State) (w : Senders) (powered : Bool) (block resource item : Nat) (c : Lane → Cargo) :
    State × List Taken :=
  w.lanes.foldl (fun x l =>
    let y := if w.single then x.1.sendSingle powered block resource item l (c l)
      else x.1.sendCopy powered block resource item l (c l)
    (y.1, x.2 ++ y.2)) (s, [])

/-- The active lane, then the other one. -/
def State.lanesInOrder (s : State) : List Lane := [s.xt.active, s.xt.active.other]

/-- The lane executes commands and sends its items: it runs the schedule or, before a start-up or rejoin boundary, it runs
(03 R502). -/
def State.sends (s : State) (l : Lane) : Bool :=
  s.computes l || ((!s.time.anchored || s.xt.restart) && (s.lane l).running)

/-- The request is one that a lane's interpreter holds. -/
def heldIn (r : Request) (l : Lane) : Bool :=
  match r.path with
  | .firmware x => x == l
  | _ => match r.only with
    | some x => x == l
    | none => true

/-- The lanes that execute a request (04 R118, R119): its own lane for lane firmware, else every lane that sends and holds
the packet. -/
def State.senders (s : State) (r : Request) : Senders :=
  match r.path with
  | .firmware l => ⟨if (s.lane l).running then [l] else [], true⟩
  | _ => ⟨s.lanesInOrder.filter fun l => s.sends l && heldIn r l, false⟩

/-- Both lanes' senders of an item that belongs to no request. -/
def State.bothSend (s : State) (p : Lane → Bool) : Senders := ⟨s.lanesInOrder.filter fun l => s.sends l && p l, false⟩

end Sys2Proof.Machine
end

