-- ==== Sys2Proof/Machine/Reserved.lean ====
section
/-!
DEFINITION. The reserved bits of the structures that replies return: they read undefined (00 R10), so a reply that reads a
structure holds free values there. The places are those of the reply tables of chapters 02 to 18.
-/
namespace Sys2Proof.Machine
open Sys2Proof

/-- The reserved bits of a reply: runs of bytes as first byte, number of bytes and mask, in a head and then in entries of
`stride` bytes from `base` on (stride 0: no entries). -/
structure ReservedMap where
  head   : List (Nat × Nat × Nat) := []
  base   : Nat := 0
  stride : Nat := 0
  entry  : List (Nat × Nat × Nat) := []
deriving DecidableEq, Repr

/-- The mask of byte `i` in a list of runs. -/
def runMask (l : List (Nat × Nat × Nat)) (i : Nat) : Nat :=
  match l.find? (fun x => decide (x.1 ≤ i ∧ i < x.1 + x.2.1)) with
  | some x => x.2.2
  | none => 0

/-- The reserved bits of byte `i` of a reply. -/
def ReservedMap.mask (m : ReservedMap) (i : Nat) : Nat :=
  if m.stride = 0 ∨ i < m.base then runMask m.head i else runMask m.entry ((i - m.base) % m.stride)

/-- The reply tables: 02-4, 04-11, 05-10, 06-1 with 06-5, 06-12, 07-3, 07-11, 07-12, 08-7, 08-8. -/
def reservedLow (opcode : Nat) : ReservedMap :=
  match opcode with
  | 0x0201 => ⟨[(0x23, 1, 0xFF)], 0, 0, []⟩
  | 0x0101 => ⟨[(3, 1, 0xF0), (5, 1, 0xF0), (6, 2, 0xFF), (0x18, 8, 0xFF)], 0, 0, []⟩
  | 0x0401 => ⟨[(3, 1, 0xFC), (0x16, 2, 0xFF), (0x1C, 4, 0xFF)], 0, 0, []⟩
  | 0x0505 => ⟨[(0, 1, 0xE0), (0xF, 1, 0xFE), (0x13, 1, 0xFE), (0x29, 3, 0xFF)], 0x2C, 28, [(0x14, 5, 0xE0), (0x19, 3, 0xFF)]⟩
  | 0x0506 => ⟨[(0, 1, 0xE0), (2, 2, 0xFF), (0x2C, 4, 0xFF)], 0, 0, []⟩
  | 0x0602 => ⟨[(3, 1, 0xFE), (0x1A, 6, 0xFF)], 0, 0, []⟩
  | 0x0603 => ⟨[(2, 1, 0xE0), (3, 1, 0xFF), (0x16, 2, 0xFF)], 0, 0, []⟩
  | 0x0604 => ⟨[(2, 1, 0xFE), (3, 1, 0xFF), (0xA, 1, 0xFE), (0xB, 1, 0xFF), (0x12, 1, 0xFE), (0x13, 1, 0xFF), (0x1A, 1, 0xFE),
      (0x1B, 1, 0xFF), (0x26, 2, 0xFF)], 0, 0, []⟩
  | 0x0607 => ⟨[(1, 1, 0x80), (0xC, 4, 0xFF)], 0, 0, []⟩
  | 0x060B | 0x060C => ⟨[(4, 1, 0xF8), (5, 3, 0xFF)], 0, 0, []⟩
  | _ => {}

/-- The reply tables: 09-9, 09-14, 10-12, 12-14 to 12-16, 13-19, 15-9, 15-10, 15-12, 16-11, 16-13, 17-9 with 17-3 and
04-9, 17-11, 18-10. -/
def reservedHigh (opcode store : Nat) : ReservedMap :=
  match opcode with
  | 0x0705 => ⟨[(1, 1, 0xC0), (2, 2, 0xFF)], 0, 0, []⟩
  | 0x0709 => ⟨[(0, 1, 0xF8), (1, 3, 0xFF), (0x54, 4, 0xFF)], 0, 0, []⟩
  | 0x0806 => ⟨[(1, 1, 0xF8)], 0, 0, []⟩
  | 0x0908 => ⟨[(0x1C, 4, 0xFF)], 0, 0, []⟩
  | 0x0909 => ⟨[(1, 3, 0xFF), (0x1C, 4, 0xFF)], 0, 0, []⟩
  | 0x090A => ⟨[], 0, 16, [(1, 3, 0xFF)]⟩
  | 0x0A06 => ⟨[(1, 1, 0xC0), (5, 1, 0xFF), (7, 1, 0xF0), (0x2C, 4, 0xFF)], 0, 0, []⟩
  | 0x0C03 => ⟨[(1, 1, 0xF8), (3, 1, 0xF0), (7, 1, 0xFF)], 0, 0, []⟩
  | 0x0C04 => ⟨[(1, 1, 0xFC), (3, 1, 0xFF)], 0, 0, []⟩
  | 0x0C06 => ⟨[(1, 1, 0xFE), (2, 2, 0xFF)], 0, 0, []⟩
  | 0x0D03 => ⟨[(5, 1, 0xFC), (7, 1, 0xFF)], 0x20, 32, [(0x1B, 1, 0xFE), (0x1C, 4, 0xFF)]⟩
  | 0x0D07 => ⟨[(0x1A, 6, 0xFF), (0x34, 4, 0xFF)], 0, 0, []⟩
  | 0x0E01 =>
    if store = 1 then ⟨[(5, 3, 0xFF)], 16, 64, [(0xF, 1, 0xFF), (0x1E, 2, 0xFF), (0x3C, 4, 0xFF)]⟩
    else ⟨[(5, 3, 0xFF)], 16, 64, [(5, 1, 0xF0), (7, 1, 0xF8), (0x1D, 3, 0xFF)]⟩
  | 0x0E02 => ⟨[(5, 3, 0xFF)], 0, 0, []⟩
  | 0x0E03 => ⟨[(0, 1, 0xFE), (1, 1, 0xFF)], 0, 0, []⟩
  | 0x0F02 => ⟨[(5, 1, 0xFF), (6, 1, 0xF0), (7, 1, 0xFF), (0x2C, 4, 0xFF)], 0, 0, []⟩
  | _ => {}

/-- The reserved bits of an opcode's reply. -/
def reservedMap (opcode : Nat) (r : Request) : ReservedMap :=
  if opcode < 0x0700 then reservedLow opcode else reservedHigh opcode (u8 r.payload 4)

/-- The reserved bits of a reply by its status: those after `FIELD_OFFSET` in `BAD_PARAMETER` (R115) and after `ERROR_CODE`
in `IMAGE_INVALID` and `NET_INVALID` (Tables 03-17, 12-18), else those of the structure that the opcode reads.
Log 16: DEDUCED, safe. -/
def replyMap (opcode : Nat) (r : Request) (status : Nat) : ReservedMap :=
  if status = 0x15 then ⟨[(2, 2, 0xFF)], 0, 0, []⟩
  else if status = 0x40 ∧ (opcode = 0x0303 ∨ opcode = 0x0907) then ⟨[(6, 2, 0xFF)], 0, 0, []⟩
  else reservedMap opcode r

/-- The reply has reserved bits. -/
def ReservedMap.any (m : ReservedMap) : Bool := m.head != [] || m.entry != []

/-- A payload with its reserved bits free: from byte `i` on, by the number of the free value.
Log 16: DEDUCED, safe. -/
def blurFrom (m : ReservedMap) (free : Nat) : Nat → Bytes → Bytes
  | _, [] => []
  | i, b :: p =>
    let k : Byte := BitVec.ofNat 8 (m.mask i)
    (if k = 0#8 then b else (b &&& ~~~k) ||| (Config.reserved free i &&& k)) :: blurFrom m free (i + 1) p

end Sys2Proof.Machine
end

