-- ==== Sys2Proof/Machine/Halyard.lean ====
section
/-!
DEFINITION. Halyard requests from step 9 of Table 04-3 on: role, target, lengths, fields, boundary, the block's checks,
staging, replies and change-log entries (02 R47 to R54, 04 R109 to R125). Every opcode is one `OpSpec`.
-/
namespace Sys2Proof.Machine
open Sys2Proof

/-! ### Core status codes (Table 04-5) -/

def stOk : Nat := 0x00
def stStaged : Nat := 0x01
def stSuperseded : Nat := 0x02
def stBadOpcode : Nat := 0x10
def stLengthExceeds : Nat := 0x11
def stBadCrc : Nat := 0x12
def stNotAuthorised : Nat := 0x13
def stBadTarget : Nat := 0x14
def stBadParameter : Nat := 0x15
def stNotAdopted : Nat := 0x16
def stScheduleConflict : Nat := 0x17
def stSequenceStale : Nat := 0x18
def stOriginFull : Nat := 0x19

/-- The payload of a `BAD_PARAMETER` reply: `FIELD_OFFSET` and 16 reserved bits (R115). -/
def fieldOffset (off : Nat) : Bytes := putLE 2 off ++ zeros 2

/-- A `BAD_PARAMETER` answer naming a field. -/
def badParam (off : Nat) : Nat × Bytes := (stBadParameter, fieldOffset off)

/-! ### Origin (Table 04-2) -/

def originStation (o : Nat) : Nat := bitsOf o 0 12
def originKind (o : Nat) : Nat := bitsOf o 12 4
def originIndex (o : Nat) : Nat := bitsOf o 16 12
def originRole (o : Nat) : Nat := bitsOf o 28 2
def originLane (o : Nat) : Nat := bitsOf o 30 2

/-- `ROLE` of a request. -/
def roleOf (r : Request) : Nat := originRole r.origin

/-! ### Replies (R113, R114, R116) -/

/-- The 32 header bytes of a packet with its `TAG` given (Table 04-1). -/
def header (version flags opcode target sequence origin length status boundary tag : Nat) : Bytes :=
  putLE 2 0xA55A ++ [BitVec.ofNat 8 version, BitVec.ofNat 8 flags] ++ putLE 2 opcode ++ putLE 2 target ++
  putLE 4 sequence ++ putLE 4 origin ++ putLE 2 length ++ putLE 1 status ++ zeros 1 ++ putLE 4 boundary ++ putLE 8 tag

/-- A packet with its CRC-32C (R99, R100). -/
def withCrc (p : Bytes) : Bytes := p ++ putLE 4 (crc32c p)

/-- The flags byte of a reply: `REPLY` 1, `FINAL` 0 only on `STAGED` (R113). -/
def replyFlags (status : Nat) : Nat := if status = stStaged then 1 else 3

/-- A reply as a packet on the wire. -/
def Reply.packet (p : Reply) : Bytes :=
  withCrc (header p.version (if p.final then 3 else 1) p.opcode p.target p.sequence p.origin p.payload.length p.status
    p.boundary p.tag ++ p.payload)

/-- The reply to a request, tagged with the key of the role it names (R104, R113); where that key is not set, as it may not
be on the internal paths, `TAG` is 0. A request that passes step 5 has `VERSION` 1.
Log 15: DEDUCED, unsafe; log 129: DESIGN CHOICE, unsafe. -/
def State.mkReply (s : State) (opcode : Nat) (r : Request) (status boundary : Nat) (payload : Bytes) : Reply :=
  let h := header 1 (replyFlags status) opcode r.target r.sequence r.origin payload.length status boundary 0
  let tag := match Tbl.find s.sys.keys (roleOf r) with
    | some k => tagOf k (h ++ payload)
    | none => 0
  { path := r.path
    version := 1
    opcode := opcode
    target := r.target
    sequence := r.sequence
    origin := r.origin
    status := status
    final := status != stStaged
    boundary := boundary
    payload := payload
    tag := tag }

/-- `MAILBOX_DEPTH` of a task of the image; 0 where there is none. -/
def State.mailDepth (s : State) (task : Nat) : Nat :=
  match s.sched.image.tasks.find? (fun t => t.index == task) with
  | some t => t.mailDepth
  | none => 0

/-- A lane's inbound mailbox of a task has no room (R87). -/
def State.mailFull (s : State) (task : Nat) (l : Lane) : Bool :=
  decide (s.mailDepth task ≤ (Tbl.getD (s.lane l).inbound task []).length)

/-- A packet for a task's inbound mailbox in the lanes given, of those that run the schedule; for a full mailbox it is
discarded and counted (R87, R122). For a task the image does not have it is discarded (03 R96).
Log 56: DEDUCED, unsafe. -/
def State.pushMail (s : State) (ls : List Lane) (task : Nat) (packet : Lane → Bytes) : State :=
  if !s.sched.image.tasks.any (fun t => t.index == task) then s else
  let into := ls.filter s.computes
  let put (t : State) (l : Lane) : State :=
    if s.mailFull task l then t
    else t.updLane l fun a =>
      let e : MailEntry := ⟨visibleSlot s.grid, s.time.mast, packet l⟩
      { a with inbound := Tbl.put a.inbound task (Tbl.getD a.inbound task [] ++ [e]) }
  let t := into.foldl put s
  if into.any (s.mailFull task) then { t with sched := { t.sched with mailboxDrops := sat32 t.sched.mailboxDrops 1 } } else t

/-! ### Items that a receiver has taken -/

/-- A reply leaves by the port of its request, addressed to its sender (R116). -/
def State.deliverReply (s : State) (p : Reply) : State :=
  match p.path with
  | .eth n _ _ => s.ethOut n (.reply p)
  | .stay _ => s.stayPacket (originStation p.origin) p.packet
  | .service => s.emit (.reply p)
  | .mailbox _ | .initial | .firmware _ => s

/-- A mailbox packet leaves for a station over Stay, or for the configured peer of an Ethernet port (R121). -/
def State.deliverMail (s : State) (kind dest : Nat) (packet : Bytes) : State :=
  if kind = 1 then s.stayPacket (dest % 4096) packet else s.ethMail dest packet

/-- What becomes of an item that its receiver has taken, but for a signal's value; a command waits for its block. -/
def State.handOn (s : State) (t : Taken) : State :=
  match t.copy.cargo with
  | .none => s
  | .command _ _ _ => { s with taken := s.taken ++ [t] }
  | .reply p => s.deliverReply p
  | .mail kind dest packet => s.deliverMail kind dest packet
  | .event e => { s with rec_ := { s.rec_ with arriving := s.rec_.arriving ++ [e] } }
  | .change b => { s with rec_ := { s.rec_ with changeArriving := s.rec_.changeArriving ++ [b] } }

/-- Everything a receiver has taken is handed on, in order. -/
def State.handAll (x : State × List Taken) : State := x.2.foldl State.handOn x.1

/-- A record of the command path (17 R442): each lane that sends has it in its trouble log, and the recorder takes one of
their copies. -/
def State.raisePaired (s : State) (w : Senders) (code : Nat) (d : Bytes) : State :=
  let e : Event := ⟨code, 18, s.time.mast, s.time.stepCount, 255, fitTo 32 d⟩
  w.lanes.foldl (fun t l => t.logTrouble l 1 code d)
    (State.handAll (s.offer w (s.domain 14) 10 0 eventItem fun _ => .event e))

/-- A reply goes where R116 sends it: through the receiver of the port of its request, into the task's mailbox in each lane,
into the trouble logs for an initial command, or to the lane's firmware. -/
def State.sendReply (s : State) (w : Senders) (p : Lane → Reply) : State :=
  match (p s.xt.active).path with
  | .eth n _ _ => State.handAll (s.offer w (s.domain 13) 9 n replyItem fun l => .reply (p l))
  | .stay n => State.handAll (s.offer w (s.domain 13) 8 n replyItem fun l => .reply (p l))
  | .service => State.handAll (s.offer w (s.domain 13) 9 4 replyItem fun l => .reply (p l))
  | .firmware _ => w.lanes.foldl (fun t l => t.emit (.reply (p l))) s
  | .mailbox t => s.pushMail w.lanes t fun l => (p l).packet
  | .initial =>
    let q := p s.xt.active
    let s1 := w.lanes.foldl (fun t l => t.logTrouble l 3 q.opcode (putLE 1 q.status ++ q.payload.take 15)) s
    if q.status ≤ 2 then s1
    else s1.raisePaired w 0x0102 (details [(q.opcode : Int), (q.target : Int), (q.status : Int)])

/-- The answer to a request, by the lanes given, its header changed by `f`. Reserved bits of the payload read undefined (00
R10): they are free values.
Log 16: DEDUCED, safe; log 25: DEDUCED, unsafe. -/
def State.answerFrom (s : State) (w : Senders) (f : Reply → Reply) (opcode : Nat) (r : Request) (status boundary : Nat)
    (payload : Lane → Bytes) : State :=
  let m := replyMap opcode r status
  let t := s.sendReply w fun l => f (s.mkReply opcode r status boundary (blurFrom m s.free 0 (payload l)))
  if m.any ∧ payload s.xt.active ≠ [] then t.useFree else t

/-- The answer to a request, by each lane that executes it. -/
def State.answerWith (s : State) (f : Reply → Reply) (opcode : Nat) (r : Request) (status boundary : Nat)
    (payload : Lane → Bytes) : State := s.answerFrom (s.senders r) f opcode r status boundary payload

/-- The answer to a request, by each lane that executes it. -/
def State.answerEach (s : State) (opcode : Nat) (r : Request) (status boundary : Nat) (payload : Lane → Bytes) : State :=
  s.answerWith id opcode r status boundary payload

/-- The answer to a request, alike in both lanes. -/
def State.answer (s : State) (opcode : Nat) (r : Request) (status boundary : Nat) (payload : Bytes) : State :=
  s.answerEach opcode r status boundary fun _ => payload

/-! ### The change log (R124, R125) -/

/-- A change-log entry (Table 04-9). For `SYS_SET_KEY` no part of the key is written (R125). -/
def changeEntry (s : State) (kind opcode : Nat) (r : Request) (status boundary : Nat) : Bytes :=
  let isKey := opcode = 0x0102
  putLE 8 s.time.mast ++ putLE 1 s.time.stepCount ++ putLE 1 kind ++ putLE 2 opcode ++ putLE 2 r.target ++
  putLE 1 status ++ zeros 1 ++ putLE 4 r.origin ++ putLE 4 r.sequence ++ putLE 4 boundary ++
  putLE 2 r.payload.length ++ zeros 2 ++
  (if isKey then fitTo 16 (r.payload.take 4) else fitTo 16 r.payload) ++
  putLE 4 (if isKey ∨ r.payload.length = 0 then 0 else crc32c r.payload) ++ putLE 8 r.tag ++ zeros 4

/-- A state-changing command's entry is sent to the recorder by each lane that executes it (17 R455); while D14 is off it is
lost. -/
def State.logChange (s : State) (kind opcode : Nat) (r : Request) (status boundary : Nat) : State :=
  State.handAll (s.offer (s.senders r) (s.domain 14) 10 0 changeItem fun _ => .change (changeEntry s kind opcode r status boundary))

/-! ### Opcodes -/

/-- One opcode of the manual: the checks of Table 04-3 from step 9 on, and its effect. -/
structure OpSpec where
  code    : Nat
  /-- The lowest role (step 9); some opcodes make it depend on the payload. -/
  role    : Request → Nat := fun _ => 0
  kind    : SwapKind := .immediate
  /-- Block code of its receiver; 0: the lanes' interpreter itself. -/
  block   : Nat := 0
  /-- Lane firmware only. -/
  fwOnly  : Bool := false
  /-- Lane firmware may send it whatever its `ROLE` (08 R242). -/
  fwFree  : Bool := false
  /-- Answered by the lanes even without the Crosstree (R161, R480). -/
  local_  : Bool := false
  /-- It writes change-log entries (R124). -/
  logs    : Bool := true
  /-- Step 10. -/
  target  : Request → Bool := fun r => r.target == 0
  /-- Step 11: a length or count inside the payload exceeds the space behind it. -/
  exceeds : Request → Bool := fun _ => false
  /-- Step 12: the offset of the first failing field. -/
  param   : Request → Option Nat := fun r => if r.payload.length = 0 then none else some 0x0010
  /-- A read of what each lane holds itself: the payload of each lane's reply. -/
  reads   : Option (State → Lane → Request → Bytes) := none
  /-- The one lane that answers, where both execute the request (17 R459). -/
  solo    : Option (State → Request → Lane) := none
  /-- Step 14: the block's own checks; the status and payload of a refusal. -/
  check   : State → Request → Resolved → Option (Nat × Bytes) := fun _ _ _ => none
  /-- What a refusal at staging leaves behind (03 R502). -/
  refused : State → Request → Resolved → State := fun s _ _ => s
  /-- Effect of an immediate opcode, with its answer; none: answered later. -/
  run     : State → Request → State × Option (Nat × Bytes) := fun s _ => (s, some (stOk, []))
  /-- What happens between the checks and the staging (03 R502). -/
  preStage : State → Request → Resolved → State := fun s _ _ => s
  /-- Effect at staging, beside the staging itself. -/
  onStage : State → Request → Resolved → State := fun s _ _ => s

/-- `LENGTH_EXCEEDS` of a counted payload (R111): a count field in the payload at `countAt` whose entries, behind a fixed part
of `head` bytes, run past the payload. A payload shorter than its fixed part has no space for an entry. -/
def countedExceeds (head countAt size : Nat) (r : Request) : Bool :=
  decide (countAt < r.payload.length) && decide (r.payload.length < head + size * u8 r.payload countAt) &&
  (decide (head ≤ r.payload.length) || decide (1 ≤ u8 r.payload countAt))

/-- Largest crossing from the lane cores to a block's receiver, whole ns rounded up (02 Table 02-2). -/
def crossingNs (block : Nat) : Nat :=
  match block with
  | 0x03 => 30
  | 0x04 => 25
  | 0x05 => 61
  | 0x06 => 21
  | 0x07 => 71
  | 0x08 => 47
  | 0x09 => 53
  | 0x0B => 176
  | _ => 26

/-- The end of the slot in which a command executes, grid time (R49). -/
def State.slotEnd (s : State) : Nat := (s.grid / 10000 + 1) * 10000

/-- Resolution of a boundary request (R48, R49); none: not acceptable. -/
def State.resolve (s : State) (kind : SwapKind) (block request : Nat) : Option Resolved :=
  let idx := s.slotEnd / s.majorLen
  let num := idx % 4294967296
  let point := s.now + (s.slotEnd - s.grid) + crossingNs block
  match kind with
  | .immediate => some ⟨s.major, s.grid, s.now⟩
  | .major =>
    if request = 0 then some ⟨(idx + 1) % 4294967296, (idx + 1) * s.majorLen, point⟩
    else
      let d := wrapDiff request num
      if 1 ≤ d ∧ d ≤ 2147483647 then some ⟨request, (idx + d) * s.majorLen, point⟩ else none
  | .frame | .loop =>
    if request = 0 then some ⟨num, s.slotEnd, point⟩
    else
      let d := wrapDiff request num
      if 1 ≤ d ∧ d ≤ 2147483647 then
        some ⟨num, (idx + d) * s.majorLen, s.now + ((idx + d) * s.majorLen - s.grid)⟩
      else none

/-- Status of an opcode whose Crosstree is lost: `CROSSTREE_UNAVAILABLE`, `ARBITER_LOST`, `POWER_ARBITER_LOST`,
each in its own subsystem's codes (05 R504, Tables 05-15, 16-15 and 18-12). -/
def lostStatus (opcode : Nat) : Nat :=
  if opcode / 256 = 0x0F then 0x44 else if opcode / 256 = 0x0D then 0x42 else 0x43

/-- The opcode goes to the Crosstree's controller: subsystems 0x04, 0x0D and 0x0F, but for the reads the lanes answer. -/
def OpSpec.viaCrosstree (op : OpSpec) : Bool :=
  !op.local_ && (op.code / 256 == 0x04 || op.code / 256 == 0x0D || op.code / 256 == 0x0F)

/-- The staged command of an opcode and target, if one waits (R51). -/
def State.findStaged (s : State) (opcode target : Nat) : Option Staged :=
  s.staged.find? (fun e => e.opcode == opcode && e.target == target)

/-- The settings payload that will be in force at grid time `g`, counting a staging up to then (02 R53). -/
def State.payloadAt (s : State) (opcode target g : Nat) (cur : Bytes) : Bytes :=
  match s.findStaged opcode target with
  | some e => if e.gridAt ≤ g then e.req.payload else cur
  | none => cur

/-- A staged command goes without taking effect: `SUPERSEDED`, with its change-log entry (R51, R52, R124). -/
def State.withdraw (s : State) (e : Staged) : State :=
  let s1 := { s with staged := s.staged.filter (fun x => x != e) }
  (s1.answer e.opcode e.req stSuperseded e.boundary []).logChange 3 e.opcode e.req stSuperseded e.boundary

/-- A staged command is superseded; with a `SCHED_ACTIVATE` go the stagings of its initial commands (03 R502). -/
def State.supersede (s : State) (e : Staged) : State :=
  let s1 := s.withdraw e
  if e.opcode = 0x0304 ∧ !e.initial then
    (s1.staged.filter (fun x => x.initial && x.gridAt == e.gridAt)).foldl State.withdraw s1
  else s1

/-- Commands a block holds staged. -/
def State.stagedCount (s : State) (block : Nat) : Nat := (s.staged.filter (fun e => e.block == block)).length

/-- A request as it is staged: a command of the control engine is held in the engines of the lanes that execute it
(06 R162). -/
def State.heldBy (s : State) (op : OpSpec) (r : Request) : Request :=
  match op.block, (s.senders r).lanes with
  | 6, [l] => { r with only := some l }
  | _, _ => r

/-- Staging in a block (R50 to R53): an earlier staging of the same opcode and target is superseded; a block holds at
most 4,096. -/
def State.stage (s : State) (op : OpSpec) (r : Request) (z : Resolved) : State :=
  let old := s.findStaged op.code r.target
  if old = none ∧ 4096 ≤ s.stagedCount op.block then
    s.answer op.code r stScheduleConflict z.number []
  else
    let s1 := match old with
      | some e => s.supersede e
      | none => s
    let e : Staged :=
      { block := op.block
        opcode := op.code
        target := r.target
        req := s1.heldBy op r
        kind := op.kind
        boundary := z.number
        gridAt := z.gridAt
        after := z.after
        initial := r.path == .initial }
    let s2 := { s1 with staged := s1.staged ++ [e] }
    let s3 := (s2.answer op.code r stStaged z.number []).logChange 1 op.code r stStaged z.number
    op.onStage s3 r z

/-- A request that fails at step 9: answered, counted, and recorded (R109, Table 04-13). -/
def State.refuseAuth (s : State) (opcode : Nat) (r : Request) : State :=
  let s1 := { s with sys := { s.sys with notAuthorised := sat32 s.sys.notAuthorised 1 } }
  (s1.answer opcode r stNotAuthorised s.major []).raisePaired (s.senders r) 0x0101 (details [toSigned 32 r.origin, (opcode : Int)])

/-- The request is authorised for the opcode (step 9, R17, R120). -/
def OpSpec.allows (op : OpSpec) (r : Request) : Bool :=
  match r.path with
  | .firmware _ => op.fwOnly || op.fwFree || decide (op.role r ≤ roleOf r)
  | _ => !op.fwOnly && decide (op.role r ≤ roleOf r)

/-- Steps 9 to 13 of Table 04-3: the status and payload of the first failure. -/
def OpSpec.precheck (op : OpSpec) (r : Request) (z : Option Resolved) : Option (Nat × Bytes) :=
  if !op.allows r then some (stNotAuthorised, [])
  else if !op.target r then some (stBadTarget, [])
  else if op.exceeds r then some (stLengthExceeds, [])
  else match op.param r with
    | some off => some (badParam off)
    | none => match z with
      | none => some (badParam 0x0014)
      | some _ => none

/-- The domain a block's receiver lies in (01 Table 01-7); the GNSS block's settings are in D10.
Log 28: DESIGN CHOICE, safe. -/
def blockDomain (block : Nat) : Nat :=
  match block with
  | 1 => 1
  | 2 => 11
  | 3 => 8
  | 4 => 6
  | 5 => 10
  | 7 => 12
  | 8 => 13
  | 9 => 13
  | 10 => 14
  | _ => 0

/-- The block's receiver is powered: the GNSS block's while D9 or D10 is on (18 Table 18-5).
Log 28: DESIGN CHOICE, safe. -/
def State.blockOn (s : State) (block : Nat) : Bool :=
  if block = 5 then s.domain 9 || s.domain 10 else s.domain (blockDomain block)

/-- An opcode's block can take it; the time generator lies in D0.
Log 28: DESIGN CHOICE, safe; log 42: DEDUCED, unsafe. -/
def State.takes (s : State) (op : OpSpec) : Bool := op.block == 0 || op.code / 256 == 2 || s.blockOn op.block

/-- A command whose boundary has passed when it reaches its block (R50); at the boundary's own stamp it is on time. -/
def OpSpec.passed (op : OpSpec) (s : State) (z : Resolved) : Bool := op.kind == .major && decide (z.gridAt < s.grid)

/-- The answer of a command that runs at once: from each lane what it reads of its own state, from one lane alone where the
opcode says so, else the same from each lane (R118, 17 R459). -/
def OpSpec.reply (op : OpSpec) (r : Request) (z : Resolved) (status : Nat) (payload : Bytes) (s : State) : State :=
  match op.reads, op.solo with
  | some f, _ => s.answerEach op.code r status z.number fun l => f s l r
  | none, some g => s.answerFrom ⟨(s.senders r).lanes.filter (· == g s r), true⟩ id op.code r status z.number fun _ => payload
  | none, none => s.answer op.code r status z.number payload

/-- Step 14 and the effect, in the block: an immediate opcode runs, any other is staged. A block whose domain is off takes no
command and answers none. -/
def State.perform (s : State) (op : OpSpec) (r : Request) (z : Resolved) : State :=
  if !s.takes op then s
  else if op.passed s z then s.answer op.code r stScheduleConflict z.number []
  else match op.check s r z with
  | some (st, p) =>
    let s1 := op.refused s r z
    if st = stNotAuthorised then s1.refuseAuth op.code r else s1.answer op.code r st z.number p
  | none =>
    if op.kind = .immediate then
      match op.run s r with
      | (t, some (st, p)) =>
        let t1 := op.reply r z st p t
        if st = stOk ∧ op.logs then t1.logChange 4 op.code r st z.number else t1
      | (t, none) => t
    else (op.preStage s r z).stage op r z

/-- The port of a command's receiver: its target for CAN and Ethernet, else 0. -/
def OpSpec.port (op : OpSpec) (r : Request) : Nat := if op.block = 7 ∨ op.block = 9 then r.target % 256 else 0

/-- The lanes' copies of a command at its block's receiver (03 R502): the state after them, and what the receiver takes. -/
def State.sendCommand (s : State) (op : OpSpec) (r : Request) (z : Resolved) : State × List Taken :=
  s.offer (s.senders r) (s.takes op) op.block (op.port r) cmdItem fun _ => .command op.code r z

/-- A command that its receiver has taken: its block acts on it at once. -/
def State.actOn (op : OpSpec) (s : State) (t : Taken) : State :=
  match t.copy.cargo with
  | .command code r z => if code = op.code then s.perform op r z else s.handOn t
  | _ => s.handOn t

/-- A command goes to its block: through the block's receiver (01 R21), or to the lane's own interpreter or control engine.
Log 15: DEDUCED, unsafe. -/
def State.reach (s : State) (op : OpSpec) (r : Request) (z : Resolved) : State :=
  if op.block = 0 ∨ op.block = 6 then s.perform op r z
  else
    let x := s.sendCommand op r z
    x.2.foldl (State.actOn op) x.1

/-- The lanes that execute a request in two parts: those that stop it themselves, and those that send it on. -/
def State.split (s : State) (r : Request) (stops : Lane → Bool) : Option Request × Option Request :=
  match (s.senders r).lanes.filter stops, (s.senders r).lanes.filter (fun l => !stops l) with
  | [], _ => (none, some r)
  | _ :: _, [] => (some r, none)
  | a :: _, b :: _ => (some { r with only := some a }, some { r with only := some b })

/-- `NOT_ADOPTED` is recorded once for each clearing of a lane's flag, with what was refused first (08 R237). -/
def State.noteRefused (s : State) (l : Lane) (what : Nat) : State :=
  let done := match l with
    | .main => s.power.refusedMain
    | .mizzen => s.power.refusedMizzen
  if done then s else
  let s1 : State := match l with
    | .main => { s with power := { s.power with refusedMain := true } }
    | .mizzen => { s with power := { s.power with refusedMizzen := true } }
  s1.raise 0x061D 1 l.code (details [(l.code : Int), (what : Int)])

/-- A command for the Crosstree's controller: a lane that has lost it answers the command itself; while it has stopped, the
other lanes keep the command open (05 R504). -/
def State.reachCrosstree (s : State) (op : OpSpec) (r : Request) (z : Resolved) : State :=
  let x := s.split r fun l => (s.lane l).crosstreeLost
  let s1 := match x.1 with
    | some q => s.answer op.code q (lostStatus op.code) z.number []
    | none => s
  match x.2 with
  | none => s1
  | some q =>
    if s1.xt.stopped then
      (s1.senders q).lanes.foldl (fun t l => t.updLane l fun a => { a with openCmds := a.openCmds ++ [⟨op.code, q⟩] }) s1
    else s1.reach op q z

/-- A command that changes a power channel: a lane that the block has not adopted answers it `NOT_ADOPTED` (08 R237).
Log 50: DEDUCED, unsafe. -/
def State.reachChannels (s : State) (op : OpSpec) (r : Request) (z : Resolved) : State :=
  let x := s.split r fun l => !s.adopted l
  let s1 := match x.1 with
    | some q => ((s.senders q).lanes.foldl (fun t l => t.noteRefused l op.code) s).answer op.code q stNotAdopted z.number []
    | none => s
  match x.2 with
  | none => s1
  | some q => s1.reach op q z

/-- The request is executed by some lane (R118).
Log 14: DESIGN CHOICE, safe. -/
def State.executes (s : State) (r : Request) : Bool := (s.senders r).lanes != []

/-- A request whose boundary is already resolved.
Log 25: DEDUCED, unsafe. -/
def State.runResolved (s : State) (op : OpSpec) (r : Request) (z : Option Resolved) : State :=
  match op.precheck r z with
  | some (st, p) =>
    if st = stNotAuthorised then s.refuseAuth op.code r
    else
      let s1 := if st = stLengthExceeds
        then { s with sys := { s.sys with lengthExceeds := sat32 s.sys.lengthExceeds 1 } } else s
      s1.answer op.code r st s.major p
  | none =>
    let z := z.getD ⟨s.major, s.grid, s.now⟩
    if op.viaCrosstree then s.reachCrosstree op r z
    else if changesChannels op.code then s.reachChannels op r z
    else s.reach op r z

/-- A request as the interpreters execute it, from step 9 on. With no lane to execute it, nothing happens.
Log 14: DESIGN CHOICE, safe. -/
def State.runRequest (s : State) (op : OpSpec) (r : Request) : State :=
  if s.executes r then s.runResolved op r (s.resolve op.kind op.block r.boundary) else s

/-- A swap: the staged command takes effect, is answered `OK` and leaves its change-log entry (R52, R54, R124). -/
def State.swapIn (s : State) (e : Staged) (apply : State → Staged → State) : State :=
  let s1 := apply { s with staged := s.staged.filter (fun x => x != e) } e
  (s1.answer e.opcode e.req stOk e.boundary []).logChange 2 e.opcode e.req stOk e.boundary

/-! ### Ready-made checks -/

/-- The payload has exactly `n` bytes, else the header `LENGTH` is named (R115). -/
def needLength (n : Nat) (r : Request) : Option Nat := if r.payload.length = n then none else some 0x0010

/-- One field test: the field's offset in the payload where it fails. -/
def need (ok : Bool) (off : Nat) : Option Nat := if ok then none else some (0x20 + off)

/-- The first failure of a list of tests, in the payload's order. -/
def firstFail : List (Option Nat) → Option Nat
  | [] => none
  | some o :: _ => some o
  | none :: r => firstFail r

/-- Length first, then the fields in order. -/
def lengthThen (n : Nat) (r : Request) (l : List (Option Nat)) : Option Nat :=
  match needLength n r with
  | some o => some o
  | none => firstFail l

/-- A read with no payload: immediate, no change-log entry. -/
def getOp (code : Nat) (f : State → Request → Bytes) : OpSpec :=
  { code := code, logs := false, run := fun s r => (s, some (stOk, f s r)) }

end Sys2Proof.Machine
end

