-- ==== Sys2Proof/Machine/Image.lean ====
section
/-!
DEFINITION. The schedule image: reading its sections, and the built-in service schedule (03 R64 to R77, R97).
-/
namespace Sys2Proof.Machine
open Sys2Proof

/-- `n` entries of `size` bytes read with `f`. -/
def entries {α : Type} (f : Bytes → α) (size : Nat) : Nat → Bytes → List α
  | 0, _ => []
  | n + 1, p => f (p.take size) :: entries f size n (p.drop size)

/-- A section table entry (Table 03-2): type, offset, length, count. -/
structure Section where
  type   : Nat
  offset : Nat
  length : Nat
  count  : Nat
deriving DecidableEq, Repr

def readSection (p : Bytes) : Section := ⟨u16 p 0, u32 p 4, u32 p 8, u32 p 12⟩

/-- The section table of an image (R64). -/
def sections (img : Bytes) : List Section := entries readSection 16 (u16 img 6) (img.drop (u32 img 0x20))

def readSlotEntry (p : Bytes) : SlotEntry := ⟨u32 p 0, u32 p 4, u16 p 8, u16 p 10, u8 p 12, u8 p 13⟩

def readTask (p : Bytes) : TaskDesc :=
  ⟨u16 p 0, flagAt p 2 0, u32 p 4, u32 p 8, u32 p 12, u32 p 16, u32 p 20, u16 p 0x18, u16 p 0x1A, u16 p 0x1C,
   u16 p 0x1E, u16 p 0x20, u8 p 0x22, u8 p 0x23, u16 p 0x24, u32 p 0x28⟩

def readWindow (p : Bytes) : Window := ⟨u64 p 0, u32 p 8, flagAt p 12 0, flagAt p 12 1, flagAt p 12 2⟩

def readSigDef (p : Bytes) : SigDef := ⟨u32 p 0 % 33554432, u8 p 4, u8 p 5, u16 p 6, u32 p 8, u32 p 12⟩

def readTransfer (p : Bytes) : Transfer := ⟨u32 p 0, u32 p 4, u16 p 8, u8 p 10, u8 p 11, u16 p 12, u16 p 14⟩

/-- `n` initial commands (R76): an 8-byte head, the payload padded to a multiple of 8. -/
def readInits : Nat → Bytes → List InitCmd
  | 0, _ => []
  | n + 1, p =>
    let len := u16 p 4
    ⟨u16 p 0, u16 p 2, (p.drop 8).take len⟩ :: readInits n (p.drop (8 + (len + 7) / 8 * 8))

/-- The bytes and count of the section of a type; nothing where the image has none. -/
def sectionOf (img : Bytes) (type : Nat) : Option (Bytes × Nat) :=
  match (sections img).find? (fun x => x.type == type) with
  | some x => some ((img.drop x.offset).take x.length, x.count)
  | none => none

/-- The entries of a section, read with `f`. -/
def sectionEntries {α : Type} (img : Bytes) (type size : Nat) (f : Bytes → α) : List α :=
  match sectionOf img type with
  | some (b, n) => entries f size n b
  | none => []

/-- An image read into its parts. -/
def readImage (img : Bytes) : Image :=
  { majorSlots := u32 img 0x0C
    station := u16 img 0x16 % 4096
    imageId := u64 img 0x18
    core := sectionEntries img 1 16 readSlotEntry
    block := sectionEntries img 2 16 readSlotEntry
    tasks := sectionEntries img 3 48 readTask
    windows := sectionEntries img 5 16 readWindow
    signals := sectionEntries img 6 16 readSigDef
    lists := sectionEntries img 7 2 (fun p => u16 p 0)
    transfers := sectionEntries img 8 16 readTransfer
    inits := match sectionOf img 9 with
      | some (b, n) => readInits n b
      | none => []
    bus := sectionEntries img 11 16 (fun b => b)
    cascade := match sectionOf img 12 with
      | some (b, _) => some b
      | none => none
    length := u32 img 8 }

def State.bank (s : State) (b : Nat) : Bank := if b = 0 then s.sched.bank0 else s.sched.bank1

/-- The image that will be in force at grid time `g`, counting an activation staged up to then (02 R53). -/
def State.imageAt (s : State) (g : Nat) : Image :=
  (s.staged.filter (fun e => e.opcode == 0x0304 && decide (e.gridAt ≤ g))).foldl
    (fun _ e => readImage (s.bank (u8 e.req.payload 0)).data) s.sched.image

/-- The signal definition of an identifier in an image. -/
def Image.sig (i : Image) (id : Nat) : Option SigDef := i.signals.find? (fun d => d.id == id)

/-! ### Slots (R66), and `SELFTEST` runs (R67, 05 R152) -/

/-- The entry has a run that starts in slot `n` of the major period. -/
def SlotEntry.startsAt (e : SlotEntry) (n : Nat) : Bool :=
  if e.repeat_ = 0 then n == e.start
  else decide (e.start ≤ n) && (n - e.start) % e.repeat_ == 0

/-- The entry occupies slot `n` of the major period. -/
def SlotEntry.holds (e : SlotEntry) (n : Nat) : Bool :=
  decide (e.start ≤ n) &&
  (if e.repeat_ = 0 then decide (n < e.start + e.length)
   else decide ((n - e.start) % e.repeat_ < e.length))

/-- A core is in a `SELFTEST` run in slot `n`. -/
def Image.selftest (i : Image) (core n : Nat) : Bool := i.core.any (fun e => e.kind == 2 && e.resource == core && e.holds n)

/-- The runs of an entry in a major period of `p` slots: first slot, and slot after the last. -/
def SlotEntry.runs (e : SlotEntry) (p : Nat) : List (Nat × Nat) :=
  if e.repeat_ = 0 then [(e.start, e.start + e.length)]
  else
    (((upto (p / e.repeat_)).map fun k => e.start + k * e.repeat_).filter (fun n => decide (n < p))).map fun n =>
      (n, n + e.length)

/-- Runs in ascending order, with adjacent ones joined. -/
def joinRuns : List (Nat × Nat) → List (Nat × Nat)
  | [] => []
  | a :: r => match joinRuns r with
    | [] => [a]
    | b :: s => if a.2 = b.1 then (a.1, b.2) :: s else a :: b :: s

/-- The `SELFTEST` runs of a core in a major period: first slot, and slot after the last. Slots of adjacent entries are
consecutive slots of one run.
Log 62: DEDUCED, unsafe. -/
def Image.selftestRuns (i : Image) (core : Nat) : List (Nat × Nat) :=
  joinRuns (sortBy (fun x => x.1)
    ((i.core.filter (fun e => e.kind == 2 && e.resource == core)).flatMap (fun e => e.runs i.majorSlots)))

/-- A core's burst run: its first run of 8 or more consecutive `SELFTEST` slots; one past every period where it has none. -/
def Image.burstRun (i : Image) (core : Nat) : Nat × Nat :=
  ((i.selftestRuns core).find? (fun x => decide (x.1 + 8 ≤ x.2))).getD (4294967295, 4294967295)

/-- A burst runs on the core in slot `n` of its period. -/
def State.bursting (s : State) (core n : Nat) : Bool :=
  let a := s.sched.image.burstRun core
  s.xt.burstNow && decide (a.1 ≤ n) && decide (n < a.2)

/-! ### Signal tables (R72, R73, R96) -/

/-- A record at its reset values for a boundary at Mast time `mast` (R72, Table 03-8). -/
def resetRecord (d : SigDef) (mast : Nat) : SigRec :=
  if d.source = 5 then { value := d.initial, stamp := mast, valid := true, initial := false }
  else { value := d.initial }

/-- The record a lane holds for an identifier. -/
def LaneSt.sig (a : LaneSt) (id : Nat) : SigRec := Tbl.getD a.signals id {}

/-- One delivery applied to a lane's table (R73); a signal frame brings its record's own `SEQUENCE` and flags and leaves
`SOURCE_ABSENT` (15 R402, R413). -/
def applyDelivery (t : Tbl SigRec) (d : Delivery) : Tbl SigRec :=
  match Tbl.find t d.signal with
  | none => t
  | some v => Tbl.put t d.signal <| match d.remote with
    | none =>
      { v with
        value := d.value
        stamp := d.stamp
        born := some d.born
        seq := (v.seq + 1) % 4294967296
        valid := d.valid
        absent := false
        initial := false }
    | some (seq, overrun, initial) =>
      { v with
        value := d.value
        stamp := d.stamp
        born := some d.born
        seq := seq
        valid := d.valid
        overrun := overrun
        initial := initial }

/-- Deliveries visible by the start of slot `n` enter the table (R73). -/
def LaneSt.showDeliveries (a : LaneSt) (n : Nat) : LaneSt :=
  let due := a.deliveries.filter (fun d => decide (d.slot ≤ n))
  { a with
    signals := due.foldl applyDelivery a.signals
    deliveries := a.deliveries.filter (fun d => !decide (d.slot ≤ n)) }

/-- The age of a record at tick `now` is above a limit (Table 03-8): a record never produced has no age below it. -/
def SigRec.older (v : SigRec) (now limit : Nat) : Bool :=
  match v.born with
  | some t => decide (limit < now - t)
  | none => true

/-- `STALE` of each record at a slot start at tick `now` (Table 03-8).
Log 30: DEDUCED, unsafe. -/
def LaneSt.judgeStale (a : LaneSt) (defs : List SigDef) (now : Nat) : LaneSt :=
  { a with signals := defs.foldl (fun t d =>
      match Tbl.find t d.id with
      | none => t
      | some v => Tbl.put t d.id { v with stale := d.stale != 0 && v.older now d.stale }) a.signals }

/-- Deliveries become visible and staleness is judged in a lane that runs the schedule. -/
def State.refreshSignals (s : State) (l : Lane) : State :=
  if s.computes l then
    s.updLane l fun a => (a.showDeliveries s.slot).judgeStale s.sched.image.signals s.now
  else s

end Sys2Proof.Machine
end

