-- ==== Sys2Proof/Machine/Bank.lean ====
section
/-!
DEFINITION. The flash banks: loading a schedule image, and the schedule status (03 R94, R97, R98).
-/
namespace Sys2Proof.Machine
open Sys2Proof

/-- A bank changed. -/
def State.updBank (s : State) (b : Nat) (f : Bank → Bank) : State :=
  if b = 0 then { s with sched := { s.sched with bank0 := f s.sched.bank0 } }
  else { s with sched := { s.sched with bank1 := f s.sched.bank1 } }

/-- The bank is active, or staged for activation (R94). -/
def State.bankBusy (s : State) (b : Nat) : Bool :=
  s.sched.activeBank == b || s.staged.any (fun e => e.opcode == 0x0304 && u8 e.req.payload 0 == b)

/-- The bank is loading. -/
def Bank.loading (b : Bank) : Bool := b.state == .loading

/-- `BANK` of a load or activate payload. -/
def bankOf (r : Request) : Nat := u8 r.payload 0

/-- `BANK` is 0 or 1. -/
def needBank (r : Request) : Option Nat := need (decide (bankOf r ≤ 1)) 0

/-- `SCHED_LOAD_BEGIN` (R94, Table 03-16). -/
def opSchedLoadBegin : OpSpec :=
  { code := 0x0301
    role := fun _ => 2
    block := 10
    param := fun r => lengthThen 12 r [needBank r, need (decide (48 ≤ u32 r.payload 4)) 4]
    check := fun s r _ =>
      if s.bankBusy (bankOf r) then some (0x41, [])
      else if 2147483648 < u32 r.payload 4 then some (0x43, [])
      else none
    run := fun s r =>
      let b : Bank := ⟨.loading, u32 r.payload 4, u32 r.payload 8, []⟩
      (s.updBank (bankOf r) fun _ => b, some (stOk, [])) }

/-- `SCHED_LOAD_DATA` (R94, Table 03-17). -/
def opSchedLoadData : OpSpec :=
  { code := 0x0302
    role := fun _ => 2
    block := 10
    logs := false
    param := fun r =>
      if 9 ≤ r.payload.length ∧ r.payload.length ≤ 4064 then needBank r else some 0x10
    check := fun s r _ =>
      let b := s.bank (bankOf r)
      if s.bankBusy (bankOf r) then some (0x41, [])
      else if !b.loading || u32 r.payload 4 != b.data.length then some (0x42, [])
      else if b.length < u32 r.payload 4 + (r.payload.length - 8) then some (badParam 0x28)
      else none
    run := fun s r =>
      (s.updBank (bankOf r) fun b => { b with data := b.data ++ r.payload.drop 8 }, some (stOk, [])) }

/-- The start bank in force from the boundary on. -/
def applyStartBank (s : State) (e : Staged) : State := { s with sched := { s.sched with startBank := bankOf e.req } }

/-- `SCHED_SET_START_BANK`. -/
def opSchedSetStartBank : OpSpec :=
  { code := 0x0305
    role := fun _ => 2
    kind := .major
    block := 10
    param := fun r => lengthThen 4 r [needBank r]
    check := fun s r _ => if (s.bank (bankOf r)).state = .valid then none else some (badParam 0x20) }

def BankState.code : BankState → Nat
  | .empty => 0
  | .loading => 1
  | .valid => 2
  | .invalid => 3

/-- Table 03-20. -/
def schedStatus (s : State) : Bytes :=
  let x := s.sched
  putLE 1 x.activeBank ++ putLE 1 x.startBank ++ putLE 1 x.bank0.state.code ++ putLE 1 x.bank1.state.code ++
  putLE 4 x.image.majorSlots ++ putLE 8 x.image.imageId ++ putLE 4 x.activatedAt ++ putLE 4 x.scheduleOverruns ++
  putLE 4 x.mainOverruns ++ putLE 4 x.mizzenOverruns ++ putLE 4 x.interpreterDrops ++ putLE 4 x.mailboxDrops

def opSchedGetStatus : OpSpec := { getOp 0x0306 (fun s _ => schedStatus s) with block := 10 }

end Sys2Proof.Machine
end

