-- ==== Sys2Proof/Machine/Pixel.lean ====
section
/-!
DEFINITION. What a camera port computes from the pixels of a frame: linearisation and exposure merge (10), colour stages,
stream rows and statistics (11). Every function here is of its arguments alone.
-/
namespace Sys2Proof.Machine
open Sys2Proof

/-- The largest 24-bit value. -/
def max24 : Nat := 16777215

/-! ### Settings fields -/

def pEnable (c : Bytes) : Bool := flagAt c 0 0
def pDataWidth (c : Bytes) : Nat := u8 c 1
def pLatency (c : Bytes) : Nat := u8 c 2
def pRate (c : Bytes) : Nat := u8 c 3
def pPclk (c : Bytes) : Nat := u32 c 4
def pTimeout (c : Bytes) : Nat := u16 c 8 * 1000000
def gWidth (c : Bytes) : Nat := u16 c 0
def gHeight (c : Bytes) : Nat := u16 c 2
def gExposures (c : Bytes) : Nat := u8 c 4
def gSkipTop (c : Bytes) : Nat := u8 c 5
def gSkipLeft (c : Bytes) : Nat := u16 c 6
def eTag (c : Bytes) : Nat := u16 c 0
def eWrites (c : Bytes) : Nat := u8 c 2
def eBlack (c : Bytes) : Nat := u32 c 4
def eRatio (c : Bytes) (j : Nat) : Nat := if j = 0 then 256 else u16 c (6 + 2 * j)
def eLo (c : Bytes) (j : Nat) : Nat := u32 c (12 + 8 * j)
def eHi (c : Bytes) (j : Nat) : Nat := u32 c (16 + 8 * j)
def stPlace (c : Bytes) : Nat := u8 c 0
def stFormat (c : Bytes) : Nat := u8 c 1
def stScale (c : Bytes) : Nat := u8 c 2
def stRing (c : Bytes) : Nat := u8 c 3
def stX (c : Bytes) : Nat := u16 c 4
def stY (c : Bytes) : Nat := u16 c 6
def stW (c : Bytes) : Nat := u16 c 8
def stH (c : Bytes) : Nat := u16 c 10
def stDiv (c : Bytes) : Nat := u16 c 12
def stPitch (c : Bytes) : Nat := u32 c 0x10
def stStride (c : Bytes) : Nat := u32 c 0x14
def stLane (c : Bytes) : Nat := u64 c 0x18
def stFusion (c : Bytes) : Nat := u64 c 0x20
def saEnable (c : Bytes) : Bool := flagAt c 0 0
def saRing (c : Bytes) : Nat := u8 c 1
def saLevel (c : Bytes) : Nat := u32 c 4
def saBase (c : Bytes) : Nat := u64 c 8

/-- Knees (X_k, Y_k) of a `CAM_SET_LINEAR` or `CAM_SET_TONE` payload. -/
def knees (c : Bytes) : List (Nat × Nat) := (upto (u8 c 0)).map (fun k => (u32 c (4 + 8 * k), u32 c (8 + 8 * k)))

/-! ### Linearisation and merge (R282 to R284) -/

/-- Interpolation between knees, by the lowest segment that holds `x` (R282, R306). -/
def interpolate (x : Nat) : List (Nat × Nat) → Nat
  | (x0, y0) :: (x1, y1) :: r =>
    if x ≤ x1 then y0 + ((x - x0) * (y1 - y0) + (x1 - x0) / 2) / (x1 - x0)
    else interpolate x ((x1, y1) :: r)
  | [(_, y)] => y
  | [] => x

/-- The linear value of a code (R282). -/
def linearOf (c : Bytes) (x : Nat) : Nat := if u8 c 0 = 0 then x else interpolate x (knees c)

/-- One exposure joins the merged value of the shorter ones (R284). -/
def mergeStep (c : Bytes) (j v m : Nat) : Nat :=
  let s := (v * eRatio c j + 128) / 256
  let lo := eLo c j
  let hi := eHi c j
  if v ≤ lo then s
  else if hi ≤ v then m
  else
    let w := ((v - lo) * 256 + (hi - lo) / 2) / (hi - lo)
    (s * (256 - w) + m * w + 128) / 256

/-- The merged value from exposures v_j onward, `j` the first of them (R284). -/
def mergeFrom (c : Bytes) : Nat → List Nat → Nat
  | _, [] => 0
  | j, [v] => (v * eRatio c j + 128) / 256
  | j, v :: r => mergeStep c j v (mergeFrom c (j + 1) r)

/-- A mosaic value from the codes of a pixel's exposures (R283, R284). -/
def mosaicOf (linear exposure : Bytes) (codes : List Nat) : Nat :=
  min max24 (mergeFrom exposure 0 (codes.map (fun x => linearOf linear x - eBlack exposure)))

/-- Mosaic row from the E image lines of a row. -/
def mosaicRow (linear exposure : Bytes) (width : Nat) (lines : List (List Nat)) : List Nat :=
  (upto width).map (fun x => mosaicOf linear exposure (lines.map (fun l => l.getD x 0)))

/-- Mosaic rows of the complete rows of a frame (R274, R276). -/
def mosaicRows (linear exposure : Bytes) (width e : Nat) : Nat → List (List Nat) → List (List Nat)
  | 0, _ => []
  | n + 1, l => mosaicRow linear exposure width (l.take e) :: mosaicRows linear exposure width e n (l.drop e)

/-! ### Demosaic (R302, R303) -/

/-- A mean of n values, rounded half-up. -/
def meanUp (l : List Nat) : Nat := (sumNat l + l.length / 2) / l.length

/-- Colour of a site: 0 R, 1 G, 2 B. -/
def cfaColour (order x y : Nat) : Nat :=
  let i := y % 2 * 2 + x % 2
  match order with
  | 0 => [0, 1, 1, 2].getD i 0
  | 1 => [1, 0, 2, 1].getD i 0
  | 2 => [1, 2, 0, 1].getD i 0
  | _ => [2, 1, 1, 0].getD i 0

/-- A coordinate mirrored at the edges of `n` sites, without repeating the edge. -/
def mirror (n : Nat) (i : Int) : Nat := if i < 0 then (-i).toNat else if (n : Int) ≤ i then (2 * ((n : Int) - 1) - i).toNat else i.toNat

/-- Mosaic value at a place of an image of `rows`, mirrored outside. -/
def mosaicAt (rows : List (List Nat)) (width : Nat) (x y : Int) : Nat :=
  (rows.getD (mirror rows.length y) []).getD (mirror width x) 0

/-- R, G and B of a pixel, in order. -/
structure Rgb where
  r : Nat
  g : Nat
  b : Nat
deriving DecidableEq, Repr

/-- Demosaic of a pixel (R302). -/
def demosaic (order : Nat) (rows : List (List Nat)) (width x y : Nat) : Rgb :=
  let at_ (dx dy : Int) : Nat := mosaicAt rows width (x + dx) (y + dy)
  let own := at_ 0 0
  if order = 4 then ⟨own, own, own⟩ else
  let cross := meanUp [at_ 0 (-1), at_ (-1) 0, at_ 1 0, at_ 0 1]
  let diag := meanUp [at_ (-1) (-1), at_ 1 (-1), at_ (-1) 1, at_ 1 1]
  let side := meanUp [at_ (-1) 0, at_ 1 0]
  let upDown := meanUp [at_ 0 (-1), at_ 0 1]
  match cfaColour order x y with
  | 0 => ⟨own, cross, diag⟩
  | 2 => ⟨diag, cross, own⟩
  | _ => if cfaColour order (x + 1) y = 0 then ⟨side, own, upDown⟩ else ⟨upDown, own, side⟩

/-! ### Colour stages (R304 to R307) -/

/-- White-balance gain of a channel. -/
def gain (c g : Nat) : Nat := min max24 ((c * g + 2048) / 4096)

def whiteBalance (wb : Bytes) (p : Rgb) : Rgb := ⟨gain p.r (u16 wb 0), gain p.g (u16 wb 2), gain p.b (u16 wb 4)⟩

/-- Output channel i of the colour matrix (R305). -/
def matrixChannel (m : Bytes) (i : Nat) (p : Rgb) : Nat :=
  let k (j : Nat) : Int := s16 m (2 * (3 * i + j))
  let v := (k 0 * p.r + k 1 * p.g + k 2 * p.b + 2048) / 4096 + s32 m (0x14 + 4 * i)
  (clampI 0 max24 v).toNat

def colourMatrix (m : Bytes) (p : Rgb) : Rgb := ⟨matrixChannel m 0 p, matrixChannel m 1 p, matrixChannel m 2 p⟩

def toneOf (set : CamSettings) (p : Rgb) : Rgb :=
  ⟨interpolate p.r (knees set.toneR), interpolate p.g (knees set.toneG), interpolate p.b (knees set.toneB)⟩

/-- Luma of three channels (R307). -/
def luma (p : Rgb) : Nat := (77 * p.r + 150 * p.g + 29 * p.b + 128) / 256

/-- A pixel at the taps of Table 11-1. -/
structure Taps where
  mosaic : Nat
  demo   : Rgb
  linear : Rgb
  tone   : Rgb
deriving DecidableEq, Repr

/-- All stages of one pixel. -/
def tapsOf (set : CamSettings) (rows : List (List Nat)) (width x y : Nat) : Taps :=
  let d := demosaic (u8 set.cfa 0) rows width x y
  let l := colourMatrix set.matrix (whiteBalance set.wb d)
  ⟨mosaicAt rows width x y, d, l, toneOf set l⟩

/-- All stages of the real rows; fewer than 2 real rows count as none (R303). -/
def tapRows (set : CamSettings) (width : Nat) (rows : List (List Nat)) : List (List Taps) :=
  if rows.length < 2 then []
  else (upto rows.length).map (fun y => (upto width).map (fun x => tapsOf set rows width x y))

/-! ### Streams (R308 to R311) -/

/-- Mean over the pixels of a block of a tapped channel. -/
def blockMean (l : List Taps) (f : Taps → Nat) : Nat := meanUp (l.map f)

/-- Log 76: DEDUCED, unsafe. -/
def blockRgb (l : List Taps) (f : Taps → Rgb) : Rgb :=
  ⟨blockMean l (fun t => (f t).r), blockMean l (fun t => (f t).g), blockMean l (fun t => (f t).b)⟩

/-- An output pixel packed in a format (Table 11-2).
Log 76: DEDUCED, unsafe. -/
def packPixel (format : Nat) (l : List Taps) : Bytes :=
  let t := blockRgb l (fun t => t.tone)
  match format with
  | 1 => putLE 1 (luma t / 256)
  | 2 => putLE 2 (luma t)
  | 3 => putLE 1 (t.r / 256) ++ putLE 1 (t.g / 256) ++ putLE 1 (t.b / 256)
  | 4 => putLE 1 (t.r / 256) ++ putLE 1 (t.g / 256) ++ putLE 1 (t.b / 256) ++ zeros 1
  | 5 => putLE 2 t.r ++ putLE 2 t.g ++ putLE 2 t.b
  | 6 => putLE 4 (luma (blockRgb l (fun t => t.linear)))
  | _ => putLE 4 (blockMean l (fun t => t.mosaic))

/-- Bytes of a pixel of a format. -/
def formatBytes (format : Nat) : Nat := [0, 1, 2, 3, 4, 6, 4, 4].getD format 0

/-- Source pixels of output pixel (u, v). -/
def blockOf (c : Bytes) (rows : List (List Taps)) (u v : Nat) : List Taps :=
  let n := stScale c
  (((rows.drop (stY c + n * v)).take n).map (fun r => (r.drop (stX c + n * u)).take n)).flatten

/-- Output row v of a stream. -/
def streamRow (c : Bytes) (rows : List (List Taps)) (v : Nat) : Bytes :=
  ((upto (stW c / stScale c)).map (fun u => packPixel (stFormat c) (blockOf c rows u v))).flatten

/-- Output rows a stream writes: those all of whose source rows are real, up to the first that fails (R311). -/
def streamRowCount (c : Bytes) (real : Nat) : Nat := min (stH c / stScale c) ((real - stY c) / stScale c)

/-- The writes of a stream into entry `e` of a ring at `base`: address and bytes of each row (R310). -/
def streamWrites (c : Bytes) (rows : List (List Taps)) (base e : Nat) : List (Nat × Bytes) :=
  (upto (streamRowCount c rows.length)).map (fun v => (base + e * stStride c + v * stPitch c, streamRow c rows v))

/-! ### Statistics (R316, R317) -/

/-- Zone of a pixel. -/
def zoneOf (width height x y : Nat) : Nat := 16 * min 15 (16 * y / height) + min 15 (16 * x / width)

/-- Pixels with their zones. -/
def zoned (width height : Nat) (rows : List (List Taps)) : List (Nat × Taps) :=
  (((upto rows.length).zip rows).map (fun r => ((upto width).zip r.2).map (fun p => (zoneOf width height p.1 r.1, p.2)))).flatten

/-- The 10,304 bytes of a statistics entry (Table 11-4); `head` is its first 12 bytes. -/
def statsEntry (c : Bytes) (head : Bytes) (stamp width height : Nat) (rows : List (List Taps)) : Bytes :=
  let px := zoned width height rows
  let zone (z : Nat) : List Taps := (px.filter (fun p => p.1 == z)).map (fun p => p.2)
  let below (t : Taps) : Bool := decide (t.demo.r < saLevel c) && decide (t.demo.g < saLevel c) && decide (t.demo.b < saLevel c)
  let hist (b : Nat) : Nat := (px.filter (fun p => luma p.2.tone / 256 == b)).length
  head ++ putLE 4 px.length ++ putLE 8 stamp ++ zeros 40 ++
  ((upto 256).map (fun b => putLE 4 (hist b))).flatten ++
  ((upto 256).map (fun z => putLE 4 (if zone z = [] then 0 else meanUp ((zone z).map (fun t => luma t.linear))))).flatten ++
  ((upto 256).map (fun z =>
    let l := (zone z).filter below
    putLE 8 (sumNat (l.map (fun t => t.demo.r))) ++ putLE 8 (sumNat (l.map (fun t => t.demo.g))) ++
    putLE 8 (sumNat (l.map (fun t => t.demo.b))) ++ putLE 4 l.length ++ zeros 4)).flatten

end Sys2Proof.Machine
end

