-- ==== Sys2Proof/Machine/Regions.lean ====
section
/-!
DEFINITION. The regions the blocks keep in lane DRAM, by the settings in force at a boundary, and where they may lie.
-/
namespace Sys2Proof.Machine
open Sys2Proof

/-- A region: base and size. -/
abbrev Region := Nat × Nat

/-- Two regions share a byte. -/
def Region.overlaps (a b : Region) : Bool :=
  decide (a.1 < b.1 + b.2) && decide (b.1 < a.1 + a.2) && a.2 != 0 && b.2 != 0

/-- The region lies within a lane's 16 GiB. -/
def Region.inLane (a : Region) : Bool := decide (a.1 + a.2 ≤ 17179869184)

/-- Windows with write access of an image. -/
def Image.writeWindows (i : Image) : List Region := (i.windows.filter (fun w => w.write)).map (fun w => (w.base, w.size))

/-- The regions lie in a lane's 16 GiB, apart from each other, from every window with write access of an image and from
the regions `others`. -/
def regionsFit (l : List Region) (i : Image) (others : List Region) : Bool :=
  match l with
  | [] => true
  | a :: r => a.inLane && !i.writeWindows.any a.overlaps && !others.any a.overlaps && regionsFit r i (a :: others)

/-! ### Yield grid (09 R261, R264) -/

def gridCols (p : Bytes) : Nat := u16 p 0x16
def gridRows (p : Bytes) : Nat := u16 p 0x18
def gridBase (p : Bytes) : Nat := u64 p 0x20

/-- Cells of a grid; 0: no grid. -/
def gridCells (p : Bytes) : Nat := gridCols p * gridRows p

/-- The grid region of a `YIELD_SET_GRID` payload. -/
def gridRegion (p : Bytes) : Region := (gridBase p, 16 * gridCells p)

/-- The yield grid settings in force at grid time `g`. -/
def State.gridAt (s : State) (g : Nat) : Bytes := s.payloadAt 0x0706 0 g s.sense.yield_.grid

/-- The grid region stands in an image (R264). -/
def gridFits (i : Image) (p : Bytes) : Bool :=
  gridCells p == 0 || ((gridRegion p).inLane && !i.writeWindows.any (fun w => (gridRegion p).overlaps w))

/-! ### Camera rings (11 R319) -/

/-- A port of the camera block. -/
def State.camPort (s : State) (p : Nat) : CamPort := Tbl.getD s.cams p resetCamPort

/-- Payload of stream `k` of port `p` in force at grid time `g`. -/
def State.streamAt (s : State) (p k g : Nat) : Bytes :=
  s.payloadAt 0x080C (p + 256 * k) g ((s.camPort p).set.streams.getD k camStreamReset)

/-- Statistics payload of port `p` in force at grid time `g`. -/
def State.statsAt (s : State) (p g : Nat) : Bytes := s.payloadAt 0x080D p g (s.camPort p).set.stats

/-- Lane-DRAM region of a stream payload. -/
def streamRegion (c : Bytes) : Region := if bitOf (stPlace c) 0 then (stLane c, stRing c * stStride c) else (0, 0)

/-- Lane-DRAM region of a statistics payload. -/
def statsRegion (c : Bytes) : Region := if saEnable c then (saBase c, saRing c * 16384) else (0, 0)

/-- Rings of every port in lane DRAM but the one named: `k` 0 to 3 a stream, 4 the statistics.
Log 79: DEDUCED, unsafe. -/
def State.camRings (s : State) (g : Nat) (skip : Nat × Nat) : List Region :=
  ((upto 8).map fun p =>
    ((upto 5).filter (fun k => (p, k) != skip)).map fun k =>
      if k = 4 then statsRegion (s.statsAt p g) else streamRegion (s.streamAt p k g)).flatten

/-! ### Fields of a navigation record (13 Table 13-7) -/

def NavRec.valid (r : NavRec) : Bool := flagAt r.bytes 0x0C 0
def NavRec.headingValid (r : NavRec) : Bool := flagAt r.bytes 0x0C 1
def NavRec.heading (r : NavRec) : Nat := u32 r.bytes 0x2C

/-! ### Fusion (12 R323, R349) -/

def fKind (c : Bytes) : Nat := u8 c 0
def fPort (c : Bytes) : Nat := u8 c 1
def fStream (c : Bytes) : Nat := u8 c 2
def fLaneCopy (c : Bytes) : Bool := flagAt c 3 0
def fScalars (c : Bytes) : Nat := u16 c 4
def fUdp (c : Bytes) : Nat := u16 c 6
def fMaxPoints (c : Bytes) : Nat := u32 c 8
def fPcRing (c : Bytes) : Nat := u8 c 12
def fPcBase (c : Bytes) : Nat := u64 c 0x10
def fPcLane (c : Bytes) : Nat := u64 c 0x18
/-- Entry stride of a point-cloud ring (R331). -/
def fPcStride (c : Bytes) : Nat := (32 + 16 * fMaxPoints c + 4095) / 4096 * 4096
def rEnable (c : Bytes) : Bool := flagAt c 0 0
def rUseState (c : Bytes) : Bool := flagAt c 0 1
def rSlot (c : Bytes) : Nat := u8 c 1
def rSources (c : Bytes) : Nat := u16 c 2
def rWait (c : Bytes) : Nat := u32 c 4
def rRelease (c : Bytes) : Nat := u32 c 8
def rRing (c : Bytes) : Nat := u8 c 12
def rStride (c : Bytes) : Nat := u32 c 0x10
def rBase (c : Bytes) : Nat := u64 c 0x18

def State.fusSource (s : State) (n : Nat) : FusSource := Tbl.getD s.fus.sources n { cfg := fusSourceReset }
def State.fusRound (s : State) (n : Nat) : FusRound := Tbl.getD s.fus.rounds n { cfg := fusRoundReset }
def State.netSlot (s : State) (n : Nat) : NetSlot := Tbl.getD s.fus.slots n {}

/-- Descriptors in force at grid time `g`. -/
def State.sourceAt (s : State) (n g : Nat) : Bytes := s.payloadAt 0x0901 n g (s.fusSource n).cfg
def State.roundAt (s : State) (n g : Nat) : Bytes := s.payloadAt 0x0902 n g (s.fusRound n).cfg

/-- Lane copy of a point-cloud source, and output ring of an enabled round. -/
def pcLaneRegion (c : Bytes) : Region := if fKind c = 2 ∧ fLaneCopy c then (fPcLane c, fPcRing c * fPcStride c) else (0, 0)
def outRegion (c : Bytes) : Region := if rEnable c then (rBase c, rRing c * rStride c) else (0, 0)

/-- Fusion regions in lane DRAM but the one named: sources 0 to 15, rounds 16 to 23. -/
def State.fusRegions (s : State) (g skip : Nat) : List Region :=
  ((upto 24).filter (fun n => n != skip)).map fun n =>
    if n < 16 then pcLaneRegion (s.sourceAt n g) else outRegion (s.roundAt (n - 16) g)

/-- Rings in fusion memory: streams by 4 * port + stream, point clouds by 32 + source; but the one named. -/
def State.fusionRings (s : State) (g skip : Nat) : List Region :=
  ((upto 48).filter (fun n => n != skip)).map fun n =>
    if n < 32 then
      let c := s.streamAt (n / 4) (n % 4) g
      if bitOf (stPlace c) 1 then (stFusion c, stRing c * stStride c) else (0, 0)
    else
      let c := s.sourceAt (n - 32) g
      if fKind c = 2 then (fPcBase c, fPcRing c * fPcStride c) else (0, 0)

/-- A ring lies in the application area of fusion memory, apart from the others (R323). -/
def fusionRingFits (a : Region) (others : List Region) : Bool :=
  decide (17448304640 ≤ a.1) && decide (a.1 + a.2 ≤ 34359738368) && !others.any a.overlaps

/-! ### Networks and rounds (R345, R347) -/

def nCost (d : Bytes) : Nat := u32 d 0x18
def nBytes (d : Bytes) : Nat := u32 d 0x1C
def nId (d : Bytes) : Nat := u64 d 0x10
def nUsesState (d : Bytes) : Bool := flagAt d 0x27 0
def nBindings (d : Bytes) : Nat := u16 d 0x2C

/-- A binding of a network image. -/
structure Binding where
  source : Nat
  kind   : Nat
  format : Nat
  dimX   : Nat
  dimY   : Nat
deriving DecidableEq, Repr

/-- Bytes of a row of a binding (Table 12-6). -/
def Binding.pitch (b : Binding) : Nat :=
  if b.kind = 2 then 16 else if b.kind = 3 then 4 else b.dimX * [0, 1, 2, 3, 4, 6, 4, 4].getD b.format 0

def readBinding (p : Bytes) : Binding := ⟨u8 p 0, u8 p 1, u8 p 2, u32 p 4, u32 p 8⟩

def bindings (d : Bytes) : List Binding := entries readBinding 16 (nBindings d) (d.drop (u32 d 0x30))

/-- A binding matches a source, whose stream payload is `st` (R347). -/
def bindingFits (b : Binding) (c st : Bytes) : Bool :=
  b.kind == fKind c &&
  match b.kind with
  | 1 => b.format == stFormat st && b.dimX == stW st / stScale st && b.dimY == stH st / stScale st
  | 2 => b.format == 0x10 && b.dimY == fMaxPoints c
  | 3 => b.format == 0x11 && b.dimX == fScalars c
  | _ => false

/-- A round descriptor meets R347 with its network, given the sources and streams. -/
def roundFits (c : Bytes) (net : NetSlot) (source : Nat → Bytes) (stream : Nat → Nat → Bytes) : Bool :=
  let l := bindings net.data
  decide (3 ≤ net.state) &&
  (upto 16).all (fun n =>
    let b := l.filter (fun x => x.source == n)
    if bitOf (rSources c) n then
      match b with
      | [x] => bindingFits x (source n) (stream (fPort (source n)) (fStream (source n)))
      | _ => false
    else b.isEmpty) &&
  rUseState c == nUsesState net.data && decide (nBytes net.data ≤ rStride c)

/-- The enabled rounds that a predicate on their sources picks all meet R347 at grid time `g`, with one source or stream
replaced.
Log 86: DEDUCED, unsafe. -/
def State.roundsFit (s : State) (g : Nat) (touched : Bytes → Bool) (source : Nat → Bytes) (stream : Nat → Nat → Bytes) : Bool :=
  (upto 8).all fun k =>
    let c := s.roundAt k g
    !rEnable c || !(upto 16).any (fun n => bitOf (rSources c) n && touched (source n)) ||
    roundFits c (s.netSlot (rSlot c)) source stream

/-! ### GNSS rings (13 R363) and CAN receive regions (14 R387) -/

/-- Ring regions of a configuration (13 R363). -/
def gnssRegions (c : Bytes) : List Region :=
  [(u64 c 0x20, 28672 * u8 c 0x1E), (u64 c 0x28, 128 * u8 c 0x1F)].filter (fun r => r.2 != 0)

/-- The block's configuration in force at grid time `g`. -/
def State.gnssAt (s : State) (g : Nat) : Bytes := s.payloadAt 0x0A01 0 g s.gnss.config

def State.canPort (s : State) (p : Nat) : CanPort := Tbl.getD s.cans p {}

/-- Settings of a CAN port in force at grid time `g`. -/
def State.canAt (s : State) (p g : Nat) : Bytes := s.payloadAt 0x0B01 p g (s.canPort p).cfg

def cMode (c : Bytes) : Nat := bitsOf (u8 c 0) 0 2
def cRxBase (c : Bytes) : Nat := u64 c 0x10

/-- Receive region of an enabled port. -/
def canRegion (c : Bytes) : Region := if cMode c = 0 then (0, 0) else (cRxBase c, 24576)

/-- Receive regions of every port but one. -/
def State.canRegions (s : State) (g skip : Nat) : List Region :=
  ((upto 12).filter (fun p => p != skip)).map (fun p => canRegion (s.canAt p g))

/-! ### By rank: yield 0, camera 1, fusion 2, GNSS 3, CAN 4 -/

/-- Regions of the blocks below a rank, by the settings in force at grid time `g`. -/
def State.regionsBelow (s : State) (rank g : Nat) : List Region :=
  (if 0 < rank then [gridRegion (s.gridAt g)] else []) ++
  (if 1 < rank then s.camRings g (8, 0) else []) ++
  (if 2 < rank then s.fusRegions g 24 else []) ++
  (if 3 < rank then gnssRegions (s.gnssAt g) else [])

end Sys2Proof.Machine
end

