-- ==== Sys2Proof/Machine/CanCore.lean ====
section
/-!
DEFINITION. The CAN ports (14), first part: settings, states, the transmit queue and transmit items.
-/
namespace Sys2Proof.Machine
open Sys2Proof

def State.updCan (s : State) (p : Nat) (f : CanPort → CanPort) : State := { s with cans := Tbl.upd s.cans p {} f }

/-- A record of a port. -/
def State.raiseCan (s : State) (code p : Nat) (l : List Int) : State := s.raise code 7 p (details l)

/-! ### Settings (Table 14-12, R379) -/

def cFd (c : Bytes) : Bool := flagAt c 0 2
def cDefault (c : Bytes) : Bool := flagAt c 0 5
def cDetectFrames (c : Bytes) : Nat := u8 c 11
def cCandidates (c : Bytes) : Nat := u16 c 12 % 512
def cDwell (c : Bytes) : Nat := u16 c 14 * 1000000

/-- `TERMINATION`: 120 Ω across the port (R377). -/
def cTermination (c : Bytes) : Bool := flagAt c 0 4

/-- Twice the nominal, and the data, bit time in ns (R379). -/
def nomBit2 (c : Bytes) : Nat := (1 + u16 c 2 + u8 c 4) * u8 c 1 * 25
def dataBit2 (c : Bytes) : Nat := (1 + u8 c 7 + u8 c 8) * u8 c 6 * 25

/-- `MODE`, `FD_ENABLE` and both bit timings are the same (R391). -/
def sameTiming (a b : Bytes) : Bool :=
  cMode a == cMode b && cFd a == cFd b && (a.drop 1).take 9 == (b.drop 1).take 9

/-- Nominal bit times of the candidates of Table 14-9. -/
def candidateNs : List Nat := [100000, 50000, 20000, 10000, 8000, 4000, 2000, 1250, 1000]

/-- The next candidate after `i` in a mask, in ascending order and round again (R390). -/
def nextCandidate (mask i : Nat) : Nat :=
  ((((upto 9).filter (fun j => decide (i < j) && bitOf mask j)) ++ (upto 9).filter (fun j => bitOf mask j)).head?).getD 0

/-- The first candidate of a mask. -/
def firstCandidate (mask : Nat) : Nat := (((upto 9).filter (fun j => bitOf mask j)).head?).getD 0

/-! ### States -/

/-- The transceiver of a port is in standby and leaves the bus recessive (R380, R392). -/
def State.canStandby (s : State) (p : Nat) : Bool := !s.domain 12 || cMode (s.canPort p).cfg == 0

/-- The 120 Ω termination of a port is across it (R377). -/
def State.canTerminated (s : State) (p : Nat) : Bool := cTermination (s.canPort p).cfg

/-- Bus-off, or waiting for the recovery sequence. -/
def CanPort.off (c : CanPort) : Bool := c.state == 4 || c.state == 5

/-- The transmit queue is flushed (R389, R391). -/
def CanPort.flush (c : CanPort) : CanPort := { c with queue := [], flushed := sat32 c.flushed c.queue.length }

/-- The receive counts restart when the port is enabled or `RX_BASE` changes (R387). -/
def CanPort.restartCounts (c : CanPort) (old new : Bytes) : CanPort :=
  if (cMode old = 0 ∧ cMode new ≠ 0) ∨ cRxBase old ≠ cRxBase new then { c with rx0 := 0, rx1 := 0 } else c

/-- Settings with another mode, FD or bit timing are applied (R391).
Log 88: DEDUCED, unsafe. -/
def CanPort.reconfigure (c : CanPort) (p : Bytes) (now : Nat) : CanPort :=
  let c1 := { c.restartCounts c.cfg p with cfg := p, next := none }
  if c.off && cMode p == 1 then { c1 with tec := 0, rec_ := 0 }
  else
    let c2 := { c1 with
      tec := 0
      rec_ := 0
      since := now
      good := 0
      detected := 0
      candidate := firstCandidate (cCandidates p)
      state := match cMode p with
        | 0 => 0
        | 1 => 1
        | 2 => 6
        | _ => 7 }
    if cMode p = 1 then c2 else c2.flush

/-- The port takes part in the traffic: it sends or receives the frame on the bus. -/
def CanPort.listening (c : CanPort) : Bool := [2, 3, 6, 7].contains c.state

/-- The swap of `CAN_SET_PORT`, with `busy` for a frame that is on the bus (R391). -/
def CanPort.setPort (c : CanPort) (p : Bytes) (busy : Bool) (now : Nat) : CanPort :=
  if sameTiming c.cfg p then { c.restartCounts c.cfg p with cfg := p, next := none }
  else if busy && c.listening then { c with next := some p }
  else c.reconfigure p now

/-- The frame on the bus has ended: settings that waited for it apply. -/
def State.canFrameEnd (s : State) (p : Nat) : State :=
  match (s.canPort p).next with
  | some c => s.updCan p fun x => x.reconfigure c s.now
  | none => s

/-- Error-active or error-passive by the counters, in mode 1 (R389); the entry into error-passive is recorded. -/
def State.canConfine (s : State) (p : Nat) : State :=
  let c := s.canPort p
  let passive := decide (127 < c.tec) || decide (127 < c.rec_)
  if c.state = 2 ∧ passive then
    (s.updCan p fun c => { c with state := 3 }).raiseCan 0x0B03 p [(min c.tec 255 : Int), (c.rec_ : Int)]
  else if c.state = 3 ∧ !passive then s.updCan p fun c => { c with state := 2 }
  else s

/-- The port enters bus-off when TEC exceeds 255 (R389). -/
def State.canBusOff (s : State) (p : Nat) : State :=
  let c := s.canPort p
  if c.tec ≤ 255 then s else
  (s.updCan p fun c => { c.flush with state := 4, since := s.now, busOffs := sat32 c.busOffs 1 }).raiseCan 0x0B01 p
    [(c.tec : Int), (c.queue.length : Int)]

/-! ### Transmit items (R380 to R384) -/

/-- Data bytes of an FD frame by its `DLC`. -/
def fdLength (dlc : Nat) : Nat := [0, 1, 2, 3, 4, 5, 6, 7, 8, 12, 16, 20, 24, 32, 48, 64].getD dlc 64

/-- Data bytes of a frame; a remote frame has none. -/
def frameSize (f : CanFrame) : Nat := if f.rtr then 0 else if f.fdf then fdLength f.dlc else min 8 f.dlc

/-- The frame of a frame word with its data (Table 14-3). -/
def frameOf (w data : Bytes) : CanFrame :=
  let f : CanFrame :=
    { identifier := u32 w 0 % 536870912
      dlc := u8 w 4 % 16
      ide := flagAt w 4 4
      rtr := flagAt w 4 5
      fdf := flagAt w 4 6
      brs := flagAt w 4 7
      esi := false
      data := data }
  { f with data := fitTo (frameSize f) data }

/-- Why a frame is refused, with `n` the signals of its item (R382).
Log 88: DEDUCED, unsafe. -/
def frameRefused (f : CanFrame) (fd : Bool) (n : Nat) : Option Nat :=
  if !f.ide && decide (0x7FF < f.identifier) then some 0
  else if f.fdf && (f.rtr || !fd) then some 1
  else if f.brs && !f.fdf then some 2
  else if f.fdf && decide (8 + 16 * (n - 1) < fdLength f.dlc) then some 3
  else none

/-- A transmit item is taken (R382).
Log 88: DEDUCED, unsafe. -/
def State.takeCan (s : State) (p item : Nat) (c : Copy) : State :=
  let x := s.canPort p
  let w := putLE 16 c.value
  let f := frameOf w (w.drop 8 ++ (c.more.map (fun m => putLE 16 m.1)).flatten)
  if !s.domain 12 || decide (11 < p) || !flagAt w 5 0 then s
  else if cMode x.cfg != 1 || x.off then s.updCan p fun x => { x with flushed := sat32 x.flushed 1 }
  else match frameRefused f (cFd x.cfg) ((item - 0x1000) / 0x100 + 1) with
    | some cause => (s.updCan p fun x => { x with refused := sat32 x.refused 1 }).raiseCan 0x0B05 p [(item : Int), (cause : Int)]
    | none =>
      if 64 ≤ x.queue.length then
        (s.updCan p fun x => { x with overflow := sat32 x.overflow 1 }).raiseCan 0x0B04 p [(f.identifier : Int)]
      else s.updCan p fun x => { x with queue := x.queue ++ [⟨f, s.now + 100⟩] }

end Sys2Proof.Machine
end

