-- ==== Sys2Proof/Machine/Geo.lean ====
section
/-!
DEFINITION. The plane geometry of the yield tally (09 R259, R261) and of the fusion engine (12 R326 to R328). Lengths are in
mm; angles, sines and cosines are fixed-point numbers of 96 fraction bits.
-/
namespace Sys2Proof.Machine
open Sys2Proof

/-! ### Fixed-point numbers -/

/-- The number 1. -/
def fixOne : Int := 2 ^ 96

/-- A product. -/
def fixMul (a b : Int) : Int := a * b / fixOne

/-- A full turn in rad. -/
def fixTurn : Int := 497805226624462170461043889244

/-- An angle counted in parts of a turn. -/
def fixAngle (n parts : Int) : Int := n * fixTurn / parts

/-- A quantity as a whole number: itself where it is whole to within 2^-25, else the whole number below it or the one above.
The rules fix no rounding.
Log 18: DESIGN CHOICE, safe. -/
def wholeOf (v : Int) : Int :=
  let t := (v + 2 ^ 71) / 2 ^ 72
  t / 16777216 + (if t % 16777216 ≠ 0 ∧ Config.roundUp t then 1 else 0)

/-- The terms of the exponential series of `a` on the imaginary axis from term `k` on, added: cosine and sine. -/
def cisGo (a : Int) : Nat → Int → Int × Int → Int × Int → Int × Int
  | 0, _, _, sum => sum
  | n + 1, k, t, sum =>
    let u : Int × Int := (-(t.2 * a) / (k * fixOne), t.1 * a / (k * fixOne))
    cisGo a n (k + 1) u (sum.1 + u.1, sum.2 + u.2)

/-- Cosine and sine of an angle of at most one turn. -/
def cis (a : Int) : Int × Int := cisGo a 64 1 (fixOne, 0) (fixOne, 0)

/-- Cosine and sine as the fusion engine evaluates them: within 2^-30 (12 R328).
Log 18: DESIGN CHOICE, safe. -/
def engineCis (a : Int) : Int × Int :=
  let near (v e : Int) : Int := v + max (-(2 ^ 66 - 2 ^ 40)) (min (2 ^ 66 - 2 ^ 40) e)
  (near (cis a).1 (Config.cosineError a), near (cis a).2 (Config.sineError a))

/-- One step of Newton's iteration for a square root, by fuel. -/
def isqrtGo : Nat → Nat → Nat → Nat
  | 0, _, x => x
  | f + 1, n, x => if x * x ≤ n then x else isqrtGo f n ((x + n / x) / 2)

/-- Square root rounded down. -/
def isqrt (n : Nat) : Nat := if n < 2 then n else isqrtGo 80 n (2 ^ (Nat.log2 n / 2 + 1))

/-- The length of a vector as a whole number: rounded either way where it is not whole.
Log 18: DESIGN CHOICE, safe. -/
def vectorLength (x y : Int) : Int :=
  let q := x.natAbs * x.natAbs + y.natAbs * y.natAbs
  let r := isqrt q
  r + (if r * r ≠ q ∧ Config.roundUp q then 1 else 0)

/-! ### The ellipsoid -/

/-- The square of the first eccentricity of WGS 84. -/
def wgsE2 : Int := 530383425791155557092813778

/-- Earth-centred coordinates of a position on WGS 84: cosine and sine of latitude and longitude, and the height. -/
def ecef (lat lon : Int × Int) (height : Int) : Int × Int × Int :=
  let w := fixOne - fixMul wgsE2 (fixMul lat.2 lat.2)
  let n := 6378137000 * fixOne * fixOne / (isqrt (w * fixOne).toNat : Int)
  let r := fixMul (n + height * fixOne) lat.1
  (fixMul r lon.1, fixMul r lon.2, fixMul (n - fixMul wgsE2 n + height * fixOne) lat.2)

/-- East and north, in mm, of a position on the plane that touches the ellipsoid at an origin (09 R261, 12 R327): latitude
and longitude in 10^-9 degree and height of the origin, then of the position. -/
def tangentPlane (lat0 lon0 h0 lat lon h : Int) : Int × Int :=
  let deg (v : Int) : Int × Int := cis (fixAngle v 360000000000)
  let a := deg lat0
  let b := deg lon0
  let p := ecef (deg lat) (deg lon) h
  let o := ecef a b h0
  let dx := p.1 - o.1
  let dy := p.2.1 - o.2.1
  let dz := p.2.2 - o.2.2
  (wholeOf (fixMul dy b.1 - fixMul dx b.2),
   wholeOf (fixMul dz a.1 - fixMul a.2 (fixMul dx b.1 + fixMul dy b.2)))

/-! ### Turns -/

/-- (x sin h + y cos h, x cos h - y sin h) for a heading of 10^-5 degree. -/
def turnBy (c : Int × Int) (x y : Int) : Int × Int := (wholeOf (x * c.2 + y * c.1), wholeOf (x * c.1 - y * c.2))

/-- East and north of a lever arm `f` forward and `r` right at a heading of 10^-5 degree (09 R259). -/
def leverArm (f r : Int) (heading : Nat) : Int × Int := turnBy (cis (fixAngle heading 36000000)) f r

/-- The same with the fusion engine's sine and cosine (12 R326, R327). -/
def rotHeading (h : Nat) (x y : Int) : Int × Int :=
  if x = 0 ∧ y = 0 then (0, 0) else if h = 0 then (y, x) else turnBy (engineCis (fixAngle h 36000000)) x y

/-- (x cos q - y sin q, x sin q + y cos q), q in 2^-9 rad (12 R327, R328). -/
def rotTurn (q : Int) (x y : Int) : Int × Int :=
  if q = 0 then (x, y) else
  let c := engineCis (q * 2 ^ 87)
  (wholeOf (x * c.1 - y * c.2), wholeOf (x * c.2 + y * c.1))

/-- A turn of 10^-5 degree in 2^-24 rad (12 Table 12-7). -/
def turnRad (w : Int) : Int := wholeOf (w * fixTurn * 16777216 / 36000000)

/-! ### The state grid (12 R324, R328) -/

/-- Rounded half-up to whole cells of 200 mm. -/
def toCells (v : Int) : Int := (v + 100) / 200

/-- The old cell a new cell is filled from (R328). -/
def warpSource (w : Int × Int × Int × Nat × Nat) (r c : Nat) : Int × Int :=
  let (nx, ny, q, row, col) := w
  let x := ((row : Int) - r) * 200
  let y := ((c : Int) - col) * 200
  let p := rotTurn q x y
  ((row : Int) - toCells (200 * nx + p.1), (col : Int) + toCells (200 * ny + p.2))

/-- A feature of a state buffer (R324, R328). -/
def GridBuf.feature (b : GridBuf) (r c f : Nat) : Byte :=
  match b.base with
  | none => 0
  | some n =>
    let (ro, co) := (match b.warp with
      | some w => warpSource w r c
      | none => ((r : Int), (c : Int)))
    if 0 ≤ ro ∧ ro < 512 ∧ 0 ≤ co ∧ co < 512 then Config.netState n ro.toNat co.toNat f else 0

/-- The byte of a state buffer at an offset from its base (R324). -/
def GridBuf.byteAt (b : GridBuf) (off : Nat) : Byte := b.feature (off / 64 / 512) (off / 64 % 512) (off % 64)

/-! ### The working area of the fusion memory (12 Tables 12-1 and 12-2) -/

/-- Bytes of the Canvas, and of a state buffer. -/
def gridBytes : Nat := 16777216

/-- Where the engine keeps something in its working area: 0 Canvas, 1 and 2 the state buffers, 3 the input descriptors,
4 the copies of scalar samples, 5 the zero buffer. The manual gives no addresses: they follow one another, with free gaps.
Log 83: DESIGN CHOICE, safe. -/
def workAddr (k : Nat) : Nat :=
  let gap (j : Nat) : Nat := 4096 * (Config.workGap j % 256)
  let size (j : Nat) : Nat := if j ≤ 2 then gridBytes else 4096
  0x400000000 + ((List.range (k + 1)).map gap).sum + ((List.range k).map size).sum

end Sys2Proof.Machine
end

