-- ==== Sys2Proof/Machine/MemCore.lean ====
section
/-!
DEFINITION. The protected memories (16), first part: the byte-lane code, what a memory holds, its reads and writes.
-/
namespace Sys2Proof.Machine
open Sys2Proof

/-! ### The code (R424, R425) -/

/-- The check bits of a data byte, c4 in bit 4 to c0 in bit 0 (Table 16-2). -/
def checkBits (d : Byte) : BitVec 5 :=
  let b (i : Nat) : Bool := d.getLsbD i
  let c0 := b 0 ^^ b 1 ^^ b 3 ^^ b 4 ^^ b 6
  let c1 := b 0 ^^ b 2 ^^ b 3 ^^ b 5 ^^ b 6
  let c2 := b 1 ^^ b 2 ^^ b 3 ^^ b 7
  let c3 := b 4 ^^ b 5 ^^ b 6 ^^ b 7
  let all := b 0 ^^ b 1 ^^ b 2 ^^ b 3 ^^ b 4 ^^ b 5 ^^ b 6 ^^ b 7
  BitVec.ofNat 5 (packFlags [c0, c1, c2, c3, all ^^ c0 ^^ c1 ^^ c2 ^^ c3])

/-- A data byte with its check bits. -/
def encodeByte (d : Byte) : BitVec 13 := checkBits d ++ d

/-- The data bits as stored. -/
def codeData (c : BitVec 13) : Byte := c.extractLsb' 0 8

/-- The check bits as stored. -/
def codeCheck (c : BitVec 13) : BitVec 5 := c.extractLsb' 8 5

/-- Outcome of decoding one byte (Table 16-3). -/
inductive Decoded where
  | good
  /-- Corrected at a codeword position; 0 for c4. -/
  | corrected (position : Nat)
  | uncorrectable
deriving DecidableEq, Repr

/-- The syndrome: c3 to c0 recomputed from the stored data, exclusive-ORed with the stored ones. -/
def syndrome (c : BitVec 13) : Nat := ((checkBits (codeData c)) ^^^ codeCheck c).toNat % 16

/-- The stored bits hold an odd number of ones. -/
def oddOnes (c : BitVec 13) : Bool := (upto 13).foldl (fun acc i => acc ^^ c.getLsbD i) false

def decodeByte (c : BitVec 13) : Decoded :=
  let s := syndrome c
  if oddOnes c then (if s ≤ 12 then .corrected s else .uncorrectable)
  else if s = 0 then .good else .uncorrectable

/-- The data bit at a codeword position (R424); none: a check bit. -/
def dataBit (position : Nat) : Option Nat :=
  match position with
  | 3 => some 0
  | 5 => some 1
  | 6 => some 2
  | 7 => some 3
  | 9 => some 4
  | 10 => some 5
  | 11 => some 6
  | 12 => some 7
  | _ => none

/-- The data a read delivers; an uncorrectable byte as stored. -/
def deliveredData (c : BitVec 13) : Byte :=
  match decodeByte c with
  | .corrected p => match dataBit p with
    | some i => codeData c ^^^ BitVec.ofNat 8 (2 ^ i)
    | none => codeData c
  | .good => codeData c
  | .uncorrectable => codeData c

/-! ### Stored bytes -/

/-- The stored byte of an address, if one is listed. -/
def Cells.find : Cells → Nat → Option (BitVec 13)
  | [], _ => none
  | (a, c) :: r, k => if a = k then some c else Cells.find r k

/-- The cells with one byte stored, the addresses kept rising. -/
def Cells.put : Cells → Nat → BitVec 13 → Cells
  | [], k, v => [(k, v)]
  | (a, c) :: r, k, v =>
    if a = k then (k, v) :: r
    else if k < a then (k, v) :: (a, c) :: r
    else (a, c) :: Cells.put r k v

/-- The cells without an address. -/
def Cells.del : Cells → Nat → Cells
  | [], _ => []
  | (a, c) :: r, k => if a = k then Cells.del r k else (a, c) :: Cells.del r k

/-- What an unlisted byte of controller `ctrl` holds: what the first range that it lies in gives, a fill's zero, or undefined
contents.
Log 9: DESIGN CHOICE, safe. -/
def MemCtrl.ground (m : MemCtrl) (ctrl a : Nat) : Contents :=
  match m.grounds.find? (fun g => decide (g.base ≤ a) && decide (a < g.base + g.size)) with
  | some g => g.what
  | none => if m.filled then .zeros else .undefined ctrl m.powerUps

/-- An unlisted byte holds zero data with valid check bits. -/
def MemCtrl.zeroAt (m : MemCtrl) (a : Nat) : Bool := m.ground 0 a == .zeros

/-- The stored byte at an address of such contents. -/
def Contents.code (x : Contents) (a : Nat) : BitVec 13 :=
  match x with
  | .zeros => 0#13
  | .undefined c n => Config.unwritten c n a
  | .engine n => encodeByte (Config.engineByte n a)
  | .grid b g => encodeByte (g.byteAt (a - b))

/-- The canonical form of a memory: addresses rise strictly, and no listed byte is the zero that it would hold unlisted.
Log 114: DESIGN CHOICE, safe. -/
def MemCtrl.wf (m : MemCtrl) : Bool :=
  Tbl.rising 0 m.cells && Tbl.rising 0 m.test && m.cells.all (fun x => !m.zeroAt x.1 || x.2 != 0#13)

/-- The canonical form of all memories: each controller is listed once, in order, and its memory has its form.
Log 114: DESIGN CHOICE, safe. -/
def MemSt.wf (m : MemSt) : Bool := Tbl.rising 0 m.ctrls && m.ctrls.all (fun x => x.2.wf)

/-- The stored byte of an address: where nothing is listed, a fill's zero, or contents that nothing fixes (R437).
Log 9: DESIGN CHOICE, safe. -/
def MemCtrl.code (m : MemCtrl) (ctrl a : Nat) : BitVec 13 :=
  match m.cells.find a with
  | some c => c
  | none => (m.ground ctrl a).code a

/-- One byte stored as given. -/
def MemCtrl.store (m : MemCtrl) (a : Nat) (c : BitVec 13) : MemCtrl :=
  { m with cells := if m.zeroAt a && c == 0#13 then m.cells.del a else m.cells.put a c }

/-- A run of bytes written, each with its own check bits (R426). -/
def MemCtrl.write (m : MemCtrl) : Nat → Bytes → MemCtrl
  | _, [] => m
  | a, b :: r => MemCtrl.write (m.store a (encodeByte b)) (a + 1) r

/-- The memory filled with zeros (R438). -/
def MemCtrl.fill (m : MemCtrl) : MemCtrl := { m with cells := [], filled := true, grounds := [] }

/-- An address lies in one of the ranges given, base and size. -/
def inRanges (l : List (Nat × Nat)) (a : Nat) : Bool := l.any (fun r => decide (r.1 ≤ a) && decide (a < r.1 + r.2))

/-- The part of a ground that lies in a range. -/
def Ground.clip (g : Ground) (r : Nat × Nat) : Ground :=
  let b := max g.base r.1
  ⟨b, min (g.base + g.size) (r.1 + r.2) - b, g.what⟩

/-- The listed bytes outside ranges of addresses, with new grounds in the ranges; an old ground of one of their ranges goes. -/
def MemCtrl.reground (m : MemCtrl) (l : List (Nat × Nat)) (g : List Ground) : MemCtrl :=
  { m with
    cells := m.cells.filter (fun x => !inRanges l x.1)
    grounds := g ++ m.grounds.filter (fun x => !l.contains (x.base, x.size)) }

/-- Ranges of addresses come to hold what they hold in another memory, of controller `ctrl`.
Log 63: DEDUCED, unsafe. -/
def MemCtrl.copyFrom (m : MemCtrl) (ctrl : Nat) (src : MemCtrl) (l : List (Nat × Nat)) : MemCtrl :=
  let rest : Contents := if src.filled then .zeros else .undefined ctrl src.powerUps
  let ground := l.flatMap fun r => (src.grounds.map (fun g => g.clip r)) ++ [⟨r.1, r.2, rest⟩]
  (src.cells.filter (fun x => inRanges l x.1)).foldl (fun m x => m.store x.1 x.2) (m.reground l ground)

/-- Ranges of addresses come to hold something else. -/
def MemCtrl.cover (m : MemCtrl) (l : List ((Nat × Nat) × Contents)) : MemCtrl :=
  m.reground (l.map (·.1)) (l.map fun x => ⟨x.1.1, x.1.2, x.2⟩)

/-- Ranges of addresses come to hold undefined contents, by the number of a free value. -/
def MemCtrl.undefine (m : MemCtrl) (ctrl n : Nat) (l : List (Nat × Nat)) : MemCtrl :=
  m.cover (l.map fun r => (r, .undefined (8 * n + 8 + ctrl) 0))

/-! ### Controllers -/

def State.memc (s : State) (c : Nat) : MemCtrl := Tbl.getD s.mem.ctrls c (resetMemCtrl c)

def State.updMem (s : State) (c : Nat) (f : MemCtrl → MemCtrl) : State :=
  { s with mem := { s.mem with ctrls := Tbl.upd s.mem.ctrls c (resetMemCtrl c) f } }

/-- Bytes of a controller's memory (Table 16-1).
Log 114: DESIGN CHOICE, safe. -/
def memSize (c : Nat) : Nat :=
  match c with
  | 0 => 17179869184
  | 1 => 17179869184
  | 2 => 4194304
  | 3 => 4194304
  | 4 => 34359738368
  | _ => 8388608

/-- Regions of a controller. -/
def memRegions (c : Nat) : Nat :=
  match c with
  | 0 => 16
  | 1 => 16
  | 4 => 32
  | _ => 1

def isDram (c : Nat) : Bool := c == 0 || c == 1 || c == 4

/-- The lane whose memory a controller serves. -/
def memLane (c : Nat) : Option Lane :=
  if c = 0 ∨ c = 2 then some .main else if c = 1 ∨ c = 3 then some .mizzen else none

/-- The region of an address is QUIET (R427). -/
def MemCtrl.isQuiet (m : MemCtrl) (ctrl a : Nat) : Bool := bitOf m.quiet (if isDram ctrl then a / 1073741824 else 0)

/-- Details that name a controller, a 64-bit address and two more items (17 R443). -/
def memDetails (c a x y : Nat) : Bytes := putLE 4 c ++ zeros 4 ++ putLE 8 a ++ putLE 4 x ++ putLE 4 y

/-- A lane's DRAM written: a lane whose memory is off takes nothing. -/
def State.dramWrite (s : State) (l : Lane) (a : Nat) (b : Bytes) : State :=
  if s.domain (if l = .main then 3 else 5) then s.updMem l.code (fun m => m.write a b) else s

/-- A block's write into both lanes' DRAM: a lane that is down, recovering or failed takes none; one in `RESYNC` has it
forwarded over the cross-lane path (05 R155, 01 R20, R22). -/
def State.fanWrite (s : State) (a : Nat) (b : Bytes) : State :=
  let takes (l : Lane) : Bool := (s.lane l).running && match (s.xtLane l).state with
    | .recovering | .failed => false
    | .resync => s.xt.crossLane
    | .active | .standby | .probation => true
  let s1 := if takes .main then s.dramWrite .main a b else s
  if takes .mizzen then s1.dramWrite .mizzen a b else s1

/-- Fusion memory is on, and no fill of it runs (16 R438). -/
def State.fusionMem (s : State) : Bool := s.domain 7 && (s.memc 4).fillFrom.isNone

/-- Writes into fusion memory, dropped while D7 is off (R315) and during a fill, which comes before any of them (R438).
Log 43: DEDUCED, safe. -/
def State.fusionWrite (s : State) (w : List (Nat × Bytes)) : State :=
  if s.fusionMem then s.updMem 4 fun m => w.foldl (fun m x => m.write x.1 x.2) m else s

/-- What the fusion engine leaves in ranges of its memory. -/
def State.fusionCover (s : State) (l : List ((Nat × Nat) × Contents)) : State :=
  if s.fusionMem then s.updMem 4 fun m => m.cover l else s

/-- Data bytes of a lane's DRAM as a read delivers them. -/
def State.dramRead (s : State) (l : Lane) (a n : Nat) : Bytes :=
  (upto n).map (fun i => deliveredData ((s.memc l.code).code l.code (a + i)))

end Sys2Proof.Machine
end

