-- ==== Sys2Proof/Machine/FusionCore.lean ====
section
/-!
DEFINITION. The Canvas fusion engine (12), first part: ego-motion and the state grid, the judging of samples, the issue of
rounds, scalar groups.
-/
namespace Sys2Proof.Machine
open Sys2Proof

def State.updFus (s : State) (f : FusSt → FusSt) : State := { s with fus := f s.fus }

def State.updSource (s : State) (n : Nat) (f : FusSource → FusSource) : State :=
  s.updFus fun u => { u with sources := Tbl.upd u.sources n { cfg := fusSourceReset } f }

def State.updRound (s : State) (k : Nat) (f : FusRound → FusRound) : State :=
  s.updFus fun u => { u with rounds := Tbl.upd u.rounds k { cfg := fusRoundReset } f }

def State.updSlot (s : State) (n : Nat) (f : NetSlot → NetSlot) : State :=
  s.updFus fun u => { u with slots := Tbl.upd u.slots n {} f }

/-- A record of the engine. -/
def State.raiseFus (s : State) (code : Nat) (l : List Int) : State := s.raise code 4 255 (details l)

/-- Compute and memory are both on (R348). -/
def State.fusOn (s : State) : Bool := s.domain 6 && s.domain 7

def canvasRow (c : Bytes) : Nat := u16 c 0
def canvasCol (c : Bytes) : Nat := u16 c 2
def canvasFwd (c : Bytes) : Int := s32 c 4
def canvasRight (c : Bytes) : Int := s32 c 8

/-! ### Ego-motion and the warp (R326 to R328) -/

/-- Displacement of the machine reference point between two records, in the older machine frame (R326, R327). -/
def egoDisplacement (canvas : Bytes) (old new : NavRec) : Int × Int :=
  let lat (r : NavRec) : Int := s64 r.bytes 0x10
  let lon (r : NavRec) : Int := s64 r.bytes 0x18
  let height (r : NavRec) : Int := s32 r.bytes 0x20
  let same := lat old == lat new && lon old == lon new && height old == height new
  let a := if same then (0, 0) else tangentPlane (lat old) (lon old) (height old) (lat new) (lon new) (height new)
  let f := canvasFwd canvas
  let r := canvasRight canvas
  let l0 := rotHeading old.heading f r
  let l1 := rotHeading new.heading f r
  rotHeading old.heading (a.1 - l1.1 + l0.1) (a.2 - l1.2 + l0.2)

/-- Heading change, wrapped to (-π, π], in 2^-24 rad. -/
def egoTurn (old new : NavRec) : Int :=
  let d := ((new.heading : Int) - old.heading) % 36000000
  let w := if 18000000 < d then d - 36000000 else d
  turnRad w

/-- What a round that uses state finds of the motion, and the residuals it leaves. -/
structure Ego where
  pose    : Option NavRec
  age     : Nat
  applied : Bool
  dx      : Int
  dy      : Int
  dh      : Int
  nx      : Int
  ny      : Int
  /-- q in 2^-9 rad. -/
  q       : Int
  ex      : Int
  ey      : Int
  rho     : Int
deriving DecidableEq, Repr

/-- The pose of a round with instant T on grid time (R326): the latest valid record with its epoch in (T - 1 s, T]. -/
def FusSt.poseAt (u : FusSt) (t : Nat) : Option NavRec :=
  let ok (r : NavRec) : Bool := decide (r.epoch ≤ t) && decide (t < r.epoch + 1000000000) && r.valid && r.headingValid
  (u.poses.filter ok).foldl (fun best r => match best with
    | some b => if b.epoch ≤ r.epoch then some r else best
    | none => some r) none

/-- The motion of a round (R327). `prev` and the residuals are those after a state reset, where there is one. -/
def egoMotion (canvas : Bytes) (t : Nat) (pose prev : Option NavRec) (rx ry rh : Int) : Ego :=
  let none_ (p : Option NavRec) (x y h : Int) : Ego :=
    { pose := p
      age := (match p with
        | some r => (t - r.epoch) / 1000
        | none => 0)
      applied := false
      dx := 0, dy := 0, dh := 0, nx := 0, ny := 0, q := 0, ex := x, ey := y, rho := h }
  match pose, prev with
  | none, _ => none_ none rx ry rh
  | some p, none => none_ (some p) 0 0 0
  | some p, some o =>
    if 10000000000 < p.epoch - o.epoch then none_ (some p) 0 0 0
    else
      let d := egoDisplacement canvas o p
      let dh := egoTurn o p
      let a := dh + rh
      let q := (a + 16384) / 32768
      let x := d.1 + rx
      let y := d.2 + ry
      let e := rotTurn (-q) (x - 200 * toCells x) (y - 200 * toCells y)
      { pose := some p
        age := (t - p.epoch) / 1000
        applied := true
        dx := d.1
        dy := d.2
        dh := dh
        nx := toCells x
        ny := toCells y
        q := q
        ex := e.1
        ey := e.2
        rho := a - q * 32768 }

/-! ### Input descriptors and the output header (R342, R343) -/

/-- An input descriptor (Table 12-6). -/
def inputDescriptor (kind format flags dimX dimY pitch address stamp seq gen tag : Nat) (mount : Bytes) : Bytes :=
  putLE 1 kind ++ putLE 1 format ++ putLE 1 flags ++ zeros 1 ++ putLE 4 dimX ++ putLE 4 dimY ++ putLE 4 pitch ++
  putLE 8 address ++ putLE 8 stamp ++ putLE 4 seq ++ putLE 2 gen ++ putLE 2 tag ++ mount ++ zeros 6

/-- Mounting pose of a source, as passed on. -/
def mountOf (c : Bytes) : Bytes := (c.drop 0x20).take 18

/-- The descriptor of a source in a round: present with its candidate, absent with the zero buffer, or not enabled.
Log 85: DEDUCED, unsafe. -/
def sourceDescriptor (s : State) (o : OpenRound) (present : Nat → Option Sample) (n : Nat) : Bytes :=
  let c := (s.fusSource n).cfg
  if !bitOf (rSources o.cfg) n then inputDescriptor 0 0 0 0 0 0 0 0 0 0 0 (zeros 18)
  else
    let b := ((bindings (s.netSlot (rSlot o.cfg)).data).find? (fun b => b.source == n)).getD ⟨n, 0, 0, 0, 0⟩
    match present n with
    | some x =>
      inputDescriptor (fKind c) b.format (packFlags [true, x.partial_, x.uncertain]) x.dimX x.dimY x.pitch x.address x.stamp
        x.seq x.gen x.tag (mountOf c)
    | none =>
      inputDescriptor (fKind c) b.format 0 b.dimX b.dimY b.pitch (workAddr 5) 0 0 0 0 (mountOf c)

/-- Descriptor 16 or 17, of a grid at an address (R342). -/
def gridDescriptor (n address : Nat) : Bytes :=
  let free (a b : Nat) : Bytes := (upto (b - a)).map (fun i => Config.gridDescriptor n (a + i))
  [4#8, 0x12#8] ++ free 2 4 ++ putLE 4 512 ++ putLE 4 512 ++ putLE 4 32768 ++ putLE 8 address ++ free 0x18 0x40

/-- The working area but for the two state buffers (Table 12-2). -/
def workRanges : List (Nat × Nat) :=
  [(0x400000000, workAddr 1 - 0x400000000), (workAddr 1 + gridBytes, workAddr 2 - (workAddr 1 + gridBytes)),
   (workAddr 2 + gridBytes, 0x410000000 - (workAddr 2 + gridBytes))]

/-- Bytes of the zero buffer that the absent sources of a round need (R336). -/
def zeroBytes (s : State) (o : OpenRound) (present : Nat → Option Sample) : Nat :=
  let absent := (bindings (s.netSlot (rSlot o.cfg)).data).filter (fun b => (present b.source).isNone)
  min (0x410000000 - workAddr 5) (absent.foldl (fun n b => max n (b.pitch * b.dimY)) 0)

/-- What the engine leaves in its working area for a round (R322 to R328, R336, R342): the input descriptors, the copies of
scalar samples, the zero buffer, the warped state; the rest is free.
Log 83: DESIGN CHOICE, safe. -/
def State.workRound (s : State) (o : OpenRound) (heads : Bytes) (present : Nat → Option Sample) : State :=
  let k := 2 - s.fus.gridAt
  let state := if rUseState o.cfg then [((workAddr k, gridBytes), Contents.grid (workAddr k) s.fus.spare)] else []
  let zero := ((workAddr 5, zeroBytes s o present), Contents.zeros)
  let scalar (n : Nat) : List (Nat × Bytes) :=
    match present n with
    | some x => if x.values = [] then [] else [(x.address, (x.values.map (putS 4)).flatten)]
    | none => []
  let heads := heads ++ gridDescriptor 16 (workAddr 0) ++ gridDescriptor 17 (workAddr k)
  let t := s.fusionCover (zero :: state ++ workRanges.map (fun r => (r, .engine s.free)))
  (t.fusionWrite ((workAddr 3, heads) :: (upto 16).flatMap scalar)).useFree

/-- The 128 bytes of Table 12-7, with `FLAGS` 0. -/
def roundInfo (s : State) (o : OpenRound) (presence : Nat) (e : Ego) : Bytes :=
  let d := (s.netSlot (rSlot o.cfg)).data
  putLE 4 o.number ++ putLE 2 presence ++ zeros 2 ++ putLE 8 o.instant ++ putLE 8 s.time.mast ++ putLE 8 (nId d) ++
  putLE 4 (nBytes d) ++ putLE 1 o.round ++ putLE 1 (u8 d 0x26) ++ zeros 2 ++ putLE 2 (u16 d 0x20) ++ putLE 2 (u16 d 0x22) ++
  putLE 2 (u16 d 0x24) ++ zeros 2 ++ putLE 4 (u32 d 0x28) ++ putLE 4 (min max32 e.age) ++ putS 4 e.dx ++ putS 4 e.dy ++
  putS 4 e.dh ++ putS 4 e.ex ++ putS 4 e.ey ++ putS 4 e.rho ++ putLE 2 (canvasRow s.fus.canvas) ++
  putLE 2 (canvasCol s.fus.canvas) ++ putS 2 e.nx ++ putS 2 e.ny ++ putS 4 (e.q * 32768) ++ zeros 36

/-! ### Rounds (R334 to R340) -/

/-- Motion fields of a round that does not use state. -/
def noEgo : Ego :=
  { pose := none, age := 0, applied := false, dx := 0, dy := 0, dh := 0, nx := 0, ny := 0, q := 0, ex := 0, ey := 0, rho := 0 }

/-- A camera candidate matches its binding (R347).
Log 84: DEDUCED, unsafe. -/
def State.candidateFits (s : State) (o : OpenRound) (x : Sample) : Bool :=
  let c := (s.fusSource x.source).cfg
  fKind c != 1 ||
  (bindings (s.netSlot (rSlot o.cfg)).data).any (fun b => b.source == x.source && bindingFits b c x.stream)

/-- The candidate of an open round from a source, if it is present (R336). -/
def State.presentOf (s : State) (o : OpenRound) (n : Nat) : Option Sample :=
  match o.cands.find? (fun x => x.source == n) with
  | some x => if s.candidateFits o x then some x else none
  | none => none

/-- Every enabled source of an open round has a candidate. -/
def OpenRound.complete (o : OpenRound) : Bool :=
  (upto 16).all (fun n => !bitOf (rSources o.cfg) n || o.cands.any (fun x => x.source == n))

/-- Release slot of an instant (R334). -/
def releaseSlot (grid : Nat) (cfg : Bytes) : Nat := grid / 10000 + rRelease cfg

/-- A state reset of a round that uses state (R325); its cause is recorded.
Log 86: DEDUCED, unsafe. -/
def State.applyReset (s : State) : State :=
  match s.fus.resetCause with
  | none => s
  | some c =>
    (s.updFus fun u => { u with resetCause := none, prevPose := none, resX := 0, resY := 0, resH := 0, grid := {} }).raiseFus
      0x0905 [(c : Int)]

/-- The motion of a round that uses state, with what it leaves: residuals, pose, and the warped buffer (R325 to R328). -/
def State.moveState (s : State) (t : Nat) : State × Ego :=
  let u := s.fus
  let e := egoMotion u.canvas t (u.poseAt t) u.prevPose u.resX u.resY u.resH
  let w : Int × Int × Int × Nat × Nat := (e.nx, e.ny, e.q, canvasRow u.canvas, canvasCol u.canvas)
  (s.updFus fun u =>
    { u with
      resX := e.ex
      resY := e.ey
      resH := e.rho
      prevPose := (match e.pose with
        | some p => some p
        | none => u.prevPose)
      spare := { base := u.grid.base, warp := some w } }, e)

/-- A round is issued (R336): presence, motion, its header, and its release. -/
def State.issueRound (s : State) (o : OpenRound) (waited : Bool) : State :=
  let useState := rUseState o.cfg
  let reset := useState && s.fus.resetCause.isSome
  let s1 := if useState then s.applyReset else s
  let (s2, e) := if useState then s1.moveState o.grid else (s1, noEgo)
  let present (n : Nat) : Option Sample := if bitOf (rSources o.cfg) n then s.presentOf o n else none
  let presence := packFlags ((upto 16).map (fun n => (present n).isSome))
  let flags := packFlags [e.pose.isSome, e.applied, false, false, false, reset, false, waited]
  let heads := ((upto 16).map (sourceDescriptor s o present)).flatten
  let head := roundInfo s o presence e ++ heads ++ zeros 896
  let late := s.now - o.tick
  let run : RunRound :=
    { round := o.round
      number := o.number
      cfg := o.cfg
      head := head
      flags := flags
      bytes := nBytes (s.netSlot (rSlot o.cfg)).data
      useState := useState
      output := none }
  let rel : Release :=
    { round := o.round
      number := o.number
      slot := releaseSlot o.grid o.cfg
      instant := o.instant
      presence := presence
      flags := flags
      entry := o.number % rRing o.cfg
      issueUs := min 65535 (late / 1000)
      written := false }
  let past : PastRound := ⟨o.round, o.number, rSources o.cfg, o.tick, rWait o.cfg, some s.now, o.cands.map (fun x => x.source)⟩
  let s3 := (s2.workRound o heads present).updFus fun u =>
    { u with
      open_ := u.open_.filter (fun x => x != o)
      past := u.past ++ [past]
      running := some run
      releases := u.releases ++ [rel] }
  let s4 := s3.updRound o.round fun r =>
    { r with
      run := sat32 r.run 1
      waited := sat32 r.waited (b2n waited)
      maxIssue := min max32 (max r.maxIssue late) }
  (upto 16).foldl (fun t n => if (present n).isSome then t.updSource n fun x => { x with used := sat32 x.used 1 } else t) s4

/-- A round is skipped (R338): its record follows at its release slot. The engine could not begin a scheduled operation in its
slot, and reports that (03 R93).
Log 123: DEDUCED, unsafe. -/
def State.skipRound (s : State) (k number : Nat) (cfg : Bytes) (notReady : Bool) : State :=
  let rel : Release :=
    { round := k
      number := number
      slot := releaseSlot s.grid cfg
      instant := s.time.mast
      presence := 0
      flags := packFlags [false, false, false, false, true, false, notReady]
      entry := number % rRing cfg
      issueUs := 0
      written := false }
  let past : PastRound := ⟨k, number, rSources cfg, s.now, rWait cfg, none, []⟩
  let s1 := s.updFus fun u => { u with past := u.past ++ [past], releases := u.releases ++ [rel] }
  ((s1.updRound k fun r => { r with skipped := sat32 r.skipped 1 }).raiseFus 0x0903
    [(k : Int), (number : Int), (b2n notReady : Int)]).blockLate 4 k

/-! ### Samples (R329 to R337) -/

/-- A rejected sample (Table 12-11). -/
def State.rejectSample (s : State) (n cause : Nat) : State :=
  (s.updSource n fun x => { x with rejected := sat32 x.rejected 1 }).raiseFus 0x0904 [(n : Int), (cause : Int)]

/-- A sample of tick `t` belongs to a round with an instant and a wait limit (R335); a step moves neither (02 R37). -/
def belongs (t instant wait : Nat) : Bool := decide (instant ≤ t) && decide (t ≤ instant + wait)

/-- A sample and one open round: candidate, or surplus (R335, R347). -/
def State.offerOpen (s : State) (x : Sample) (o : OpenRound) : State :=
  if o.cands.any (fun y => y.source == x.source) then s.updSource x.source fun v => { v with surplus := sat32 v.surplus 1 }
  else
    let s1 := s.updFus fun u =>
      { u with open_ := u.open_.map (fun p => if p = o then { o with cands := o.cands ++ [x] } else p) }
    if s.candidateFits o x then s1 else s1.rejectSample x.source 2

/-- A sample that no round takes (R335, R337). -/
def State.unusedSample (s : State) (n : Nat) : State := s.updSource n fun v => { v with unused := sat32 v.unused 1 }

/-- A sample and one round that has been issued or skipped: late, surplus or unused (R335, R337). -/
def State.offerPast (s : State) (x : Sample) (p : PastRound) : State :=
  match p.issued with
  | none => s.unusedSample x.source
  | some t =>
    if p.had.contains x.source then s.updSource x.source fun v => { v with surplus := sat32 v.surplus 1 }
    else
      let late := s.now - t
      let s1 := s.updFus fun u =>
        { u with past := u.past.map (fun q => if q = p then { p with had := x.source :: p.had } else q) }
      (s1.updSource x.source fun v =>
        { v with late := sat32 v.late 1, maxLate := min max32 (max v.maxLate late) }).raiseFus 0x0901
        [(x.source : Int), (p.round : Int), (p.number : Int), (late : Int)]

/-- An open round whose last missing candidate has come is issued (R336).
Log 84: DEDUCED, unsafe. -/
def State.issueComplete (s : State) : State :=
  if s.fus.running.isSome then s else
  match s.fus.open_.find? (fun o => o.complete) with
  | some o => s.issueRound o false
  | none => s

/-- A sample arrives at the engine (R335 to R337). -/
def State.sampleArrives (s : State) (x : Sample) : State :=
  let opens := s.fus.open_.filter (fun o => bitOf (rSources o.cfg) x.source && belongs x.tick o.tick (rWait o.cfg))
  let pasts := s.fus.past.filter (fun p => bitOf p.sources x.source && belongs x.tick p.tick p.wait)
  let s1 := s.updSource x.source fun v => { v with lastStamp := x.stamp }
  let s2 := if opens.isEmpty && pasts.isEmpty then s1.unusedSample x.source else s1
  let s3 := opens.foldl (fun t o => t.offerOpen x o) s2
  (pasts.foldl (fun t p => t.offerPast x p) s3).issueComplete

/-- An element of a scalar group is taken (R332); the last one completes a sample.
Log 86: DEDUCED, unsafe. -/
def State.takeScalar (s : State) (n e : Nat) (c : Copy) : State :=
  let v := s.fusSource n
  let count := fScalars v.cfg
  if !s.fusOn || decide (15 < n) || fKind v.cfg != 3 || decide (count ≤ e) then s else
  let s1 := s.updSource n fun x => { x with values := Tbl.put x.values e (toSigned 32 c.value) }
  if e + 1 < count then s1 else
  let x : Sample :=
    { source := n
      stamp := c.stamp
      tick := s.tickOf c.stamp
      seq := v.completed
      stream := []
      partial_ := false
      uncertain := false
      dimX := count
      dimY := 1
      pitch := 4
      address := workAddr 4 + 64 * n
      gen := 0
      tag := 0
      values := (upto count).map (fun i => Tbl.getD (s1.fusSource n).values i 0) }
  (s1.updSource n fun y => { y with completed := (y.completed + 1) % 4294967296 }).sampleArrives x

end Sys2Proof.Machine
end

