-- ==== Sys2Proof/Machine/Control.lean ====
section
/-!
DEFINITION. The control engine (06): the section arithmetic, the output stage, the pipelines, the loop events and the
control-engine opcodes. Each lane has its own engine, which holds what its own interpreter has staged in it (R162, R163).
-/
namespace Sys2Proof.Machine
open Sys2Proof

/-! ### Descriptor fields (Table 06-1) -/

def descEnable (d : Bytes) : Bool := flagAt d 0 0
/-- `MODE` 1: the input alone; 0: the error. -/
def descInputMode (d : Bytes) : Bool := flagAt d 0 1
def descClampFeedback (d : Bytes) : Bool := flagAt d 0 2
def descFaultAction (d : Bytes) : Nat := bitsOf (u8 d 0) 3 2
def descSections (d : Bytes) : Nat := u8 d 1
def descPipeline (d : Bytes) : Nat := u8 d 2
def descOutShift (d : Bytes) : Nat := u8 d 3
def descPeriod (d : Bytes) : Nat := u32 d 4
def descPhi (d : Bytes) : Nat := u32 d 8
def descInput (d : Bytes) : Nat := u32 d 0x0C % 33554432
def descSetpoint (d : Bytes) : Nat := u32 d 0x10 % 33554432
def descOutSignal (d : Bytes) : Nat := u16 d 0x14
def descDestKind (d : Bytes) : Nat := u8 d 0x16
def descDestChannel (d : Bytes) : Nat := u8 d 0x17
def descOutOffset (d : Bytes) : Int := s32 d 0x18
def descFaultValue (d : Bytes) : Int := s32 d 0x1C

/-! ### Section arithmetic (R170 to R174) -/

/-- The term of one coefficient: an exact product, shifted right with rounding half-up (R171, R172). -/
def term (c v : Int) (h : Nat) : Int :=
  if h = 0 then c * v else (c * v + (2 ^ (h - 1) : Nat)) / (2 ^ h : Nat)

/-- A value limited, with a note whether the limit changed it. -/
def limitTo (bits : Nat) (v : Int) : Int × Bool := (satS bits v, decide (satS bits v ≠ v))

/-- The accumulator of R171: terms added in order, each sum limited to 64 bits. -/
def accumulate : List Int → Int × Bool → Int × Bool
  | [], a => a
  | t :: r, (acc, f) =>
    let (v, g) := limitTo 64 (acc + t)
    accumulate r (v, f || g)

/-- The five terms of a section for input `x` (R171). -/
def sectionTerms (c : Bytes) (x : Int) (st : SecState) : List Int :=
  [term (s32 c 0) x (u8 c 0x14 % 32), term (s32 c 4) st.x1 (u8 c 0x15 % 32), term (s32 c 8) st.x2 (u8 c 0x16 % 32),
   term (s32 c 12) st.y1 (u8 c 0x17 % 32), term (s32 c 16) st.y2 (u8 c 0x18 % 32)]

/-- One section: its output, its new states, and whether it saturated (R171, R173). -/
def runSection (c : Bytes) (x : Int) (st : SecState) : Int × SecState × Bool :=
  let (acc, f) := accumulate (sectionTerms c x st) (0, false)
  let (y, g) := limitTo 32 acc
  (y, ⟨x, st.x1, y, st.y1⟩, f || g)

/-- The cascade: each section's output is the next one's input (R170). -/
def runCascade : List Bytes → List SecState → Int → Int × List SecState × Bool
  | c :: cs, st :: sts, x =>
    let (y, st1, f) := runSection c x st
    let (z, rest, g) := runCascade cs sts y
    (z, st1 :: rest, f || g)
  | _, _, x => (x, [], false)

/-- The last section's `y1` replaced (R174 step 4). -/
def setLastY1 : List SecState → Int → List SecState
  | [], _ => []
  | [st], v => [{ st with y1 := v }]
  | st :: r, v => st :: setLastY1 r v

/-- The input of the first section (R170): sat32 of the error, or the input; R173 counts only the limits of R171 and
R174. -/
def loopX (d : Bytes) (input setpoint : Int) : Int :=
  if descInputMode d then input else satS 32 (setpoint - input)

/-- The output limited to the clamps in force (R174 step 3). -/
def loopClamp (l : Loop) (u : Int) : Int := clampI l.outMin l.outMax u

/-- A period computed: output, new states, saturated, clamped (R171 to R174). -/
def computeLoop (l : Loop) (input setpoint : Int) : Int × List SecState × Bool × Bool :=
  let d := l.desc
  let (y, sts, f) := runCascade l.coeffs l.states (loopX d input setpoint)
  let sh := descOutShift d
  let r := if sh = 0 then y else (y + (2 ^ (sh - 1) : Nat)) / (2 ^ sh : Nat)
  let (u, g) := limitTo 32 (r + descOutOffset d)
  let out := loopClamp l u
  let clamped := decide (out ≠ u)
  if descClampFeedback d && clamped then
    let (b, h) := limitTo 32 ((out - descOutOffset d) * (2 ^ sh : Nat))
    (out, setLastY1 sts b, f || g || h, clamped)
  else (out, sts, f || g, clamped)

/-! ### Engines and loops -/

def State.engine (s : State) : Lane → Engine
  | .main => s.ctrl.main
  | .mizzen => s.ctrl.mizzen

def State.loop (s : State) (l : Lane) (n : Nat) : Loop := Tbl.getD (s.engine l).loops n resetLoop

def State.updEngine (s : State) (l : Lane) (f : Engine → Engine) : State :=
  match l with
  | .main => { s with ctrl := { s.ctrl with main := f s.ctrl.main } }
  | .mizzen => { s with ctrl := { s.ctrl with mizzen := f s.ctrl.mizzen } }

def State.updLoop (s : State) (l : Lane) (n : Nat) (f : Loop → Loop) : State :=
  s.updEngine l fun e => { e with loops := Tbl.upd e.loops n resetLoop f }

/-- The loop changed in the engines of the lanes given. -/
def State.updLoops (s : State) (ls : List Lane) (n : Nat) (f : Loop → Loop) : State :=
  ls.foldl (fun t l => t.updLoop l n f) s

/-- The lane whose engine a check looks at: the one whose copies are taken. -/
def State.readLane (s : State) : Lane := s.taking.getD s.xt.active

/-! ### Swaps (R184, R185) -/

/-- A descriptor swap (R185). -/
def Loop.setDesc (l : Loop) (d : Bytes) : Loop :=
  let n := descSections d
  let coeffs := (l.coeffs ++ List.replicate (n - l.coeffs.length) identityCoeffs).take n
  let states := (l.states ++ List.replicate (n - l.states.length) ({} : SecState)).take n
  if descEnable d && !descEnable l.desc then
    { l with
      desc := d
      coeffs := coeffs
      states := List.replicate n ({} : SecState)
      held := 0
      lastOutput := 0 }
  else { l with desc := d, coeffs := coeffs, states := states }

/-- Coefficient words of a `CTRL_SET_COEFFS` payload. -/
def coeffWords (p : Bytes) : List Bytes := entries id 28 (u8 p 0) (p.drop 4)

/-- Preset states of a `CTRL_PRESET_STATE` payload (Table 06-11). -/
def presetStates (p : Bytes) : List SecState :=
  entries (fun b => ⟨s32 b 0, s32 b 4, s32 b 8, s32 b 12⟩) 16 (u8 p 0) (p.drop 4)

def Loop.setClamp (l : Loop) (p : Bytes) : Loop := { l with outMin := s32 p 0, outMax := s32 p 4 }

/-- A staged control-engine command takes effect on a loop. -/
def Loop.apply (l : Loop) (opcode : Nat) (p : Bytes) : Loop :=
  match opcode with
  | 0x0501 => l.setDesc (fitTo 32 p)
  | 0x0502 => { l with coeffs := coeffWords p }
  | 0x0503 => l.setClamp p
  | 0x0504 =>
    let pre := presetStates p
    { l with states := pre ++ l.states.drop pre.length }
  | _ => l

/-- The lanes whose engines hold a staged command: those whose interpreters executed it. -/
def enginesOf (r : Request) : List Lane := [Lane.main, Lane.mizzen].filter (heldIn r)

/-- The swap of a staged control-engine command, in each engine that holds it.
Log 33: DEDUCED, unsafe. -/
def applyCtrl (s : State) (e : Staged) : State :=
  s.updLoops (enginesOf e.req) e.target (fun l => l.apply e.opcode e.req.payload)

/-- The loop as it will stand at grid time `g`, counting what is staged up to then (R53). -/
def State.loopAt (s : State) (n g : Nat) : Loop :=
  let tick := s.now + (g - s.grid)
  let due (e : Staged) : Bool :=
    e.target == n &&
    ((e.opcode == 0x0501 && decide (e.gridAt ≤ g)) || (e.opcode == 0x0503 && decide (e.after ≤ tick)))
  (s.staged.filter due).foldl (fun l e => l.apply e.opcode e.req.payload) (s.loop s.readLane n)

/-- Grid time of the loop's first period boundary at or after a tick, by the period in force then (R41, R184). -/
def State.loopBoundary (s : State) (n after : Nat) : Nat :=
  let g := s.grid + (after - s.now)
  let k := max (descPeriod (s.loopAt n g).desc) 1 * 10000
  (g + k - 1) / k * k

/-! ### Checks (R165, R166, R175, R180) -/

/-- The duty range of a channel (07 R202): even bridge channels take both signs. -/
def dutyRange (c : Nat) : Int × Int := if 88 ≤ c ∧ c % 2 = 0 then (-65535, 65535) else (0, 65535)

/-- The clamps lie in the duty range of a channel. -/
def clampsFit (l : Loop) (c : Nat) : Bool := decide ((dutyRange c).1 ≤ l.outMin) && decide (l.outMax ≤ (dutyRange c).2)

/-- The smallest φ (R180), rounded up to a whole nanosecond. -/
def phiMin (d : Bytes) : Nat := (if descDestKind d = 1 then 62 else 55) + (24 + 5 * descSections d) * 2

/-- Type of a signal of an image; 0 where it is not defined. -/
def Image.typeOf (i : Image) (id : Nat) : Nat :=
  match i.sig id with
  | some d => d.type
  | none => 0

/-- Loops that are enabled at grid time `g`, other than `n`. -/
def State.otherLoops (s : State) (n g : Nat) : List Bytes :=
  ((upto 512).filter (fun m => m != n)).map (fun m => (s.loopAt m g).desc) |>.filter descEnable

/-- Another enabled loop names the same output signal or channel (R165). -/
def destTaken (d : Bytes) (others : List Bytes) : Bool :=
  others.any fun o =>
    (descOutSignal d != 65535 && descOutSignal o == descOutSignal d) ||
    (descDestKind d == 1 && descDestKind o == 1 && descDestChannel o == descDestChannel d)

/-- The field and relation checks of R165 that answer `BAD_PARAMETER`. -/
def loopFields (img : Image) (n : Nat) (l : Loop) (d : Bytes) : Option Nat :=
  let en := descEnable d
  let out := descOutSignal d
  firstFail
    [need (decide (descFaultAction d ≤ 2)) 0,
     need (decide (1 ≤ descSections d) && decide (descSections d ≤ 8)) 1,
     need (decide (descPipeline d ≤ 3)) 2,
     need (decide (descOutShift d ≤ 16)) 3,
     need (decide (5 ≤ descPeriod d) && decide (descPeriod d ≤ 100000) && img.majorSlots % descPeriod d == 0) 4,
     need (decide (out ≤ 8191) || out == 65535) 0x14,
     need (decide (descDestKind d ≤ 1)) 0x16,
     need (decide (descDestChannel d ≤ 103)) 0x17,
     need (!(en && out == 65535 && descDestKind d == 0)) 0,
     need (decide (phiMin d ≤ descPhi d) && decide (descPhi d + 200 ≤ descPeriod d * 10000)) 8,
     need (!en || (img.sig (descInput d)).isSome) 0x0C,
     need (!en || descInputMode d || (img.sig (descSetpoint d)).isSome) 0x10,
     need (!en || out == 65535 || (match img.sig (img.localId out) with
       | some g => g.type == 2 && g.source == 2 && g.index == n
       | none => false)) 0x14,
     need (descDestKind d != 1 || clampsFit l (descDestChannel d)) 0x16]

/-- The checks of `CTRL_SET_LOOP` (R165, R166), in their order. -/
def checkSetLoop (s : State) (r : Request) (z : Resolved) : Option (Nat × Bytes) :=
  let d := r.payload
  let l := s.loopAt r.target z.gridAt
  let img := s.imageAt z.gridAt
  let badType (id : Nat) : Bool := decide (6 ≤ img.typeOf id)
  if r.path != .initial && (descDestKind d != descDestKind l.desc || descDestChannel d != descDestChannel l.desc) then
    some (0x42, [])
  else match loopFields img r.target l d with
    | some o => some (badParam o)
    | none =>
      if descEnable d && (badType (descInput d) || (!descInputMode d && badType (descSetpoint d))) then some (0x41, [])
      else if descEnable d && destTaken d (s.otherLoops r.target z.gridAt) then some (0x40, [])
      else none

/-- Targets of the control-engine opcodes: loops 0 to 511. -/
def loopTarget (r : Request) : Bool := decide (r.target < 512)

def opCtrlSetLoop : OpSpec :=
  { code := 0x0501
    role := fun _ => 2
    kind := .major
    block := 6
    target := loopTarget
    param := needLength 32
    check := checkSetLoop }

/-- A counted payload whose entries fit it has exactly their length (Tables 06-9 and 06-11). -/
def countParam (size : Nat) (r : Request) : Option Nat :=
  if r.payload.length < 4 then some 0x10 else need (r.payload.length == 4 + size * u8 r.payload 0) 0

/-- Sections in force at the loop boundary a loop command names. -/
def sectionsThere (s : State) (r : Request) (z : Resolved) : Nat :=
  descSections (s.loopAt r.target (s.loopBoundary r.target z.after)).desc

def opCtrlSetCoeffs : OpSpec :=
  { code := 0x0502
    role := fun _ => 1
    kind := .loop
    block := 6
    target := loopTarget
    exceeds := countedExceeds 4 0 28
    param := countParam 28
    check := fun s r z => if u8 r.payload 0 = sectionsThere s r z then none else some (badParam 0x20) }

def opCtrlSetClamp : OpSpec :=
  { code := 0x0503
    kind := .loop
    block := 6
    target := loopTarget
    param := fun r => lengthThen 8 r [need (decide (s32 r.payload 0 ≤ s32 r.payload 4)) 0]
    check := fun s r z =>
      let d := (s.loopAt r.target (s.loopBoundary r.target z.after)).desc
      let rng := dutyRange (descDestChannel d)
      if descDestKind d = 1 ∧ s32 r.payload 0 < rng.1 then some (badParam 0x20)
      else if descDestKind d = 1 ∧ rng.2 < s32 r.payload 4 then some (badParam 0x24)
      else none }

/-- `COUNT` 0 is refused, as Table 06-11 gives 1 to S, although R112 lets a list be empty.
Log 124: DEDUCED, unsafe. -/
def opCtrlPresetState : OpSpec :=
  { code := 0x0504
    role := fun _ => 1
    kind := .loop
    block := 6
    target := loopTarget
    exceeds := countedExceeds 4 0 16
    param := countParam 16
    check := fun s r z =>
      if 1 ≤ u8 r.payload 0 ∧ u8 r.payload 0 ≤ sectionsThere s r z then none else some (badParam 0x20) }

/-- `CTRL_GET_LOOP` reply: the settings in force in a lane's engine. -/
def loopSettings (s : State) (l : Lane) (r : Request) : Bytes :=
  let x := s.loop l r.target
  x.desc ++ putS 4 x.outMin ++ putS 4 x.outMax ++ putLE 1 x.coeffs.length ++ zeros 3 ++ x.coeffs.flatten

def opCtrlGetLoop : OpSpec :=
  { code := 0x0505
    logs := false
    block := 6
    target := loopTarget
    reads := some loopSettings }

/-- Table 06-12, of a lane's engine. -/
def loopStatus (s : State) (l : Lane) (r : Request) : Bytes :=
  let x := s.loop l r.target
  putLE 1 (packFlags [descEnable x.desc, x.inputBad, x.clamped, x.saturated, x.late]) ++
  putLE 1 (descSections x.desc) ++ zeros 2 ++ putS 4 x.lastInput ++ putS 4 x.lastSetpoint ++
  putS 4 x.lastOutput ++ putLE 8 x.lastStamp ++ putLE 4 x.itemsSent ++ putLE 4 x.saturations ++
  putLE 4 x.clamps ++ putLE 4 x.inputFaults ++ putLE 4 x.lateOutputs ++ zeros 4

def opCtrlGetStatus : OpSpec :=
  { code := 0x0506
    logs := false
    block := 6
    target := loopTarget
    reads := some loopStatus }

def opCtrlClearCounters : OpSpec :=
  { code := 0x0507
    role := fun _ => 1
    block := 6
    target := loopTarget
    run := fun s r =>
      (s.updLoops (s.senders r).lanes r.target (fun l => { l with
        saturations := 0
        clamps := 0
        inputFaults := 0
        lateOutputs := 0 }), some (stOk, [])) }

/-! ### A period (R167 to R182) -/

/-- A sampled value as a 32-bit signed integer (R168). -/
def convertSample (type value : Nat) : Int :=
  match type with
  | 1 => if value % 256 = 0 then 0 else 1
  | 2 => toSigned 32 value
  | 3 => satS 32 ((value % 4294967296 : Nat) : Int)
  | 4 => satS 32 (toSigned 64 value)
  | 5 => satS 32 ((value % 18446744073709551616 : Nat) : Int)
  | _ => 0

/-- A record's sample is bad (R169). -/
def SigRec.bad (v : SigRec) : Bool := !v.valid || v.stale || v.absent || v.initial

/-- The sample of an enabled loop at phase 0 in one lane (R167 to R169). -/
def sampleLoop (s : State) (lane : Lane) (d : Bytes) : LoopRun :=
  let tab := (s.lane lane).signals
  let img := s.sched.image
  let a : SigRec := Tbl.getD tab (descInput d) {}
  let b : SigRec := Tbl.getD tab (descSetpoint d) {}
  { phase0 := s.grid
    outAt := s.grid + descPhi d
    input := convertSample (img.typeOf (descInput d)) a.value
    setpoint := convertSample (img.typeOf (descSetpoint d)) b.value
    bad := a.bad || (!descInputMode d && b.bad) }

/-- The period that ends at a phase 0 is the most recent one completed (Table 06-12).
Log 117: DEDUCED, unsafe. -/
def Loop.closePeriod (l : Loop) (stamp : Nat → Nat) : Loop :=
  match l.run with
  | none => l
  | some v =>
    { l with
      run := none
      inputBad := v.bad
      clamped := v.clamped
      saturated := v.saturated
      late := v.late
      lastInput := v.input
      lastSetpoint := v.setpoint
      lastOutput := v.output.getD l.lastOutput
      lastStamp := stamp v.outAt }

/-- A loop joins its pipeline's queue: behind earlier instants, in ascending loop number within one (R179). -/
def joinQueue (loops : Tbl Loop) (n phase0 : Nat) : List Nat → List Nat
  | [] => [n]
  | m :: r =>
    let same := match (Tbl.getD loops m resetLoop).run with
      | some v => v.phase0 == phase0
      | none => false
    if same && decide (n < m) then n :: m :: r else m :: joinQueue loops n phase0 r

/-- Order of loop-kind swaps at one instant: coefficients, clamps, presets (R184). -/
def loopSwapOrder (e : Staged) : Nat := e.opcode

/-- Phase 0 of a loop: the period before it is complete, the loop-kind swaps are made, then the loop is sampled in each lane
that runs the schedule, with what is visible from that slot on (R55, R167, R184, 03 R73). Off the loop's period boundaries nothing happens; on a major boundary the swaps of
that boundary come first (02 R55). -/
def loopPeriodBoundary (n : Nat) (s : State) : State :=
  let k := max (descPeriod (s.loop s.readLane n).desc) 1 * 10000
  if !s.time.anchored || s.grid % k != 0 || s.majorDue then s else
  let s0 := s.updLoops [.main, .mizzen] n fun l => l.closePeriod s.mastOfGrid
  let due := s.staged.filter (fun e => e.kind == .loop && e.target == n && decide (e.after ≤ s.now))
  let s1 := (sortBy loopSwapOrder due).foldl (fun t e => t.swapIn e applyCtrl) s0
  let sample (t : State) (lane : Lane) : State :=
    let l := t.loop lane n
    if t.computes lane && descEnable l.desc then
      let run := sampleLoop (t.refreshSignals lane) lane l.desc
      let t1 := t.updLoop lane n (fun x => { x with run := some run })
      t1.updEngine lane fun e =>
        { e with pipes := Tbl.upd e.pipes (descPipeline l.desc) {} fun q =>
            { q with waiting := joinQueue e.loops n run.phase0 q.waiting } }
    else t
  sample (sample s1 .main) .mizzen

/-- The head of a pipeline's queue starts, once the previous loop's occupancy has passed (R179). -/
def loopStart (lane : Lane) (pipe : Nat) (s : State) : State :=
  let e := s.engine lane
  let q : Pipeline := Tbl.getD e.pipes pipe {}
  match q.waiting with
  | [] => s
  | n :: rest =>
    if !s.computes lane || (q.lastS != 0 && decide (s.now < q.lastStart + (4 + 5 * q.lastS) * 2)) then s else
    let l := s.loop lane n
    let q1 : Pipeline := ⟨rest, s.now, descSections l.desc⟩
    (s.updLoop lane n fun x =>
      { x with run := x.run.map (fun v => { v with started := some s.now }) }).updEngine lane fun e =>
        { e with pipes := Tbl.put e.pipes pipe q1 }

/-- What the loop's period gives: its output and its changed loop, by Table 06-2 for a bad sample (R169 to R174). -/
def loopResult (l : Loop) (v : LoopRun) : Loop :=
  let act := descFaultAction l.desc
  let done (out : Int) (c f : Bool) (t : Loop) : Loop :=
    { t with
      run := some { v with output := some out, clamped := c, saturated := f }
      held := out
      inputFaults := sat32 t.inputFaults (b2n v.bad)
      clamps := sat32 t.clamps (b2n c)
      saturations := sat32 t.saturations (b2n f) }
  if v.bad && act == 0 then done l.held false false l
  else if v.bad && act == 2 then
    let out := loopClamp l (descFaultValue l.desc)
    done out (decide (out ≠ descFaultValue l.desc)) false { l with states := l.states.map (fun _ => ({} : SecState)) }
  else
    let (out, sts, f, c) := computeLoop l v.input v.setpoint
    done out c f { l with states := sts }

/-- A loop's result is ready (24 + 5·S) engine cycles after its start (R180). -/
def loopResultReady (lane : Lane) (n : Nat) (s : State) : State :=
  let l := s.loop lane n
  match l.run with
  | some v => match v.started with
    | some at_ =>
      if v.output.isSome || decide (s.now < at_ + (24 + 5 * descSections l.desc) * 2) then s
      else s.updLoop lane n (fun x => loopResult x v)
    | none => s
  | none => s

/-- A loop's output in its lane's signal record (R176). -/
def sendLoopSignal (lane : Lane) (d : Bytes) (g : Nat) (out : Int) (s : State) : State :=
  s.updLane lane fun a =>
    let at_ := s.mastOfGrid g
    let y : Delivery :=
      ⟨visibleSlot g, s.sched.image.localId (descOutSignal d), ofSigned 32 out, at_, s.tickOf at_, true, none⟩
    { a with deliveries := a.deliveries ++ [y] }

/-- A loop's output as a duty item (R177). -/
def sendLoopDuty (lane : Lane) (n : Nat) (l : Loop) (g : Nat) (out : Int) (s : State) : State :=
  s.updLane lane fun a =>
    let c : Copy := { signal := 0, value := ofSigned 32 out, stamp := s.mastOfGrid g, valid := true }
    { a with items := a.items ++ [⟨1, descDestChannel l.desc, 0xF000 + n, l.itemsSent, c⟩] }

/-- A release edge that comes before the result is ready: the first one of a period is counted and reported (R182).
Log 117: DEDUCED, unsafe. -/
def missRelease (lane : Lane) (n : Nat) (v : LoopRun) (s : State) : State :=
  if v.late then s else
  let slot := v.phase0 / 10000
  let rep : Overrun := ⟨lane.code, 6, n, 4, false, s.majorAt v.phase0, slot % s.slots, v.outAt / 10000 + 1⟩
  let s1 := (s.updLoop lane n fun x => { x with lateOutputs := sat32 x.lateOutputs 1 }).logTrouble lane 2 0
    (putLE 1 rep.lane ++ putLE 1 6 ++ putLE 2 n ++ putLE 1 4 ++ zeros 3 ++ putLE 4 rep.major ++ putLE 4 rep.slot)
  { s1 with xt := { s1.xt with overrunsInFlight := s1.xt.overrunsInFlight ++ [rep] } }

/-- The release edge of the duty item (R181): phase 0 + φ - 29.0 ns. -/
def releaseDuty (lane : Lane) (n : Nat) (s : State) : State :=
  let l := s.loop lane n
  match l.run with
  | none => s
  | some v =>
    if descDestKind l.desc ≠ 1 ∨ v.dutyPast ∨ s.grid + 29 < v.outAt then s else
    match v.output with
    | some out =>
      (sendLoopDuty lane n l v.outAt out s).updLoop lane n fun x =>
        { x with run := some { v with dutyPast := true }, itemsSent := (x.itemsSent + 1) % 4294967296 }
    | none =>
      (missRelease lane n v s).updLoop lane n fun x =>
        { x with run := some { v with dutyPast := true, late := true } }

/-- The release edge of the signal record (R181): the first tick at or after phase 0 + φ - 22.5 ns. -/
def releaseSignal (lane : Lane) (n : Nat) (s : State) : State :=
  let l := s.loop lane n
  match l.run with
  | none => s
  | some v =>
    if descOutSignal l.desc = 65535 ∨ v.sigPast ∨ s.grid + 22 < v.outAt then s else
    match v.output with
    | some out =>
      (sendLoopSignal lane l.desc v.outAt out s).updLoop lane n fun x => { x with run := some { v with sigPast := true } }
    | none =>
      (missRelease lane n v s).updLoop lane n fun x =>
        { x with run := some { v with sigPast := true, late := true } }

/-- `LOOP_OUTPUT_RELEASE`: each destination has its own release edge (R181, R182). -/
def loopOutputRelease (lane : Lane) (n : Nat) (s : State) : State := releaseSignal lane n (releaseDuty lane n s)

/-! ### Meanings -/

def execLoopResultReady (dt : Nat) (lane : Lane) (loop : Nat) (s : State) : Host.Outcome State Fault Refusal :=
  runCmd dt s (loopResultReady lane loop)
def execLoopOutputRelease (dt : Nat) (lane : Lane) (loop : Nat) (s : State) : Host.Outcome State Fault Refusal :=
  runCmd dt s (loopOutputRelease lane loop)

end Sys2Proof.Machine
end

