-- ==== Sys2Proof/Machine/Power.lean ====
section
/-!
DEFINITION. The power-channel block (07, 08): driving, measuring, protection, holds, STOP, adoption, and its opcodes.
-/
namespace Sys2Proof.Machine
open Sys2Proof

/-! ### Configuration and protection fields (Tables 07-3 and 08-1) -/

def cfgMode (c : Bytes) : Nat := bitsOf (u8 c 0) 0 2
def cfgLoad (c : Bytes) : Nat := bitsOf (u8 c 0) 2 2
def cfgComp (c : Bytes) : Bool := flagAt c 0 4
def cfgCentre (c : Bytes) : Bool := flagAt c 0 5
def cfgPaired (c : Bytes) : Bool := flagAt c 0 6
def cfgBrake (c : Bytes) : Bool := flagAt c 0 7
def cfgInputKind (c : Bytes) : Nat := u8 c 1
def cfgWetting (c : Bytes) : Nat := u8 c 2
def cfgPullUp (c : Bytes) : Bool := flagAt c 3 0
def cfgPeriod (c : Bytes) : Nat := u32 c 4
def cfgPhase (c : Bytes) : Nat := u32 c 8
def cfgVref (c : Bytes) : Nat := u16 c 0x0C
def cfgDead (c : Bytes) : Nat := u16 c 0x0E
def cfgBudget (c : Bytes) : Nat := u16 c 0x10
def cfgOpenLoad (c : Bytes) : Nat := u16 c 0x12
def cfgLow (c : Bytes) : Nat := u16 c 0x14
def cfgHigh (c : Bytes) : Nat := u16 c 0x16
def cfgDebounce (c : Bytes) : Nat := u8 c 0x18
def cfgPublish (c : Bytes) : Nat := u8 c 0x19

def protLimit (p : Bytes) : Nat := u32 p 0
def protInrush (p : Bytes) : Nat := u32 p 4
def protInrushMs (p : Bytes) : Nat := u16 p 8
def protSamples (p : Bytes) : Nat := u8 p 0x0A
def protRetries (p : Bytes) : Nat := u8 p 0x0B
def protInterval (p : Bytes) : Nat := u8 p 0x0C
def protStopGroup (p : Bytes) : Bool := flagAt p 0x0D 0

/-! ### Classes (Tables 07-1, 07-2 and 08-2) -/

/-- Supply input that feeds a channel (Table 07-2). -/
def chanSupply (c : Nat) : Nat :=
  if c < 64 then c / 32
  else if c < 88 then (c - 64) / 6
  else 2 + (c - 88) / 8

/-- Continuous current, A (Table 07-1). -/
def chanRating (c : Nat) : Nat := match chanClass c with
  | 0 => 15
  | 1 => 40
  | _ => 20

/-- Fast-trip current, mA (Table 08-2). -/
def fastTrip (c : Nat) : Nat := match chanClass c with
  | 0 => 60000
  | 1 => 160000
  | _ => 80000

/-- Smallest `PERIOD_NS` (Table 07-1). -/
def periodMin (c : Nat) : Nat := if chanClass c = 2 then 40000 else 500000

/-- Minimum on-time and off-time (Table 07-1). -/
def minPulse (c : Nat) (cfg : Bytes) : Nat := if chanClass c = 2 then cfgDead cfg + 250 else 5000

/-- Measurement interval, ns (R207). -/
def sampleInterval (c : Nat) : Nat := if chanClass c = 2 then 10000 else 50000

/-- Ranges of the output current, mA (Table 07-5). -/
def currentRange (c : Nat) : Int × Int := match chanClass c with
  | 0 => (-2000, 60000)
  | 1 => (-5000, 160000)
  | _ => (-80000, 80000)

/-! ### Channels and their reported states (R213) -/

def State.chan (s : State) (c : Nat) : Chan := Tbl.getD s.power.chans c (resetChan c)

/-- The channel is the odd half of a pair. -/
def State.isOddOfPair (s : State) (c : Nat) : Bool :=
  decide (88 ≤ c) && c % 2 == 1 && cfgPaired (s.chan (c - 1)).cfg

/-- The channel that holds a channel's pair state (R220): the even one of a pair. -/
def State.head (s : State) (c : Nat) : Nat := if s.isOddOfPair c then c - 1 else c

/-- Configuration in force: the odd channel of a pair has `MODE` 1, `PAIRED` 0 and the even one's other fields (R214). -/
def State.cfgOf (s : State) (c : Nat) : Bytes :=
  if s.isOddOfPair c then
    let p := (s.chan (c - 1)).cfg
    setBytes p 0 [BitVec.ofNat 8 (u8 p 0 - 64 - cfgMode p + 1)]
  else (s.chan c).cfg

/-- D15 has been switched off in Run (Table 07-9: before phase 3 no channel has a state). -/
def State.gateOff (s : State) : Bool := s.domain 1 && !s.domain 15

/-- The channel has a hold condition (R229). -/
def State.hasHold (s : State) (h : Chan) : Bool := h.thermalLatch || h.freewheelLatch || h.stopHold || s.gateOff

/-- A retry is pending, running or frozen. -/
def Chan.retryPending (h : Chan) : Bool := h.retryDue.isSome || h.retryFrozen.isSome

/-- The state code of a channel's record (Table 07-8, R213). -/
def State.codeOf (s : State) (h : Chan) : Nat :=
  if s.gateOff then 9
  else if h.stopHold then 8
  else if h.thermalLatch then 6
  else if h.freewheelLatch then 7
  else if h.tripped then 5
  else if h.retryPending then 4
  else match h.base with
    | .unconfigured => 0
    | .off => 1
    | .driving => 2
    | .input => 3

/-- The state a channel reports; the odd channel of a pair reports the pair's (R220). -/
def State.chanCode (s : State) (c : Nat) : Nat := s.codeOf (s.chan (s.head c))

/-- The generation counter moves on by `k` (R238).
Log 23: DEDUCED, unsafe. -/
def State.bumpGen (s : State) (k : Nat) : State :=
  { s with power := { s.power with generation := (s.power.generation + k) % 4294967296 } }

def State.updChan (s : State) (c : Nat) (f : Chan → Chan) : State :=
  { s with power := { s.power with chans := Tbl.upd s.power.chans c (resetChan c) f } }

/-- A change of a channel that may enter or leave a protection state: the counter moves on by 1 if it does (R238).
Log 23: DEDUCED, unsafe. -/
def State.changeChan (s : State) (c : Nat) (f : Chan → Chan) : State :=
  let a := s.codeOf (s.chan c)
  let s1 := s.updChan c f
  let b := s1.codeOf (s1.chan c)
  if a ≠ b ∧ (4 ≤ a ∨ 4 ≤ b) then s1.bumpGen 1 else s1

/-- The output stage goes off: the channel leaves `DRIVING`; its inrush window goes on (R219). -/
def Chan.outOff (h : Chan) : Chan :=
  { h with
    base := if h.base = .driving then .off else h.base
    overCount := 0
    onNs := 0 }

/-- The over-limit count of the odd half of a pair, which leaves `DRIVING` with the pair (R219, R220). -/
def State.clearOdd (s : State) (c : Nat) : State :=
  if cfgPaired (s.chan c).cfg then s.updChan (c + 1) fun h => { h with overCount := 0 } else s

/-- What `heldAt` keeps as a hold condition takes a channel out of `DRIVING`. -/
def State.heldNow (s : State) (c : Nat) : Option (Nat × Nat × Nat) :=
  let h := s.chan c
  if h.base = .driving then some (s.now, h.overCount, (s.chan (c + 1)).overCount) else h.heldAt

/-! ### Holds and retry (R221, R229 to R231) -/

/-- The hold conditions, for `RETRY_CANCELLED`: 0 thermal latch, 1 free-wheel latch, 2 STOP, 3 D15 off. -/
inductive HoldKind where
  | thermal
  | freewheel
  | stop
  | gate
deriving DecidableEq, Repr

def HoldKind.code : HoldKind → Nat
  | .thermal => 0
  | .freewheel => 1
  | .stop => 2
  | .gate => 3

/-- The retry state freezes as a channel without hold conditions gains one (R229, R230). -/
def Chan.freeze (h : Chan) (now : Nat) : Chan :=
  match h.retryDue with
  | some due => if due ≤ now then { h with retryDue := none }
                else { h with retryDue := none, retryFrozen := some (due - now) }
  | none => h

/-- The flag of a hold condition set. -/
def Chan.setHold (h : Chan) : HoldKind → Chan
  | .thermal => { h with thermalLatch := true, thermalLatches := sat16 h.thermalLatches 1 }
  | .freewheel => { h with freewheelLatch := true, freewheelLatches := sat16 h.freewheelLatches 1 }
  | .stop => { h with stopHold := true }
  | .gate => h

/-- A channel gains a hold condition: its output stage goes off; at the start of an episode the retry state freezes, and
a retry due at the same stamp is cancelled and recorded (R229 to R231). `held`: it had a hold condition before. -/
def State.addHold (s : State) (c : Nat) (k : HoldKind) (held : Bool) : State :=
  let h := s.chan c
  let cancelled := !held && (match h.retryDue with
    | some due => decide (due ≤ s.now)
    | none => false)
  let isLatch := k == .thermal || k == .freewheel
  let at_ := s.heldNow c
  let s1 := (s.clearOdd c).changeChan c fun h =>
    let h1 := (if held then h else h.freeze s.now).setHold k
    { h1.outOff with
      episodeLatch := (held && h.episodeLatch) || isLatch
      heldAt := at_ }
  if cancelled then s1.raise 0x0614 1 c (details [(k.code : Int)]) else s1

/-- The state a channel without hold conditions goes on in (Table 08-3). -/
def Chan.resume (h : Chan) (now : Nat) : Chan :=
  let idle : Chan := { h with
    episodeLatch := false
    base := if h.base = .driving then .off else h.base }
  match h.retryFrozen with
  | some left => { idle with retryFrozen := none, retryDue := some (now + left) }
  | none =>
    if h.tripped || !h.episodeLatch then idle
    else if 0 < h.retryLeft then
      { idle with retryLeft := h.retryLeft - 1, retriesDone := sat32 h.retriesDone 1 }
    else { idle with tripped := true }

/-- A hold condition cleared by `f`; with the last one the episode ends (R231). -/
def State.clearHold (s : State) (c : Nat) (f : Chan → Chan) : State :=
  s.changeChan c fun h =>
    let h1 := f h
    if s.hasHold h1 then h1 else h1.resume s.now

/-- An overcurrent event (R220, R221, R229): a retry falls due after the interval, or the channel is tripped.
Log 49: DEDUCED, unsafe. -/
def State.overcurrent (s : State) (c : Nat) (mean : Int) : State :=
  let h := s.chan c
  let wait := protInterval h.prot * 10000000
  let spent := h.retryLeft == 0
  let s1 := (s.clearOdd c).changeChan c fun h =>
    let h1 := h.outOff
    if spent then { h1 with tripped := true, retryDue := none, retryFrozen := none }
    else if s.hasHold h then { h1 with retryDue := none, retryFrozen := some wait }
    else { h1 with retryDue := some (s.now + wait) }
  if spent then s1.raise 0x0613 1 c (details [mean]) else s1

/-! ### Adoption (R237) -/

def State.setAdopted (s : State) (l : Lane) (v : Bool) : State :=
  match l with
  | .main => { s with power := { s.power with adoptedMain := v, refusedMain := false } }
  | .mizzen => { s with power := { s.power with adoptedMizzen := v, refusedMizzen := false } }

/-! ### Configuration swaps (R196, R216, R222) -/

/-- A channel becomes unconfigured with its set duty 0 (Table 07-9). -/
def Chan.unconfigure (h : Chan) : Chan :=
  { h.outOff with
    cfg := chanCfgReset
    base := .unconfigured
    dutySet := 0
    pending := []
    itemSeen := false }

/-- A channel takes its state from its mode with set duty 0 (Table 07-9). -/
def Chan.byMode (h : Chan) : Chan :=
  { h.outOff with
    base := (match cfgMode h.cfg with
      | 1 => .off
      | 2 => .input
      | _ => .unconfigured)
    dutySet := 0
    pending := []
    itemSeen := false
    firstSample := true
    debounce := 0 }

/-- A stop-group output joins the hold while STOP is asserted (R234). -/
def State.joinStop (s : State) (c : Nat) : State :=
  let h := s.chan c
  if s.power.stopAsserted && cfgMode h.cfg == 1 && protStopGroup h.prot && !h.stopHold && !s.isOddOfPair c then
    s.addHold c .stop (s.hasHold h)
  else s

/-- What joins the stop group at a boundary while STOP is asserted, once every swap of the boundary is in (R234, 02
R54). -/
def State.joinStops (s : State) : State := if s.power.stopAsserted then (upto 104).foldl State.joinStop s else s

/-- The swap of `CHAN_SET_CONFIG` (R196): a period in progress runs to its end (R43) unless it is cut. What was staged for a channel that the same boundary made the odd half of a pair
is discarded with its configuration.
Log 24: DEDUCED, unsafe. -/
def applyChanConfig (s : State) (e : Staged) : State :=
  let c := e.target
  if s.isOddOfPair c then s.bumpGen 1 else
  let new := fitTo 32 e.req.payload
  let h := s.chan c
  let old := h.cfg
  let repair := cfgPaired new != cfgPaired old
  let keep := cfgMode old == 1 && cfgMode new == 1 && !repair
  let s1 := s.bumpGen 1
  let s2 := if repair then s1.updChan (c + 1) Chan.unconfigure else s1
  s2.updChan c fun h =>
    if keep then { h with cfg := new } else Chan.byMode { h with cfg := new, periodNs := 0 }

/-- The swap of `CHAN_SET_PROTECTION` (R216, R222).
Log 24: DEDUCED, unsafe. -/
def applyChanProtection (s : State) (e : Staged) : State :=
  let new := fitTo 16 e.req.payload
  (s.bumpGen 1).updChan e.target fun h => { h with prot := new, retryLeft := min h.retryLeft (protRetries new) }

/-! ### Checks at staging (R192, R195, R216) -/

/-- A channel's configuration at grid time `g`, counting what is staged up to then. -/
def State.cfgAt (s : State) (c g : Nat) : Bytes :=
  (s.staged.filter (fun e => e.opcode == 0x0601 && e.target == c && decide (e.gridAt ≤ g))).foldl
    (fun _ e => fitTo 32 e.req.payload) (s.chan c).cfg

/-- The channel is the odd half of a pair at grid time `g`. -/
def State.oddAt (s : State) (c g : Nat) : Bool :=
  decide (88 ≤ c) && c % 2 == 1 && cfgPaired (s.cfgAt (c - 1) g)

/-- The share a configuration declares: in output mode only (R192). -/
def share (cfg : Bytes) : Nat := if cfgMode cfg = 1 then cfgBudget cfg else 0

/-- Declared shares on a channel's supply input with a new configuration for it (R192); the odd half of a pair, whose own
configuration is discarded, declares none (R196). -/
def State.supplyShare (s : State) (c g : Nat) (new : Bytes) : Nat :=
  let at_ (d : Nat) : Bytes := if d = c then new else s.cfgAt d g
  let odd (d : Nat) : Bool := decide (88 ≤ d) && d % 2 == 1 && cfgPaired (at_ (d - 1))
  sumNat (((upto 104).filter (fun d => chanSupply d == chanSupply c && !odd d)).map (fun d => share (at_ d)))

/-- Field checks of `CHAN_SET_CONFIG` (R195). -/
def configFields (c : Nat) (p : Bytes) : Option Nat :=
  let bridge := chanClass c == 2
  let mode := cfgMode p
  firstFail
    [need (decide (mode ≤ 2)) 0,
     need (!(cfgComp p && bridge)) 0,
     need (!(cfgLoad p == 3 && !bridge)) 0,
     need (!(cfgPaired p && !(bridge && c % 2 == 0))) 0,
     need (!(mode == 1 && cfgBudget p == 0)) 0,
     need (!(mode == 2 && cfgInputKind p == 0 && decide (cfgHigh p ≤ cfgLow p))) 0,
     need (!(mode == 2 && cfgInputKind p == 1 && cfgWetting p != 0)) 0,
     need (decide (cfgInputKind p ≤ 1)) 1,
     need (decide (cfgWetting p ≤ 5)) 2,
     need (decide (periodMin c ≤ cfgPeriod p) && decide (cfgPeriod p ≤ 100000000)) 4,
     need (decide (cfgPhase p < cfgPeriod p)) 8,
     need (decide (20000 ≤ cfgVref p) && decide (cfgVref p ≤ 30000)) 0x0C,
     need (!bridge || (decide (100 ≤ cfgDead p) && decide (cfgDead p ≤ 2000))) 0x0E,
     need (decide (cfgBudget p ≤ 10 * chanRating c)) 0x10,
     need (decide (cfgOpenLoad p ≤ 20000)) 0x12,
     need (decide (cfgLow p ≤ 32000)) 0x14,
     need (decide (cfgHigh p ≤ 32000)) 0x16]

def chanTarget (r : Request) : Bool := decide (r.target ≤ 103)
def allTarget (r : Request) : Bool := r.target == 255

def opChanSetConfig : OpSpec :=
  { code := 0x0601
    role := fun _ => 2
    kind := .major
    block := 1
    target := chanTarget
    param := fun r => match needLength 32 r with
      | some o => some o
      | none => configFields r.target r.payload
    check := fun s r z =>
      if s.oddAt r.target z.gridAt then some (0x40, [])
      else if 800 < s.supplyShare r.target z.gridAt r.payload then some (0x41, [])
      else none }

/-- Field checks of `CHAN_SET_PROTECTION` (R216). -/
def protFields (c : Nat) (p : Bytes) : Option Nat :=
  firstFail
    [need (decide (500 ≤ protLimit p) && decide (protLimit p ≤ fastTrip c)) 0,
     need (protInrush p == 0 || (decide (protLimit p ≤ protInrush p) && decide (protInrush p ≤ fastTrip c))) 4,
     need (decide (protInrushMs p ≤ 1000)) 8,
     need (decide (1 ≤ protSamples p)) 0x0A,
     need (decide (protRetries p ≤ 15)) 0x0B,
     need (decide (1 ≤ protInterval p)) 0x0C]

def opChanSetProtection : OpSpec :=
  { code := 0x0606
    role := fun _ => 2
    kind := .major
    block := 1
    target := chanTarget
    param := fun r => match needLength 16 r with
      | some o => some o
      | none => protFields r.target r.payload
    check := fun s r z =>
      if s.oddAt r.target z.gridAt then some (0x40, [])
      else none }

/-! ### Reads -/

/-- The flag byte of Table 07-11 at 0x0002. -/
def State.chanFlags (s : State) (c : Nat) : Nat :=
  let h := s.chan c
  packFlags [h.compLimited, h.openLoad, h.dutyLimited, h.inputState, cfgPaired h.cfg || s.isOddOfPair c]

def opChanGetConfig : OpSpec :=
  { getOp 0x0602 (fun s r => s.cfgOf r.target) with block := 1, target := chanTarget, fwFree := true }

def opChanGetStatus : OpSpec :=
  { getOp 0x0603 (fun s r =>
      let h := s.chan r.target
      putLE 1 (s.chanCode r.target) ++ putLE 1 (chanSupply r.target) ++ putLE 1 (s.chanFlags r.target) ++ zeros 1 ++
      putS 4 h.dutySet ++ putS 4 h.dutyEff ++ putS 4 h.current ++ putS 4 h.voltage ++ putS 2 h.temperature ++
      zeros 2 ++ putLE 8 h.sampleStamp ++ putLE 4 h.itemsTaken ++ putLE 4 h.dutyLimits ++ putLE 4 h.itemsRefused ++
      putLE 4 h.compLimits) with
    block := 1
    target := chanTarget
    fwFree := true }

def State.supply (s : State) (n : Nat) : Supply := Tbl.getD s.power.supplies n {}

/-- The voltage of the latest complete interval. -/
def Supply.lastVolt (v : Supply) : Nat :=
  match v.volts with
  | (_, mv) :: _ => mv
  | [] => 0

def opChanGetSupply : OpSpec :=
  { getOp 0x0604 (fun s _ =>
      let one (n : Nat) : Bytes :=
        let v := s.supply n
        putLE 2 v.lastVolt ++ putLE 1 (b2n v.overload) ++ zeros 1 ++ putS 4 v.mean
      let total := (s.supply 0).mean + (s.supply 1).mean + (s.supply 2).mean + (s.supply 3).mean
      one 0 ++ one 1 ++ one 2 ++ one 3 ++ putS 4 total ++
      putLE 2 (sumNat ((upto 104).map (fun c => share (s.chan c).cfg))) ++ zeros 2 ++
      putLE 8 s.power.supplyStamp) with block := 1 }

/-- The four counters of Table 07-11 at 0. -/
def Chan.clearCounters (h : Chan) : Chan :=
  { h with
    itemsTaken := 0
    dutyLimits := 0
    itemsRefused := 0
    compLimits := 0 }

/-- Log 50: DEDUCED, unsafe. -/
def opChanClearCounters : OpSpec :=
  { code := 0x0605
    role := fun _ => 1
    block := 1
    target := fun r => chanTarget r || allTarget r
    run := fun s r =>
      if r.target = 255 then
        ({ s with power := { s.power with chans := s.power.chans.map (fun x => (x.1, x.2.clearCounters)) } },
          some (stOk, []))
      else (s.updChan r.target Chan.clearCounters, some (stOk, [])) }

def opChanGetProtection : OpSpec :=
  { getOp 0x0607 (fun s r =>
      let h := s.chan (s.head r.target)
      let left := match h.retryDue, h.retryFrozen with
        | some d, _ => d - s.now
        | none, some v => v
        | none, none => 0
      putLE 1 (s.chanCode r.target) ++
      putLE 1 (packFlags [h.thermalLatch, h.freewheelLatch, h.stopHold, h.retryPending, h.retryFrozen.isSome,
        h.tripped, h.inrushDue.isSome]) ++
      putLE 1 h.retryLeft ++ putLE 1 h.overCount ++ putLE 4 left ++ putLE 4 s.power.generation ++ zeros 4 ++
      putLE 4 h.fastTrips ++ putLE 4 h.sampledTrips ++ putLE 4 h.retriesDone ++ putLE 2 h.thermalLatches ++
      putLE 2 h.freewheelLatches) with
    block := 1
    target := chanTarget
    fwFree := true }

/-- Table 08-8. -/
def generationReply (s : State) : Bytes :=
  putLE 4 s.power.generation ++
  putLE 1 (packFlags [s.power.adoptedMain, s.power.adoptedMizzen, s.power.stopAsserted]) ++ zeros 3

def opChanGetGeneration : OpSpec :=
  { getOp 0x060B (fun s _ => generationReply s) with block := 1, target := allTarget, fwFree := true }

/-! ### Protection commands (R223, R225, R234, R239) -/

/-- `CHAN_RELEASE_LATCH` (R225): the thermal latch goes only below 140.0 °C; the free-wheel latch goes at once. -/
def opChanReleaseLatch : OpSpec :=
  { code := 0x0608
    role := fun _ => 1
    block := 1
    target := chanTarget
    param := needLength 4
    check := fun s r _ =>
      let h := s.chan (s.head r.target)
      if (flagAt r.payload 0 0 && h.thermalLatch) || (flagAt r.payload 0 1 && h.freewheelLatch) then none
      else some (0x43, [])
    run := fun s r =>
      let c := s.head r.target
      let h := s.chan c
      let hot := decide (1400 ≤ h.temperature)
      let wantT := flagAt r.payload 0 0 && h.thermalLatch
      let doT := wantT && !hot
      let doF := flagAt r.payload 0 1 && h.freewheelLatch
      let st := if wantT && hot then 0x42 else stOk
      if !doT && !doF then (s, some (st, [])) else
      let s1 := (s.bumpGen 1).clearHold c fun h =>
        { h with
          thermalLatch := h.thermalLatch && !doT
          freewheelLatch := h.freewheelLatch && !doF }
      (s1.raise 0x0617 1 c (details [(packFlags [doT, doF] : Int), h.temperature]), some (st, [])) }

/-- `CHAN_REFILL_RETRY` (R223). -/
def opChanRefillRetry : OpSpec :=
  { code := 0x0609
    block := 1
    target := chanTarget
    run := fun s r =>
      let c := s.head r.target
      let n := protRetries (s.chan c).prot
      let s1 := (s.bumpGen 1).changeChan c fun h => { h with retryLeft := n, tripped := false }
      (s1.raise 0x0618 1 c (details [(n : Int)]), some (stOk, [])) }

/-- Channels that are held by STOP. -/
def State.stopped (s : State) : List Nat := (s.power.chans.filter (fun x => x.2.stopHold)).map (fun x => x.1)

/-- `CHAN_STOP_RESET` (R234). -/
def opChanStopReset : OpSpec :=
  { code := 0x060A
    block := 1
    target := allTarget
    run := fun s _ =>
      if s.power.stopAsserted then (s, some (0x44, []))
      else
        let l := s.stopped
        let s1 := l.foldl (fun t c => t.clearHold c (fun h => { h with stopHold := false })) (s.bumpGen 1)
        (s1.raise 0x061B 1 255 (details [(l.length : Int)]), some (stOk, [])) }

/-- `CHAN_ADOPT` (R239), from a lane's firmware. -/
def opChanAdopt : OpSpec :=
  { code := 0x060C
    block := 1
    fwOnly := true
    target := allTarget
    param := needLength 4
    run := fun s r =>
      match r.path with
      | .firmware l =>
        if u32 r.payload 0 ≠ s.power.generation then (s, some (0x45, generationReply s))
        else
          let s0 := s.updXt l (fun x => { x with adopted := true })
          if s.adopted l then (s0, some (stOk, generationReply s0))
          else
            let s1 := (s0.setAdopted l true).bumpGen 1
            let s2 := s1.raise 0x061C 1 l.code (details [(l.code : Int), toSigned 32 s1.power.generation])
            (s2, some (stOk, generationReply s2))
      | _ => (s, some (stNotAuthorised, [])) }

/-! ### Duty (R201 to R206) -/

/-- An item behind those taken before it; of one stamp, the lower `ITEM` is taken first (R203, 02 R58). -/
def putDuty (x : Int × Nat × Nat) : List (Int × Nat × Nat) → List (Int × Nat × Nat)
  | [] => [x]
  | y :: r => if x.2.1 = y.2.1 ∧ x.2.2 < y.2.2 then x :: y :: r else y :: putDuty x r

/-- A duty item taken for a channel (R202 to R204). -/
def takeDuty (c item : Nat) (v : Int) (s : State) : State :=
  let h := s.chan c
  if cfgMode h.cfg ≠ 1 ∨ s.isOddOfPair c then
    s.updChan c fun h => { h with itemsRefused := sat32 h.itemsRefused 1 }
  else
    let lo := if cfgPaired h.cfg then (dutyRange c).1 else 0
    let d := clampI lo (dutyRange c).2 v
    let lim := decide (d ≠ v)
    s.updChan c fun h =>
      { h with
        pending := putDuty (d, s.now, item) h.pending
        itemSeen := true
        itemsTaken := sat32 h.itemsTaken 1
        dutyLimited := lim
        dutyLimits := sat32 h.dutyLimits (b2n lim) }

/-- A duty item from a lane the block has not adopted (R204, R237). -/
def refuseDuty (l : Lane) (c item : Nat) (s : State) : State :=
  (s.updChan c fun h => { h with itemsRefused := sat32 h.itemsRefused 1 }).noteRefused l item

/-- The set duty at a period start: of the items taken at least 200 ns before, the last (R203). -/
def dutyNow (h : Chan) (now : Nat) : Int × List (Int × Nat × Nat) :=
  let ready := h.pending.filter (fun x => decide (x.2.1 + 200 ≤ now))
  let rest := h.pending.filter (fun x => !decide (x.2.1 + 200 ≤ now))
  match ready.getLast? with
  | some x => (x.1, rest)
  | none => (h.dutySet, rest)

/-- The rail voltage for a period start at grid time `g` (R206); with no complete interval before it, `V_REF_MV`. -/
def railVoltage (v : Supply) (g vref : Nat) : Nat :=
  match v.volts.find? (fun x => decide (x.1 + 1000 ≤ g)) with
  | some x => x.2
  | none => vref

/-- The effective duty under compensation, and whether 100% limited it (R205). -/
def compensate (d vref vmeas : Nat) : Nat × Bool :=
  let v := max vmeas 10000
  let raw := (d * (vref * vref) + v * v / 2) / (v * v)
  (min 65535 raw, decide (65535 < raw))

/-- The on-time of a period (R197). -/
def onTime (d period pulse : Nat) : Nat :=
  let on := (d * period + 32767) / 65535
  if 0 < on ∧ on < pulse then 0
  else if 0 < period - on ∧ period - on < pulse then period
  else on

/-- A production of the channel is published when its number is a multiple of `PUBLISH_DIV` (R210). -/
def published (cfg : Bytes) (number : Nat) : Bool := cfgPublish cfg != 0 && number % cfgPublish cfg == 0

/-- The open-load check of the period that ends (R212).
Log 29: DEDUCED, unsafe; log 51: DEDUCED, unsafe. -/
def openLoadCheck (c : Nat) (s : State) : State :=
  let h := s.chan c
  let lim := cfgOpenLoad h.cfg
  if h.base = .driving ∧ 0 < lim ∧ 0 < h.numCurrent ∧ 6554 ≤ h.dutyEff.natAbs then
    let mean := h.sumCurrent / h.numCurrent
    let low := decide (mean < lim)
    let s1 := s.updChan c fun h => { h with openLoad := low }
    if low && !h.openLoad then s1.raise 0x0602 1 c (details [mean]) else s1
  else s

/-- The channel may drive: no hold condition, not tripped, no retry pending. -/
def State.mayDrive (s : State) (h : Chan) : Bool := !s.hasHold h && !h.tripped && !h.retryPending

/-! ### The contacts (R198 to R200, R211) -/

/-- What a half of a bridge, or the switch of another channel, is set to connect its contact to. -/
inductive Level where
  | off
  | low
  | high
deriving DecidableEq, Repr

/-- Time since the period in progress of a channel started; past its end the output stays as the period left it (R43). -/
def Chan.elapsed (h : Chan) (now : Nat) : Nat := min (now - h.periodTick) (h.periodNs - 1)

/-- The channel is in its on-time at a time after the period start (R198). -/
def Chan.inOnTime (h : Chan) (t : Nat) : Bool :=
  decide (h.onAt - h.periodAt ≤ t) && decide (t < h.onAt - h.periodAt + h.onNs)

/-- The level of a channel at a time after the start of its period (R197 to R200): of a pair, the half that the sign of the
duty names switches, and the other's low side is on; at duty 0 both low sides are on, or none by `ZERO_BRAKE`. -/
def State.levelAt (s : State) (c t : Nat) : Level :=
  let k := s.head c
  let h := s.chan k
  if h.base ≠ .driving then .off
  else if cfgPaired h.cfg then
    if h.dutyEff = 0 then (if cfgBrake h.cfg then .low else .off)
    else if (c == k) == decide (0 < h.dutyEff) && h.inOnTime t then .high else .low
  else if h.inOnTime t then .high
  else if chanClass c = 2 then .low else .off

/-- The level of a channel at present. -/
def State.level (s : State) (c : Nat) : Level := s.levelAt c ((s.chan (s.head c)).elapsed s.now)

/-- Time since the edge that began the level of a half of a bridge; none: the level began with no edge (R199).
Log 125: DEDUCED, unsafe. -/
def State.sinceEdge (s : State) (c : Nat) : Option Nat :=
  let h := s.chan (s.head c)
  let t := h.elapsed s.now
  let on := h.onAt - h.periodAt
  let first := if (s.chan c).edge then some t else none
  if s.levelAt c on ≠ .high ∨ h.onNs = 0 ∨ t < on then first
  else if t < on + h.onNs then (if on = 0 then first else some (t - on))
  else some (t - (on + h.onNs))

/-- The switches of a channel that conduct at present, high side and low side: both of a bridge's are off for `DEAD_TIME_NS`
after an edge (R199, R200). -/
def State.switches (s : State) (c : Nat) : Bool × Bool :=
  let dead := chanClass c == 2 && (match s.sinceEdge c with
    | some t => decide (t < cfgDead (s.cfgOf c))
    | none => false)
  if dead then (false, false) else (s.level c == .high, s.level c == .low)

/-- The wetting current that a channel drives, in mA, and whether toward its supply input (R211, R224). -/
def State.wetting (s : State) (c : Nat) : Option (Nat × Bool) :=
  let cfg := (s.chan c).cfg
  if s.chanCode c = 3 ∧ cfgInputKind cfg = 0 ∧ cfgWetting cfg ≠ 0 ∧ s.domain 15 then
    some ([0, 1, 2, 5, 10, 20].getD (cfgWetting cfg) 0, cfgPullUp cfg)
  else none

/-! ### Period starts -/

/-- A half of a bridge marks whether the period that has just started begins with an edge; `s0` is the state before, and a
reversal of the polarity counts as one for both halves (R199, R200).
Log 125: DEDUCED, unsafe. -/
def State.markEdge (s0 : State) (reverse : Bool) (s : State) (c : Nat) : State :=
  s.updChan c fun h => { h with edge := reverse || s0.level c != s.level c }

/-- A PWM period of a channel begins at the grid time present (R42, R43): only in output mode. The swaps of a major boundary
come first (R55). -/
def State.periodBegins (s : State) (c : Nat) : Bool :=
  let h := s.chan c
  let g := s.grid
  cfgMode h.cfg == 1 && !s.isOddOfPair c && s.domain 1 && !s.majorDue && decide (cfgPhase h.cfg ≤ g) &&
  (g - cfgPhase h.cfg) % max (cfgPeriod h.cfg) 1 == 0 && decide (h.periodTick + h.periodNs ≤ s.now)

/-- A channel's PWM period starts (R196 to R206, R212, R213). With D15 off only the set duty goes on (R229). -/
def pwmPeriodStart (c : Nat) (s : State) : State :=
  if !s.periodBegins c then s
  else if !s.domain 15 then s.updChan c fun h => { h with dutySet := (dutyNow h s.now).1, pending := (dutyNow h s.now).2 }
  else
    let cfg := (s.chan c).cfg
    let t := max (cfgPeriod cfg) 1
    let g := s.grid
    let s := openLoadCheck c s
    let h := s.chan c
    let (set, rest) := dutyNow h s.now
    let mag := set.natAbs
    let (eff, lim) := if cfgComp cfg then compensate mag (cfgVref cfg) (railVoltage (s.supply (chanSupply c)) g (cfgVref cfg))
      else (mag, false)
    let effS : Int := if set < 0 then -(eff : Int) else eff
    let on := onTime eff t (minPulse c cfg)
    let bridge := chanClass c == 2
    let drive := s.mayDrive h && (effS != 0 || (bridge && h.itemSeen))
    let stay := s.mayDrive h && bridge && h.base == .driving
    let enter := drive && h.base != .driving
    let reverse := (decide (0 < h.prevDuty) && decide (effS < 0)) || (decide (h.prevDuty < 0) && decide (0 < effS))
    let drives := drive || stay
    let s1 := s.updChan c fun h =>
      { h with
        dutySet := set
        dutyEff := effS
        pending := rest
        prevDuty := effS
        compLimited := lim
        compLimits := sat32 h.compLimits (b2n lim)
        base := if drives then .driving else if h.base = .driving then .off else h.base
        overCount := if drives then h.overCount else 0
        inrushDue := if enter then
            (if protInrushMs h.prot = 0 then none else some (s.now + protInrushMs h.prot * 1000000))
          else h.inrushDue
        onNs := if drives then on else 0
        periodAt := g
        onAt := if cfgCentre cfg then g + (t - on) / 2 else g
        periodTick := s.now
        periodNs := t
        sumCurrent := 0
        numCurrent := 0 }
    let s2 := if drives then s1 else s1.clearOdd c
    let s3 := State.markEdge s (cfgPaired cfg && reverse) s2 c
    let s4 := if cfgPaired cfg then State.markEdge s reverse s3 (c + 1) else s3
    if published cfg (g / t) then s4.publishI (0x1700 + c) effS g (g + 250) else s4

/-! ### Measurement (R207 to R211, R219) -/

/-- The limit in force (R219).
Log 52: DEDUCED, unsafe. -/
def limitNow (h : Chan) : Nat :=
  if h.inrushDue.isSome && protInrush h.prot != 0 then protInrush h.prot else protLimit h.prot

/-- The debounced input state after one sample (R211). -/
def stepInput (cfg : Bytes) (h : Chan) (mv : Int) : Chan :=
  let hi := decide ((cfgHigh cfg : Int) ≤ mv)
  let lo := decide (mv ≤ (cfgLow cfg : Int))
  if h.firstSample then { h with inputState := hi, firstSample := false, debounce := 0 }
  else if (hi && !h.inputState) || (lo && h.inputState) then
    if h.debounce + 1 ≥ cfgDebounce cfg + 1 then { h with inputState := hi, debounce := 0 }
    else { h with debounce := h.debounce + 1 }
  else { h with debounce := 0 }

/-- The over-limit count of a channel for the sample that ends now: while its pair drives, and at the stamp at which a hold
condition took the pair out of `DRIVING` the count it had, for the hold is processed first (R219, R230). -/
def State.overNow (s : State) (c : Nat) : Option Nat :=
  let h := s.chan (s.head c)
  if h.base = .driving ∧ s.mayDrive h then some (s.chan c).overCount
  else match h.heldAt with
    | some x => if x.1 = s.now ∧ s.hasHold h ∧ !h.tripped ∧ !h.retryPending then
        some (if s.head c = c then x.2.1 else x.2.2) else none
    | none => none

/-- The sampled trip (R219). Each half of a pair counts its own samples; their events act on the pair (R220).
Log 51: DEDUCED, unsafe. -/
def sampledTrip (c : Nat) (mean : Int) (s : State) : State :=
  let k := s.head c
  let h := s.chan k
  let set (t : State) (n : Nat) : State := t.updChan c fun h => { h with overCount := n }
  match s.overNow c with
  | none => set s 0
  | some n =>
    if (mean.natAbs : Int) ≤ limitNow h then set s 0
    else if n + 1 < protSamples h.prot then set s (if h.base = .driving then n + 1 else 0)
    else
      let s1 := (set s 0).updChan k fun h => { h with sampledTrips := sat32 h.sampledTrips 1 }
      (s1.raise 0x0611 1 k (details [mean, (limitNow h : Int)])).overcurrent k mean

/-- A channel's measurement interval ends (R207 to R211, R219). With D15 off nothing is provided; an interval that ends as
D15 goes off is still judged (R230). -/
def channelSampleEnd (c : Nat) (x : ChanSample) (s : State) : State :=
  let g := s.grid
  let rng := currentRange c
  let i := clampI rng.1 rng.2 x.current
  if 103 < c ∨ g % sampleInterval c ≠ 0 ∨ s.majorDue then s
  else if !s.domain 15 then (if s.gateOff then sampledTrip c i s else s)
  else
  let v := clampI (-10000) 36000 x.voltage
  let t := clampI (-550) 2000 x.temperature
  let cfg := s.cfgOf c
  let code := s.chanCode c
  let isIn := code == 3
  let isOut := code != 0 && code != 3
  let s1 := s.updChan c fun h =>
    let h1 := if isIn && cfgInputKind cfg == 0 then stepInput cfg h v else h
    { h1 with
      current := if isOut then i else h.current
      voltage := v
      temperature := t
      sampleStamp := s.time.mast
      sumCurrent := if isOut then h.sumCurrent + i else h.sumCurrent
      numCurrent := if isOut then h.numCurrent + 1 else h.numCurrent }
  let s2 := sampledTrip c i s1
  if published cfg (g / sampleInterval c) then
    let d := g + 250
    let s3 := if isOut then (s2.publishI (0x1100 + c) i g d).publishI (0x1200 + c) v g d
      else if isIn then
        let a := s2.publishI (0x1500 + c) v g d
        if cfgInputKind cfg = 0 then a.publish (0x1400 + c) (b2n (s2.chan c).inputState) g d else a
      else s2.publishI (0x1200 + c) v g d
    (s3.publishI (0x1300 + c) t g d).publish (0x1600 + c) (s2.chanCode c + 256 * s2.chanFlags c) g d
  else s2

/-- Supply `n` takes its sample of this interval (R193, R206, R210). -/
def State.takeSupply (x : SupplySample) (s : State) (n : Nat) : State :=
  let g := s.grid
  let v := s.supply n
  let mv := min (x.volts.getD n 0) 40000
  let i := clampI (-10000) 200000 (x.currents.getD n 0)
  let cs := (i :: v.currents).take 10000
  let sum := cs.foldl (· + ·) (0 : Int)
  let mean := sum / cs.length
  let exceeds := decide ((80000 : Int) * cs.length < sum)
  let y : Supply :=
    { volts := ((g, mv) :: v.volts).take 3
      currents := cs
      mean := mean
      overload := exceeds }
  let t1 : State := { s with power := { s.power with supplies := Tbl.put s.power.supplies n y } }
  let t2 := if exceeds && !v.overload then t1.raise 0x0601 1 n (details [mean]) else t1
  (t2.publishI (0x1800 + n) mv g (g + 250)).publishI (0x1900 + n) i g (g + 250)

/-- A 100 µs supply interval ends (R193, R206, R210, R235): only an interval that D15 was on throughout counts. -/
def supplySampleEnd (x : SupplySample) (s : State) : State :=
  let g := s.grid
  if !s.domain 15 ∨ g % 100000 ≠ 0 ∨ s.majorDue ∨ s.now < s.pwr.d15At + 100000 then s else
  let s1 := [0, 1, 2, 3].foldl (State.takeSupply x) s
  let total := (upto 4).foldl (fun a n => a + clampI (-10000) 200000 (x.currents.getD n 0)) (0 : Int)
  let s2 : State := { s1 with power := { s1.power with supplyStamp := s.time.mast } }
  (s2.publishI 0x1A00 total g (g + 250)).publish 0x1B00 (b2n s.power.stopAsserted) g (g + 250)

/-! ### Protection events (R218 to R235) -/

/-- A conducting switch of an output reaches its fast-trip current (R218, R220).
Log 49: DEDUCED, unsafe. -/
def overcurrentFast (c : Nat) (low : Bool) (s : State) : State :=
  let k := s.head c
  let h := s.chan k
  if 103 < c ∨ cfgMode h.cfg ≠ 1 ∨ !s.domain 1 then s else
  let s1 := s.updChan k fun h => { h with fastTrips := sat32 h.fastTrips 1 }
  (s1.raise 0x0610 1 k (details [(b2n low : Int)])).overcurrent k (fastTrip k)

/-- The inrush window ends (R219).
Log 52: DEDUCED, unsafe. -/
def inrushWindowEnd (c : Nat) (s : State) : State :=
  match (s.chan c).inrushDue with
  | some due => if due ≤ s.now then s.updChan c fun h => { h with inrushDue := none } else s
  | none => s

/-- A pending retry falls due (R221). -/
def retry (c : Nat) (s : State) : State :=
  let h := s.chan c
  match h.retryDue with
  | some due =>
    if s.now < due then s else
    let s1 := s.changeChan c fun h =>
      { h with
        retryDue := none
        retryLeft := h.retryLeft - 1
        retriesDone := sat32 h.retriesDone 1
        base := if h.base = .driving then .off else h.base }
    s1.raise 0x0612 1 c (details [((h.retryLeft - 1 : Nat) : Int)])
  | none => s

/-- A junction reaches 170 °C (R224): in every mode while D15 is on. -/
def thermalLatch (c : Nat) (s : State) : State :=
  let k := s.head c
  let h := s.chan k
  if 103 < c ∨ !s.domain 15 ∨ h.thermalLatch then s else
  (s.addHold k .thermal (s.hasHold h)).raise 0x0615 1 k (details [(s.chan c).temperature])

/-- The contact has stayed below −4,000 mV for over 2,000 ns after a turn-off (R228). -/
def freewheelMissing (c : Nat) (s : State) : State :=
  let k := s.head c
  let h := s.chan k
  if 103 < c ∨ cfgMode h.cfg ≠ 1 ∨ cfgLoad h.cfg ≠ 2 ∨ h.freewheelLatch then s else
  (s.addHold k .freewheel (s.hasHold h)).updChan k fun h => { h with watchDue := some (s.now + 98000) }

/-- The watch after a missing free-wheel path ends, with its lowest voltage and time (R228). -/
def freewheelWatchEnd (c : Nat) (mv : Int) (ns : Nat) (s : State) : State :=
  let k := s.head c
  if (s.chan k).watchDue.isSome then
    (s.updChan k fun h => { h with watchDue := none }).raise 0x0616 1 k (details [mv, (ns : Int)])
  else s

/-- STOP is asserted: every output of the stop group is stopped (R232, R233).
Log 29: DEDUCED, unsafe. -/
def stopAsserted (s : State) : State :=
  if s.power.stopAsserted then s else
  let s1 : State := { s with power := { s.power with stopAsserted := true } }
  let l := (s1.power.chans.filter (fun x =>
    cfgMode x.2.cfg == 1 && protStopGroup x.2.prot && !s.isOddOfPair x.1 && !x.2.stopHold)).map (fun x => x.1)
  let s2 := l.foldl (fun t c => t.addHold c .stop (t.hasHold (t.chan c))) s1
  s2.raise 0x0619 1 255 (details [(l.length : Int)])

/-- The STOP contact has stayed at or above 7.0 V for 10 ms (R232): only once D15 is on. The holds stay (R234).
Log 29: DEDUCED, unsafe. -/
def stopDeasserted (s : State) : State :=
  if s.power.stopAsserted && s.domain 15 then
    ({ s with power := { s.power with stopAsserted := false } } : State).raise 0x061A 1 255 []
  else s

/-! ### Meanings -/

def execPwmPeriodStart (dt : Nat) (chan : Nat) (s : State) : Host.Outcome State Fault Refusal :=
  runCmd dt s (pwmPeriodStart chan)
def execChannelSampleEnd (dt : Nat) (chan : Nat) (sample : ChanSample) (s : State) :
    Host.Outcome State Fault Refusal := runCmd dt s (channelSampleEnd chan sample)
def execSupplySampleEnd (dt : Nat) (sample : SupplySample) (s : State) : Host.Outcome State Fault Refusal :=
  runCmd dt s (supplySampleEnd sample)
def execOvercurrentFast (dt : Nat) (chan : Nat) (low : Bool) (s : State) : Host.Outcome State Fault Refusal :=
  runCmd dt s (overcurrentFast chan low)
def execInrushWindowEnd (dt : Nat) (chan : Nat) (s : State) : Host.Outcome State Fault Refusal :=
  runCmd dt s (inrushWindowEnd chan)
def execRetry (dt : Nat) (chan : Nat) (s : State) : Host.Outcome State Fault Refusal := runCmd dt s (retry chan)
def execThermalLatch (dt : Nat) (chan : Nat) (s : State) : Host.Outcome State Fault Refusal :=
  runCmd dt s (thermalLatch chan)
def execFreewheelMissing (dt : Nat) (chan : Nat) (s : State) : Host.Outcome State Fault Refusal :=
  runCmd dt s (freewheelMissing chan)
def execFreewheelWatchEnd (dt : Nat) (chan : Nat) (mv : Int) (ns : Nat) (s : State) :
    Host.Outcome State Fault Refusal := runCmd dt s (freewheelWatchEnd chan mv ns)
def execStopAsserted (dt : Nat) (s : State) : Host.Outcome State Fault Refusal := runCmd dt s stopAsserted
def execStopDeasserted (dt : Nat) (s : State) : Host.Outcome State Fault Refusal := runCmd dt s stopDeasserted

end Sys2Proof.Machine
end

