-- ==== Sys2Proof/Machine/Items.lean ====
section
/-!
DEFINITION. What each block does with an output item its receiver takes (03 R75, 05 R132).
-/
namespace Sys2Proof.Machine
open Sys2Proof

/-- An item carries a duty: a transfer with `ITEM` 1, or a loop item (07 R201). -/
def isDutyItem (block item : Nat) : Bool := block == 1 && (item == 1 || decide (61440 ≤ item))

/-- The swath item of the yield tally, limited to 0 to 30,000 mm (09 R259). -/
def takeSwath (v : Int) (s : State) : State :=
  { s with sense := { s.sense with yield_ := { s.sense.yield_ with swath := some (clampI 0 30000 v) } } }

/-- The effect of an item a block takes from a lane. -/
def State.takeItem (s : State) (block resource item seq : Nat) (c : Copy) : State :=
  if isDutyItem block item then takeDuty resource item (toSigned 32 c.value) s
  else if block = 2 ∧ item = 0x0101 ∧ resource = 0 then takeSwath (toSigned 32 c.value) s
  else if block = 4 ∧ 0x0100 ≤ item ∧ item ≤ 0x010F then s.takeScalar resource (item - 0x0100) c
  else if block = 8 ∧ 0x8000 ≤ item ∧ item ≤ 0x9FFF then s.takeExport item seq c
  else if block = 7 ∧ 0x1000 ≤ item ∧ item ≤ 0x14FF then s.takeCan resource item c
  else s

end Sys2Proof.Machine
end

