-- ==== Sys2Proof/Machine/Lanes.lean ====
section
/-!
DEFINITION. Receivers, the Crosstree's decisions, and the lane opcodes (05).
-/
namespace Sys2Proof.Machine
open Sys2Proof

/-! ### What a receiver has taken -/

/-- A block acts on an item that its receiver has taken: a signal's value at once, a command once the directory is at hand. -/
def State.act (s : State) (t : Taken) : State :=
  match t.copy.cargo with
  | .none => s.takeItem t.block t.resource t.item t.seq t.copy
  | _ => s.handOn t

def State.actAll (x : State × List Taken) : State := x.2.foldl State.act x.1

/-- A copy reaches its receiver and is judged (R131 to R134). -/
def State.judgeCopy (s : State) (l : Lane) (i : Item) : State :=
  State.actAll (s.judging (recvKey i.block i.resource) fun v j => j.judge v l i)

/-- The first item a lane has on its way to a block's resource, and the rest. -/
def firstItem (block resource : Nat) : List Item → Option (Item × List Item)
  | [] => none
  | i :: r =>
    if i.block = block ∧ i.resource = resource then some (i, r)
    else match firstItem block resource r with
      | some (x, rest) => some (x, i :: rest)
      | none => none

/-- `RECEIVER_COPY_ARRIVAL`: a lane's oldest item for the resource reaches the block's receiver. The copy of a lane in
Ignore mode is discarded (R129), and the power-channel block counts a refused duty item (07 R204). -/
def receiverCopyArrival (lane : Lane) (block resource : Nat) (s : State) : State :=
  match firstItem block resource (s.lane lane).items with
  | none => s
  | some (i, rest) =>
    let s1 := s.updLane lane fun a => { a with items := rest }
    if !s.blockOn block || (block == 11 && s.xt.stopped) then s1
    else if isDutyItem block i.item && !s.adopted lane then refuseDuty lane resource i.item s1
    else s1.judgeCopy lane i

/-- The windows of a resource that are due take the standby's copies, and the pairs that are complete close. -/
def Judging.windowsDue (resource : Nat) (v : RecvView) (j : Judging) : Judging :=
  (j.recv.pairs.filter fun p => p.resource == resource).foldl (fun a p => a.finishPair v p.resource p.item p.seq)
    (j.expireWindows v v.now fun p => p.resource == resource)

def dedupWindowExpiry (block resource : Nat) (s : State) : State :=
  State.actAll (s.judging (recvKey block resource) (Judging.windowsDue resource))

def pairLimitExpiry (block resource : Nat) (s : State) : State :=
  State.actAll (s.judging (recvKey block resource) fun v j => j.expireLimits v v.now fun p => p.resource == resource)

/-! ### Mode changes at every receiver (R153, R503) -/

/-- Keys of the receivers that hold anything. -/
def State.recvKeys (s : State) : List Nat := s.recvs.map (fun x => x.1)

/-- Every receiver judges anew. -/
def State.judgeAll (s : State) (f : RecvView → Judging → Judging) : State :=
  s.recvKeys.foldl (fun a k => State.actAll (a.judging k f)) s

/-- Pairs that now hold all they wait for close (R134). -/
def Judging.finishAll (v : RecvView) (j : Judging) : Judging :=
  j.recv.pairs.foldl (fun a p => a.finishPair v p.resource p.item p.seq) j

/-- At every receiver, pairs that now hold all they wait for close (R134).
Log 113: DEDUCED, unsafe. -/
def State.finishAll (s : State) : State := s.judgeAll fun v j => j.finishAll v

/-- The copies of a lane held in open pairs and not taken are discarded, and the windows they started are cancelled
(R503). -/
def State.discardUntaken (s : State) (l : Lane) : State :=
  { s with recvs := s.recvs.map fun x =>
      (x.1, { x.2 with pairs := x.2.pairs.map fun p =>
        if p.taken.isNone && (p.copy l).isSome then { p.setCopy l none with window := none } else p }) }

/-- Every open pair that is not taken and holds the copy of lane `l` takes it, oldest first (R153). -/
def Judging.takeOpen (l : Lane) (v : RecvView) (j : Judging) : Judging :=
  (j.recv.pairs.filter fun p => p.taken.isNone && v.expects p l).foldl (Judging.takePair v l false) j

/-- Every receiver takes at once the open pairs that hold the new active lane's copy (R153).
Log 113: DEDUCED, unsafe. -/
def State.takeOpen (s : State) (l : Lane) : State := s.judgeAll (Judging.takeOpen l)

def State.setLaneState (s : State) (l : Lane) (v : LaneState) : State := s.updXt l fun x => { x with state := v }

/-- The designation passes to a lane: it becomes ACTIVE, is counted and recorded (R153, 17 Table 17-2). -/
def State.designate (s : State) (l : Lane) (cause : Nat) : State :=
  let s1 := { s with xt := { s.xt with active := l, switchovers := sat32 s.xt.switchovers 1 } }
  let s2 := ((s1.setLaneState l .active).takeOpen l).finishAll
  s2.raise 0x0402 11 l.code (details [(l.code : Int), (cause : Int)])

/-! ### Failing lanes (R148, R149, R154) -/

/-- A lane put into reset by the Crosstree sends and computes nothing; its trouble log stays (18 R469).
Log 57: DEDUCED, unsafe. -/
def LaneSt.reset (a : LaneSt) : LaneSt :=
  { a with
    running := false
    fatal := false
    deliveries := []
    acts := []
    queue := []
    taking := []
    crosstreeLost := false
    missedAcks := 0
    ackSeen := false
    openCmds := []
    heartbeats := 0
    hbSent := false
    lastAck := none
    health := {}
    digests := []
    ownDigests := [] }

/-- Commands staged in a lane's control engine are lost with it; those that the other engine holds too stay there (06 R162).
Log 33: DEDUCED, unsafe. -/
def dropEngine (l : Lane) (q : List Staged) : List Staged :=
  (q.filter fun e => e.block != 6 || heldIn e.req l.other).map fun e =>
    if e.block = 6 ∧ heldIn e.req l then { e with req := { e.req with only := some l.other } } else e

/-- The commands staged in the control engine of `l.other` are copied into the engine of `l` (Table 05-8).
Log 33: DEDUCED, unsafe. -/
def copyEngine (l : Lane) (q : List Staged) : List Staged :=
  q.map fun e => if e.block = 6 ∧ e.req.only = some l.other then { e with req := { e.req with only := none } } else e

/-- Both the lane and what the Crosstree times for it: held in reset from now (R154), with the cross-lane path off.
Log 33: DEDUCED, unsafe; log 116: DESIGN CHOICE, unsafe. -/
def State.holdLane (s : State) (l : Lane) : State :=
  let hold := s.now + s.xt.resetHoldMs * 1000000
  let s1 := (s.updLane l LaneSt.reset).updXt l fun x =>
    { x with
      clean := 0
      misses := 0
      timer := none
      hold := some hold
      filling := false
      booted := false
      resyncNext := false
      copyDone := false
      adopted := false
      ready := false
      readyDue := none }
  let s2 := { s1 with xt := { s1.xt with crossLane := false }, staged := dropEngine l s1.staged }
  match l with
  | .main => { s2 with power := { s2.power with adoptedMain := false, refusedMain := false } }
  | .mizzen => { s2 with power := { s2.power with adoptedMizzen := false, refusedMizzen := false } }

/-- Fail a lane: `RECOVERING`, or `FAILED` once its recovery count is used up; every receiver ignores it (R154, R503). -/
def State.failLane (s : State) (l : Lane) (cause : Nat) : State :=
  let spent := decide (s.xt.attempts ≤ (s.xtLane l).recoveries)
  let s1 := s.holdLane l
  let s2 := s1.updXt l fun x =>
    { x with
      state := if spent then .failed else .recovering
      hold := if spent then none else x.hold }
  let s3 := (s2.discardUntaken l).finishAll
  s3.raise 0x0401 11 l.code (details [(l.code : Int), (cause : Int)])

/-- A lane restart: both lanes are held in reset together, the designation stays; the lanes' engines and their staged
commands are lost (R149, R150). In a restart, a lane in `RECOVERING` is one that failed on the way.
Log 33: DEDUCED, unsafe. -/
def State.laneRestart (s : State) (l : Lane) : State :=
  let keep (x : Lane) : LaneState := if x = s.xt.active then .active else .standby
  let s0 := (s.holdLane .main).holdLane .mizzen
  let s1 := (s0.updXt .main (fun x => { x with state := keep .main })).updXt .mizzen fun x => { x with state := keep .mizzen }
  let s2 := { s1 with xt := { s1.xt with restart := true, rejoin := none } }
  let s3 := ((s2.discardUntaken .main).discardUntaken .mizzen)
  s3.raise 0x0403 11 l.code (details [(l.code : Int)])

/-- The lane is in service or on its way back: it can fail. -/
def State.canFail (s : State) (l : Lane) : Bool :=
  (s.xtLane l).hold.isNone && match (s.xtLane l).state with
    | .failed => false
    | .recovering => false
    | .active | .standby | .probation | .resync => true

/-- A heartbeat failure (cause 0), fatal fault (1) or failed burst (2) of a lane (Table 05-7, R151, R152). -/
def State.laneFailure (s : State) (l : Lane) (cause : Nat) : State :=
  if !s.canFail l then s
  else if l = s.xt.active then
    if (s.xtLane l.other).state = .standby ∧ !s.xt.restart then (s.failLane l cause).designate l.other 0
    else s.laneRestart l
  else s.failLane l cause

/-! ### Heartbeats (R141 to R143) -/

/-- `HEARTBEAT_RECEIVED`: a lane's oldest heartbeat in flight reaches the Crosstree, which accepts and acknowledges it with
the lane states of both lanes. -/
def heartbeatReceived (l : Lane) (s : State) : State :=
  match (s.lane l).hbInFlight with
  | [] => s
  | h :: rest =>
    let s1 := s.updLane l fun a => { a with hbInFlight := rest }
    if s.xt.stopped || (s.xtLane l).hold.isSome || (s.xtLane l).state == .failed then s1 else
    let s2 := s1.updXt l fun x => { x with timer := some (s.now + 1200000), misses := 0 }
    let k : HeartbeatAck := ⟨s.xt.main.state.code, s.xt.mizzen.state.code⟩
    let s3 := s2.updLane l fun a => { a with acksInFlight := a.acksInFlight ++ [k] }
    if h.fatal then s3.laneFailure l 1 else s3

/-- `HEARTBEAT_TIMER_EXPIRY`: one miss; the third in a row is a heartbeat failure (R141). -/
def heartbeatTimerExpiry (l : Lane) (s : State) : State :=
  match (s.xtLane l).timer with
  | none => s
  | some t =>
    if s.xt.stopped || decide (s.now < t) then s else
    let n := (s.xtLane l).misses + 1
    let s1 := s.updXt l fun x =>
      { x with
        misses := n
        hbMissed := true
        timer := if 3 ≤ n then none else some (t + 1000000) }
    if 3 ≤ n then s1.laneFailure l 0 else s1

/-- `CROSSTREE_LOST` in a lane status (Table 05-10). -/
def setLostFlag (st : Bytes) : Bytes := setBytes st 3 [BitVec.ofNat 8 (u8 st 3 / 2 * 2 + 1)]

/-- `HEARTBEAT_ACK_RECEIVED`: the first acknowledgement after the loss clears `CROSSTREE_LOST` (R142). -/
def heartbeatAckReceived (l : Lane) (s : State) : State :=
  let a := s.lane l
  match a.acksInFlight with
  | [] => s
  | k :: rest =>
    let s1 := s.updLane l fun a => { a with acksInFlight := rest }
    if !a.running then s1 else
    let s2 := s1.updLane l fun a =>
      { a with
        ackSeen := true
        missedAcks := 0
        crosstreeLost := false
        lastAck := some k }
    if a.crosstreeLost then s2.raiseLane l 0x040A (details [(l.code : Int)]) else s2

/-- A lane sends a heartbeat (Table 05-4). `HEARTBEAT_COUNT` counts it too.
Log 109: DEDUCED, unsafe. -/
def State.sendHeartbeat (s : State) (l : Lane) : State :=
  s.updLane l fun a =>
    let n := (a.heartbeats + 1) % 65536
    { a with
      hbInFlight := a.hbInFlight ++ [⟨a.fatal, n, s.major, s.slotInMajor⟩]
      heartbeats := n
      hbSent := true }

/-- A lane finds a fatal fault in itself: a `FATAL` heartbeat leaves at once, outside the schedule (R143). -/
def State.fatalFault (s : State) (l : Lane) : State :=
  if (s.lane l).running then (s.updLane l fun a => { a with fatal := true }).sendHeartbeat l else s

/-- A lane sets `CROSSTREE_LOST`: it answers its open commands, and its status carries the flag (R142, R160, R504).
Each lane answers its own copies. -/
def State.loseCrosstree (s : State) (l : Lane) : State :=
  let cmds := (s.lane l).openCmds
  let s1 := s.updLane l fun a =>
    { a with
      crosstreeLost := true
      openCmds := []
      status := setLostFlag a.status }
  let s2 := s1.raiseLane l 0x0409 (details [(l.code : Int)])
  cmds.foldl (fun t c => t.answer c.opcode { c.req with only := some l } (lostStatus c.opcode) t.major []) s2

/-- The scheduled heartbeat: the lane first judges whether the one before it was acknowledged (R141, R142).
Log 109: DEDUCED, unsafe. -/
def State.scheduledHeartbeat (s : State) (l : Lane) : State :=
  let a := s.lane l
  let missed := a.hbSent && !a.ackSeen
  let n := if missed then a.missedAcks + 1 else a.missedAcks
  let s1 := s.updLane l fun a => { a with missedAcks := n, ackSeen := false }
  let s2 := if missed then s1.logTrouble l 4 0 [] else s1
  let s3 := if 3 ≤ n ∧ !a.crosstreeLost then s2.loseCrosstree l else s2
  s3.sendHeartbeat l

/-! ### Health reports (R144) -/

/-- A signal record's 32 bytes (03 Table 03-8). -/
def SigRec.bytes (v : SigRec) : Bytes :=
  putLE 16 v.value ++ putLE 8 v.stamp ++ putLE 4 v.seq ++
  putLE 4 (packFlags [v.valid, v.stale, v.absent, v.overrun, v.initial])

/-- CRC-32C over a lane's signal table, its records in ascending identifier order.
Log 31: DEDUCED, unsafe. -/
def LaneSt.tableCrc (a : LaneSt) : Nat := crc32c (a.signals.map (fun x => x.2.bytes)).flatten

/-- A health report (Table 05-5). -/
def healthReport (s : State) (l : Lane) : Bytes :=
  let a := s.lane l
  let h := a.health
  putLE 1 l.code ++ putLE 1 (packFlags [a.fatal, h.engineCheckFail, h.digestOverflow]) ++ putLE 2 h.coreFail ++
  putLE 4 s.major ++ putLE 4 h.overruns ++ putLE 4 h.digestMismatch ++ putLE 4 h.correctable ++
  putLE 4 h.tableCrc ++ putS 2 h.tempMax ++ putLE 2 a.heartbeats ++ zeros 4

def State.sendHealth (s : State) (l : Lane) : State :=
  let b := healthReport s l
  s.updLane l fun a => { a with healthInFlight := a.healthInFlight ++ [b] }

/-- `HEALTH_REPORT_RECEIVED` (R144, R157). -/
def healthReportReceived (l : Lane) (s : State) : State :=
  match (s.lane l).healthInFlight with
  | [] => s
  | b :: rest =>
    let s1 := s.updLane l fun a => { a with healthInFlight := rest }
    if s.xt.stopped || decide (u32 b 4 ≠ s.major) then s1 else
    let bad := flagAt b 1 0 || flagAt b 1 1 || u16 b 2 % 4096 != 0
    s1.updXt l fun x => { x with healthSeen := true, healthBad := x.healthBad || bad }

/-! ### Discrepancies and overruns (R147, R148, 03 R91 to R93) -/

/-- A lane is ACTIVE or STANDBY.
Log 34: DEDUCED, unsafe. -/
def State.inDuty (s : State) (l : Lane) : Bool :=
  (s.xtLane l).state == .active || (s.xtLane l).state == .standby

/-- A discrepancy counted and attributed; the threshold orders a burst for the next period (R147, R148). -/
def State.countDiscrepancy (s : State) (who : Option Lane) : State :=
  let s1 : State := match who with
    | some l => s.updXt l fun x => { x with attributed := true }
    | none => s
  let n := sat32 s1.xt.discrepancies 1
  let s2 := { s1 with xt := { s1.xt with discrepancies := n } }
  if n < s2.xt.threshold ∨ s2.xt.thresholdHit then s2
  else
    let s3 := { s2 with xt := { s2.xt with thresholdHit := true } }
    if s3.inDuty .main && s3.inDuty .mizzen then
      { s3 with xt := { s3.xt with burstFor := some ((s3.major + 1) % 4294967296) } }
    else
      s3.raise 0x040B 11 255 (details [toSigned 32 s3.major, (s3.xt.main.state.code : Int), (s3.xt.mizzen.state.code : Int)])

/-- The `PROBATION` lane, if there is one. -/
def State.probationLane (s : State) : Option Lane :=
  if s.xt.main.state = .probation then some .main
  else if s.xt.mizzen.state = .probation then some .mizzen
  else none

/-- `DISCREPANCY_REPORT_RECEIVED` (R147). -/
def discrepancyReceived (s : State) : State :=
  match s.xt.reportsInFlight with
  | [] => s
  | d :: rest =>
    let s1 := { s with xt := { s.xt with reportsInFlight := rest } }
    if s.xt.stopped then s1 else
    s1.countDiscrepancy (if d.kind = 2 then some .main else if d.kind = 3 then some .mizzen else s1.probationLane)

/-- A `SCHEDULE_OVERRUN` report's bytes (03 Table 03-14). -/
def Overrun.bytes (o : Overrun) : Bytes :=
  putLE 1 o.lane ++ putLE 1 o.core ++ putLE 2 o.task ++ putLE 1 o.cause ++ putLE 1 (b2n o.critical) ++ zeros 2 ++
  putLE 4 o.major ++ putLE 4 o.slot

/-- An overrun is recorded with its class: 0 schedule overrun, 1 lane overrun (17 Table 17-2). -/
def State.recordOverrun (s : State) (o : Overrun) (cls : Nat) : State :=
  s.raise 0x0301 11 o.lane (o.bytes ++ putLE 4 cls)

def State.countScheduleOverrun (s : State) : State :=
  { s with sched := { s.sched with scheduleOverruns := sat32 s.sched.scheduleOverruns 1 } }

/-- `SCHEDULE_OVERRUN_RECEIVED`: a block's late operation is a schedule overrun at once (03 R93); a lane's report waits
for its class (03 R92). -/
def overrunReceived (s : State) : State :=
  match s.xt.overrunsInFlight with
  | [] => s
  | o :: rest =>
    let s1 := { s with xt := { s.xt with overrunsInFlight := rest } }
    if s.xt.stopped then s1
    else if o.lane = 255 then s1.countScheduleOverrun.recordOverrun o 0
    else { s1 with xt := { s1.xt with overruns := s1.xt.overruns ++ [o] } }

/-- The lane a report names. -/
def Overrun.who (o : Overrun) : Lane := if o.lane = 0 then .main else .mizzen

/-- One report classified, with the matching report of the other lane, if there is one (03 R92). -/
def State.classify (s : State) (o : Overrun) (both : Bool) : State :=
  if both then s.countScheduleOverrun.recordOverrun o 0
  else
    let l : Lane := o.who
    let s1 := { s with sched := { s.sched with
      mainOverruns := sat32 s.sched.mainOverruns (if l = Lane.main then 1 else 0)
      mizzenOverruns := sat32 s.sched.mizzenOverruns (if l = Lane.mizzen then 1 else 0) } }
    let s2 := (s1.recordOverrun o 1).countDiscrepancy (some l)
    if o.critical then s2.laneFailure l 1 else s2

/-- Reports grouped: each with whether the other lane sent its match; a matched pair appears once. -/
def pairReports : Nat → List Overrun → List (Overrun × Bool)
  | 0, _ => []
  | _ + 1, [] => []
  | n + 1, o :: rest =>
    let twin (x : Overrun) : Bool := x.task == o.task && x.major == o.major && x.slot == o.slot && x.lane != o.lane
    (o, rest.any twin) :: pairReports n (rest.filter (fun x => !twin x))

/-- `OVERRUN_CLASSIFY`: at the end of the slot after the run (03 R92). Reports of one slot's end are taken with the Main
lane's first (R151). -/
def overrunClassify (s : State) : State :=
  if s.xt.stopped then s else
  let due (o : Overrun) : Bool := decide ((o.judgeAt + 1) * 10000 ≤ s.grid)
  let l := sortBy (fun o => o.judgeAt * 256 + o.lane) (s.xt.overruns.filter due)
  let s1 := { s with xt := { s.xt with overruns := s.xt.overruns.filter (fun o => !due o) } }
  (pairReports l.length l).foldl (fun t x => t.classify x.1 x.2) s1

/-! ### Commit digests (R146) -/

/-- The lane that compares digests: the other one, in STANDBY or PROBATION.
Log 34: DEDUCED, unsafe. -/
def State.comparer (s : State) : Option Lane :=
  let o := s.xt.active.other
  if s.computes o then some o else none

/-- `COMMIT_DIGEST_ARRIVAL`: the active lane's oldest digest on the cross-lane path, which carries it while it is enabled
(01 R20); a full queue of 4,096 discards it. -/
def commitDigestArrival (s : State) : State :=
  match (s.lane s.xt.active).digestsInFlight with
  | [] => s
  | d :: rest =>
    let s1 := s.updLane s.xt.active fun a => { a with digestsInFlight := rest }
    match if s.xt.crossLane then s.comparer else none with
    | none => s1
    | some o => s1.updLane o fun a =>
      if a.digests.length < 4096 then { a with digests := a.digests ++ [d] }
      else { a with health := { a.health with digestOverflow := true } }

/-- Some core of the image is in a `SELFTEST` run in the slot that runs, and no burst runs there (R145). -/
def State.selftestFree (s : State) : Bool :=
  (upto 12).any (fun c => s.sched.image.selftest c s.slotInMajor && !s.bursting c s.slotInMajor)

/-- `COMMIT_DIGEST_COMPARE`: in a free `SELFTEST` slot, the standby's oldest pending digest, once it has reached the end of
the commit's slot. One for which it made no commit is discarded; a mismatch is reported with kind 4, where `TAKEN_FROM`
names the active lane and `STAMP_LOW` is the Mast time of the comparison.
Log 34: DEDUCED, unsafe; log 129: DESIGN CHOICE, unsafe. -/
def commitDigestCompare (s : State) : State :=
  match s.comparer with
  | none => s
  | some o =>
    match (s.lane o).digests with
    | [] => s
    | d :: rest =>
      if decide (s.grid < (d.slot + 1) * 10000) || !s.selftestFree then s else
      let own := (s.lane o).ownDigests.find? (fun x => x.task == d.task && x.slot == d.slot)
      let s1 := s.updLane o fun a =>
        { a with
          digests := rest
          ownDigests := a.ownDigests.filter (fun x => !(x.task == d.task && x.slot == d.slot)) }
      match own with
      | none => s1
      | some x =>
        if x.crc = d.crc then s1
        else
          (s1.updLane o fun a => { a with health := { a.health with digestMismatch := sat32 a.health.digestMismatch 1 } }).report
            ⟨0, 0, 4, laneCode (some s.xt.active), d.task, d.slot % s.slots, s.time.mast % 4294967296⟩

/-! ### Diagnostic bursts (R152) -/

/-- First slot of the major period that follows every core's burst run. -/
def Image.burstEnd (i : Image) : Nat := ((upto 12).map (fun c => (i.burstRun c).2)).foldl max 0

/-- A lane sends its burst result: the tests' outcome and the CRC of its signal table at the period's opening. -/
def State.sendBurst (s : State) (l : Lane) : State :=
  if s.computes l then
    s.updLane l fun a => { a with burstInFlight := some ⟨!a.burstFailed, a.burstCrc⟩ }
  else s

/-- `BURST_RESULT_RECEIVED`. -/
def burstResultReceived (l : Lane) (s : State) : State :=
  match (s.lane l).burstInFlight with
  | none => s
  | some b =>
    let s1 := s.updLane l fun a => { a with burstInFlight := none }
    if s.xt.stopped || s.xt.burstJudge.isNone then s1 else
    match l with
    | .main => { s1 with xt := { s1.xt with burstMain := some b } }
    | .mizzen => { s1 with xt := { s1.xt with burstMizzen := some b } }

/-- `BURST_RESULT_DEADLINE`: both results judged at the end of the slot that follows the run. -/
def burstResultDeadline (s : State) : State :=
  match s.xt.burstJudge with
  | none => s
  | some n =>
    if s.xt.stopped || decide (s.grid < (n + 1) * 10000) then s else
    let ok (b : Option BurstResult) : Bool := match b with
      | some x => x.pass
      | none => false
    let crc (b : Option BurstResult) : Nat := match b with
      | some x => x.crc
      | none => 0
    let a := s.xt.burstMain
    let b := s.xt.burstMizzen
    let s1 := { s with xt := { s.xt with burstJudge := none, burstMain := none, burstMizzen := none } }
    if ok a && ok b then s1.raise 0x0404 11 255 (putLE 4 (crc a) ++ putLE 4 (crc b))
    else if ok a then s1.laneFailure .mizzen 2
    else if ok b then s1.laneFailure .main 2
    else (s1.laneFailure s.xt.active.other 2).raise 0x0405 11 255 (putLE 4 s.major)

/-! ### Recovery and restart (R149, R150, R154 to R156, 18 R469) -/

/-- Bytes of lane state the background copy moves (R155): write windows, signal table, lane SRAM, and the regions the
blocks' chapters add. -/
def copyBytes (windows : List Window) (signals regions : Nat) : Nat :=
  let w := sortBy (fun x => x.1) ((windows.filter (fun x => x.write)).map (fun x => (x.base, x.base + x.size)))
  let total := w.foldl (fun (acc : Nat × Nat) x => (acc.1 + (x.2 - max x.1 acc.2), max acc.2 x.2)) (0, 0)
  total.1 + 32 * signals + 3145728 + regions

/-- The resynchronising lane, if there is one. -/
def State.resyncLane (s : State) : Option Lane :=
  if s.xt.main.state = .resync then some .main
  else if s.xt.mizzen.state = .resync then some .mizzen
  else none

/-- What a lane ends with after resynchronisation: the active lane's state, but for its own trouble log (Table 05-8).
Log 63: DEDUCED, unsafe. -/
def LaneSt.takeState (a b : LaneSt) : LaneSt :=
  { a with
    signals := b.signals
    deliveries := b.deliveries
    streams := b.streams
    inbound := b.inbound
    queue := b.queue
    taking := b.taking
    origins := b.origins
    timeStatus := b.timeStatus }

/-- A lane enters `PROBATION` (R156). -/
def State.enterProbation (s : State) (l : Lane) : State :=
  let src := s.lane l.other
  let s1 := s.updLane l fun a => a.takeState src
  let s2 : State := match l with
    | .main => { s1 with ctrl := { s1.ctrl with main := s1.ctrl.mizzen } }
    | .mizzen => { s1 with ctrl := { s1.ctrl with mizzen := s1.ctrl.main } }
  ({ s2 with staged := copyEngine l s2.staged } : State).updXt l fun x =>
    { x with
      state := .probation
      clean := 0
      booted := false
      copyDone := false
      adopted := false }

/-- A lane enters `RESYNC` (R155): the cross-lane path is enabled, and its heartbeats are watched from now on (R157).
Log 116: DESIGN CHOICE, unsafe. -/
def State.enterResync (s : State) (l : Lane) : State :=
  let s1 := s.updXt l fun x =>
    { x with
      state := .resync
      timer := some (x.timer.getD (s.now + 1200000))
      resyncNext := false
      copyDone := false
      adopted := false }
  { s1 with xt := { s1.xt with crossLane := true, resyncBytes := 0 } }

/-! ### The Crosstree at a major boundary (R148, R152, R155 to R160) -/

/-- The lane status of Table 05-10. -/
def laneStatus (s : State) (major : Nat) : Bytes :=
  let x := s.xt
  putLE 1 x.active.code ++ putLE 1 x.main.state.code ++ putLE 1 x.mizzen.state.code ++
  putLE 1 (packFlags [false, x.burstNow]) ++ putLE 2 x.main.clean ++ putLE 2 x.mizzen.clean ++
  putLE 4 x.discrepanciesLast ++ putLE 4 major ++ putLE 4 x.switchovers ++ putLE 1 x.main.recoveries ++
  putLE 1 x.mizzen.recoveries ++ zeros 2 ++ putLE 4 (min (x.resyncBytes / 1024) max32) ++ zeros 4

/-- The end of a period for a lane: its health report is missed, and a `PROBATION` lane's period is judged (R144, R148,
R157, R158). `ended` is the major number of the period that ends.
Log 67: DEDUCED, unsafe. -/
def State.judgePeriod (s : State) (ended : Nat) (l : Lane) : State :=
  let x := s.xtLane l
  let serves := match x.state with
    | .active | .standby | .probation => true
    | .resync | .recovering | .failed => false
  let s1 := if serves && !x.healthSeen then s.raise 0x0408 11 l.code (details [(l.code : Int), toSigned 32 ended]) else s
  if x.state = .probation then
    if !x.attributed && !x.hbMissed && x.healthSeen && !x.healthBad then
      let n := x.clean + 1
      if s.xt.cleanPeriods ≤ n then
        let s2 := s1.updXt l fun x => { x with clean := 0, recoveries := 0, state := .standby }
        match l with
        | .main => (s2.setLaneState .mizzen .standby).designate .main 1
        | .mizzen => s2
      else s1.updXt l fun x => { x with clean := n }
    else s1.updXt l fun x => { x with clean := 0 }
  else s1

/-- Entries into `PROBATION` and `RESYNC` of one lane (R155, R156). -/
def State.moveRecovering (s : State) (l : Lane) : State :=
  let x := s.xtLane l
  if x.state = .resync ∧ x.copyDone ∧ x.adopted then s.enterProbation l
  else if x.state = .recovering ∧ x.resyncNext then s.enterResync l
  else s

/-- The period's counts roll over (R147, Table 05-10).
Log 67: DEDUCED, unsafe. -/
def State.rollCounts (s : State) : State :=
  let clear (x : XtLane) : XtLane :=
    { x with
      healthSeen := false
      healthBad := false
      attributed := false
      hbMissed := false }
  { s with xt := { s.xt with
    discrepanciesLast := s.xt.discrepancies
    discrepancies := 0
    thresholdHit := false
    main := clear s.xt.main
    mizzen := clear s.xt.mizzen } }

/-- A burst ordered for the period that opens is run or skipped (R152). -/
def State.startBurst (s : State) (major : Nat) : State :=
  if s.xt.burstFor = some major then
    let s1 := { s with xt := { s.xt with burstFor := none, burstNow := true } }
    if s.inDuty .main && s.inDuty .mizzen && !s.xt.restart then
      let s2 := s1.updLanes fun a => { a with burstFailed := false, burstCrc := a.tableCrc }
      { s2 with xt := { s2.xt with
        burstJudge := some (s.slot + s.sched.image.burstEnd)
        burstMain := none
        burstMizzen := none } }
    else
      ({ s1 with xt := { s1.xt with burstNow := false } }).raise 0x0406 11 255 (putLE 4 major)
  else { s with xt := { s.xt with burstNow := false } }

/-- Delivery of the lane status to both lanes; a lane that has lost the Crosstree keeps its last one with the flag
(R160). -/
def State.deliverLaneStatus (s : State) (major : Nat) : State :=
  let st := laneStatus s major
  s.updLanes fun a =>
    if !a.running then a
    else if s.xt.stopped || a.crosstreeLost then (if a.crosstreeLost then { a with status := setLostFlag a.status } else a)
    else { a with status := st }

/-- Everything the Crosstree decides at the boundary that opens period `major`, before what is staged there. While it has
stopped it decides nothing, and counts made in a period do not outlast it (R147). -/
def State.crosstreeBoundary (s : State) (major : Nat) : State :=
  if s.xt.stopped then s.rollCounts else
  let ended := (major + 4294967295) % 4294967296
  let s1 := (s.judgePeriod ended Lane.main).judgePeriod ended Lane.mizzen
  let s2 := (s1.moveRecovering .main).moveRecovering .mizzen
  s2.rollCounts

/-! ### Stopping and resuming (01 R28, R154) -/

/-- `LANE_STOPPED`: the lane's core clock fails; it sends nothing more.
Log 32: DESIGN CHOICE, unsafe. -/
def laneStopped (l : Lane) (s : State) : State := s.updLane l fun a => { a with running := false, acts := [] }

/-- `CROSSTREE_STOPPED`: receivers keep their designation; what is on its way to it is lost (03 R92).
Log 26: DESIGN CHOICE, unsafe. -/
def crosstreeStopped (s : State) : State :=
  if s.xt.stopped then s else
  let s1 := s.updLanes fun a => { a with hbInFlight := [], healthInFlight := [], burstInFlight := none }
  { s1 with xt := { s1.xt with
    stopped := true
    stoppedAt := s.now
    reportsInFlight := []
    overrunsInFlight := []
    overruns := [] } }

/-- `CROSSTREE_RESUMED`: the rest of each hold and timer runs on.
Log 26: DESIGN CHOICE, unsafe. -/
def crosstreeResumed (s : State) : State :=
  if !s.xt.stopped then s else
  let d := s.now - s.xt.stoppedAt
  let shift (t : Option Nat) : Option Nat := t.map (fun x => x + d)
  let go (x : XtLane) : XtLane :=
    { x with
      timer := shift x.timer
      hold := shift x.hold
      readyDue := shift x.readyDue }
  { s with xt := { s.xt with
    stopped := false
    main := go s.xt.main
    mizzen := go s.xt.mizzen } }

/-! ### Lane opcodes (R161) -/

/-- Receivers of a block: ports of CAN, Stay and Ethernet, one for each other block but the control engine's. -/
def receiverPorts (block : Nat) : Nat :=
  match block with
  | 1 | 2 | 3 | 4 | 5 | 10 | 11 => 1
  | 7 => 12
  | 8 => 4
  | 9 => 4
  | _ => 0

/-- A receiver target (R161). -/
def receiverTarget (all : Bool) (r : Request) : Bool :=
  let b := r.target % 256
  let p := r.target / 256
  decide (p < receiverPorts b) || (all && p == 255 && receiverPorts b != 0)

/-- The receiver keys a target names. -/
def targetKeys (t : Nat) : List Nat :=
  let b := t % 256
  let p := t / 256
  if p = 255 then (upto (receiverPorts b)).map (fun q => recvKey b q) else [recvKey b p]

def opLaneGetStatus : OpSpec :=
  { code := 0x0401
    local_ := true
    logs := false
    reads := some fun s l _ => (s.lane l).status }

def applyLanePolicy (s : State) (e : Staged) : State :=
  let p := e.req.payload
  { s with xt := { s.xt with
    threshold := u8 p 0
    attempts := u8 p 1
    cleanPeriods := u16 p 2
    resetHoldMs := u16 p 4 } }

/-- `LANE_SET_POLICY` (Table 05-13). -/
def opLaneSetPolicy : OpSpec :=
  { code := 0x0402
    role := fun _ => 2
    kind := .major
    block := 11
    param := fun r =>
      let p := r.payload
      lengthThen 8 r
        [need (decide (1 ≤ u8 p 0)) 0, need (decide (u8 p 1 ≤ 15)) 1,
         need (decide (1 ≤ u16 p 2) && decide (u16 p 2 ≤ 1000)) 2,
         need (decide (10 ≤ u16 p 4) && decide (u16 p 4 ≤ 1000)) 4] }

/-- A new window applies to pairs opened from the boundary on. -/
def applyDedupWindow (s : State) (e : Staged) : State :=
  (targetKeys e.target).foldl (fun t k => t.updRecv k fun v => { v with windowNs := u32 e.req.payload 0 }) s

/-- `LANE_SET_DEDUP_WINDOW` (Table 05-14). -/
def opLaneSetDedupWindow : OpSpec :=
  { code := 0x0403
    role := fun _ => 2
    kind := .major
    block := 11
    target := receiverTarget true
    param := fun r =>
      lengthThen 4 r [need (decide (500 ≤ u32 r.payload 0) && decide (u32 r.payload 0 ≤ 20000)) 0] }

/-- Table 05-12. -/
def Receiver.bytes (v : Receiver) : Bytes :=
  ([v.takenMain, v.takenMizzen, v.lateActive, v.mismatch, v.missingMain, v.missingMizzen, v.staleMain, v.staleMizzen,
    v.lost, v.overflow].map (putLE 4)).flatten

def opLaneGetReceiverCounters : OpSpec :=
  { code := 0x0404
    local_ := true
    logs := false
    target := receiverTarget false
    run := fun s r => (s, some (stOk, (s.recv (recvKey (r.target % 256) (r.target / 256))).bytes)) }

/-- The lane that is not active is not `STANDBY`. -/
def noStandby (s : State) (_ : Request) (_ : Resolved) : Option (Nat × Bytes) :=
  if (s.xtLane s.xt.active.other).state = .standby then none else some (0x40, [])

/-- A burst is ordered for the period its boundary opens (R161). -/
def applyRequestBurst (s : State) (e : Staged) : State :=
  if s.xt.stopped then s else { s with xt := { s.xt with burstFor := some e.boundary } }

def opLaneRequestBurst : OpSpec :=
  { code := 0x0405
    role := fun _ => 1
    kind := .major
    block := 11
    check := noStandby }

/-- The standby lane is designated; if it has left service, the request has no effect and is recorded (R159, R161). -/
def applyRequestSwitch (s : State) (e : Staged) : State :=
  let old := s.xt.active
  if s.xt.stopped then s
  else if (s.xtLane old.other).state = .standby then (s.setLaneState old .standby).designate old.other 2
  else s.raise 0x0407 11 255 (putLE 4 e.boundary)

def opLaneRequestSwitch : OpSpec :=
  { code := 0x0406
    role := fun _ => 2
    kind := .major
    block := 11
    check := noStandby }

/-- The lane a target names. -/
def targetLane (r : Request) : Lane := if r.target = 0 then .main else .mizzen

/-- `LANE_RECOVER` (R154): to `RECOVERING`, held in reset, with its count cleared; the release always takes place. -/
def opLaneRecover : OpSpec :=
  { code := 0x0407
    role := fun _ => 1
    block := 11
    target := fun r => decide (r.target ≤ 1)
    check := fun s r _ => if (s.xtLane (targetLane r)).state = .failed then none else some (0x41, [])
    run := fun s r =>
      let l := targetLane r
      ((s.holdLane l).updXt l (fun x => { x with state := .recovering, recoveries := 0 }), some (stOk, [])) }

/-- `LANE_RESYNC_REQUEST` (R155): a lane whose request is refused reloads the active image before its next one, which
`loaded` 0 notes. -/
def opLaneResyncRequest : OpSpec :=
  { code := 0x0408
    block := 11
    fwOnly := true
    run := fun s r =>
      match r.path with
      | .firmware l =>
        let x := s.xtLane l
        let same := (s.lane l).loaded == 0 || (s.lane l).loaded == s.sched.activations
        if x.state = .recovering ∧ x.booted ∧ !s.xt.restart ∧ same then
          (s.updXt l (fun x => { x with resyncNext := true }), some (stOk, []))
        else (s.updLane l (fun a => { a with loaded := 0 }), some (0x42, []))
      | _ => (s, some (stNotAuthorised, [])) }

/-! ### Meanings -/

def execHeartbeatAckReceived (dt : Nat) (lane : Lane) (s : State) : Host.Outcome State Fault Refusal :=
  runCmd dt s (heartbeatAckReceived lane)
def execLaneFatalFault (dt : Nat) (lane : Lane) (s : State) : Host.Outcome State Fault Refusal :=
  runCmd dt s fun s => s.fatalFault lane
def execHealthReportReceived (dt : Nat) (lane : Lane) (s : State) : Host.Outcome State Fault Refusal :=
  runCmd dt s (healthReportReceived lane)
def execDiscrepancyReportReceived (dt : Nat) (s : State) : Host.Outcome State Fault Refusal :=
  runCmd dt s discrepancyReceived
def execScheduleOverrunReceived (dt : Nat) (s : State) : Host.Outcome State Fault Refusal :=
  runCmd dt s overrunReceived
def execCommitDigestArrival (dt : Nat) (s : State) : Host.Outcome State Fault Refusal :=
  runCmd dt s commitDigestArrival
def execCommitDigestCompare (dt : Nat) (s : State) : Host.Outcome State Fault Refusal :=
  runCmd dt s commitDigestCompare
def execBurstResultReceived (dt : Nat) (lane : Lane) (s : State) : Host.Outcome State Fault Refusal :=
  runCmd dt s (burstResultReceived lane)
def execCrosstreeStopped (dt : Nat) (s : State) : Host.Outcome State Fault Refusal :=
  runCmd dt s crosstreeStopped
def execCrosstreeResumed (dt : Nat) (s : State) : Host.Outcome State Fault Refusal :=
  runCmd dt s crosstreeResumed

end Sys2Proof.Machine
end

