-- ==== Sys2Proof/Machine/Mem.lean ====
section
/-!
DEFINITION. The protected memories (16), second part: errors, patrols, fills and the memory opcodes.
-/
namespace Sys2Proof.Machine
open Sys2Proof

/-- The domain of a controller's memory (Table 16-1); the shared blocks' SRAM lies in each block's own, that of the
Crosstree in D0.
Log 107: DEDUCED, unsafe. -/
def memDomainOf (c : Nat) : Nat :=
  match c with
  | 0 => 3
  | 1 => 5
  | 2 => 3
  | 3 => 5
  | 4 => 7
  | _ => 0

/-! ### Errors (R427 to R431) -/

/-- The counters and the address table after a corrected byte (R427 to R429); the event where a new entry is made.
Log 47: DEDUCED, unsafe. -/
def State.noteCorrected (s : State) (c a position : Nat) (patrol : Bool) : State :=
  let s0 : State := match memLane c with
    | some l => s.updLane l fun x => { x with health := { x.health with correctable := sat32 x.health.correctable 1 } }
    | none => s
  if s.xt.stopped then s0 else
  let s1 := s0.updMem c fun m => { m with corrected := sat32 m.corrected 1 }
  let m := s1.memc c
  let word := a / 16 * 16
  let byte := a % 16
  if m.isQuiet c a then s1
  else if m.table.any (fun e => e.word == word && e.byte == byte) then
    s1.updMem c fun m => { m with table := m.table.map fun e =>
      if e.word = word ∧ e.byte = byte then
        { e with
          last := s.time.mast
          count := sat16 e.count 1
          position := position
          patrol := e.patrol || patrol }
      else e }
  else if m.table.length < 32 then
    let e : MemEntry := ⟨word, s.time.mast, s.time.mast, 1, byte, position, patrol⟩
    (s1.updMem c fun m => { m with table := m.table ++ [e] }).raise 0x0D01 11 c (memDetails c word byte position)
  else
    let s2 := s1.updMem c fun m => { m with overflows := sat32 m.overflows 1, fullNoted := true }
    if m.fullNoted then s2 else s2.raise 0x0D03 11 c (putLE 4 c)

/-- An uncorrectable byte: counted and recorded in every mode; in a lane's memory a fatal fault of the lane (R431).
Readers: 0 lane access, 1 patrol, 2 rewrite, 3 fusion round, 4 shared block.
Log 47: DEDUCED, unsafe. -/
def State.noteUncorrectable (s : State) (c a reader : Nat) : State :=
  let s1 := if s.xt.stopped then s
    else (s.updMem c fun m => { m with uncorrectable := sat32 m.uncorrectable 1 }).raise 0x0D02 11 c
      (memDetails c (a / 16 * 16) (a % 16) reader)
  match memLane c with
  | some l => s1.fatalFault l
  | none => s1

/-- A byte read by something else than a patrol (R425, R431), and whether its data may be used. -/
def State.readByte (s : State) (c reader a : Nat) (code : BitVec 13) : State × Bool :=
  match decodeByte code with
  | .good => (s, true)
  | .corrected p => (s.noteCorrected c a p false, true)
  | .uncorrectable => (s.noteUncorrectable c a reader, false)

/-- `n` bytes read from an address, and whether all their data may be used; in a lane's memory an uncorrectable byte stops
the access (Table 16-6). -/
def State.readRun (c reader : Nat) : Nat → Nat → State → State × Bool
  | 0, _, s => (s, true)
  | n + 1, a, s =>
    match s.readByte c reader a ((s.memc c).code c a) with
    | (t, ok) =>
      if !ok && (memLane c).isSome then (t, false)
      else
        let r := State.readRun c reader n (a + 1) t;
        (r.1, ok && r.2)

/-- Ranges of fusion memory that a round reads, and whether all their data may be used. -/
def State.readRanges (s : State) (c reader : Nat) (l : List (Nat × Nat)) : State × Bool :=
  l.foldl (fun acc r =>
    let x := State.readRun c reader r.2 r.1 acc.1;
    (x.1, acc.2 && x.2)) (s, true)

/-- One byte of a patrol read (R432); the flag tells an uncorrectable byte. -/
def State.patrolByte (s : State) (c a : Nat) (code : BitVec 13) : State × Bool :=
  match decodeByte code with
  | .good => (s, false)
  | .corrected p =>
    ((s.noteCorrected c a p true).updMem c (fun m => { m with found := sat32 m.found 1 }), false)
  | .uncorrectable => (s.noteUncorrectable c a 1, true)

/-- `n` bytes from an address; in a lane's memory an uncorrectable byte stops the read (Table 16-6). The addresses of
uncorrectable bytes are returned. -/
def patrolRun (c : Nat) : Nat → Nat → State × List Nat → State × List Nat
  | 0, _, acc => acc
  | n + 1, a, acc =>
    let (s, bad) := acc.1.patrolByte c a ((acc.1.memc c).code c a)
    if bad && (memLane c).isSome then (s, acc.2 ++ [a])
    else patrolRun c n (a + 1) (s, if bad then acc.2 ++ [a] else acc.2)

/-- The ranges a patrol reads (R432).
Log 43: DEDUCED, safe. -/
def MemCtrl.patrolRanges (m : MemCtrl) (c : Nat) : List (Nat × Nat) :=
  if m.patrolMode = 1 then m.ranges else if m.patrolMode = 2 then [(0, memSize c)] else []

/-- Patrol reads of up to `n` bytes, range after range; the end of the last range ends a pass (R432).
Log 40: DEDUCED, unsafe. -/
def State.patrolGo (c : Nat) : Nat → Nat → State × List Nat → State × List Nat
  | 0, _, acc => acc
  | _ + 1, 0, acc => acc
  | fuel + 1, n + 1, acc =>
    let m := acc.1.memc c
    match (m.patrolRanges c)[m.rangeIdx]? with
    | none => acc
    | some (base, size) =>
      let from_ := max m.pos base
      let len := min (n + 1) (base + size - from_)
      let (s, bad) := patrolRun c len from_ acc
      let next := from_ + len
      if next < base + size then (s.updMem c (fun m => { m with pos := next }), bad)
      else
        let ranges := m.patrolRanges c
        if m.rangeIdx + 1 < ranges.length then
          let b := ((ranges[m.rangeIdx + 1]?).getD (0, 0)).1
          State.patrolGo c fuel (n + 1 - len) (s.updMem c (fun m => { m with rangeIdx := m.rangeIdx + 1, pos := b }), bad)
        else
          let b := ((ranges[0]?).getD (0, 0)).1
          let found := (s.memc c).found
          let s1 := s.updMem c fun m =>
            { m with
              rangeIdx := 0
              pos := b
              found := 0
              passes := sat32 m.passes 1 }
          let s2 := if s.xt.stopped then s1 else s1.raise 0x0D04 11 c (details [(c : Int), (found : Int)])
          State.patrolGo c fuel (n + 1 - len) (s2, bad)

/-- The patrol read of one slot: 65,536 bytes (R433). -/
def State.patrolSlot (s : State) (c : Nat) : State × List Nat := State.patrolGo c 40 65536 (s, [])

/-- The index-th element taken out of a list. -/
def without {α : Type} (l : List α) (i : Nat) : List α := l.take i ++ l.drop (i + 1)

/-- A lane's copy leaves its pair as if it had never come; the pair counts it as missing at its limit (05 R134). -/
def Receiver.forget (x : Receiver) (resource item seq : Nat) (l : Lane) : Receiver :=
  match x.pairOf resource item seq with
  | none => x
  | some q =>
    let r := q.setCopy l none
    x.setPair (if q.taken.isNone then { r with window := none } else r)

/-- The latest image line of an open frame, as if it had never come. -/
def OpenFrame.forgetLine (f : OpenFrame) : OpenFrame :=
  if f.lines = [] then f else { f with lines := f.lines.dropLast, received := f.received - 1 }

/-- An item of a shared block is discarded as if it had never been received, and counted in the block's loss counter where it
has one (Table 16-6).
Log 39: DEDUCED, unsafe. -/
def State.dropShared (s : State) : SharedItem → State
  | .copy key resource item seq l => s.updRecv key fun x => x.forget resource item seq l
  | .txFrame p i => s.updCan p fun x => { x with queue := without x.queue i }
  | .record i =>
    if i < s.rec_.hold.length then
      { s with rec_ := { s.rec_ with hold := without s.rec_.hold i, lost := s.rec_.lost.add s.time.mast } }
    else s
  | .line p =>
    { s with cams := Tbl.upd s.cams p resetCamPort fun c => match c.frame with
      | some f => if f.lines = [] then c
        else { c with frame := some f.forgetLine, discarded := sat32 c.discarded 1 }
      | none => c }

/-- A shared block reads a byte of an item of its own: corrected, or the item is discarded (R425, R431). -/
def State.readShared (s : State) (x : Nat × BitVec 13 × SharedItem) : State :=
  match s.readByte 5 4 x.1 x.2.1 with
  | (t, ok) => if ok then t else t.dropShared x.2.2

/-- `SRAM_PATROL`: the once-a-second read of an SRAM, with the stored bytes it finds wrong, where its memory is on and a second
has passed since the last (R433).
Log 39: DEDUCED, unsafe. -/
def State.patrolSram (r : PatrolReads) (s : State) : State :=
  if (r.ctrl = 2 ∨ r.ctrl = 3 ∨ r.ctrl = 5) ∧ s.domain (memDomainOf r.ctrl) ∧ (s.memc r.ctrl).patrolDue ≤ s.now then
    r.found.foldl (fun t x => (t.patrolByte r.ctrl x.1 x.2).1)
      (s.updMem r.ctrl fun m => { m with patrolDue := s.now + 1000000000 })
  else s

/-- `SRAM_PATROL`, after what the shared blocks have read of their own items since.
Log 39: DEDUCED, unsafe. -/
def sramPatrol (r : PatrolReads) (s : State) : State :=
  ((if r.ctrl = 5 then r.items else []).foldl State.readShared s).patrolSram r

/-- What a lane's control engine finds wrong as it reads its settings, states and staged commands from the lane's SRAM: a
correctable byte is corrected and counted, an uncorrectable one is a fatal fault of the lane (06 R187).
Log 39: DEDUCED, unsafe. -/
def State.engineReads (s : State) (l : Lane) (found : List (Nat × BitVec 13)) : State :=
  found.foldl (fun t x => match decodeByte x.2 with
    | .good => t
    | .corrected p => t.noteCorrected (2 + l.code) x.1 p false
    | .uncorrectable => t.noteUncorrectable (2 + l.code) x.1 0) s

/-- `LOOP_START`: the head of a pipeline's queue starts, on what the engine reads of its SRAM. -/
def loopStartRead (lane : Lane) (pipe : Nat) (found : List (Nat × BitVec 13)) (s : State) : State :=
  loopStart lane pipe (if s.computes lane then s.engineReads lane found else s)

/-! ### Switching domains and fills (R423, R437, R438) -/

/-- The memory's domain switches on: an SRAM holds zeros, a DRAM undefined contents. -/
def State.memOn (s : State) (c : Nat) : State :=
  s.updMem c fun m =>
    { m with
      cells := []
      grounds := []
      test := []
      filled := !isDram c
      powerUps := m.powerUps + 1
      fillFrom := none }

/-- A fill begins, where `FILL_AT_POWER_ON` is set. -/
def State.startFill (s : State) (c : Nat) : State :=
  if s.mem.fillAtPowerOn then s.updMem c fun m => { m with fillFrom := some s.now } else s

/-- Whole milliseconds, rounded up.
Log 22: DEDUCED, unsafe. -/
def msUp (ns : Nat) : Nat := (ns + 999999) / 1000000

/-- A fill of a memory completes (R438).
Log 39: DEDUCED, unsafe; log 43: DEDUCED, safe. -/
def memFillDone (c : Nat) (s : State) : State :=
  match (s.memc c).fillFrom with
  | none => s
  | some t =>
    if !s.domain (memDomainOf c) then s else
    let s1 := s.updMem c fun m => { m.fill with fillFrom := none }
    if s.xt.stopped then s1 else s1.raise 0x0D05 11 c (details [(c : Int), (msUp (s.now - t) : Int)])

/-! ### Memory opcodes (R439) -/

/-- The controller a target names. -/
def memTarget (r : Request) : Nat := r.target % 256

/-- Targets: a controller with region 0; DRAM opcodes take DRAM controllers only.
Log 42: DEDUCED, unsafe. -/
def memTargetOk (dram : Bool) (r : Request) : Bool :=
  decide (r.target ≤ 5) && (!dram || isDram r.target)

/-- The target of `MEM_SET_MODE`: a region of the controller, or 0xFF for all. -/
def modeTargetOk (r : Request) : Bool :=
  decide (memTarget r ≤ 5) && (decide (r.target / 256 < memRegions (memTarget r)) || r.target / 256 == 255)

/-- Bit `i` of a mask set or cleared. -/
def setBit (mask i : Nat) (v : Bool) : Nat :=
  if bitOf mask i == v then mask else if v then mask + 2 ^ i else mask - 2 ^ i

def applyMemMode (s : State) (e : Staged) : State :=
  let c := memTarget e.req
  let v := u8 e.req.payload 0 == 1
  s.updMem c fun m =>
    { m with quiet :=
        if e.target / 256 = 255 then (if v then 2 ^ memRegions c - 1 else 0) else setBit m.quiet (e.target / 256) v }

/-- `MEM_SET_MODE` (Table 16-9). -/
def opMemSetMode : OpSpec :=
  { code := 0x0D01
    role := fun _ => 1
    kind := .major
    block := 11
    target := modeTargetOk
    param := fun r => lengthThen 4 r [need (decide (u8 r.payload 0 ≤ 1)) 0] }

/-- Ranges of a `MEM_SET_PATROL` payload. -/
def patrolRangesOf (p : Bytes) : List (Nat × Nat) :=
  (upto (u8 p 1)).map (fun i => (u64 p (8 + 16 * i), u64 p (16 + 16 * i)))

def applyMemPatrol (s : State) (e : Staged) : State :=
  let p := e.req.payload
  s.updMem (memTarget e.req) fun m =>
    { m with
      patrolMode := u8 p 0
      ranges := patrolRangesOf p
      rangeIdx := 0
      pos := if u8 p 0 = 1 then ((patrolRangesOf p)[0]?.getD (0, 0)).1 else 0
      found := 0 }

/-- `MEM_SET_PATROL` (Table 16-10). -/
def opMemSetPatrol : OpSpec :=
  { code := 0x0D02
    role := fun _ => 1
    kind := .major
    block := 11
    target := memTargetOk true
    exceeds := countedExceeds 8 1 16
    param := fun r =>
      let p := r.payload
      if p.length < 8 then some 0x0010
      else if p.length ≠ 8 + 16 * u8 p 1 then some 0x0021
      else
        let size := memSize (memTarget r)
        firstFail ([need (decide (u8 p 0 ≤ 2)) 0, need (decide (u8 p 1 ≤ 16)) 1] ++
          ((upto (u8 p 1)).map fun i =>
            let b := u64 p (8 + 16 * i)
            let n := u64 p (16 + 16 * i)
            if b % 4096 ≠ 0 ∨ size ≤ b then some (0x28 + 16 * i)
            else need (n % 4096 == 0 && decide (4096 ≤ n) && decide (b + n ≤ size)) (16 + 16 * i)))
    check := fun s r _ =>
      if u8 r.payload 0 = 2 ∧ !(s.memc (memTarget r)).filled then some (0x41, []) else none }

/-- An address table entry's bytes (Table 16-5). -/
def MemEntry.bytes (e : MemEntry) : Bytes :=
  putLE 8 e.word ++ putLE 8 e.first ++ putLE 8 e.last ++ putLE 2 e.count ++ putLE 1 (e.byte + 16 * e.position) ++
  putLE 1 (b2n e.patrol) ++ zeros 4

/-- A DRAM patrol reads in the present slot (R433). -/
def State.patrolActive (s : State) (c : Nat) : Bool :=
  match memLane c with
  | some l => isDram c && (s.memc c).patrolMode != 0 && (s.xtLane l).state == .standby && s.computes l &&
    (s.sched.image.core.any fun e => e.kind == 2 && e.resource == 0 &&
      decide (e.start ≤ s.slotInMajor) &&
      (if e.repeat_ = 0 then decide (s.slotInMajor < e.start + e.length)
       else decide ((s.slotInMajor - e.start) % e.repeat_ < e.length)))
  | none => c == 4 && (s.memc c).patrolMode != 0 && s.fusionMem && s.fus.running.isNone

/-- Table 16-11. -/
def memStatus (s : State) (c : Nat) : Bytes :=
  let m := s.memc c
  putLE 4 m.quiet ++ putLE 1 m.patrolMode ++ putLE 1 (packFlags [m.filled, s.patrolActive c]) ++
  putLE 1 m.table.length ++ zeros 1 ++ putLE 4 m.corrected ++ putLE 4 m.uncorrectable ++ putLE 4 m.overflows ++
  putLE 4 m.passes ++ putLE 8 (m.pos / 16 * 16) ++ (m.table.map MemEntry.bytes).flatten

def opMemGetStatus : OpSpec :=
  { code := 0x0D03
    block := 11
    logs := false
    target := memTargetOk false
    run := fun s r => (s, some (stOk, memStatus s r.target)) }

/-- `MEM_CLEAR_LOG` empties the table and zeroes the counters (R429). -/
def opMemClearLog : OpSpec :=
  { code := 0x0D04
    role := fun _ => 1
    block := 11
    target := memTargetOk false
    run := fun s r =>
      (s.updMem r.target (fun m =>
        { m with
          table := []
          fullNoted := false
          corrected := 0
          uncorrectable := 0
          overflows := 0
          passes := 0 }), some (stOk, [])) }

/-- Codes of the 16 bytes of a word. -/
def MemCtrl.word (m : MemCtrl) (c a : Nat) : List (Nat × BitVec 13) := (upto 16).map (fun i => (a + i, m.code c (a + i)))

/-- `MEM_REWRITE` (R434).
Log 42: DEDUCED, unsafe. -/
def opMemRewrite : OpSpec :=
  { code := 0x0D05
    role := fun _ => 1
    block := 11
    target := memTargetOk true
    param := fun r => lengthThen 8 r
      [need (u64 r.payload 0 % 16 == 0 && decide (u64 r.payload 0 < memSize r.target)) 0]
    run := fun s r =>
      let c := r.target
      let w := (s.memc c).word c (u64 r.payload 0)
      let bad := w.filter (fun x => decodeByte x.2 == .uncorrectable)
      if bad = [] then
        (s.updMem c (fun m => w.foldl (fun m x => m.store x.1 (encodeByte (deliveredData x.2))) m), some (stOk, []))
      else (bad.foldl (fun t x => t.noteUncorrectable c x.1 2) s, some (0x40, [])) }

/-- The code word of byte `i` of a given word: its data byte, and bits 5i to 5i + 4 of the check field (R424). -/
def givenCode (data check : Bytes) (i : Nat) : BitVec 13 :=
  BitVec.ofNat 5 (bitsOf (leNat check) (5 * i) 5) ++ BitVec.ofNat 8 (u8 data i)

/-- `MEM_TEST_WRITE` (R435, R436, Table 16-12). -/
def opMemTestWrite : OpSpec :=
  { code := 0x0D06
    role := fun r => if flagAt r.payload 0 0 then 3 else 1
    block := 11
    target := memTargetOk true
    param := fun r =>
      let p := r.payload
      let limit := if flagAt p 0 0 then memSize r.target else 4096
      lengthThen 48 r [need (u64 p 8 % 16 == 0 && decide (u64 p 8 < limit)) 8]
    run := fun s r =>
      let p := r.payload
      let a := u64 p 8
      let data := (p.drop 0x10).take 16
      let check := (p.drop 0x20).take 10
      let put (m : MemCtrl) (i : Nat) : MemCtrl :=
        if flagAt p 0 0 then m.store (a + i) (givenCode data check i)
        else { m with test := m.test.put (a + i) (givenCode data check i) }
      (s.updMem r.target (fun m => (upto 16).foldl put m), some (stOk, [])) }

/-- The stored byte of a test area.
Log 9: DESIGN CHOICE, safe. -/
def MemCtrl.testCode (m : MemCtrl) (c a : Nat) : BitVec 13 :=
  match m.test.find a with
  | some v => v
  | none => Config.unwrittenTest c m.powerUps a

/-- A word as `MEM_TEST_READ` returns it (Table 16-13). -/
def testReply (w : List (BitVec 13)) : Bytes :=
  let check := ((upto 16).map (fun i => (codeCheck (w.getD i 0#13)).toNat * 2 ^ (5 * i))).foldl (· + ·) 0
  let mask (f : Decoded → Bool) : Nat := packFlags (w.map (fun c => f (decodeByte c)))
  let isCorrected (d : Decoded) : Bool := match d with
    | .corrected _ => true
    | .good => false
    | .uncorrectable => false
  w.map codeData ++ putLE 10 check ++ zeros 6 ++ w.map deliveredData ++ putLE 2 (mask isCorrected) ++
  putLE 2 (mask (fun d => d == .uncorrectable)) ++ zeros 4

/-- `MEM_TEST_READ` (R435). -/
def opMemTestRead : OpSpec :=
  { code := 0x0D07
    role := fun _ => 1
    block := 11
    logs := false
    target := memTargetOk true
    param := fun r => lengthThen 8 r [need (u64 r.payload 0 % 16 == 0 && decide (u64 r.payload 0 ≤ 4080)) 0]
    run := fun s r =>
      let m := s.memc r.target
      (s, some (stOk, testReply ((upto 16).map (fun i => m.testCode r.target (u64 r.payload 0 + i))))) }

def applyMemFill (s : State) (e : Staged) : State :=
  { s with mem := { s.mem with fillAtPowerOn := flagAt e.req.payload 0 0 } }

/-- `MEM_SET_FILL` (Table 16-14). -/
def opMemSetFill : OpSpec :=
  { code := 0x0D08
    role := fun _ => 3
    kind := .major
    block := 11
    param := needLength 4 }

/-! ### Meanings -/

def execSramPatrol (dt : Nat) (reads : PatrolReads) (s : State) : Host.Outcome State Fault Refusal :=
  runCmd dt s (sramPatrol reads)

def execLoopStart (dt : Nat) (lane : Lane) (pipeline : PipeStart) (s : State) : Host.Outcome State Fault Refusal :=
  runCmd dt s (loopStartRead lane pipeline.pipeline pipeline.found)

end Sys2Proof.Machine
end

