-- ==== Sys2Proof/Machine/Arrival.lean ====
section
/-!
DEFINITION. Packets entering the interpreter queues (04 R119, 03 R86).
-/
namespace Sys2Proof.Machine
open Sys2Proof

/-- The queue of a lane holds 256 packets (R86). -/
def LaneSt.queueFull (a : LaneSt) : Bool := decide (256 ≤ a.queue.length)

/-- A packet enters the queue of a lane that runs; a full queue discards it (R86). -/
def LaneSt.queuePacket (a : LaneSt) (q : QPacket) : LaneSt :=
  if a.running && !a.queueFull then { a with queue := a.queue ++ [q] } else a

/-- A packet discarded at the full queues of the lanes given is counted once and recorded by each of them (R86). -/
def State.interpreterDrop (s : State) (w : Senders) (unit : Bytes) : State :=
  let n := b2n (w.lanes.head? == (s.bothSend fun _ => true).lanes.head?)
  ({ s with sched := { s.sched with interpreterDrops := sat32 s.sched.interpreterDrops n } }).raisePaired w 0x0103
    (details [toSigned 32 (u32 unit 0x0C), (u16 unit 4 : Int)])

/-- A transport unit arrives and is fanned out into the queues of both lanes (R101, R118, R119).
Log 96: DESIGN CHOICE, safe. -/
def State.unitArrival (s : State) (path : Path) (unit : Bytes) : State :=
  let q : QPacket := ⟨s.time.mast, visibleSlot s.grid, path, unit⟩
  let w := s.bothSend fun l => (s.lane l).running && (s.lane l).queueFull
  let s1 := s.updLanes fun a => a.queuePacket q
  if w.lanes = [] then s1 else s1.interpreterDrop w unit

/-- A mailbox packet to the own station enters the lane's own queue at its commit (R119). -/
def State.queueMail (s : State) (l : Lane) (q : QPacket) : State :=
  let w := s.bothSend fun x => x == l && (s.lane l).queueFull
  let s1 := s.updLane l fun a => a.queuePacket q
  if w.lanes = [] then s1 else s1.interpreterDrop w q.unit

end Sys2Proof.Machine
end

