-- ==== Sys2Proof/Machine/Tasks.lean ====
section
/-!
DEFINITION. Signal tables, tasks, transfers and mailboxes (03 R66 to R93, 04 R119 to R122).
-/
namespace Sys2Proof.Machine
open Sys2Proof

/-! ### Signal tables at an activation (R96) -/

/-- The signal table at an activation: a record whose identifier and type are in both images keeps its contents, every
other starts at its reset values (R96). -/
def carrySignals (old new : Image) (t : Tbl SigRec) (mast : Nat) : Tbl SigRec :=
  new.signals.foldl (fun acc d =>
    let keep := match old.sig d.id with
      | some o => o.type == d.type
      | none => false
    match Tbl.find t d.id with
    | some v => Tbl.put acc d.id (if keep then v else resetRecord d mast)
    | none => Tbl.put acc d.id (resetRecord d mast)) []

/-- The signal table at a rejoin boundary: every record at its reset values (05 R150). -/
def freshSignals (img : Image) (mast : Nat) : Tbl SigRec :=
  img.signals.foldl (fun acc d => Tbl.put acc d.id (resetRecord d mast)) []

/-! ### Runs of the slot tables (R66) -/

/-- A transfer occupies slot `n` of the major period (R75). -/
def Transfer.holds (t : Transfer) (n : Nat) : Bool :=
  if t.repeat_ = 0 then n == t.start
  else decide (t.start ≤ n) && (n - t.start) % t.repeat_ == 0

/-- A task of an image, by index. -/
def Image.task (i : Image) (n : Nat) : Option TaskDesc := i.tasks.find? (fun t => t.index == n)

/-- Identifiers of a signal list. -/
def Image.list (i : Image) (first count : Nat) : List Nat := ((i.lists.drop first).take count).map i.localId

def Image.readList (i : Image) (t : TaskDesc) : List Nat := i.list t.readList t.readCount
def Image.writeList (i : Image) (t : TaskDesc) : List Nat := i.list t.writeList t.writeCount

/-! ### Dispatch and the ways an activation ends (R70 to R74, R78, R90, R91) -/

/-- Inbound mailbox entries of a task that are in its view in slot `n` (04 R122). -/
def LaneSt.mailVisible (a : LaneSt) (task n : Nat) : Nat :=
  ((Tbl.getD a.inbound task []).filter (fun e => decide (e.slot ≤ n))).length

/-- An activation dispatched at the start of a run: the read list and the mailbox view are loaded (R74, R78).
Log 35: DEDUCED, unsafe. -/
def State.dispatch (s : State) (l : Lane) (e : SlotEntry) : State :=
  match s.sched.image.task e.owner with
  | none => s
  | some t =>
    let a := s.lane l
    let act : Activation :=
      { task := t.index
        core := e.resource
        slot := s.slot
        last := s.slot + e.length - 1
        view := (s.sched.image.readList t).map (fun id => (id, a.sig id))
        mailSeen := a.mailVisible t.index s.slot
        budget := s.now + 400 + t.budget
        finished := none }
    s.updLane l fun a => { a with acts := a.acts ++ [act] }

/-- Every task whose run starts in this slot is dispatched in a lane that runs the schedule. -/
def State.dispatchTasks (s : State) (l : Lane) : State :=
  if s.computes l then
    (s.sched.image.core.filter (fun e => e.kind == 1 && e.startsAt s.slotInMajor)).foldl (fun t e => t.dispatch l e) s
  else s

/-- The oldest activation of a task that a core of a lane runs. -/
def State.activation (s : State) (l : Lane) (task core : Nat) : Option Activation :=
  (s.lane l).acts.find? (fun a => a.task == task && a.core == core)

/-- One activation is over; others of the same task, on other cores, go on. -/
def State.dropAct (s : State) (l : Lane) (x : Activation) : State := s.updLane l fun a => { a with acts := a.acts.erase x }

/-- An activation ended without commit: `OVERRUN` on its write list, and a report to the Crosstree and the trouble log
(R90, R91). -/
def State.endActivation (s : State) (l : Lane) (x : Activation) (cause : Nat) : State :=
  match s.sched.image.task x.task with
  | none => s.dropAct l x
  | some t =>
    let rep : Overrun :=
      { lane := l.code
        core := x.core
        task := x.task
        cause := cause
        critical := t.critical
        major := s.majorAt (x.slot * 10000)
        slot := x.slot % s.slots
        judgeAt := x.last + 1 }
    let mark (v : Tbl SigRec) (id : Nat) : Tbl SigRec :=
      match Tbl.find v id with
      | none => v
      | some r => Tbl.put v id { r with overrun := true }
    let s1 := (s.dropAct l x).updLane l fun a =>
      { a with
        signals := (s.sched.image.writeList t).foldl mark a.signals
        health := { a.health with overruns := sat32 a.health.overruns 1 } }
    let s2 := s1.logTrouble l 2 0 rep.bytes
    { s2 with xt := { s2.xt with overrunsInFlight := s2.xt.overrunsInFlight ++ [rep] } }

/-- `TASK_BUDGET_EXPIRY` (R90): dispatch is taken to use its whole 400 ns.
Log 35: DEDUCED, unsafe. -/
def taskBudgetExpiry (l : Lane) (task core : Nat) (s : State) : State :=
  match s.activation l task core with
  | none => s
  | some x => if x.finished.isSome || decide (s.now < x.budget) then s else s.endActivation l x 1

/-- The access bit of a window (R71). -/
def Window.grants (w : Window) (a : Access) : Bool :=
  match a with
  | .read => w.read
  | .write => w.write
  | .execute => w.exec

/-- A task may make the access: one of its windows holds the address and allows it (R71). -/
def Image.allows (i : Image) (t : TaskDesc) (address : Nat) (a : Access) : Bool :=
  ((i.windows.drop t.windowFirst).take t.windowCount).any fun w =>
    decide (w.base ≤ address) && decide (address < w.base + w.size) && w.grants a

/-- `TASK_WINDOW_FAULT` (R71).
Log 35: DEDUCED, unsafe. -/
def taskWindowFault (l : Lane) (task core address : Nat) (a : Access) (s : State) : State :=
  match s.activation l task core, s.sched.image.task task with
  | some x, some t =>
    if x.finished.isSome || s.sched.image.allows t address a then s else s.endActivation l x 2
  | _, _ => s

/-! ### Mailboxes (04 R120 to R122) -/

/-- `ORIGIN` as the lane completes it: all but `ROLE` is the lane's (R120). -/
def mailOrigin (s : State) (task : Nat) (p : Bytes) : Nat :=
  s.sched.image.station + 65536 * task + originRole (u32 p 0x0C) * 268435456

/-- The reply to a mailbox packet that a lane refuses before it leaves its task, in that lane's mailbox of the task. A packet
of another role than Operator fails at step 6 of Table 04-3: it is counted, recorded, and its reply has `TAG` 0 (R104, R120).
Log 36: DEDUCED, unsafe. -/
def State.refuseMail (s : State) (l : Lane) (task : Nat) (p : Bytes) (status : Nat) : State :=
  let r : Request := ⟨.mailbox task, u16 p 6, u32 p 8, mailOrigin s task p, u32 p 0x14, 0, [], none⟩
  let q := s.mkReply (u16 p 4) r status s.major []
  if status = stNotAuthorised then
    let n := b2n (s.lanesInOrder.find? s.sends == some l)
    (({ s with sys := { s.sys with notAuthorised := sat32 s.sys.notAuthorised n } } : State).pushMail [l] task
      fun _ => ({ q with tag := 0 } : Reply).packet).raisePaired ⟨[l], false⟩ 0x0101
        (details [toSigned 32 r.origin, (u16 p 4 : Int)])
  else s.pushMail [l] task fun _ => q.packet

/-- The packet as the lane completes it: `ORIGIN` but for `ROLE`, the tag where it leaves the module, and the CRC
(R120). The task writes the rest of the header, `TAG` of a packet to the own station among it. With no Operator key set, a
packet that leaves has `TAG` 0.
Log 118: DESIGN CHOICE, unsafe. -/
def completeMail (s : State) (task : Nat) (leaves : Bool) (p : Bytes) : Bytes :=
  let q := setBytes p 0x0C (putLE 4 (mailOrigin s task p))
  let bare := setBytes q 0x18 (zeros 8)
  let tag := match Tbl.find s.sys.keys 0 with
    | some k => tagOf k bare
    | none => 0
  withCrc (if leaves then setBytes q 0x18 (putLE 8 tag) else q)

/-- Entries of an outbound area: envelope and packet without CRC (R121). An entry cut short by the area's end, and what
follows it, is dropped.
Log 118: DESIGN CHOICE, unsafe. -/
def mailEntries : Nat → Bytes → List (Bytes × Bytes)
  | 0, _ => []
  | n + 1, b =>
    if b.length < 40 then [] else
    let len := 32 + u16 b 0x18
    if b.length < 8 + len then []
    else (b.take 8, (b.drop 8).take len) :: mailEntries n (b.drop (8 + (len + 7) / 8 * 8))

/-- One entry sent at the commit, with what has been sent before it: packets and bytes (R87, R121). A packet that leaves the
module goes, as the lane's copy, to the receiver of its port (05 R130). A `DEST_KIND` above 2 is treated as 2.
Log 36: DEDUCED, unsafe; log 118: DESIGN CHOICE, unsafe. -/
def State.sendMail (l : Lane) (t : TaskDesc) (stampGrid : Nat) (acc : State × Nat × Nat) (e : Bytes × Bytes) :
    State × Nat × Nat :=
  let s := acc.1
  let size := e.2.length + 4
  if t.mailSends < acc.2.1 + 1 ∨ t.mailBytes < acc.2.2 + size then
    (s.refuseMail l t.index e.2 stScheduleConflict, acc.2.1, acc.2.2)
  else
    let kind := u8 e.1 0
    let dest := u16 e.1 2
    let p := completeMail s t.index (kind != 0) e.2
    let s1 :=
      if kind = 0 then
        s.queueMail l ⟨s.mastOfGrid stampGrid, visibleSlot stampGrid, .mailbox t.index, p⟩
      else if originRole (u32 e.2 0x0C) ≠ 0 then s.refuseMail l t.index e.2 stNotAuthorised
      else if kind = 1 then State.handAll (s.offer ⟨[l], false⟩ (s.domain 13) 8 0 mailItem fun _ => .mail kind dest p)
      else State.handAll (s.offer ⟨[l], false⟩ (s.domain 13) 9 (dest % 4) mailItem fun _ => .mail kind dest p)
    (s1, acc.2.1 + 1, acc.2.2 + size)

/-! ### Commits (R74, 05 R146) -/

/-- A commit digest: CRC-32C over the task index, the commit's slot number and the values of the write list.
Log 27: DESIGN CHOICE, safe. -/
def digestCrc (task slot : Nat) (values : List Nat) : Nat :=
  crc32c (putLE 2 task ++ putLE 4 (slot % 4294967296) ++ (values.map (putLE 16)).flatten)

/-- A write list's records after a commit: the values written, the stamp of the next slot start, at tick `born`, `OVERRUN`
clear. -/
def commitRecords (t : Tbl SigRec) (ids : List Nat) (writes : List (Nat × Nat)) (stamp born : Nat) : Tbl SigRec :=
  ids.foldl (fun acc id =>
    match Tbl.find acc id with
    | none => acc
    | some v => match writes.find? (fun w => w.1 == id) with
      | some w => Tbl.put acc id
          { v with
            value := w.2
            stamp := stamp
            born := some born
            seq := (v.seq + 1) % 4294967296
            valid := true
            stale := false
            absent := false
            overrun := false
            initial := false }
      | none => Tbl.put acc id { v with overrun := false }) t

/-- How an activation's accesses went. -/
inductive AccessEnd where
  | done
  /-- One was outside the windows, or of a kind its window does not grant (R71). -/
  | window
  /-- One met an uncorrectable byte: the access is stopped, and its data is not used (16 Table 16-6). -/
  | memory
deriving DecidableEq, Repr

/-- A read of an activation in its lane's DRAM. -/
def State.taskRead (s : State) (t : TaskDesc) (l : Lane) (kind : Access) (a n : Nat) : State × AccessEnd :=
  if (upto n).all (fun i => s.sched.image.allows t (a + i) kind) then
    match State.readRun l.code 0 n a s with
    | (v, true) => (v, .done)
    | (v, false) => (v, .memory)
  else (s, .window)

/-- One access of an activation. -/
def State.taskAccess (s : State) (t : TaskDesc) (l : Lane) (x : TaskAccess) : State × AccessEnd :=
  match x with
  | .load a n => s.taskRead t l .read a n
  | .fetch a n => s.taskRead t l .execute a n
  | .store a b => if s.sched.image.allows t a .write then (s.dramWrite l a [b], .done) else (s, .window)

/-- The accesses of an activation in order, up to the first that ends it. -/
def State.accessAll (t : TaskDesc) (l : Lane) : List TaskAccess → State → State × AccessEnd
  | [], s => (s, .done)
  | x :: r, s =>
    match s.taskAccess t l x with
    | (v, .done) => State.accessAll t l r v
    | (v, .window) => (v, .window)
    | (v, .memory) => (v, .memory)

/-- `TASK_FINISH`: the activation has finished within its budget; its writes are held for the commit (R74, R78). The bytes
it stored in its windows are in its lane's DRAM; an access outside them has ended it (R71), and one that met an uncorrectable
byte is a fatal fault of its lane (16 R431).
Log 35: DEDUCED, unsafe. -/
def taskFinish (l : Lane) (task core : Nat) (r : TaskResult) (s : State) : State :=
  match s.activation l task core, s.sched.image.task task with
  | some x, some t =>
    if x.finished.isSome || !s.computes l || decide (x.budget < s.now) then s
    else
      match s.accessAll t l r.accesses with
      | (v, .window) => v.endActivation l x 2
      | (v, .memory) => v
      | (v, .done) => v.updLane l fun a =>
        { a with acts := a.acts.map (fun y => if y = x then { y with finished := some ⟨r.writes, r.mail⟩ } else y) }
  | _, _ => s

/-- `TASK_COMMIT`: at the end of the run's last slot (R74). -/
def taskCommit (l : Lane) (task core : Nat) (s : State) : State :=
  match s.activation l task core, s.sched.image.task task with
  | some x, some t =>
    match x.finished with
    | none => s
    | some f =>
      let g := (x.last + 1) * 10000
      if s.grid < g || !s.computes l then s else
      let ids := s.sched.image.writeList t
      let s1 := (s.dropAct l x).updLane l fun a =>
        { a with
          signals := commitRecords a.signals ids f.writes (s.mastOfGrid g) (s.tickOf (s.mastOfGrid g))
          inbound := Tbl.put a.inbound task ((Tbl.getD a.inbound task []).drop x.mailSeen) }
      let d : Digest := ⟨task, x.last, digestCrc task x.last (ids.map (fun id => ((s1.lane l).sig id).value))⟩
      let s2 := if l = s.xt.active then s1.updLane l fun a => { a with digestsInFlight := a.digestsInFlight ++ [d] }
        else s1.updLane l fun a => { a with ownDigests := (a.ownDigests ++ [d]).drop (a.ownDigests.length + 1 - 4096) }
      ((mailEntries f.mail.length f.mail).foldl (State.sendMail l t g) (s2, 0, 0)).1
  | _, _ => s

/-! ### Transfers (R68, R75) -/

/-- Signals that carry the frame of a CAN item (14 R381); 1 for any other item. -/
def canSignals (receiver item : Nat) : Nat :=
  if receiver = 7 ∧ 0x1000 ≤ item ∧ item ≤ 0x14FF then (item - 0x1000) / 0x100 + 1 else 1

/-- The lane sends heartbeats: it runs the schedule, or it has booted and is ready again while the grid runs (05 R150, R157,
18 Table 18-2).
Log 116: DESIGN CHOICE, unsafe. -/
def State.beats (s : State) (l : Lane) : Bool :=
  let x := s.xtLane l
  s.computes l || (s.time.anchored && (s.lane l).running && (x.ready || x.booted || x.state == .resync))

/-- The copy of a lane's signal that a transfer sends (R75, 14 R381, 15 R401). -/
def State.transferCopy (s : State) (t : Transfer) (a : LaneSt) : Copy :=
  let v := a.sig (s.sched.image.localId t.signal)
  let flags := packFlags [v.valid, v.stale, v.absent, v.overrun, v.initial]
  let more := if t.receiver = 8 then [(flags, v.seq, false)] else (upto (canSignals t.receiver t.item - 1)).map fun j =>
    let w := a.sig (s.sched.image.localId (t.signal + 1 + j))
    (w.value, w.stamp, w.valid)
  ⟨t.signal, v.value, v.stamp, v.valid, more, .none⟩

/-- `TRANSFER_SEND`: within 20 ns after the slot start + `OFFSET_NS`. A transfer to the Crosstree with `ITEM` 1 is the
heartbeat, with `ITEM` 2 the health report.
Log 20: PRESUMED, unsafe. -/
def transferSend (l : Lane) (entry : Nat) (s : State) : State :=
  match s.sched.image.transfers[entry]? with
  | none => s
  | some t =>
    let off := s.grid % 10000
    if !t.holds s.slotInMajor || decide (off < t.offset) || decide (t.offset + 20 < off) then s
    else if t.receiver = 11 ∧ t.item = 1 then if s.beats l then s.scheduledHeartbeat l else s
    else if !s.computes l then s
    else if t.receiver = 11 ∧ t.item = 2 then s.sendHealth l
    else
      s.updLane l fun a =>
        let k := laneStreamKey t.receiver t.resource t.item
        let n := Tbl.getD a.streams k 0
        let i : Item := ⟨t.receiver, t.resource, t.item, n, s.transferCopy t a⟩
        { a with
          streams := Tbl.put a.streams k ((n + 1) % 4294967296)
          items := a.items ++ [i] }

/-! ### Meanings -/

def execTaskFinish (dt : Nat) (lane : Lane) (task : TaskOn) (result : TaskResult) (s : State) :
    Host.Outcome State Fault Refusal := runCmd dt s (taskFinish lane task.task task.core result)
def execTaskBudgetExpiry (dt : Nat) (lane : Lane) (task : TaskOn) (s : State) : Host.Outcome State Fault Refusal :=
  runCmd dt s (taskBudgetExpiry lane task.task task.core)
def execTaskWindowFault (dt : Nat) (lane : Lane) (task : TaskOn) (address : Nat) (access : Access) (s : State) :
    Host.Outcome State Fault Refusal := runCmd dt s (taskWindowFault lane task.task task.core address access)

end Sys2Proof.Machine
end

