-- ==== Sys2Proof/Machine/Camera.lean ====
section
/-!
DEFINITION. The camera block: ports, frames, the sensor control link and exposure sets (10), generations, streams,
statistics (11), and its opcodes.
-/
namespace Sys2Proof.Machine
open Sys2Proof

def State.updCam (s : State) (p : Nat) (f : CamPort → CamPort) : State :=
  { s with cams := Tbl.put s.cams p (f (s.camPort p)) }

/-- A record of a port. -/
def State.raiseCam (s : State) (code p : Nat) (l : List Int) : State := s.raise code 3 p (details l)

/-! ### Closing a frame (R276, R281, R311 to R317) -/

/-- L_exp of a geometry (R274). -/
def expectedLines (geom : Bytes) : Nat := gSkipTop geom + gExposures geom * gHeight geom

/-- Real rows of a frame (R276); none when it began with a mismatched clock (R273). -/
def OpenFrame.realRows (f : OpenFrame) : Nat :=
  if f.mismatch then 0 else min (gHeight f.set.geom) (f.lines.length / gExposures f.set.geom)

/-- Bits [8:0] of the flags of Table 10-2. -/
def OpenFrame.flags (f : OpenFrame) (timeout lost : Bool) : Nat :=
  packFlags [decide (f.received < expectedLines f.set.geom), decide (expectedLines f.set.geom < f.received), f.shortLines,
    f.longLines, timeout, lost, f.mismatch, f.uncertain, f.newGen]

/-- The frame record (Table 10-2). -/
def OpenFrame.record (f : OpenFrame) (flags : Nat) : Bytes :=
  putLE 4 f.number ++ putLE 2 f.gen ++ putLE 2 flags ++ putLE 2 (eTag f.exposure) ++ putLE 2 (min 65535 f.received) ++
  putLE 2 (gHeight f.set.geom - f.realRows) ++ putLE 2 (min 65535 f.discarded)

/-- A stream or statistics record (Table 11-3). -/
def OpenFrame.streamRecord (f : OpenFrame) (flags rows entry : Nat) : Bytes :=
  putLE 4 f.number ++ putLE 2 f.gen ++ putLE 2 flags ++ putLE 2 (eTag f.exposure) ++ putLE 2 rows ++ putLE 1 entry ++ zeros 3

/-- The mosaic of a frame's real rows. -/
def OpenFrame.mosaic (f : OpenFrame) : List (List Nat) :=
  mosaicRows f.set.linear f.exposure (gWidth f.set.geom) (gExposures f.set.geom) f.realRows f.lines

/-- What a stream that wrote a frame holds afterwards (Table 11-14). -/
def StreamSt.wrote (x : StreamSt) (f : OpenFrame) (entry : Nat) (dropped : Bool) : StreamSt :=
  { entry := entry
    gen := f.gen
    frame := f.number
    written := sat32 x.written 1
    drops := sat32 x.drops (b2n dropped) }

/-- A frame written into fusion memory is a sample of each source that names the stream; it arrives 40 µs after the
close (12 R330).
Log 79: DEDUCED, unsafe. -/
def State.frameSamples (s : State) (p k : Nat) (f : OpenFrame) (flags rows entry : Nat) : State :=
  let c := f.set.streams.getD k camStreamReset
  if !bitOf (stPlace c) 1 || !s.domain 7 || !s.domain 6 then s else
  let one (n : Nat) : FrameSample :=
    ⟨s.now + 40000,
      { source := n
        stamp := f.stamp
        tick := f.openedAt
        seq := f.number
        stream := c
        partial_ := bitOf flags 0 || bitOf flags 4 || bitOf flags 5
        uncertain := bitOf flags 7
        dimX := stW c / stScale c
        dimY := rows
        pitch := stPitch c
        address := stFusion c + entry * stStride c
        gen := f.gen
        tag := eTag f.exposure }⟩
  let mine (n : Nat) : Bool :=
    let d := (s.fusSource n).cfg
    fKind d == 1 && fPort d == p && fStream d == k
  { s with fus := { s.fus with frames := s.fus.frames ++ ((upto 16).filter mine).map one } }

/-- One stream of port `p` writes a frame and delivers its record 40 µs after the close (R310 to R312, R315).
Log 77: DEDUCED, unsafe. -/
def State.writeStream (s : State) (p k : Nat) (f : OpenFrame) (flags : Nat) (rows : List (List Taps)) : State :=
  let c := f.set.streams.getD k camStreamReset
  if stPlace c = 0 ∨ f.number % stDiv c ≠ 0 then s else
  let e := f.number / stDiv c % stRing c
  let s1 := if bitOf (stPlace c) 0 then
      (streamWrites c rows (stLane c) e).foldl (fun t w => t.fanWrite w.1 w.2) s
    else s
  let s2 := if bitOf (stPlace c) 1 then s1.fusionWrite (streamWrites c rows (stFusion c) e) else s1
  let drop := bitOf (stPlace c) 1 && !s.domain 7
  let s3 := s2.updCam p fun c =>
    { c with streams := c.streams.set k ((c.streams.getD k {}).wrote f e drop), targetOff := c.targetOff || drop }
  let mask := packFlags (f.set.streams.map (fun c => bitOf (stPlace c) 1))
  let s4 := if drop && !(s.camPort p).targetOff then s3.raiseCam 0x0810 p [(p : Int), (mask : Int)] else s3
  let s5 := s4.frameSamples p k f flags (streamRowCount c rows.length) e
  s5.publishMast (0x3300 + 4 * p + k) (leNat (f.streamRecord flags (streamRowCount c rows.length) e)) f.stamp (s.grid + 40000) true

/-- The statistics of a frame (R316, R317).
Log 77: DEDUCED, unsafe. -/
def State.writeStats (s : State) (p : Nat) (f : OpenFrame) (flags : Nat) (rows : List (List Taps)) : State :=
  let c := f.set.stats
  if !saEnable c then s else
  let e := f.number % saRing c
  let height := if f.received < expectedLines f.set.geom ∨ f.mismatch then rows.length else gHeight f.set.geom
  let head := putLE 4 f.number ++ putLE 2 f.gen ++ putLE 2 flags ++ putLE 2 (eTag f.exposure) ++ putLE 2 rows.length
  let s1 := s.fanWrite (saBase c + e * 16384) (statsEntry c head f.stamp (gWidth f.set.geom) height rows)
  let s2 := s1.updCam p fun c => { c with streams := c.streams.set 4 ((c.streams.getD 4 {}).wrote f e false) }
  s2.publishMast (0x3200 + p) (leNat (f.streamRecord flags rows.length e)) f.stamp (s.grid + 40000) true

/-- The open frame of a port closes: its records, streams and statistics (R276, R278, R281, R312).
Log 77: DEDUCED, unsafe; log 78: DEDUCED, unsafe. -/
def State.closeFrame (s : State) (p : Nat) (timeout lost : Bool) : State :=
  match (s.camPort p).frame with
  | none => s
  | some f =>
    let short := decide (f.received < expectedLines f.set.geom)
    let long := decide (expectedLines f.set.geom < f.received)
    let flags := f.flags timeout lost
    let s1 := s.updCam p fun c =>
      { c with
        frame := none
        shortFrames := sat32 c.shortFrames (b2n short)
        longFrames := sat32 c.longFrames (b2n long)
        clockFaults := sat16 c.clockFaults (b2n lost) }
    let n : Int := f.number
    let lines : Int := min 65535 f.received
    let s2 := if short || long then s1.raiseCam 0x0801 p [n, (b2n long : Int), lines] else s1
    let s3 := if timeout then s2.raiseCam 0x0802 p [n] else s2
    let s4 := if lost then s3.raiseCam 0x0803 p [n, lines] else s3
    let s5 := s4.publishMast (0x3100 + p) (leNat (f.record flags)) f.stamp (s.grid + 1000) true
    let rows := tapRows f.set (gWidth f.set.geom) f.mosaic
    let s6 := (upto 4).foldl (fun t k => t.writeStream p k f flags rows) s5
    s6.writeStats p f flags rows

/-! ### Swaps at frame boundaries (R279, R288, R300, R301) -/

/-- The settings of a port after a frame-kind command. -/
def CamSettings.set (c : CamSettings) (e : Staged) : CamSettings :=
  let p := e.req.payload
  let k := e.target / 256
  match e.opcode with
  | 0x0801 => { c with port := p }
  | 0x0802 => { c with geom := p }
  | 0x0803 => { c with linear := p }
  | 0x0808 => { c with cfa := p }
  | 0x0809 => { c with wb := p }
  | 0x080A => { c with matrix := p }
  | 0x080B =>
    { c with
      toneR := if k = 0 ∨ k = 3 then p else c.toneR
      toneG := if k = 1 ∨ k = 3 then p else c.toneG
      toneB := if k = 2 ∨ k = 3 then p else c.toneB }
  | 0x080C => { c with streams := c.streams.set k p }
  | 0x080D => { c with stats := p }
  | _ => c

/-- An exposure set enters the write queue; one that waits there is dropped (R288). -/
def State.queueExposure (s : State) (p : Nat) (set : Bytes) : State :=
  let c := s.camPort p
  let s1 := s.updCam p fun c => { c with waiting := some set }
  match c.waiting with
  | some old => (s1.updCam p fun c => { c with dropped := sat16 c.dropped 1 }).raiseCam 0x0805 p [(eTag old : Int)]
  | none => s1

/-- The swap of a camera command. A swap of `ENABLE` restarts the frame count, or closes the open frame. -/
def applyCamera (s : State) (e : Staged) : State :=
  let p := e.target % 256
  if e.opcode = 0x0804 then s.queueExposure p e.req.payload else
  let was := pEnable (s.camPort p).set.port
  let s1 := s.updCam p fun c => { c with set := c.set.set e }
  let now := pEnable (s1.camPort p).set.port
  if now && !was then s1.updCam p fun c => { c with next := 0, idle := false, activity := false }
  else if was && !now then (s1.closeFrame p false false).updCam p fun c => { c with idle := false }
  else s1

/-- Place of a frame-kind command among those of its port: by target, but a `CAM_SET_TONE` of all channels comes before
those of one channel, so that each of these overrides it (R320). DEDUCED: the rule also says "in ascending order of
channel", by which all channels, 3, would come last.
Log 81: DEDUCED, unsafe. -/
def frameSwapOrder (e : Staged) : Nat :=
  if e.opcode = 0x080B ∧ e.target / 256 = 3 then 0 else e.target / 256 + 1

/-- Frame-kind commands of a port that swap at a boundary now, in the order of their application (R320).
Log 80: DEDUCED, unsafe. -/
def State.frameSwaps (s : State) (p : Nat) : List Staged :=
  sortBy frameSwapOrder
    (s.staged.filter (fun e => e.block == 3 && e.kind == .frame && e.target % 256 == p && decide (e.after ≤ s.now)))

/-- They swap in together; the second part says that one of them gives a new generation (R300). -/
def State.swapFrames (s : State) (p : Nat) : State × Bool :=
  let l := s.frameSwaps p
  (l.foldl (fun t e => t.swapIn e applyCamera) s, l.any (fun e => e.opcode != 0x0804))

/-- A major boundary for one port: it may become idle, and an idle or disabled port takes its frame-kind swaps (R279,
R301). -/
def State.cameraMajorPort (s : State) (p : Nat) : State :=
  let s1 := s.updCam p fun c =>
    let open_ := c.frame.isSome
    { c with
      idle := c.idle || (pEnable c.set.port && !c.activity && !open_)
      activity := open_ }
  let c := s1.camPort p
  if c.idle || !pEnable c.set.port then
    let (t, new) := s1.swapFrames p
    t.updCam p fun c => { c with genPending := c.genPending || new }
  else s1

/-- The camera block at a major boundary, after the major swaps (02 R55). -/
def State.cameraMajor (s : State) : State := if s.domain 8 then (upto 8).foldl State.cameraMajorPort s else s

/-! ### Frames (R274 to R280) -/

/-- A countdown of real boundaries moved on. -/
def countDown (l : List Nat) : List Nat := (l.map (fun n => n - 1)).filter (fun n => n != 0)

/-- A real frame boundary of an enabled port: a frame opens, with its number, exposure set and generation (R280, R290,
R293, R300).
Log 80: DEDUCED, unsafe. -/
def State.realBoundary (s : State) (p : Nat) (swapped : Bool) : State :=
  let c := s.camPort p
  let carried := (c.carries.filter (fun x => x.1 == 1)).getLast?
  let new := swapped || carried.isSome || c.genPending
  let gen := if new then (c.gen + 1) % 65536 else c.gen
  let exposure := match carried with
    | some (_, b) => b
    | none => c.exposure
  let f : OpenFrame :=
    { number := c.next
      stamp := s.time.mast
      openedAt := s.now
      gen := gen
      newGen := new
      uncertain := c.marks.contains 1
      exposure := exposure
      set := c.set
      mismatch := c.mismatch }
  s.updCam p fun c =>
    { c with
      frame := some f
      next := (c.next + 1) % 4294967296
      last := c.next
      gen := gen
      genPending := false
      activity := true
      idle := false
      exposure := exposure
      carries := (c.carries.map (fun x => (x.1 - 1, x.2))).filter (fun x => x.1 != 0)
      marks := countDown c.marks
      setDone := false
      job := c.job.map (fun j => { j with crossed := true })
      lastStamp := s.time.mast
      clockFaults := sat16 c.clockFaults (b2n c.mismatch) }

/-- Frame-valid rises: swaps, then the frame opens (R274). A disabled port opens none. An edge at the instant of a major
boundary follows the major swaps (02 R55) and comes before the port is judged idle at its slot start (R279). -/
def frameValidRise (p : Nat) (s : State) : State :=
  let c := s.camPort p
  if !s.domain 8 || decide (7 < p) || c.fv || s.majorDue then s else
  let s1 := s.updCam p fun c => { c with fv := true }
  if !pEnable c.set.port then s1 else
  let (s2, swapped) := s1.swapFrames p
  if pEnable (s2.camPort p).set.port then s2.realBoundary p swapped else s2

def pDdr (p : Bytes) : Bool := flagAt p 0 1
def pFalling (p : Bytes) : Bool := flagAt p 0 2
def pFvLow (p : Bytes) : Bool := flagAt p 0 4

/-- Pixels of two edges in turn, the selected edge first. -/
def interleave : List Nat → List Nat → List Nat
  | [], other => other
  | x :: xs, other => x :: (other.take 1 ++ interleave xs (other.drop 1))

/-- The pixels the port samples of a line: those of the edge `PCLK_EDGE` selects, and with `DDR` those of both (R271). -/
def portSamples (port : Bytes) (line : LineData) : List Nat :=
  let chosen := if pFalling port then line.falling else line.rising
  if pDdr port then interleave chosen (if pFalling port then line.rising else line.falling) else chosen

/-- The level of FV at the contact, before `FV_POL` inverts it (R272).
Log 126: DEDUCED, unsafe. -/
def CamPort.fvContact (c : CamPort) : Bool := c.fv != pFvLow c.set.port

/-- One image line as the port takes it: `SKIP_LEFT` dropped, `WIDTH_PX` codes of `DATA_WIDTH` bits (R271, R274, R275). -/
def takeLine (set : CamSettings) (samples : List Nat) : List Nat :=
  ((samples.drop (gSkipLeft set.geom) ++ List.replicate (gWidth set.geom) 0).take (gWidth set.geom)).map
    (fun x => x % 2 ^ pDataWidth set.port)

/-- A line joins the open frame (R274, R275, R277). Whether it is short or long is judged of every line. -/
def OpenFrame.addLine (f : OpenFrame) (samples : List Nat) : OpenFrame :=
  let g := f.set.geom
  let f1 :=
    { f with
      received := f.received + 1
      shortLines := f.shortLines || decide (samples.length < gSkipLeft g + gWidth g)
      longLines := f.longLines || decide (gSkipLeft g + gWidth g < samples.length) }
  if f.received < gSkipTop g then f1
  else if f.received < expectedLines g then { f1 with lines := f.lines ++ [takeLine f.set samples] }
  else { f1 with discarded := f.discarded + 1 }

/-- A line ends: taken, discarded (R277, R278) or stray (R274). -/
def lineEnd (p : Nat) (line : LineData) (s : State) : State :=
  let c := s.camPort p
  if !s.domain 8 || decide (7 < p) || !pEnable c.set.port then s
  else if !c.fv then s.updCam p fun c => { c with stray := sat32 c.stray 1 }
  else match c.frame with
    | none => s.updCam p fun c => { c with discarded := sat32 c.discarded 1 }
    | some f =>
      let tooLong := decide (expectedLines f.set.geom ≤ f.received)
      s.updCam p fun c => { c with frame := some (f.addLine (portSamples f.set.port line)), discarded := sat32 c.discarded (b2n tooLong) }

/-- Frame-valid falls: the open frame closes (R274). -/
def frameValidFall (p : Nat) (s : State) : State :=
  if !s.domain 8 || decide (7 < p) || !(s.camPort p).fv then s
  else (s.updCam p fun c => { c with fv := false }).closeFrame p false false

/-- Frame-valid has been asserted for `FV_TIMEOUT_MS` (R278). -/
def frameTimeout (p : Nat) (s : State) : State :=
  match (s.camPort p).frame with
  | none => s
  | some f => if !s.domain 8 || decide (s.now < f.openedAt + pTimeout f.set.port) then s else s.closeFrame p true false

/-- No pixel-clock edge for 10 µs while a frame is open (R278). -/
def cameraClockLost (p : Nat) (s : State) : State :=
  match (s.camPort p).frame with
  | none => s
  | some f => if !s.domain 8 || decide (s.now < f.openedAt + 10000) then s else s.closeFrame p false true

/-- The pixel clock is measured over each 1 ms of grid time: `edges` is the count, in kHz (R273). A disabled port is judged
as well. -/
def pclkMeasure (p edges : Nat) (s : State) : State :=
  let c := s.camPort p
  if !s.domain 8 || decide (7 < p) || s.grid % 1000000 != 0 then s else
  let want := pPclk c.set.port
  let off := if edges < want then want - edges else edges - want
  let bad := decide (5 * want < 100 * off)
  let s1 := s.updCam p fun c => { c with measured := min 300000 edges, mismatch := bad }
  if bad && !c.mismatch then s1.raiseCam 0x0804 p [(edges : Int)] else s1

/-! ### The sensor control link (R285 to R292) -/

/-- A bit time, ns. -/
def linkBit (rate : Nat) : Nat := if rate = 0 then 10000 else if rate = 1 then 2500 else 1000

/-- Most significant byte first. -/
def putBE (n v : Nat) : Bytes := (putLE n v).reverse

/-- Write entry `i` of an exposure set as sent (R286). -/
def writeEntry (set : Bytes) (i : Nat) : Bytes :=
  let o := 0x20 + 8 * i
  let n := bitsOf (u8 set (o + 1)) 0 2
  putLE 1 (2 * u8 set o) ++ putBE n (u16 set (o + 2)) ++ putBE (2 ^ bitsOf (u8 set (o + 1)) 2 2) (u32 set (o + 4))

def xRead (p : Bytes) : Bool := flagAt p 1 2
def xAddrBytes (p : Bytes) : Nat := bitsOf (u8 p 1) 0 2
def xCount (p : Bytes) : Nat := u8 p 4

/-- A `CAM_SENSOR_TRANSFER` as sent. -/
def transferBytes (p : Bytes) : Bytes :=
  let reg := putBE (xAddrBytes p) (u16 p 2)
  if xRead p then
    (if xAddrBytes p = 0 then [] else putLE 1 (2 * u8 p 0) ++ reg) ++ putLE 1 (2 * u8 p 0 + 1)
  else putLE 1 (2 * u8 p 0) ++ reg ++ (p.drop 8).take (xCount p)

/-- Bytes of the transaction in progress, on the bus. -/
def LinkJob.bytes (j : LinkJob) : Nat :=
  match j.set, j.req with
  | some b, _ => (writeEntry b j.entry).length
  | none, some r => (transferBytes r.payload).length + (if xRead r.payload then xCount r.payload else 0)
  | none, none => 0

/-- What the transaction in progress sends. -/
def LinkJob.sent (j : LinkJob) : Bytes :=
  match j.set, j.req with
  | some b, _ => writeEntry b j.entry
  | none, some r => transferBytes r.payload
  | none, none => []

/-- A transaction starts. -/
def State.startJob (s : State) (p : Nat) (j : LinkJob) : State :=
  s.updCam p fun c => { c with job := some { j with startAt := s.now } }

/-- Bytes the port has put on the bus when the transaction ends: all, or those up to the one that was not acknowledged or
that the target stretched too long (R286). -/
def LinkJob.sentBy (j : LinkJob) (r : LinkResult) : Bytes :=
  if r.outcome = 0 then j.sent else if r.outcome = 1 then j.sent.take (max 1 r.sent) else j.sent.take r.sent

/-- How long the transaction takes at least: 9 bit times a byte and 3 more, or the 1 ms of a stretch (R286). -/
def LinkJob.leastTime (j : LinkJob) (r : LinkResult) (rate : Nat) : Nat :=
  if r.outcome = 0 then (9 * j.bytes + 3) * linkBit rate
  else if r.outcome = 1 then (9 * (j.sentBy r).length + 3) * linkBit rate
  else 1000000

/-- A frame is marked `EXP_UNCERTAIN`: the open one, or one `n` real boundaries ahead. -/
def CamPort.mark (c : CamPort) (n : Nat) : CamPort :=
  if n = 0 then { c with frame := c.frame.map (fun f => { f with uncertain := true }) }
  else { c with marks := c.marks ++ [n] }

/-- A set is complete at this stamp: it is carried by frame N + k − 1 (R290, R291).
Log 78: DEDUCED, unsafe. -/
def State.completeSet (s : State) (p : Nat) (set : Bytes) (crossed : Bool) : State :=
  let c := s.camPort p
  let k := pLatency c.set.port
  let s1 := s.updCam p fun c => { c with job := none, setDone := true, carries := c.carries ++ [(k, set)] }
  if crossed then
    (s1.updCam p fun c => { (c.mark (k - 1)) with uncertain := sat16 c.uncertain 1 }).raiseCam 0x0807 p
      [(((c.next + k + 4294967296 - 2) % 4294967296 : Nat) : Int)]
  else s1

/-- A set has failed: the rest is not sent and frame N + k − 1 is marked (R292). -/
def State.failSet (s : State) (p : Nat) (set : Bytes) (entry outcome : Nat) : State :=
  let k := pLatency (s.camPort p).set.port
  (s.updCam p fun c => { (c.mark k) with job := none, failures := sat16 c.failures 1 }).raiseCam 0x0806 p
    [(eTag set : Int), (entry : Int), (b2n (outcome == 2) : Int)]

/-- An operation of a block's slot table starts now (03 R69). -/
def State.opSlot (s : State) (block op : Nat) : Bool :=
  s.time.anchored && s.grid % 10000 == 0 &&
  s.sched.image.block.any (fun e => e.resource == block && e.owner == op && e.holds s.slotInMajor)

/-- A transfer waits for a write slot. -/
def CamPort.hasTransfer (c : CamPort) : Bool := (c.waiting.isSome && !c.setDone) || c.queue != []

/-- A write slot of a port: one transfer starts, if frame-valid is deasserted (R287). Where one waits and the link is still
busy, the port cannot begin the operation and reports that (03 R93).
Log 123: DEDUCED, unsafe. -/
def cameraWriteSlot (p : Nat) (s : State) : State :=
  let c := s.camPort p
  if !s.domain 8 || decide (7 < p) || !s.opSlot 3 (0x10 + p) || (c.fv && pEnable c.set.port) then s
  else if c.job.isSome then if c.hasTransfer then s.blockLate 3 (0x10 + p) else s
  else
  match c.waiting, c.setDone with
  | some b, false =>
    let s1 := s.updCam p fun c => { c with waiting := none }
    if eWrites b = 0 then s1.completeSet p b false
    else s1.startJob p { set := some b, req := none, entry := 0, startAt := s.now, crossed := false }
  | _, _ =>
    match c.queue with
    | [] => s
    | r :: rest =>
      (s.updCam p fun c => { c with queue := rest }).startJob p
        { set := none, req := some r, entry := 0, startAt := s.now, crossed := false }

/-- A `CAM_SENSOR_TRANSFER` is answered when its transaction ends. -/
def State.answerTransfer (s : State) (r : Request) (result : LinkResult) : State :=
  match result.outcome with
  | 0 =>
    let d := if xRead r.payload then fitTo (xCount r.payload) result.data else []
    (s.answer 0x0805 r stOk s.major d).logChange 4 0x0805 r stOk s.major
  | 1 => s.answer 0x0805 r 0x40 s.major []
  | _ => s.answer 0x0805 r 0x41 s.major []

/-- What the end of a transaction does to the transfer it belongs to (R289 to R292). -/
def State.endTransaction (s : State) (p : Nat) (j : LinkJob) (result : LinkResult) : State :=
  match j.set, j.req with
  | some b, _ =>
    if result.outcome = 0 then
      if j.entry + 1 < eWrites b then s.startJob p { j with entry := j.entry + 1 } else s.completeSet p b j.crossed
    else s.failSet p b j.entry result.outcome
  | none, some r => (s.updCam p fun c => { c with job := none }).answerTransfer r result
  | none, none => s

/-- A transaction of the link ends (R286), not before the time it takes: the bytes it sent have left the port.
Log 78: DEDUCED, unsafe. -/
def linkTransactionEnd (p : Nat) (result : LinkResult) (s : State) : State :=
  let c := s.camPort p
  match c.job with
  | none => s
  | some j =>
    if !s.domain 8 || decide (s.now < j.startAt + j.leastTime result (pRate c.set.port)) then s
    else (s.emit (.link p (j.sentBy result))).endTransaction p j result

/-! ### Opcodes (R295 to R297, R320, R321) -/

/-- Target of a port, with `sub` the allowed values of bits [15:8]. -/
def camTarget (sub : Nat) (r : Request) : Bool := decide (r.target % 256 ≤ 7) && decide (r.target / 256 ≤ sub)

/-- Field tests of a knee table (R282, R306), in the order of the fields: X_k at most `code`, Y_k at most `top`. A pair out
of order is named by the first of its two fields (04 R115). `last` says that the last knee must lie at `code`. -/
def kneeTests (p : Bytes) (code top : Nat) (last : Bool) : List (Option Nat) :=
  let n := u8 p 0
  let x (k : Nat) : Nat := u32 p (4 + 8 * k)
  let y (k : Nat) : Nat := u32 p (8 + 8 * k)
  ((upto n).map fun k =>
    [need (decide (x k ≤ code) && (k != 0 || x 0 == 0)) (4 + 8 * k),
     need (if k + 1 = n then !last || x k == code else decide (x k < x (k + 1))) (4 + 8 * k), need (decide (y k ≤ top)) (8 + 8 * k),
     need (k + 1 == n || decide (y k ≤ y (k + 1))) (8 + 8 * k)]).flatten

/-- The knees of a linearisation fit the codes up to `code`: the first field that does not.
Log 82: DEDUCED, unsafe. -/
def kneesFit (p : Bytes) (code : Nat) : Option Nat := firstFail (kneeTests p code max24 true)

/-- The length test of a counted payload (R297), then its fields. -/
def countedThen (head countAt size : Nat) (r : Request) (l : List (Option Nat)) : Option Nat :=
  if r.payload.length < head then some 0x0010
  else if r.payload.length ≠ head + size * u8 r.payload countAt then some (0x20 + countAt)
  else firstFail l

def State.geomAt (s : State) (p g : Nat) : Bytes := s.payloadAt 0x0802 p g (s.camPort p).set.geom

/-- A crop fits a geometry (R321). -/
def cropFits (c geom : Bytes) : Bool :=
  stPlace c == 0 || (decide (stX c + stW c ≤ gWidth geom) && decide (stY c + stH c ≤ gHeight geom))

/-- Log 82: DEDUCED, unsafe. -/
def opCamSetPort : OpSpec :=
  { code := 0x0801
    role := fun _ => 2
    kind := .frame
    block := 3
    target := camTarget 0
    param := fun r =>
      let p := r.payload
      lengthThen 16 r
        [need ([8, 10, 12, 14, 16].contains (pDataWidth p)) 1, need (decide (1 ≤ pLatency p) && decide (pLatency p ≤ 3)) 2,
         need (decide (pRate p ≤ 2)) 3, need (decide (6000 ≤ pPclk p) && decide (pPclk p ≤ 150000)) 4,
         need (decide (1 ≤ u16 p 8) && decide (u16 p 8 ≤ 1000)) 8]
    check := fun s r z =>
      let lin := s.payloadAt 0x0803 r.target z.gridAt (s.camPort r.target).set.linear
      match kneesFit lin (2 ^ pDataWidth r.payload - 1) with
      | some _ => some (badParam 0x21)
      | none => none }

def opCamSetGeometry : OpSpec :=
  { code := 0x0802
    role := fun _ => 2
    kind := .frame
    block := 3
    target := camTarget 0
    param := fun r =>
      let p := r.payload
      lengthThen 16 r
        [need (gWidth p % 2 == 0 && decide (16 ≤ gWidth p) && decide (gWidth p ≤ 4096)) 0,
         need (decide (gSkipLeft p + gWidth p ≤ 5120)) 0,
         need (gHeight p % 2 == 0 && decide (2 ≤ gHeight p) && decide (gHeight p ≤ 3072)) 2,
         need (decide (1 ≤ gExposures p) && decide (gExposures p ≤ 3)) 4, need (decide (gSkipLeft p ≤ 1024)) 6]
    check := fun s r z =>
      if (upto 4).all (fun k => cropFits (s.streamAt r.target k z.gridAt) r.payload) then none else some (0x44, []) }

def opCamSetLinear : OpSpec :=
  { code := 0x0803
    role := fun _ => 1
    kind := .frame
    block := 3
    target := camTarget 0
    exceeds := countedExceeds 4 0 8
    param := fun r =>
      let n := u8 r.payload 0
      countedThen 4 0 8 r (need (n == 0 || (decide (2 ≤ n) && decide (n ≤ 16))) 0 :: kneeTests r.payload 65535 max24 false)
    check := fun s r z =>
      let port := s.payloadAt 0x0801 r.target z.gridAt (s.camPort r.target).set.port
      match kneesFit r.payload (2 ^ pDataWidth port - 1) with
      | some o => some (badParam o)
      | none => none }

/-- Field tests of the write entries of an exposure set. -/
def entryTests (p : Bytes) : List (Option Nat) :=
  ((upto (eWrites p)).map fun i =>
    let o := 0x20 + 8 * i
    let a := bitsOf (u8 p (o + 1)) 0 2
    [need (decide (8 ≤ u8 p o) && decide (u8 p o ≤ 0x77)) o,
     need ((a == 1 || a == 2) && decide (bitsOf (u8 p (o + 1)) 2 2 ≤ 2)) (o + 1)]).flatten

def opCamSetExposure : OpSpec :=
  { code := 0x0804
    kind := .frame
    block := 3
    target := camTarget 0
    exceeds := countedExceeds 32 2 8
    param := fun r =>
      let p := r.payload
      countedThen 32 2 8 r
        ([need (decide (eWrites p ≤ 32)) 2, need (decide (eBlack p ≤ max24)) 4, need (decide (256 ≤ u16 p 8)) 8,
          need (decide (256 ≤ u16 p 10)) 10, need (decide (eLo p 0 < max24) && decide (eLo p 0 < eHi p 0)) 12,
          need (decide (eHi p 0 ≤ max24)) 16, need (decide (eLo p 1 < max24) && decide (eLo p 1 < eHi p 1)) 20,
          need (decide (eHi p 1 ≤ max24)) 24] ++ entryTests p) }

def opCamSensorTransfer : OpSpec :=
  { code := 0x0805
    role := fun _ => 1
    block := 3
    target := camTarget 0
    exceeds := fun r => !xRead r.payload && countedExceeds 8 4 1 r
    param := fun r =>
      let p := r.payload
      if p.length < 8 then some 0x0010
      else if p.length ≠ 8 + (if xRead p then 0 else xCount p) then some 0x0024
      else firstFail [need (decide (8 ≤ u8 p 0) && decide (u8 p 0 ≤ 0x77)) 0, need (decide (xAddrBytes p ≤ 2)) 1,
        need (decide (1 ≤ xCount p) && decide (xCount p ≤ 64)) 4]
    check := fun s r _ => if 4 ≤ (s.camPort r.target).queue.length then some (0x42, []) else none
    run := fun s r => (s.updCam r.target fun c => { c with queue := c.queue ++ [r] }, none) }

/-- `STATE` of a port (Table 10-12). -/
def CamPort.stateCode (c : CamPort) : Nat :=
  if !pEnable c.set.port then 0 else if c.idle then 1 else if c.frame.isSome then 3 else 2

/-- Table 10-12.
Log 78: DEDUCED, unsafe. -/
def CamPort.status (c : CamPort) : Bytes :=
  putLE 1 c.stateCode ++ putLE 1 (packFlags [c.mismatch, c.job.isSome, c.waiting.isSome]) ++ putLE 2 c.gen ++
  putLE 4 c.last ++ putLE 4 c.measured ++ putLE 2 (eTag c.exposure) ++
  putLE 2 (match c.waiting with
    | some b => eTag b
    | none => 0) ++
  putLE 8 c.lastStamp ++ putLE 4 c.shortFrames ++ putLE 4 c.longFrames ++ putLE 4 c.discarded ++ putLE 4 c.stray ++
  putLE 2 c.clockFaults ++ putLE 2 c.dropped ++ putLE 2 c.failures ++ putLE 2 c.uncertain

def opCamGetStatus : OpSpec :=
  { code := 0x0806
    block := 3
    logs := false
    target := camTarget 0
    run := fun s r => (s, some (stOk, (s.camPort r.target).status)) }

def opCamClearCounters : OpSpec :=
  { code := 0x0807
    role := fun _ => 1
    block := 3
    target := camTarget 0
    run := fun s r =>
      (s.updCam r.target fun c =>
        { c with
          shortFrames := 0
          longFrames := 0
          discarded := 0
          stray := 0
          clockFaults := 0
          dropped := 0
          failures := 0
          uncertain := 0
          streams := (c.streams.take 4).map (fun x => { x with written := 0, drops := 0 }) ++ c.streams.drop 4 },
       some (stOk, [])) }

def opCamSetCfa : OpSpec :=
  { code := 0x0808
    role := fun _ => 2
    kind := .frame
    block := 3
    target := camTarget 0
    param := fun r => lengthThen 4 r [need (decide (u8 r.payload 0 ≤ 4)) 0] }

def opCamSetWb : OpSpec :=
  { code := 0x0809
    kind := .frame
    block := 3
    target := camTarget 0
    param := needLength 8 }

def opCamSetMatrix : OpSpec :=
  { code := 0x080A
    role := fun _ => 1
    kind := .frame
    block := 3
    target := camTarget 0
    param := fun r => lengthThen 32 r ((upto 3).map fun i =>
      need (decide ((s32 r.payload (0x14 + 4 * i)).natAbs ≤ max24)) (0x14 + 4 * i)) }

def opCamSetTone : OpSpec :=
  { code := 0x080B
    role := fun _ => 1
    kind := .frame
    block := 3
    target := camTarget 3
    exceeds := countedExceeds 4 0 8
    param := fun r =>
      let p := r.payload
      countedThen 4 0 8 r (need (decide (2 ≤ u8 p 0) && decide (u8 p 0 ≤ 64)) 0 :: kneeTests p max24 65535 true) }

/-- Field tests of a stream whose `PLACE` is not 0 (Table 11-12, R321).
Log 79: DEDUCED, unsafe. -/
def streamTests (p : Bytes) : List (Option Nat) :=
  [need (decide (1 ≤ stFormat p) && decide (stFormat p ≤ 7)) 1,
   need (stFormat p != 7 || (stScale p == 1 && stX p % 2 == 0 && stY p % 2 == 0)) 1,
   need (decide (stW p / stScale p * formatBytes (stFormat p) ≤ stPitch p)) 1,
   need (decide (1 ≤ stScale p) && decide (stScale p ≤ 16)) 2,
   need (decide (stPitch p * (stH p / stScale p) ≤ stStride p)) 2,
   need (decide (2 ≤ stRing p) && decide (stRing p ≤ 16)) 3, need (decide (stX p ≤ 4094)) 4, need (decide (stY p ≤ 3070)) 6,
   need (decide (1 ≤ stW p) && decide (stW p ≤ 4096)) 8, need (decide (1 ≤ stH p) && decide (stH p ≤ 3072)) 10,
   need (decide (1 ≤ stDiv p) && decide (stDiv p ≤ 255)) 12,
   need (stPitch p % 64 == 0 && decide (64 ≤ stPitch p) && decide (stPitch p ≤ 24576)) 0x10,
   need (stStride p % 4096 == 0 && decide (4096 ≤ stStride p) && decide (stStride p ≤ 0x80000000)) 0x14,
   need (stLane p % 4096 == 0) 0x18, need (stFusion p % 4096 == 0) 0x20]

/-- A ring of the camera block may lie where it does (R319).
Log 79: DEDUCED, unsafe. -/
def State.ringFits (s : State) (reg : Region) (g : Nat) (skip : Nat × Nat) : Bool :=
  reg.2 == 0 || regionsFit [reg] (s.imageAt g) (s.regionsBelow 1 g ++ s.camRings g skip)

def opCamSetStream : OpSpec :=
  { code := 0x080C
    role := fun _ => 2
    kind := .frame
    block := 3
    target := camTarget 3
    param := fun r =>
      let p := r.payload
      lengthThen 48 r (need (decide (stPlace p ≤ 3)) 0 :: (if stPlace p = 0 then [] else streamTests p))
    check := fun s r z =>
      let p := r.payload
      let port := r.target % 256
      let fit := s.ringFits (streamRegion p) z.gridAt (port, r.target / 256) &&
        (!bitOf (stPlace p) 1 ||
          fusionRingFits (stFusion p, stRing p * stStride p) (s.fusionRings z.gridAt (4 * port + r.target / 256)))
      let stream (a b : Nat) : Bytes := if a = port ∧ b = r.target / 256 then p else s.streamAt a b z.gridAt
      let mine (c : Bytes) : Bool := fKind c == 1 && fPort c == port && fStream c == r.target / 256
      let match_ := s.roundsFit z.gridAt mine (fun n => s.sourceAt n z.gridAt) stream
      if stPlace p = 0 then (if match_ then none else some (0x44, []))
      else if !cropFits p (s.geomAt port z.gridAt) || stW p % stScale p != 0 || stH p % stScale p != 0 then some (0x44, [])
      else if !fit then some (0x43, [])
      else if match_ then none
      else some (0x44, []) }

def opCamSetStats : OpSpec :=
  { code := 0x080D
    role := fun _ => 2
    kind := .frame
    block := 3
    target := camTarget 0
    param := fun r =>
      let p := r.payload
      lengthThen 16 r
        [need (decide (2 ≤ saRing p) && decide (saRing p ≤ 16)) 1, need (decide (saLevel p ≤ max24)) 4,
         need (saBase p % 4096 == 0) 8]
    check := fun s r z => if s.ringFits (statsRegion r.payload) z.gridAt (r.target, 4) then none else some (0x43, []) }

/-- Table 11-14. -/
def CamPort.streamStatus (c : CamPort) (k : Nat) : Bytes :=
  let x := c.streams.getD k {}
  let place := if k = 4 then b2n (saEnable c.set.stats) else stPlace (c.set.streams.getD k [])
  putLE 1 place ++ putLE 1 x.entry ++ putLE 2 x.gen ++ putLE 4 x.frame ++ putLE 4 x.written ++
  putLE 4 (if k = 4 then 0 else x.drops)

def opCamGetStreamStatus : OpSpec :=
  { code := 0x080E
    block := 3
    logs := false
    target := camTarget 4
    run := fun s r => (s, some (stOk, (s.camPort (r.target % 256)).streamStatus (r.target / 256))) }

/-! ### Meanings -/

def execLineEnd (dt : Nat) (port : Nat) (line : LineData) (s : State) : Host.Outcome State Fault Refusal :=
  runCmd dt s (lineEnd port line)
def execFrameValidFall (dt : Nat) (port : Nat) (s : State) : Host.Outcome State Fault Refusal :=
  runCmd dt s (frameValidFall port)
def execFrameTimeout (dt : Nat) (port : Nat) (s : State) : Host.Outcome State Fault Refusal :=
  runCmd dt s (frameTimeout port)
def execCameraClockLost (dt : Nat) (port : Nat) (s : State) : Host.Outcome State Fault Refusal :=
  runCmd dt s (cameraClockLost port)
def execPclkMeasure (dt : Nat) (port edges : Nat) (s : State) : Host.Outcome State Fault Refusal :=
  runCmd dt s (pclkMeasure port edges)
def execCameraWriteSlot (dt : Nat) (port : Nat) (s : State) : Host.Outcome State Fault Refusal :=
  runCmd dt s (cameraWriteSlot port)

end Sys2Proof.Machine
end

