-- ==== Sys2Proof/Machine/Fusion.lean ====
section
/-!
DEFINITION. The Canvas fusion engine (12), second part: round events, camera and point-cloud samples, networks and its
opcodes.
-/
namespace Sys2Proof.Machine
open Sys2Proof

/-- An instant of a round (R334). -/
def fusionRoundInstant (k : Nat) (s : State) : State :=
  let r := s.fusRound k
  if !s.fusOn || decide (7 < k) || !rEnable r.cfg || !s.opSlot 4 k then s else
  let s1 := s.updRound k fun r => { r with next := (r.next + 1) % 4294967296 }
  let ready := (s.netSlot (rSlot r.cfg)).state == 4
  if s.fus.running.isSome || !ready then s1.skipRound k r.next r.cfg (!ready)
  else
    let o : OpenRound := ⟨k, r.next, r.cfg, s.time.mast, s.grid, s.now, []⟩
    let s2 := s1.updFus fun u => { u with open_ := u.open_ ++ [o] }
    if rSources r.cfg = 0 then s2.issueRound o false else s2

/-- The wait limit of an open round expires (R336); a round whose limit has passed is issued once the engine is free.
Log 84: DEDUCED, unsafe. -/
def roundWaitExpiry (k : Nat) (s : State) : State :=
  match s.fus.open_.find? (fun o => o.round == k) with
  | none => s
  | some o =>
    let due := decide (o.tick + rWait o.cfg ≤ s.now)
    if !s.fusOn || s.fus.running.isSome || !(due || o.complete) then s else s.issueRound o (due && !o.complete)

/-- What the network of the round that runs reads of fusion memory: ranges that lie in it, address and size.
Log 83: DESIGN CHOICE, safe. -/
def State.networkReads (s : State) : List (Nat × Nat) :=
  (Config.netReads s.free).filter fun r => decide (r.1 + r.2 ≤ memSize 4)

/-- The reads of a round: corrections are counted, and an uncorrectable byte spoils the round's output (16 R427, R431). -/
def State.roundReads (s : State) : State :=
  match s.readRanges 4 3 s.networkReads with
  | (t, true) => t
  | (t, false) => t.updFus fun u =>
    { u with
      running := u.running.map fun r => { r with spoiled := true }
      releases := u.releases.map fun x =>
        if u.running.any (fun r => r.round == x.round && r.number == x.number) then { x with spoiled := true } else x }

/-- The warp and the network are complete (R345): what the network leaves is a free value. -/
def roundNetworkComplete (t : State) : State :=
  let s := if t.fusOn && t.fus.running.any (fun r => r.output.isNone) then t.roundReads else t
  match s.fus.running with
  | none => s
  | some r =>
    if !s.fusOn || r.output.isSome then s else
    let k := 2 - s.fus.gridAt
    let left : GridBuf := { base := some s.free }
    let state := if r.useState then [((workAddr k, gridBytes), Contents.grid (workAddr k) left)] else []
    let canvas := ((workAddr 0, gridBytes), Contents.engine s.free)
    ((s.fusionCover (canvas :: state)).updFus fun u =>
      { u with
        running := some { r with output := some s.free }
        grid := if r.useState then left else u.grid
        spare := if r.useState then u.grid else u.spare
        gridAt := if r.useState then 1 - u.gridAt else u.gridAt }).useFree

/-- The output entry of a round, with the flags of its record (R343).
Log 83: DESIGN CHOICE, safe; log 84: DEDUCED, unsafe. -/
def outputEntry (r : RunRound) (flags n : Nat) : Bytes :=
  setBytes r.head 6 (putLE 2 flags) ++ (upto (r.bytes - 2048)).map (fun i => Config.netOutput n (2048 + i))

/-- The output entry is written into both lanes, and the engine is free (R338, R339). -/
def roundOutputWritten (s : State) : State :=
  match s.fus.running with
  | none => s
  | some r =>
    match r.output with
    | none => s
    | some n =>
      if !s.fusOn then s else
      let waiting := s.fus.releases.any (fun x => x.round == r.round && x.number == r.number)
      let flags := r.flags + (if !waiting then 8 else if r.spoiled then 0 else 4)
      let s1 := s.fanWrite (rBase r.cfg + r.number % rRing r.cfg * rStride r.cfg) (outputEntry r flags n)
      s1.updFus fun u =>
        { u with
          running := none
          releases := u.releases.map (fun x => if x.round = r.round ∧ x.number = r.number then { x with written := true } else x) }

/-- The round record (Table 12-8). -/
def Release.record (x : Release) (flags : Nat) : Bytes :=
  putLE 4 x.number ++ putLE 2 x.presence ++ putLE 2 flags ++ putLE 1 x.entry ++ zeros 1 ++ putLE 2 x.issueUs ++ zeros 4

/-- The record of a round is delivered 100 ns before its release slot (R339, R340); none while D6 or D7 is off (R348). -/
def roundRelease (k : Nat) (s : State) : State :=
  match s.fus.releases.find? (fun x => x.round == k) with
  | none => s
  | some x =>
    if s.grid + 100 < x.slot * 10000 then s else
    let s1 := s.updFus fun u => { u with releases := u.releases.filter (fun y => y != x) }
    if !s.fusOn then s1 else
    let skipped := bitOf x.flags 4
    let late := !skipped && !x.written
    let flags := x.flags + (if x.written && !x.spoiled then 4 else 0) + (if late then 8 else 0)
    let s2 := s1.updRound k fun r =>
      { r with
        number := x.number
        presence := x.presence
        flags := flags
        late := sat32 r.late (b2n late) }
    let s3 := s2.publishMast (0x4100 + k) (leNat (x.record flags)) x.instant (x.slot * 10000 - 100) true
    if late then
      let o : Overrun := ⟨255, 4, k, 4, false, s.majorAt (x.slot * 10000), x.slot % s.slots, x.slot⟩
      { s3.raiseFus 0x0902 [(k : Int), (x.number : Int)] with xt := { s3.xt with overrunsInFlight := s3.xt.overrunsInFlight ++ [o] } }
    else s3

/-! ### Samples (R330, R331) -/

/-- A camera frame of a source arrives (R330). -/
def fusionSampleArrival (n : Nat) (s : State) : State :=
  match s.fus.frames.find? (fun f => f.sample.source == n && decide (f.due ≤ s.now)) with
  | none => s
  | some f =>
    let s1 := s.updFus fun u => { u with frames := u.frames.filter (fun g => g != f) }
    if s.fusOn && fKind (s.fusSource n).cfg == 1 then s1.sampleArrives f.sample else s1

/-- The partial scan of a source is discarded (R331). -/
def State.breakScan (s : State) (n : Nat) : State :=
  if (s.fusSource n).scan.isSome then (s.updSource n fun v => { v with scan := none }).rejectSample n 0 else s

/-- The last datagram of a scan: the entry is written and the sample arrives, unless its stamp is bad (R331).
Log 85: DEDUCED, unsafe. -/
def State.finishScan (s : State) (n : Nat) (head : Bytes) (x : Scan) : State :=
  let c := (s.fusSource n).cfg
  let stamp := u64 head 8
  let s1 := s.updSource n fun v => { v with scan := none }
  if s.time.mast < stamp ∨ stamp + 10000000000 < s.time.mast then s1.rejectSample n 1 else
  let points := x.points.length / 16
  let e := x.number % fPcRing c
  let entry := setBytes head 0x10 (putLE 2 (if points < 65536 then points else Config.totalPoints points)) ++ x.points
  let s2 := s1.fusionWrite [(fPcBase c + e * fPcStride c, entry)]
  let s3 := if fLaneCopy c then s2.fanWrite (fPcLane c + e * fPcStride c) entry else s2
  s3.sampleArrives
    { source := n
      stamp := stamp
      tick := s.tickOf stamp
      seq := x.number
      stream := []
      partial_ := decide (points < x.total)
      uncertain := false
      dimX := 1
      dimY := points
      pitch := 16
      address := fPcBase c + e * fPcStride c + 32
      gen := 0
      tag := 0 }

/-- A datagram continues a scan, or starts one at index 0.
Log 85: DEDUCED, unsafe. -/
def Scan.add (c d : Bytes) (x : Scan) : Scan :=
  let all := x.points ++ d.drop 32
  { number := u32 d 0
    next := u16 d 4 + 1
    points := all.take (16 * fMaxPoints c)
    total := x.total + u16 d 0x10 }

/-- A scan datagram on the Ethernet port of a point-cloud source (R331, R348). -/
def pointCloudDatagram (n : Nat) (d : Bytes) (s : State) : State :=
  let v := s.fusSource n
  if !s.domain 13 || decide (15 < n) || fKind v.cfg != 2 then s
  else if !s.fusOn then s.rejectSample n 3
  else if d.length < 32 ∨ d.length ≠ 32 + 16 * u16 d 0x10 then s.breakScan n
  else
    let go (t : State) (x : Scan) : State :=
      let y := x.add v.cfg d
      if flagAt d 6 0 then t.finishScan n (d.take 32) y else t.updSource n fun v => { v with scan := some y }
    let fresh : Scan := ⟨u32 d 0, 0, [], 0⟩
    match v.scan with
    | some x =>
      if x.number = u32 d 0 ∧ x.next = u16 d 4 then go s x
      else if u16 d 4 = 0 then go (s.breakScan n) fresh
      else s.breakScan n
    | none => if u16 d 4 = 0 then go s fresh else s

/-! ### Networks (R346) -/

/-- The first check of R346 that a network image fails: offset and `ERROR_CODE`. -/
def netError (x : NetSlot) : Option (Nat × Nat) :=
  let d := x.data
  let bad (ok : Bool) (off code : Nat) : Option (Nat × Nat) := if ok then none else some (off, code)
  let within (v lo hi : Nat) : Bool := decide (lo ≤ v) && decide (v ≤ hi)
  let binding (i : Nat) : Bool :=
    let b := readBinding (d.drop (u32 d 0x30 + 16 * i))
    decide (b.source ≤ 15) &&
    (match b.kind with
      | 1 => within b.format 1 7
      | 2 => b.format == 0x10
      | 3 => b.format == 0x11
      | _ => false) &&
    (upto i).all (fun j => u8 d (u32 d 0x30 + 16 * j) != b.source)
  let tests : List (Option (Nat × Nat)) :=
    [bad (u32 d 0 == 0x544E3634) 0 1, bad (u16 d 4 == 1) 4 1, bad (u32 d 8 == x.length) 8 1,
     bad (u32 d 0x34 == x.crc && u32 d 0x34 == crc32c (setBytes d 0x34 (zeros 4))) 0x34 2,
     bad (u16 d 6 == 0x41) 6 3, bad (u32 d 0x0C == 0x00010000) 0x0C 3,
     bad (within (nCost d) 1 1000000000) 0x18 4, bad (within (nBytes d) 2048 0x40000000) 0x1C 4,
     bad (within (u16 d 0x20) 1 4096) 0x20 4, bad (within (u16 d 0x22) 1 4096) 0x22 4, bad (within (u16 d 0x24) 1 4096) 0x24 4,
     bad (within (u8 d 0x26) 1 4) 0x26 4, bad (decide (nBindings d ≤ 16)) 0x2C 4,
     bad (decide (64 ≤ u32 d 0x30) && decide (u32 d 0x30 + 16 ≤ x.length)) 0x30 4,
     bad (decide (0x800 + u16 d 0x20 * u32 d 0x28 ≤ nBytes d)) 0x1C 5,
     bad (decide (u32 d 0x30 + 16 * nBindings d ≤ x.length)) 0x30 6] ++
    (upto (nBindings d)).map (fun i => bad (binding i) (u32 d 0x30 + 16 * i) 6)
  tests.foldl (fun r t => match r with
    | some e => some e
    | none => t) none

/-- A slot is named by an enabled round, or by one staged (R346). -/
def State.netInUse (s : State) (n : Nat) : Bool :=
  (upto 8).any (fun k => rEnable (s.fusRound k).cfg && rSlot (s.fusRound k).cfg == n) ||
  s.staged.any (fun e => e.opcode == 0x0902 && rEnable e.req.payload && rSlot e.req.payload == n)

/-- A slot's copy into fusion memory completes: the slot is ready. Copies run after a fill (18 Table 18-2). -/
def netSlotCopyComplete (n : Nat) (s : State) : State :=
  let x := s.netSlot n
  if !s.fusOn || !s.fusionMem || x.state != 3 then s
  else (s.fusionWrite [(n * 0x80000000, x.data)]).updSlot n fun v => { v with state := 4 }

/-! ### Opcodes (R351) -/

/-- The swap of `FUSION_SET_SOURCE`. -/
def applyFusSource (s : State) (e : Staged) : State :=
  s.updSource e.target fun v => { v with cfg := e.req.payload, values := [], completed := 0, scan := none }

/-- Field tests of Table 12-3. -/
def sourceTests (p : Bytes) : List (Option Nat) :=
  let k := fKind p
  let port := if k = 2 then decide (fPort p ≤ 3) else if k = 3 then fPort p == 0 else decide (fPort p ≤ 7)
  let stream := if k = 2 ∨ k = 3 then fStream p == 0 else decide (fStream p ≤ 3)
  [need (decide (k ≤ 3)) 0, need port 1, need stream 2, need (if k = 3 then decide (fScalars p ≤ 16) else fScalars p == 0) 4,
   need (decide (1024 ≤ fUdp p)) 6, need (decide (1 ≤ fMaxPoints p) && decide (fMaxPoints p ≤ 2097152)) 8,
   need (decide (2 ≤ fPcRing p) && decide (fPcRing p ≤ 16)) 12, need (fPcBase p % 4096 == 0) 0x10,
   need (fPcLane p % 4096 == 0) 0x18, need (decide ((s32 p 0x20).natAbs ≤ 30000)) 0x20,
   need (decide ((s32 p 0x24).natAbs ≤ 30000)) 0x24, need (decide ((s32 p 0x28).natAbs ≤ 10000)) 0x28,
   need (decide ((s16 p 0x2C).natAbs ≤ 18000)) 0x2C, need (decide ((s16 p 0x2E).natAbs ≤ 9000)) 0x2E,
   need (decide ((s16 p 0x30).natAbs ≤ 18000)) 0x30]

def opFusionSetSource : OpSpec :=
  { code := 0x0901
    role := fun _ => 2
    kind := .major
    block := 4
    target := fun r => decide (r.target ≤ 15)
    param := fun r => lengthThen 56 r (sourceTests r.payload)
    check := fun s r z =>
      let p := r.payload
      let n := r.target
      let g := z.gridAt
      let source (i : Nat) : Bytes := if i = n then p else s.sourceAt i g
      let twin := fKind p == 2 && (upto 16).any (fun i =>
        i != n && fKind (source i) == 2 && fPort (source i) == fPort p && fUdp (source i) == fUdp p)
      let ring := fKind p != 2 || fusionRingFits (fPcBase p, fPcRing p * fPcStride p) (s.fusionRings g (32 + n))
      let lane := (pcLaneRegion p).2 == 0 ||
        regionsFit [pcLaneRegion p] (s.imageAt g) (s.regionsBelow 2 g ++ s.fusRegions g n)
      let touched := (upto 8).all fun k =>
        let c := s.roundAt k g
        !rEnable c || !bitOf (rSources c) n || roundFits c (s.netSlot (rSlot c)) source (fun a b => s.streamAt a b g)
      if fKind p = 1 ∧ !bitOf (stPlace (s.streamAt (fPort p) (fStream p) g)) 1 then some (0x45, [])
      else if !ring || !lane then some (0x46, [])
      else if twin then some (badParam 0x21)
      else if !touched then some (0x44, [])
      else none }

/-- The swap of `FUSION_SET_ROUND`: a round that becomes enabled counts from 0; a change of the one that uses state resets
the state (R325, R339). -/
def applyFusRound (s : State) (e : Staged) : State :=
  let k := e.target
  let old := (s.fusRound k).cfg
  let p := e.req.payload
  let start := rEnable p && !rEnable old
  let s1 := s.updRound k fun r => { r with cfg := p, next := if start then 0 else r.next }
  let s2 := if start then s1.updFus fun u => { u with past := u.past.filter (fun x => x.round != k) } else s1
  if old ≠ p ∧ ((rEnable old && rUseState old) || (rEnable p && rUseState p)) then
    s2.updFus fun u => { u with resetCause := u.resetCause.orElse fun _ => some 3 }
  else s2

def opFusionSetRound : OpSpec :=
  { code := 0x0902
    role := fun _ => 2
    kind := .major
    block := 4
    target := fun r => decide (r.target ≤ 7)
    param := fun r =>
      let p := r.payload
      lengthThen 32 r
        [need (decide (rSlot p ≤ 7)) 1, need (decide (rWait p ≤ 1000000000)) 4,
         need (decide (1 ≤ rRelease p) && decide (rRelease p ≤ 99999)) 8, need (decide (2 ≤ rRing p) && decide (rRing p ≤ 16)) 12,
         need (rStride p % 4096 == 0 && decide (4096 ≤ rStride p) && decide (rStride p ≤ 0x40000000)) 0x10,
         need (rBase p % 4096 == 0) 0x18]
    check := fun s r z =>
      let p := r.payload
      let g := z.gridAt
      let lane := !rEnable p || regionsFit [outRegion p] (s.imageAt g) (s.regionsBelow 2 g ++ s.fusRegions g (16 + r.target))
      let second := rUseState p && (upto 8).any (fun k => k != r.target && rUseState (s.roundAt k g))
      if !lane then some (0x46, [])
      else if rEnable p && !roundFits p (s.netSlot (rSlot p)) (fun i => s.sourceAt i g) (fun a b => s.streamAt a b g) then
        some (0x44, [])
      else if second then some (0x47, [])
      else none }

/-- The swap of `FUSION_SET_CANVAS`: the next round that uses state resets it. -/
def applyFusCanvas (s : State) (e : Staged) : State :=
  s.updFus fun u => { u with canvas := e.req.payload, resetCause := u.resetCause.orElse fun _ => some 2 }

def opFusionSetCanvas : OpSpec :=
  { code := 0x0903
    role := fun _ => 2
    kind := .major
    block := 4
    param := fun r =>
      let p := r.payload
      lengthThen 16 r
        [need (decide (canvasRow p ≤ 511)) 0, need (decide (canvasCol p ≤ 511)) 2,
         need (decide ((canvasFwd p).natAbs ≤ 30000)) 4, need (decide ((canvasRight p).natAbs ≤ 30000)) 8] }

/-- The swap of `FUSION_RESET_STATE`. -/
def applyFusReset (s : State) (_ : Staged) : State :=
  s.updFus fun u => { u with resetCause := u.resetCause.orElse fun _ => some 1 }

def opFusionResetState : OpSpec := { code := 0x0904, kind := .major, block := 4 }

def opFusionNetLoadBegin : OpSpec :=
  { code := 0x0905
    role := fun _ => 2
    block := 4
    param := fun r => lengthThen 12 r [need (decide (u8 r.payload 0 ≤ 7)) 0, need (decide (64 ≤ u32 r.payload 4)) 4]
    check := fun s r _ =>
      if s.netInUse (u8 r.payload 0) then some (0x41, [])
      else if 0x80000000 < u32 r.payload 4 then some (0x43, [])
      else none
    run := fun s r =>
      (s.updSlot (u8 r.payload 0) fun _ => { state := 1, length := u32 r.payload 4, crc := u32 r.payload 8 }, some (stOk, [])) }

def opFusionNetLoadData : OpSpec :=
  { code := 0x0906
    role := fun _ => 2
    block := 4
    logs := false
    param := fun r =>
      if r.payload.length < 9 ∨ 4064 < r.payload.length then some 0x0010 else firstFail [need (decide (u8 r.payload 0 ≤ 7)) 0]
    check := fun s r _ =>
      let x := s.netSlot (u8 r.payload 0)
      if s.netInUse (u8 r.payload 0) then some (0x41, [])
      else if x.state ≠ 1 ∨ u32 r.payload 4 ≠ x.data.length then some (0x42, [])
      else if x.length < u32 r.payload 4 + (r.payload.length - 8) then some (badParam 0x28)
      else none
    run := fun s r => (s.updSlot (u8 r.payload 0) fun x => { x with data := x.data ++ r.payload.drop 8 }, some (stOk, [])) }

def opFusionNetLoadEnd : OpSpec :=
  { code := 0x0907
    role := fun _ => 2
    block := 4
    param := fun r => lengthThen 4 r [need (decide (u8 r.payload 0 ≤ 7)) 0]
    check := fun s r _ =>
      let x := s.netSlot (u8 r.payload 0)
      if x.state ≠ 1 ∨ x.data.length < x.length then some (0x42, []) else none
    run := fun s r =>
      let n := u8 r.payload 0
      match netError (s.netSlot n) with
      | none => (s.updSlot n fun x => { x with state := 3 }, some (stOk, []))
      | some (off, code) =>
        (s.updSlot n fun x => { x with state := 2 }, some (0x40, putLE 4 off ++ putLE 2 code ++ zeros 2)) }

def opFusionGetRoundStatus : OpSpec :=
  { code := 0x0908
    block := 4
    logs := false
    target := fun r => decide (r.target ≤ 7)
    run := fun s r =>
      let x := s.fusRound r.target
      (s, some (stOk, putLE 4 x.number ++ putLE 2 x.presence ++ putLE 2 x.flags ++ putLE 4 x.run ++ putLE 4 x.waited ++
        putLE 4 x.late ++ putLE 4 x.skipped ++ putLE 4 x.maxIssue ++ zeros 4)) }

def opFusionGetSourceStatus : OpSpec :=
  { code := 0x0909
    block := 4
    logs := false
    target := fun r => decide (r.target ≤ 15)
    run := fun s r =>
      let x := s.fusSource r.target
      (s, some (stOk, putLE 1 (fKind x.cfg) ++ zeros 3 ++ putLE 4 x.used ++ putLE 4 x.late ++ putLE 4 x.surplus ++
        putLE 4 x.unused ++ putLE 4 x.rejected ++ putLE 4 x.maxLate ++ zeros 4 ++ putLE 8 x.lastStamp)) }

def opFusionGetNetStatus : OpSpec :=
  { code := 0x090A
    block := 4
    logs := false
    run := fun s _ =>
      let one (n : Nat) : Bytes :=
        let x := s.netSlot n
        let valid := decide (3 ≤ x.state)
        putLE 1 x.state ++ zeros 3 ++ putLE 4 (if valid then nCost x.data else 0) ++ putLE 8 (if valid then nId x.data else 0)
      (s, some (stOk, ((upto 8).map one).flatten)) }

def opFusionClearCounters : OpSpec :=
  { code := 0x090B
    role := fun _ => 1
    block := 4
    run := fun s _ =>
      let s1 := (upto 8).foldl (fun t k => t.updRound k fun r =>
        { r with run := 0, waited := 0, late := 0, skipped := 0, maxIssue := 0 }) s
      ((upto 16).foldl (fun t n => t.updSource n fun x =>
        { x with used := 0, late := 0, surplus := 0, unused := 0, rejected := 0, maxLate := 0 }) s1, some (stOk, [])) }

/-! ### Meanings -/

def execFusionRoundInstant (dt : Nat) (round : Nat) (s : State) : Host.Outcome State Fault Refusal :=
  runCmd dt s (fusionRoundInstant round)
def execPointCloudDatagram (dt : Nat) (source : Nat) (datagram : Bytes) (s : State) :
    Host.Outcome State Fault Refusal :=
  runCmd dt s (pointCloudDatagram source datagram)
def execFusionSampleArrival (dt : Nat) (source : Nat) (s : State) : Host.Outcome State Fault Refusal :=
  runCmd dt s (fusionSampleArrival source)
def execRoundWaitExpiry (dt : Nat) (round : Nat) (s : State) : Host.Outcome State Fault Refusal :=
  runCmd dt s (roundWaitExpiry round)
def execRoundNetworkComplete (dt : Nat) (s : State) : Host.Outcome State Fault Refusal := runCmd dt s roundNetworkComplete
def execRoundOutputWritten (dt : Nat) (s : State) : Host.Outcome State Fault Refusal :=
  runCmd dt s roundOutputWritten
def execRoundRelease (dt : Nat) (round : Nat) (s : State) : Host.Outcome State Fault Refusal :=
  runCmd dt s (roundRelease round)
def execNetSlotCopyComplete (dt : Nat) (slot : Nat) (s : State) : Host.Outcome State Fault Refusal :=
  runCmd dt s (netSlotCopyComplete slot)

end Sys2Proof.Machine
end

