-- ==== Sys2Proof/Machine/Time.lean ====
section
/-!
DEFINITION. The time opcodes (02 R63) and the events of the Mast time generator (02 R34 to R38, R59 to R62, R501).
-/
namespace Sys2Proof.Machine
open Sys2Proof

/-- The part of a slew not yet made: at most 50 ppm, so at most 1 ns in 20,000 ticks (R35, 13 R368).
Log 41: DEDUCED, unsafe. -/
def State.slewLeft (s : State) : Int :=
  let made := (s.now - s.gnss.slewAt) / 20000
  let size := s.gnss.slew.natAbs
  if size ≤ made then 0 else if s.gnss.slew < 0 then -((size - made : Nat) : Int) else ((size - made : Nat) : Int)

/-- Δ of a pending step from the block. -/
def State.pendingDelta (s : State) : Int :=
  match s.time.pendingStep with
  | some p => p.delta
  | none => 0

/-- Corrections accepted and not yet applied (R368). -/
def State.unapplied (s : State) : Int := s.pendingDelta + s.slewLeft

/-- Growth of the uncertainty after `t` ticks (R367): ceil(500 (t/900) + 1,500 (t/900)²) with t in seconds. -/
def driftNs (t : Nat) : Nat :=
  let d := 900000000000
  (500 * t * d + 1500 * t * t + d * d - 1) / (d * d)

/-- `UNCERTAINTY` at this tick (Table 13-11). -/
def State.uncertaintyNow (s : State) : Nat :=
  let g := s.gnss
  match g.timeState with
  | 0 => max32
  | 1 => min max32 (max 10 (s.unapplied.natAbs + g.bound))
  | _ => min max32 (g.u0 + driftNs (s.now - g.lockedAt))

/-- `UNCERTAINTY` at this tick; a station on its master's time has the master's (15 R405).
Log 94: DEDUCED, unsafe. -/
def State.uncertainty (s : State) : Nat :=
  if s.time.timeFromMaster then min s.time.uncertainty max32 else s.uncertaintyNow

/-- The time status of Table 02-4 for the present instant (R62). -/
def timeStatus (s : State) : Bytes :=
  let t := s.time
  putLE 8 t.mast ++ putS 8 t.gridShift ++ putS 8 t.lastStep ++ putLE 4 s.uncertainty ++
  putLE 4 s.major ++ putLE 1 t.leapSeconds ++ putLE 1 t.stepCount ++
  putLE 2 (packFlags [t.holdover, t.timeStep, t.slewing, t.leapValid, t.leapPending, t.leapDirection,
    t.timeFromMaster, t.noTime]) ++
  putLE 4 (if t.leapPending then t.leapEffective else 0)

/-- A step of Mast time by Δ on this tick (R34 to R38): grid time does not move, so an anchored grid takes Δ into
`GRID_SHIFT`. The record's source is the GNSS block, which orders the steps (R35).
Log 111: DEDUCED, unsafe. -/
def State.stepMast (s : State) (delta : Int) : State :=
  let t := s.time
  let count := (t.stepCount + 1) % 256
  let s1 := { s with time := { t with
    mast := ((t.mast : Int) + delta).toNat
    lastStep := delta
    stepCount := count
    timeStep := true
    gridShift := if t.anchored then t.gridShift + delta else t.gridShift } }
  s1.raise 0x0201 5 255 (putS 8 delta ++ putLE 4 count)

/-- `TIME_GET_STATUS`: Table 02-4 of the most recent major boundary. The time opcodes take `TARGET` 0 only; any other is
`BAD_TARGET`, which no table of the subsystem says.
Log 122: DESIGN CHOICE, unsafe. -/
def opTimeGetStatus : OpSpec := getOp 0x0201 fun s _ => s.time.status

/-- The data of 13 R356 are saved to MRAM. -/
def State.saveGnss (s : State) : State :=
  let d := { s.gnss.data with leap := s.time.leapSeconds }
  { s with gnss := { s.gnss with data := d, saved := d } }

/-- The swap of `TIME_SET_LEAP`: a decoded count that differs overrides it (R61), and the data go to MRAM (13 R356); it is answered `OK` all the same.
Log 122: DESIGN CHOICE, unsafe. -/
def applySetLeap (s : State) (e : Staged) : State :=
  let p := e.req.payload
  if s.time.leapDecoded && s.time.leapSeconds != u8 p 0 then s else
  ({ s with time := { s.time with
    leapSeconds := u8 p 0
    leapValid := true
    leapPending := flagAt p 1 0
    leapDirection := flagAt p 1 0 && flagAt p 1 1
    leapEffective := if flagAt p 1 0 then u32 p 4 else 0 } } : State).saveGnss

/-- `TIME_SET_LEAP` (Tables 02-5 and 02-6). Where both a field and the decoded count refuse it, the answer is `BAD_PARAMETER`.
Log 122: DESIGN CHOICE, unsafe. -/
def opTimeSetLeap : OpSpec :=
  { code := 0x0202
    role := fun _ => 1
    kind := .major
    block := 5
    param := fun r => lengthThen 8 r [need (flagAt r.payload 1 0 || u32 r.payload 4 == 0) 1]
    check := fun s r _ =>
      let p := r.payload
      if flagAt p 1 0 && decide (u32 p 4 ≤ s.time.mast / 1000000000) then some (badParam 0x24)
      else if s.time.leapDecoded && s.time.leapSeconds != u8 p 0 then some (0x41, [])
      else none }

/-- A pending manual step that a later step replaces: `SUPERSEDED`, with an entry of kind 0x03 (R501, R124). -/
def State.dropManual (s : State) : State :=
  match s.time.pendingStep with
  | some p => match p.manual with
    | some r =>
      (s.answer 0x0203 r stSuperseded s.major []).logChange 3 0x0203 r stSuperseded s.major
    | none => s
  | none => s

/-- The next whole second of Mast time after the present tick (R35). -/
def State.nextSecond (s : State) : Nat := (s.time.mast / 1000000000 + 1) * 1000000000

/-- `TIME_SET_MANUAL` (R501, Tables 02-7 and 02-8): refused while time comes from a fix, from the master or from a step of the
GNSS block that is pending. The answer `OK` comes when the step is applied.
Log 122: DESIGN CHOICE, unsafe. -/
def opTimeSetManual : OpSpec :=
  { code := 0x0203
    role := fun _ => 2
    block := 5
    param := fun r => lengthThen 8 r [need (u64 r.payload 0 % 1000000000 == 0) 0]
    check := fun s _ _ =>
      let fromGnss := match s.time.pendingStep with
        | some p => p.manual.isNone
        | none => false
      if !s.time.noTime || s.time.timeFromMaster || fromGnss then some (0x40, []) else none
    run := fun s r =>
      let s1 := s.dropManual
      let sec := s.nextSecond
      let p : PendingStep := ⟨(u64 r.payload 0 : Int) - sec, sec, some r⟩
      ({ s1 with time := { s1.time with pendingStep := some p } }, none) }

/-- The pending step is applied on its whole-second tick (R35, R501). A manual step sets `UNCERTAINTY` to its largest
value, clears `NO_TIME` and is answered `OK`. Before its tick, or with no step pending, nothing happens.
Log 21: DEDUCED, unsafe. -/
def stepApplied (s : State) : State :=
  match s.time.pendingStep with
  | none => s
  | some p =>
    if s.time.mast < p.second then s else
    let s1 := s.stepMast p.delta
    let s2 := { s1 with time := { s1.time with pendingStep := none } }
    match p.manual with
    | none => { s2 with time := { s2.time with noTime := false } }
    | some r =>
      let s3 := { s2 with time := { s2.time with uncertainty := max32, noTime := false } }
      (s3.answer 0x0203 r stOk s3.major []).logChange 4 0x0203 r stOk s3.major

/-- A slew reaches zero offset (R35); not before the rate allows it.
Log 41: DEDUCED, unsafe. -/
def slewComplete (s : State) : State :=
  if s.slewLeft = 0 then { s with time := { s.time with slewing := false }, gnss := { s.gnss with slew := 0 } } else s

/-- At Mast second E the pending leap second takes effect (R60), and the data go to MRAM (13 R356). An insertion at L 255 gives 256, a removal at L 0 gives 0.
Log 122: DESIGN CHOICE, unsafe. -/
def leapEffective (s : State) : State :=
  let t := s.time
  if t.leapPending && decide (t.leapEffective ≤ t.mast / 1000000000) then
    ({ s with time := { t with
      leapSeconds := if t.leapDirection then t.leapSeconds - 1 else t.leapSeconds + 1
      prevEffective := t.leapEffective
      prevLeap := t.leapSeconds
      leapPending := false
      leapDirection := false
      leapEffective := 0 }, gnss := { s.gnss with leaps := [] } } : State).saveGnss
  else s

/-! ### Meanings -/

def execSlewComplete (dt : Nat) (s : State) : Host.Outcome State Fault Refusal :=
  runCmd dt s slewComplete
def execLeapSecondEffective (dt : Nat) (s : State) : Host.Outcome State Fault Refusal :=
  runCmd dt s leapEffective

end Sys2Proof.Machine
end

