-- ==== Sys2Proof/Machine/Sense.lean ====
section
/-!
DEFINITION. The sensing block (09): universal, loss and bridge inputs, sensor supplies, and their opcodes.
-/
namespace Sys2Proof.Machine
open Sys2Proof

/-! ### Settings (Tables 09-10, 09-11 and 09-15) -/

def uniMode (c : Bytes) : Nat := u8 c 0
def uniRatio (c : Bytes) : Nat := u8 c 1
def uniLatest (c : Bytes) : Bool := flagAt c 3 0
def uniLow (c : Bytes) : Int := s32 c 4
def uniHigh (c : Bytes) : Int := s32 c 8
def uniSamples (c : Bytes) : Nat := u8 c 0x0C
def uniWindow (c : Bytes) : Nat := u16 c 0x0E * 1000000
def lossEnable (c : Bytes) : Bool := flagAt c 0 0
def lossCapCheck (c : Bytes) : Bool := flagAt c 0 1
def lossThreshold (c : Bytes) : Nat := u16 c 2
def lossHoldoff (c : Bytes) : Nat := u16 c 4
def lossMaxHit (c : Bytes) : Nat := u16 c 6
def lossInterval (c : Bytes) : Nat := u32 c 8 * 10000
def bridgeEnable (c : Bytes) : Bool := flagAt c 0 0
/-- T_b (R253). -/
def bridgeTb (c : Bytes) : Nat := if flagAt c 0 1 then 250000 else 1000000
def supplyVolts (c : Bytes) : Nat := u8 c 0
/-- `PUBLISH_DIV` of a universal input; of a bridge or supply. -/
def publishDiv (i : Nat) (c : Bytes) : Nat := if senseKind i = 0 then u8 c 2 else u8 c 1

/-- Published range of a universal mode (Table 09-2). -/
def uniRange (mode : Nat) : Int × Int :=
  match mode with
  | 1 => (-250000, 5500000)
  | 2 => (-500000, 11000000)
  | 3 => (0, 1100000)
  | 4 => (0, 25000000)
  | 5 => (0, 12000000)
  | 6 => (0, 5000000)
  | _ => (0, 0)

/-! ### Resources -/

def State.input (s : State) (i : Nat) : SenseInput := Tbl.getD s.sense.inputs i (resetInput i)

def State.setInput (s : State) (i : Nat) (x : SenseInput) : State :=
  { s with sense := { s.sense with inputs := Tbl.put s.sense.inputs i x } }

def State.updInput (s : State) (i : Nat) (f : InputState → InputState) : State :=
  let x := s.input i
  s.setInput i { x with st := f x.st }

/-- The flag byte of Table 09-9. -/
def InputState.flags (x : InputState) : Nat := packFlags [x.fault, x.below, x.above, x.shut, x.capFail, x.wireFail]

/-- Start or end of a fault is recorded with the completing sample (R248, R249). -/
def State.judgeFault (s : State) (i : Nat) (now : Bool) (value : Int) (cause : Nat) : State :=
  let was := (s.input i).st.fault
  if now && !was then
    (s.updInput i fun x => { x with fault := true, faultCount := sat32 x.faultCount 1 }).raise 0x0701 2 i
      (details [value, (cause : Int)])
  else if was && !now then
    (s.updInput i fun x => { x with fault := false }).raise 0x0702 2 i (details [value])
  else s

/-! ### Publishing (R249, R255, R256) -/

/-- The mean of samples, newest first: floor((2·sum + n) / (2·n)).
Log 22: DEDUCED, unsafe. -/
def meanOf (l : List Int) : Int :=
  let n : Int := l.length
  if l.length = 0 then 0 else (2 * l.foldl (· + ·) 0 + n) / (2 * n)

/-- A value of a resource produced at grid time `g`, delivered at g + 300 ns; `VALID` 0 while it is faulted. -/
def State.publishSense (s : State) (quantity i : Nat) (value g : Nat) : State :=
  s.publish (quantity * 256 + i) value g (g + 300) (!(s.input i).st.fault)

/-- The status word always carries `VALID` 1 (R249). -/
def State.publishStatus (s : State) (i g : Nat) : State :=
  s.publish (0x29 * 256 + i) (s.input i).st.flags g (g + 300) true

/-- Production number `n` of a resource is published (R256). -/
def publishes (i : Nat) (cfg : Bytes) (n : Nat) : Bool := publishDiv i cfg != 0 && n % publishDiv i cfg == 0

/-! ### Universal inputs (R244 to R249) -/

/-- The frequency of R246 from the edges of the window, oldest first.
Log 37: DEDUCED, unsafe. -/
def frequencyOf (edges : List Nat) : Int :=
  match edges.head?, edges.getLast? with
  | some a, some b =>
    let span := b - a
    if 2 ≤ edges.length ∧ 0 < span then
      ((((edges.length - 1) * 100000000000 + span / 2) / span : Nat) : Int)
    else 0
  | _, _ => 0

/-- The shunt is closed for a trial over the whole interval that ends now (R245). -/
def inTrial (x : InputState) (now : Nat) : Bool :=
  match x.trialDue with
  | some t => decide (t + 100000 ≤ now) && decide (now ≤ t + 1000000)
  | none => false

/-- Edges a universal input keeps at grid time `g`, with those of the interval: as many as the longest window takes.
Log 37: DEDUCED, unsafe. -/
def keptEdges (x : InputState) (new : List Nat) (g : Nat) : List Nat :=
  (x.edges ++ new.filter (fun e => decide (x.since ≤ e))).filter (fun e => decide (g < e + 10000000000))

/-- The edges kept that lie in the window in force.
Log 37: DEDUCED, unsafe. -/
def windowEdges (cfg : Bytes) (edges : List Nat) (g : Nat) : List Nat :=
  edges.filter (fun e => decide (g < e + uniWindow cfg))

/-- Fault after a sample: `bad` or `good` samples in a row reach the count, or another condition holds (R248). -/
def faultAfter (cfg : Bytes) (x : InputState) (other : Bool) : Bool :=
  if x.fault then !(decide (uniSamples cfg ≤ x.good) && !other)
  else decide (uniSamples cfg ≤ x.bad) || other

/-- One universal input at an interval end G. -/
def uniSample (i : Nat) (v : Int) (new : List Nat) (s : State) : State :=
  let c := (s.input i).cfg
  let x := (s.input i).st
  let m := uniMode c
  let g := s.grid
  if m = 0 ∨ g ≤ x.since then s else
  let edges := keptEdges x new g
  let raw := if m = 6 then frequencyOf (windowEdges c edges g)
    else if m = 4 ∧ x.shut ∧ !inTrial x s.now then 25000000 else v
  let value := clampI (uniRange m).1 (uniRange m).2 raw
  let below := decide (value < uniLow c)
  let above := decide (uniHigh c < value)
  let count := if m = 6 then (x.edgeCount + (new.filter (fun e => decide (x.since ≤ e))).length) % 4294967296 else x.edgeCount
  let s1 := s.updInput i fun x =>
    { x with
      below := below
      above := above
      bad := if below || above then x.bad + 1 else 0
      good := if below || above then 0 else x.good + 1
      value := value
      aux := count
      stamp := s.time.mast
      acc := (value :: x.acc).take 255
      edges := if m = 6 then edges else []
      edgeCount := count }
  let y := (s1.input i).st
  let supplyDown := m == 3 && (s1.input (128 + uniRatio c)).st.shut
  let shuntDown := m == 4 && x.shut
  let cause := if uniSamples c ≤ y.bad then (if below then 0 else 1) else if shuntDown then 2 else 3
  let s2 := s1.judgeFault i (faultAfter c y (supplyDown || shuntDown)) value cause
  if publishes i c (g / 100000) then
    let out := if uniLatest c then value else meanOf ((s2.input i).st.acc.take (publishDiv i c))
    let s3 := s2.publishSense 0x21 i (ofSigned 32 out) g
    let s4 := if m = 6 then s3.publishSense 0x22 i count g else s3
    s4.publishStatus i g
  else s2

/-- One sensor supply at an interval end (R254). -/
def supplySample (i : Nat) (v : Int × Int) (s : State) : State :=
  let c := (s.input i).cfg
  let x := (s.input i).st
  let g := s.grid
  if supplyVolts c = 0 ∨ g ≤ x.since then s else
  let s1 := s.updInput i fun x =>
    { x with
      value := v.1
      aux := v.2
      stamp := s.time.mast
      acc := (v.1 :: x.acc).take 255
      acc2 := (v.2 :: x.acc2).take 255 }
  if publishes i c (g / 100000) then
    let y := (s1.input i).st
    let n := publishDiv i c
    ((s1.publishSense 0x27 i (ofSigned 32 (meanOf (y.acc.take n))) g).publishSense 0x28 i
      (ofSigned 32 (meanOf (y.acc2.take n))) g).publishStatus i g
  else s1

/-- The tally keeps samples at grid time `g`: of every input, for a swap of the sources may name another (R259, R267). It is
enabled, or a step from before its disabling may still come. -/
def YieldSt.wants (y : YieldSt) (g : Nat) : Bool :=
  flagAt y.sources 0 0 || !y.queue.isEmpty || (match y.closing with
    | some (b, p) => decide (g ≤ b + u16 p 0x14 * 1000000)
    | none => false)

/-- The tally takes the moisture samples of an interval end (R259). -/
def State.noteMoisture (s : State) : State :=
  let y := s.sense.yield_
  let take (acc : List TallySample) (i : Nat) : List TallySample :=
    let x := (s.input i).st
    if y.wants s.grid && uniMode (s.input i).cfg != 0 && x.stamp == s.time.mast then acc ++ [⟨i, s.grid, x.value, x.fault, 0⟩]
    else acc
  { s with sense := { s.sense with yield_ := { y with moist := (upto 96).foldl take y.moist } } }

/-- `UNIVERSAL_SAMPLE_END` (R244, R254).
Log 37: DEDUCED, unsafe. -/
def universalSampleEnd (x : UniSample) (s : State) : State :=
  if s.grid % 100000 ≠ 0 ∨ !s.domain 11 ∨ s.majorDue then s else
  let edgesOf (i : Nat) : List Nat := ((x.edges.filter (fun e => e.1 == i)).map (fun e => e.2)).flatten
  let s1 := (upto 8).foldl (fun t k => supplySample (128 + k) (x.supplies.getD k (0, 0)) t) s
  let s2 := (upto 96).foldl (fun t i => uniSample i (x.values.getD i 0) (edgesOf i) t) s1
  s2.noteMoisture

/-- `SHUNT_OPEN`: the input is protected, and faulted from now on (R245).
Log 38: DEDUCED, unsafe. -/
def shuntOpen (i : Nat) (s : State) : State :=
  if i < 96 ∧ s.domain 11 ∧ uniMode (s.input i).cfg = 4 ∧ !(s.input i).st.shut then
    (s.updInput i fun x => { x with shut := true, trialDue := some (s.now + 1000000000) }).judgeFault i true 25000000 2
  else s

/-- `SHUNT_TRIAL`: the end of a 1 ms closure (R245). -/
def shuntTrial (i : Nat) (inRange : Bool) (s : State) : State :=
  match (s.input i).st.trialDue with
  | none => s
  | some t =>
    if senseKind i ≠ 0 ∨ !(s.input i).st.shut ∨ s.now < t + 1000000 then s
    else if inRange then s.updInput i fun x => { x with shut := false, trialDue := none }
    else s.updInput i fun x => { x with trialDue := some (t + 1000000000) }

/-! ### Loss inputs (R250 to R252) -/

/-- A sample of a loss input, at the nearer end of its range (R250). -/
def lossSample (v : Int) : Int := clampI (-10000) 10000 v

/-- The longest run of samples below a threshold is shorter than the hold-off; `run` is the run so far. -/
def noHoldoff (threshold holdoff : Nat) : Nat → List Int → Bool
  | _, [] => true
  | run, v :: r =>
    if threshold ≤ v.natAbs then noHoldoff threshold holdoff 0 r
    else decide (run + 1 < holdoff) && noHoldoff threshold holdoff (run + 1) r

/-- Samples form a hit (R250): the first reaches the threshold, no hold-off lies inside, and the last reaches the threshold too
unless the hit is a long one or `cut` short by a major boundary (R252).
Log 48: DESIGN CHOICE, safe. -/
def isHit (c : Bytes) (l : List Int) (cut : Bool) : Bool :=
  let hit (v : Int) : Bool := decide (lossThreshold c ≤ v.natAbs)
  (l.head?.any hit) && decide (l.length ≤ lossMaxHit c) && noHoldoff (lossThreshold c) (lossHoldoff c) 0 l &&
  (cut || l.length == lossMaxHit c || l.getLast?.any hit)

/-- With `CAP_CHECK`, a hit that ends now lies between the blind time after the last boundary and the next boundary (R252). -/
def State.hitSeen (s : State) (c : Bytes) (start : Nat) : Bool :=
  !lossCapCheck c || decide ((s.grid - 1) / s.majorLen * s.majorLen + 100000 < start)

/-- `LOSS_HIT_END`, at the last sample of a hit: its energy is the sum of v² over its samples; one of `MAX_HIT_US` samples is a
long hit. One that started before the last restart does not count (R505).
Log 48: DESIGN CHOICE, safe. -/
def lossHitEnd (i : Nat) (h : HitData) (s : State) : State :=
  let c := (s.input i).cfg
  let l := h.samples.map lossSample
  let start := s.grid - (l.length - 1) * 1000
  let cut := lossCapCheck c && s.grid % s.majorLen == 0
  if senseKind i ≠ 1 ∨ !s.domain 11 ∨ !lossEnable c ∨ !isHit c l cut ∨ !s.hitSeen c start ∨ start < (s.input i).st.since then s else
  s.updInput i fun x =>
    { x with
      hits := sat32 x.hits 1
      energy := sat64 x.energy (sumNat (l.map (fun v => v.natAbs * v.natAbs)))
      longHits := x.longHits + (if l.length = lossMaxHit c then 1 else 0) }

/-- `LOSS_INTERVAL_END`: hit count, energy sum and peak magnitude are published (R251, R256).
Log 48: DESIGN CHOICE, safe. -/
def lossIntervalEnd (i peak : Nat) (s : State) : State :=
  let c := (s.input i).cfg
  let x := (s.input i).st
  let g := s.grid
  if senseKind i ≠ 1 ∨ !s.domain 11 ∨ !lossEnable c ∨ g % lossInterval c ≠ 0 ∨ g ≤ x.since ∨ s.majorDue then s else
  let s1 := s.updInput i fun x =>
    { x with
      value := toSigned 32 x.hits
      stamp := s.time.mast
      hits := 0
      energy := 0 }
  (((s1.publishSense 0x23 i x.hits g).publishSense 0x24 i x.energy g).publishSense 0x25 i (min peak 10000) g).publishStatus i g

/-- `CAP_CHECK_COMPLETE`: the capacitance, 10 pF, measured in the 100 µs after a major boundary, once for each (R252).
Log 38: DEDUCED, unsafe. -/
def capCheckComplete (i cap : Nat) (s : State) : State :=
  let c := (s.input i).cfg
  let at_ := s.grid / s.majorLen * s.majorLen
  if senseKind i ≠ 1 ∨ !s.domain 11 ∨ !lossEnable c ∨ !lossCapCheck c ∨ s.majorDue ∨ at_ + 100000 < s.grid ∨
     (s.input i).st.capAt = some at_ then s else
  let fail := decide (cap < u16 c 0x0C) || decide (u16 c 0x0E < cap)
  let s1 := s.updInput i fun x => { x with capFail := fail, aux := cap, capAt := some at_ }
  s1.judgeFault i fail cap 4

/-! ### Bridge inputs (R253) -/

/-- `BRIDGE_SAMPLE_END`. -/
def bridgeSampleEnd (i : Nat) (reading : Int) (s : State) : State :=
  let c := (s.input i).cfg
  let x := (s.input i).st
  let g := s.grid
  if senseKind i ≠ 2 ∨ !s.domain 11 ∨ !bridgeEnable c ∨ g % bridgeTb c ≠ 0 ∨ g ≤ x.since ∨ s.majorDue then s else
  let value := clampI (-10000000) 10000000 reading
  let s1 := s.updInput i fun x =>
    { x with
      value := value
      stamp := s.time.mast
      acc := (value :: x.acc).take 255 }
  let s2 := s1.judgeFault i x.wireFail value 5
  let y := s2.sense.yield_
  let s3 :=
    if y.wants g then
      let smp : TallySample := ⟨i, g, value, x.wireFail, bridgeTb c⟩
      { s2 with sense := { s2.sense with yield_ := { y with mass := y.mass ++ [smp] } } }
    else s2
  if publishes i c (g / bridgeTb c) then
    (s3.publishSense 0x26 i (ofSigned 32 (meanOf ((s3.input i).st.acc.take (publishDiv i c)))) g).publishStatus i g
  else s3

/-- `BRIDGE_WIRE_BREAK`: the block detects an open wire, or a wire made whole; the next sample is judged by it (R253). -/
def bridgeWireBreak (i : Nat) (open_ : Bool) (s : State) : State :=
  if senseKind i = 2 ∧ s.domain 11 ∧ bridgeEnable (s.input i).cfg then s.updInput i fun x => { x with wireFail := open_ }
  else s

/-! ### Sensor supplies (R254) -/

/-- `SENSOR_SUPPLY_TRIP`: the supply is protected, and the ratiometric inputs that reference it are faulted (R247, R254).
Log 38: DEDUCED, unsafe. -/
def sensorSupplyTrip (k : Nat) (s : State) : State :=
  let i := 128 + k
  if k < 8 ∧ s.domain 11 ∧ supplyVolts (s.input i).cfg ≠ 0 ∧ !(s.input i).st.shut then
    let s1 := s.updInput i fun x => { x with shut := true, trialDue := some (s.now + 1000000000) }
    let refs := (upto 96).filter fun n => uniMode (s.input n).cfg == 3 && uniRatio (s.input n).cfg == k
    refs.foldl (fun t n => t.judgeFault n true (t.input n).st.value 3) (s1.raise 0x0703 2 i (details [(s.input i).st.aux]))
  else s

/-- `SENSOR_SUPPLY_RETRY`. -/
def sensorSupplyRetry (k : Nat) (exceeds : Bool) (s : State) : State :=
  let i := 128 + k
  match (s.input i).st.trialDue with
  | none => s
  | some t =>
    if 8 ≤ k ∨ s.now < t ∨ !s.domain 11 then s
    else if exceeds then s.updInput i fun x => { x with trialDue := some (t + 1000000000) }
    else s.updInput i fun x => { x with shut := false, trialDue := none }

/-! ### Settings swaps (R505) -/

/-- The part of a resource's settings whose change restarts it. -/
def restartKey (i : Nat) (c : Bytes) : Nat :=
  match senseKind i with
  | 0 => uniMode c
  | 1 => b2n (lossEnable c)
  | 2 => u8 c 0 % 4
  | _ => supplyVolts c

/-- A restart: everything counted starts again, and a faulted input stops being faulted (R505).
Log 44: DEDUCED, unsafe. -/
def State.restartInput (s : State) (i : Nat) : State :=
  let s1 := s.judgeFault i false 0 0
  s1.updInput i fun x =>
    { x with
      below := false
      above := false
      bad := 0
      good := 0
      shut := false
      trialDue := none
      capFail := false
      wireFail := false
      acc := []
      acc2 := []
      edgeCount := 0
      aux := if senseKind i = 3 then x.aux else 0
      edges := []
      hits := 0
      energy := 0
      since := s.grid }

/-- The swap of a `SENSE_SET_…` command.
Log 44: DEDUCED, unsafe. -/
def applySense (s : State) (e : Staged) : State :=
  let i := e.target
  let x := s.input i
  let s1 := s.setInput i { x with cfg := e.req.payload }
  if restartKey i x.cfg = restartKey i e.req.payload then s1 else s1.restartInput i

/-! ### Opcodes (R269) -/

def opcodeOfKind (k : Nat) : Nat := 0x0701 + k

/-- A resource's settings at grid time `g`, counting what is staged up to then. -/
def State.inputAt (s : State) (i g : Nat) : Bytes := s.payloadAt (opcodeOfKind (senseKind i)) i g (s.input i).cfg

/-- Fields of `SENSE_SET_INPUT` (Table 09-10). -/
def uniFields (r : Request) : Option Nat :=
  let p := r.payload
  lengthThen 20 r
    [need (decide (u8 p 0 ≤ 6)) 0, need (decide (u8 p 1 ≤ 7)) 1, need (decide (uniLow p ≤ uniHigh p)) 4,
     need (decide (1 ≤ u8 p 0x0C)) 0x0C, need (decide (1 ≤ u16 p 0x0E) && decide (u16 p 0x0E ≤ 10000)) 0x0E,
     need (decide (u16 p 0x10 ≤ 30000) && (u8 p 0 != 6 || decide (u16 p 0x10 < u16 p 0x12))) 0x10,
     need (decide (u16 p 0x12 ≤ 30000)) 0x12]

def opSenseSetInput : OpSpec :=
  { code := 0x0701
    role := fun _ => 2
    kind := .major
    block := 2
    target := fun r => senseKind r.target == 0
    param := uniFields
    check := fun s r z =>
      if uniMode r.payload = 3 ∧ supplyVolts (s.inputAt (128 + uniRatio r.payload) z.gridAt) ≠ 1 then some (0x40, [])
      else none }

def opSenseSetLoss : OpSpec :=
  { code := 0x0702
    role := fun _ => 2
    kind := .major
    block := 2
    target := fun r => senseKind r.target == 1
    param := fun r =>
      let p := r.payload
      lengthThen 16 r
        [need (decide (10 ≤ u16 p 2) && decide (u16 p 2 ≤ 10000)) 2,
         need (decide (1 ≤ u16 p 4) && decide (u16 p 4 ≤ 1000)) 4,
         need (decide (10 ≤ u16 p 6) && decide (u16 p 6 ≤ 10000)) 6,
         need (decide (10 ≤ u32 p 8) && decide (u32 p 8 ≤ 100000)) 8,
         need (decide (10 ≤ u16 p 0x0C) && decide (u16 p 0x0C ≤ 60000) && decide (u16 p 0x0C ≤ u16 p 0x0E)) 0x0C,
         need (decide (10 ≤ u16 p 0x0E) && decide (u16 p 0x0E ≤ 60000)) 0x0E] }

def opSenseSetBridge : OpSpec :=
  { code := 0x0703
    role := fun _ => 2
    kind := .major
    block := 2
    target := fun r => senseKind r.target == 2
    param := needLength 4 }

/-- `SENSE_SET_SUPPLY`: a supply that a ratiometric input references stays at 5 V (R247). -/
def opSenseSetSupply : OpSpec :=
  { code := 0x0704
    role := fun _ => 2
    kind := .major
    block := 2
    target := fun r => senseKind r.target == 3
    param := fun r => lengthThen 4 r [need (decide (u8 r.payload 0 ≤ 2)) 0]
    check := fun s r z =>
      let refs := (upto 96).any fun i =>
        let c := s.inputAt i z.gridAt
        uniMode c == 3 && uniRatio c + 128 == r.target
      if refs && u8 r.payload 0 != 1 then some (0x40, []) else none }

/-- Table 09-9. -/
def opSenseGetStatus : OpSpec :=
  { code := 0x0705
    block := 2
    logs := false
    target := fun r => senseKind r.target != 4
    run := fun s r =>
      let x := (s.input r.target).st
      (s, some (stOk, putLE 1 (senseKind r.target) ++ putLE 1 x.flags ++ zeros 2 ++ putS 4 x.value ++ putS 4 x.aux ++
        putLE 4 x.faultCount ++ putLE 8 x.stamp)) }

/-! ### Meanings -/

def execUniversalSampleEnd (dt : Nat) (sample : UniSample) (s : State) : Host.Outcome State Fault Refusal :=
  runCmd dt s (universalSampleEnd sample)
def execShuntOpen (dt : Nat) (input : Nat) (s : State) : Host.Outcome State Fault Refusal :=
  runCmd dt s (shuntOpen input)
def execShuntTrial (dt : Nat) (input : Nat) (inRange : Bool) (s : State) : Host.Outcome State Fault Refusal :=
  runCmd dt s (shuntTrial input inRange)
def execLossHitEnd (dt : Nat) (input : Nat) (hit : HitData) (s : State) : Host.Outcome State Fault Refusal :=
  runCmd dt s (lossHitEnd input hit)
def execLossIntervalEnd (dt : Nat) (input peak : Nat) (s : State) : Host.Outcome State Fault Refusal :=
  runCmd dt s (lossIntervalEnd input peak)
def execCapCheckComplete (dt : Nat) (input capacitance : Nat) (s : State) : Host.Outcome State Fault Refusal :=
  runCmd dt s (capCheckComplete input capacitance)
def execBridgeSampleEnd (dt : Nat) (input : Nat) (reading : Int) (s : State) : Host.Outcome State Fault Refusal :=
  runCmd dt s (bridgeSampleEnd input reading)
def execBridgeWireBreak (dt : Nat) (input : Nat) (open_ : Bool) (s : State) : Host.Outcome State Fault Refusal :=
  runCmd dt s (bridgeWireBreak input open_)
def execSensorSupplyTrip (dt : Nat) (supply : Nat) (s : State) : Host.Outcome State Fault Refusal :=
  runCmd dt s (sensorSupplyTrip supply)
def execSensorSupplyRetry (dt : Nat) (supply : Nat) (exceeds : Bool) (s : State) : Host.Outcome State Fault Refusal :=
  runCmd dt s (sensorSupplyRetry supply exceeds)

end Sys2Proof.Machine
end

