-- ==== Sys2Proof/Machine/Yield.lean ====
section
/-!
DEFINITION. The yield tally (09 R257 to R267) and its opcodes.
-/
namespace Sys2Proof.Machine
open Sys2Proof

/-! ### Settings (Tables 09-12 and 09-13) and record fields (13 Table 13-7) -/

def srcEnable (p : Bytes) : Bool := flagAt p 0 0
def srcMass (p : Bytes) : Nat := u8 p 1 + 120
def srcMoist (p : Bytes) : Nat := u8 p 2
def srcMassZero (p : Bytes) : Int := s32 p 4
def srcMassGain (p : Bytes) : Int := s32 p 8
def srcMoistZero (p : Bytes) : Int := s32 p 0x0C
def srcMoistGain (p : Bytes) : Int := s32 p 0x10
def srcDelay (p : Bytes) : Nat := u16 p 0x14 * 1000000
def srcSwath (p : Bytes) : Nat := u16 p 0x16
def srcFwd (p : Bytes) : Int := s16 p 0x18
def srcRight (p : Bytes) : Int := s16 p 0x1A

def State.updYield (s : State) (f : YieldSt → YieldSt) : State :=
  { s with sense := { s.sense with yield_ := f s.sense.yield_ } }

/-! ### Clears (R265) -/

/-- A grid clear starts, where there is a grid; two clears at one boundary run as one. -/
def State.startClear (s : State) : State :=
  let y := s.sense.yield_
  let cells := gridCells y.grid
  let slots := (16 * cells + 16383) / 16384
  if cells = 0 then s.updYield fun y => { y with clearing := none, placedSinceClear := 0 }
  else
    let s1 := s.updYield fun y => { y with clearing := some (slots, 0), placedSinceClear := 0 }
    if y.clearing = some (slots, 0) then s1 else s1.raise 0x0710 2 255 (details [(cells : Int)])

/-- One slot of a clear, at its start: 16,384 bytes of zeros in both lanes; the clear ends at the end of its last slot. -/
def State.clearSlot (s : State) : State :=
  match s.sense.yield_.clearing with
  | none => s
  | some (left, taken) =>
    if left = 0 then
      (s.updYield fun y => { y with clearing := none }).raise 0x0711 2 255 (details [(taken : Int)])
    else
      let p := s.sense.yield_.grid
      let n := min 16384 (16 * gridCells p - 16384 * taken)
      (s.fanWrite (gridBase p + 16384 * taken) (zeros n)).updYield fun y => { y with clearing := some (left - 1, taken + 1) }

/-- The grid is lost by a lane restart: it is cleared from the rejoin boundary (R266). -/
def State.loseGrid (s : State) : State :=
  let y := s.sense.yield_
  let s1 := (s.updYield fun y => { y with gridLost := true }).raise 0x0712 2 255 (details [(y.placedSinceClear : Int)])
  s1.startClear

/-! ### Steps (R257 to R261) -/

/-- A navigation record delivered to the tally defines a step (R257); a full queue of 2,048 discards it (R258), and it is then
absent for the next one. After a disabling only records with epochs up to its boundary count (R267).
Log 45: DEDUCED, unsafe. -/
def State.tallyRecord (s : State) (r : NavRec) : State :=
  let y := s.sense.yield_
  let src : Option Bytes :=
    if srcEnable y.sources then some y.sources
    else match y.closing with
      | some (b, p) => if r.epoch ≤ b then some p else none
      | none => none
  match src with
  | none => s
  | some p =>
    if 2048 ≤ y.queue.length then
      s.updYield fun y => { y with fresh := true, totals := { y.totals with noPosition := sat32 y.totals.noPosition 1 } }
    else s.updYield fun y =>
      { y with
        queue := y.queue ++ [⟨r, p, y.fresh, y.opening⟩]
        fresh := false
        opening := none }

/-- Distance of two points in mm, rounded half-up (R259). -/
def distanceMm (a b : Int × Int) : Nat :=
  let dx := (a.1 - b.1).natAbs
  let dy := (a.2 - b.2).natAbs
  (isqrt (4 * (dx * dx + dy * dy)) + 1) / 2

/-- The header point of a record (R259); none: the record is invalid, or its heading is needed and invalid.
Log 45: DEDUCED, unsafe. -/
def headerPoint (grid src : Bytes) (r : NavRec) : Option (Int × Int) :=
  let lever := srcFwd src != 0 || srcRight src != 0
  if !r.valid || (lever && !r.headingValid) then none else
  let a := tangentPlane (100 * s32 grid 0) (100 * s32 grid 4) (s32 grid 8) (s64 r.bytes 0x10) (s64 r.bytes 0x18) (s32 r.bytes 0x20)
  if lever then
    let o := leverArm (srcFwd src) (srcRight src) r.heading
    some (a.1 + o.1, a.2 + o.2)
  else some a

/-- The flow of a sample, mg/s (R259). -/
def flowOf (src : Bytes) (x : TallySample) : Nat :=
  if x.fault then 0 else ((x.value - srcMassZero src) * srcMassGain src / 65536).toNat

/-- The moisture of a step in 0.1%; none: held (R259). -/
def moistureOf (src : Bytes) (l : List TallySample) : Option Nat :=
  if srcMoist src = 255 then some 0
  else if l = [] ∨ l.any (fun x => x.fault) then none
  else
    let m := (meanOf (l.map (fun x => x.value)) - srcMoistZero src) * srcMoistGain src / 16777216
    some (min 1000 m.toNat)

/-- The cell of a header point (R261). -/
def cellOf (grid : Bytes) (p : Int × Int) : Option Nat :=
  let far := 50000000 * 50000000 < p.1.natAbs * p.1.natAbs + p.2.natAbs * p.2.natAbs
  let cell : Int := u16 grid 0x14
  let col := (p.1 - s32 grid 0x0C) / cell
  let row := (p.2 - s32 grid 0x10) / cell
  if far ∨ gridCells grid = 0 ∨ col < 0 ∨ row < 0 ∨ (gridCols grid : Int) ≤ col ∨ (gridRows grid : Int) ≤ row then none
  else some (row.toNat * gridCols grid + col.toNat)

/-- Why a step is unplaced (R260). -/
inductive Unplaced where
  | clearing
  | noPosition
  | gap
  | offGrid
deriving DecidableEq, Repr

/-- The cell of a step, or the first cause that keeps it from one (R260). -/
def placeStep (y : YieldSt) (src : Bytes) (r : NavRec) : Nat ⊕ Unplaced :=
  if y.clearing.isSome then .inr .clearing
  else match headerPoint y.grid src r with
    | none => .inr .noPosition
    | some p =>
      let gap := match y.prev with
        | some q => decide (1000000000 < r.epoch - q.epoch)
        | none => false
      if gap then .inr .gap
      else match cellOf y.grid p with
        | some c => .inl c
        | none => .inr .offGrid

/-- The totals after a step of `g` grams, `w` g × 0.1% and `a` cm².
Log 46: DEDUCED, unsafe. -/
def YieldTotals.add (t : YieldTotals) (where_ : Nat ⊕ Unplaced) (g w a : Nat) : YieldTotals :=
  match where_ with
  | .inl _ =>
    { t with
      placedMass := sat64 t.placedMass g
      placedMoist := sat64 t.placedMoist w
      placedArea := sat64 t.placedArea a
      placedSteps := sat32 t.placedSteps 1 }
  | .inr u =>
    let t1 : YieldTotals :=
      { t with
        unplacedMass := sat64 t.unplacedMass g
        unplacedMoist := sat64 t.unplacedMoist w
        unplacedArea := sat64 t.unplacedArea a }
    match u with
    | .clearing => { t1 with clearingSteps := sat32 t.clearingSteps 1 }
    | .noPosition => { t1 with noPosition := sat32 t.noPosition 1 }
    | .gap => { t1 with gapSteps := sat32 t.gapSteps 1 }
    | .offGrid => { t1 with offGrid := sat32 t.offGrid 1 }

/-- The tally as a step finds it: after an enabling the mass interval has a start of its own, and record f - 1 may be absent
(R257). -/
def YieldSt.begin_ (y : YieldSt) (e : TallyStep) : YieldSt :=
  { y with massStart := e.start.getD y.massStart, prev := if e.fresh then none else y.prev }

/-- One step processed at grid time `now` (R259, R260). -/
def stepYield (now : Nat) (y : YieldSt) (r : NavRec) (src : Bytes) : YieldSt :=
  let end_ := r.epoch + srcDelay src
  let inside (x : TallySample) : Bool := decide (y.massStart < x.at_) && decide (x.at_ ≤ end_)
  let mass := y.mass.filter (fun x => x.input == srcMass src && inside x)
  let moist := y.moist.filter (fun x => x.input == srcMoist src && inside x)
  let sum := sumNat (mass.map (fun x => flowOf src x * x.tb))
  let am := y.am + sum
  let held := (moistureOf src moist).isNone
  let m := (moistureOf src moist).getD y.lastMoist
  let aw := y.aw + sum * m
  let d := match headerPoint y.grid src r, y.prev with
    | some p, some q => match headerPoint y.grid src q with
      | some pq => distanceMm p pq
      | none => 0
    | _, _ => 0
  let swath := match y.swath with
    | some v => v.toNat
    | none => srcSwath src
  let aa := y.aa + swath * d
  let g := am / 1000000000000
  let w := aw / 1000000000000
  let a := aa / 100
  let place := placeStep y src r
  let t := y.totals.add place g w a
  let start := max y.massStart end_
  { y with
    am := am % 1000000000000
    aw := aw % 1000000000000
    aa := aa % 100
    totals := { t with
      moistureHeld := sat32 t.moistureHeld (b2n held)
      bridgeFault := sat32 t.bridgeFault (b2n (mass.any (fun x => x.fault))) }
    lastMoist := if srcMoist src = 255 then y.lastMoist else m
    prev := some r
    massStart := start
    mass := y.mass.filter (fun x => decide (start < x.at_))
    moist := y.moist.filter (fun x => decide (start < x.at_))
    placedSinceClear := (match place with
      | .inl _ => y.placedSinceClear + 1
      | .inr _ => y.placedSinceClear)
    writes := (match place with
      | .inl c => y.writes ++ [⟨visibleSlot (now + 300), gridBase y.grid + 16 * c, g, w, a⟩]
      | .inr _ => y.writes) }

/-- `YIELD_STEP_PROCESS`: the oldest record, once the last bridge sample of its mass interval is delivered (R258). -/
def yieldStepProcess (s : State) : State :=
  let y := s.sense.yield_
  match y.queue with
  | [] => s
  | e :: rest =>
    let tb := bridgeTb (s.input (srcMass e.sources)).cfg
    if !s.domain 11 || decide (s.grid < (e.record.epoch + srcDelay e.sources) / tb * tb + 300) then s
    else s.updYield fun _ => stepYield s.grid (({ y with queue := rest } : YieldSt).begin_ e) e.record e.sources

/-- A cell with an update added, each field saturating (R262). -/
def CellWrite.add (w : CellWrite) (old : Bytes) : Bytes :=
  putLE 4 (sat32 (u32 old 0) w.mass) ++ putLE 4 (sat32 (u32 old 4) w.moist) ++ putLE 4 (sat32 (u32 old 8) w.area) ++
  putLE 4 (sat32 (u32 old 12) 1)

/-- `YIELD_CELL_WRITE`: the oldest update that is due is written into both lanes (R262, R263). A lane in `RESYNC` gets the
active lane's cell over the cross-lane path (R266). -/
def yieldCellWrite (s : State) : State :=
  match s.sense.yield_.writes with
  | [] => s
  | w :: rest =>
    if s.slot < w.slot then s else
    let s1 := s.updYield fun y => { y with writes := rest }
    let one (t : State) (l : Lane) : State :=
      if !(t.lane l).running then t else
      match (t.xtLane l).state with
      | .recovering | .failed => t
      | .resync => if t.xt.crossLane then t.dramWrite l w.addr (w.add (s.dramRead s.xt.active w.addr 16)) else t
      | .active | .standby | .probation => t.dramWrite l w.addr (w.add (t.dramRead l w.addr 16))
    one (one s1 .main) .mizzen

/-! ### Opcodes (R267, R269) -/

/-- The swap of `YIELD_SET_GRID`: a change of any field starts a clear (R265). -/
def applyYieldGrid (s : State) (e : Staged) : State :=
  let same := setBytes e.req.payload 0x1A (zeros 6) = setBytes s.sense.yield_.grid 0x1A (zeros 6)
  let s1 := s.updYield fun y => { y with grid := e.req.payload }
  if same then s1 else s1.startClear

def opYieldSetGrid : OpSpec :=
  { code := 0x0706
    role := fun _ => 2
    kind := .major
    block := 2
    param := fun r =>
      let p := r.payload
      lengthThen 40 r
        [need (decide ((s32 p 0).natAbs ≤ 900000000)) 0, need (decide ((s32 p 4).natAbs ≤ 1800000000)) 4,
         need (decide (-1000000 ≤ s32 p 8) && decide (s32 p 8 ≤ 10000000)) 8,
         need (decide ((s32 p 0x0C).natAbs ≤ 50000000)) 0x0C, need (decide ((s32 p 0x10).natAbs ≤ 50000000)) 0x10,
         need (decide (500 ≤ u16 p 0x14) && decide (u16 p 0x14 ≤ 20000)) 0x14, need (gridBase p % 4096 == 0) 0x20]
    check := fun s r z =>
      if gridCells r.payload ≤ 4194304 ∧ gridFits (s.imageAt z.gridAt) r.payload then none else some (0x41, []) }

/-- The swap of `YIELD_SET_SOURCES` (R257, R259, R267). -/
def applyYieldSources (s : State) (e : Staged) : State :=
  let p := e.req.payload
  let was := srcEnable s.sense.yield_.sources
  let s1 := s.updYield fun y => { y with sources := p }
  if srcEnable p && !was then
    s1.updYield fun y => { y with opening := some (s.grid + srcDelay p), fresh := true, swath := none, closing := none }
  else if was && !srcEnable p then s1.updYield fun y => { y with closing := some (s.grid, s.sense.yield_.sources) }
  else s1

/-- Log 46: DEDUCED, unsafe. -/
def opYieldSetSources : OpSpec :=
  { code := 0x0707
    role := fun _ => 1
    kind := .major
    block := 2
    param := fun r =>
      let p := r.payload
      lengthThen 32 r
        [need (decide (u8 p 1 ≤ 3)) 1, need (decide (u8 p 2 ≤ 95) || u8 p 2 == 255) 2,
         need (decide (u16 p 0x14 ≤ 30000)) 0x14, need (decide (u16 p 0x16 ≤ 30000)) 0x16,
         need (decide ((srcFwd p).natAbs ≤ 30000)) 0x18, need (decide ((srcRight p).natAbs ≤ 30000)) 0x1A]
    check := fun s r z =>
      let p := r.payload
      if srcEnable p && !bridgeEnable (s.inputAt (srcMass p) z.gridAt) then some (badParam 0x21)
      else if srcMoist p ≠ 255 ∧ uniMode (s.inputAt (srcMoist p) z.gridAt) = 0 then some (badParam 0x22)
      else none }

/-- The swap of `YIELD_CLEAR_GRID` (R265, R266). -/
def applyYieldClear (s : State) (e : Staged) : State :=
  let s1 := if flagAt e.req.payload 0 0 then
      s.updYield fun y => { y with totals := {}, am := 0, aw := 0, aa := 0 }
    else s
  (s1.updYield fun y => { y with gridLost := false }).startClear

def opYieldClearGrid : OpSpec :=
  { code := 0x0708
    kind := .major
    block := 2
    param := needLength 4 }

/-- Table 09-14. -/
def opYieldGetTotals : OpSpec :=
  { code := 0x0709
    block := 2
    logs := false
    run := fun s _ =>
      let y := s.sense.yield_
      let t := y.totals
      (s, some (stOk, putLE 1 (packFlags [srcEnable y.sources, y.clearing.isSome, y.gridLost]) ++ zeros 3 ++
        putLE 4 y.queue.length ++
        ([t.placedMass, t.placedMoist, t.placedArea, t.unplacedMass, t.unplacedMoist, t.unplacedArea].map (putLE 8)).flatten ++
        ([t.placedSteps, t.clearingSteps, t.noPosition, t.gapSteps, t.offGrid, t.moistureHeld, t.bridgeFault].map
          (putLE 4)).flatten ++ zeros 4)) }

/-! ### Meanings -/

def execYieldStepProcess (dt : Nat) (s : State) : Host.Outcome State Fault Refusal :=
  runCmd dt s yieldStepProcess
def execYieldCellWrite (dt : Nat) (s : State) : Host.Outcome State Fault Refusal :=
  runCmd dt s yieldCellWrite

end Sys2Proof.Machine
end

