-- ==== Sys2Proof/Machine/Track.lean ====
section
/-!
DEFINITION. The tracker of the satellite navigation block (13): orbit data and predictions, notch filters, the allocation of
channels, the measurements of an epoch, and which of its satellites may be used.
-/
namespace Sys2Proof.Machine
open Sys2Proof

def gSignals (c : Bytes) : Nat := u16 c 0 % 512
def gHeading (c : Bytes) : Nat := u16 c 2 % 512
/-- `ELEV_MASK_DEG` in 10^-5 degree. -/
def gElevMask (c : Bytes) : Int := u8 c 5 * 100000
def gBaseline (c : Bytes) : Nat := u16 c 8
/-- `BURST_MS` in ns. -/
def wBurst (c : Bytes) : Nat := u16 c 0 * 1000000
def wChannels (c : Bytes) : Nat := u8 c 2
/-- `REFRESH_MIN` in ns. -/
def wRefresh (c : Bytes) : Nat := u8 c 3 * 60000000000

def State.updGnss (s : State) (f : GnssSt → GnssSt) : State := { s with gnss := f s.gnss }

/-- Number of a satellite in tables. -/
def satKey (constellation sv : Nat) : Nat := 64 * constellation + sv

/-- Constellation of a signal (Table 13-2). -/
def signalConst (signal : Nat) : Nat := signal / 3

/-- Carrier of a signal, kHz (Table 13-2). -/
def carrierKHz (signal : Nat) : Nat :=
  [1575420, 1227600, 1176450, 1575420, 1176450, 1207140, 1561098, 1575420, 1176450].getD signal 1

/-- Signals of the watch tracker: the band L1/E1/B1 (R372). -/
def watchSignals : Nat := 0xC9

/-! ### Orbit data (R356, R358) -/

/-- Messages held of a satellite; `all` takes in aided ones that the satellite's pseudorange has not confirmed yet. -/
def NavData.messagesOf (d : NavData) (all : Bool) (k sv : Nat) : List NavMessage :=
  (d.messages.filter (fun h => h.msg.constellation == k && h.msg.sv == sv && (all || h.usable))).map (·.msg)

/-- A satellite has an ephemeris within its validity interval. -/
def NavData.ephemeris (d : NavData) (all : Bool) (mast k sv : Nat) : Bool :=
  let l := d.messagesOf all k sv
  !l.isEmpty && Config.ephemerisValid k sv (l.map fun m => (m.kind, m.tow, m.bits)) (mast / 1000000000)

/-- `EPHEMERIDES`: satellites with a valid one (Table 13-19). -/
def NavData.ephemerides (d : NavData) (mast : Nat) : Nat :=
  ((d.messages.map fun h => (h.msg.constellation, h.msg.sv)).eraseDups.filter fun x => d.ephemeris true mast x.1 x.2).length

/-- Two messages carry the same thing: kind, satellite and issue of data. -/
def sameIssue (a b : NavMessage) : Bool :=
  a.constellation == b.constellation && a.sv == b.sv && a.kind == b.kind &&
  Config.navIssue a.constellation a.sv a.kind a.bits == Config.navIssue b.constellation b.sv b.kind b.bits

/-- A message is held; it takes the place of one of the same issue. -/
def NavData.hold (d : NavData) (m : HeldMessage) : NavData :=
  { d with messages := d.messages.filter (fun x => !sameIssue x.msg m.msg) ++ [m] }

/-- What an epoch's decoding adds to the data: the block's own decode is always kept. -/
def NavData.learn (d : NavData) (e : EpochData) : NavData :=
  let d1 := e.messages.foldl (fun d m => d.hold ⟨m, true, true⟩) d
  e.almanacs.foldl (fun d a =>
    { d with almanacs := d.almanacs.filter (fun x => !(x.constellation == a.constellation && x.sv == a.sv)) ++ [a] }) d1

/-- An aided ephemeris enters the solution once its satellite's measured pseudorange lies within 300 m of the range
predicted from it (R358). -/
def NavData.confirm (d : NavData) (keys : List Nat) : NavData :=
  { d with messages := d.messages.map fun h =>
      { h with usable := h.usable || keys.contains (satKey h.msg.constellation h.msg.sv) } }

/-- The position predictions start from: a position aid until the first valid solution, else the last valid one (R358).
Latitude and longitude in 10^-9 degree, height in mm. -/
def GnssSt.predictFrom (g : GnssSt) : Option (Int × Int × Int) :=
  match g.positionAid with
  | some (lat, lon, h, _) => some (100 * lat, 100 * lon, h)
  | none => g.data.position

/-- Predicted elevation of a satellite, 10^-5 degree; none without a position or without an ephemeris or almanac of it. -/
def GnssSt.elevation (g : GnssSt) (mast k sv : Nat) : Option Int :=
  let almanac := (g.data.almanacs.filter (fun a => a.constellation == k && a.sv == sv)).map (·.data)
  match g.predictFrom with
  | none => none
  | some (lat, lon, h) =>
    if almanac.isEmpty && !g.data.ephemeris true mast k sv then none
    else some (Config.elevation k sv ((g.data.messagesOf true k sv).map (·.bits) ++ almanac) (lat, lon, h) (mast / 1000000000))

/-- Uncertainty of time that a search allows for: the bound of a time aid narrows it (R358). -/
def State.searchWindow (s : State) : Nat :=
  match s.gnss.timeAid with
  | some u => min u s.uncertaintyNow
  | none => s.uncertaintyNow

/-! ### Notch filters (R353) -/

/-- The filters of a band after an epoch: a narrowband line more than 15 dB above the noise floor has one, four at most, and
keeps it until the line has been gone for 1 s. Lines are (band, kHz, 0.1 dB).
Log 127: DEDUCED, unsafe. -/
def notchesOf (now band : Nat) (lines : List (Nat × Nat × Int)) (old : List Notch) : List Notch :=
  let seen := (lines.filter (fun x => x.1 == band && decide (150 < x.2.2))).map (·.2.1)
  let kept := (old.filter (·.band == band)).map fun n =>
    if seen.contains n.freq then { n with goneAt := none } else { n with goneAt := some (n.goneAt.getD now) }
  let held := kept.filter fun n => match n.goneAt with
    | some t => decide (now < t + 1000000000)
    | none => true
  seen.foldl (fun l f =>
    if l.any (·.freq == f) ∨ 4 ≤ l.length then l else l ++ [{ band := band, freq := f, goneAt := none }]) held

/-! ### Channels (R354) -/

/-- A channel follows this signal. -/
def Channel.follows (c : Channel) (antenna k sv signal : Nat) : Bool :=
  c.antenna == antenna && c.constellation == k && c.sv == sv && c.signal == signal

/-- Satellites of a constellation predicted above the mask, highest first. -/
def GnssSt.above (g : GnssSt) (mast k : Nat) : List Nat :=
  let l := ((upto 63).map (· + 1)).filterMap fun sv => (g.elevation mast k sv).map fun e => (sv, e)
  (sortBy (fun x => (1000000000 - x.2).toNat) (l.filter fun x => decide (gElevMask g.config < x.2))).map (·.1)

/-- Demand of an antenna in the order of R354: ascending signal bit, then descending predicted elevation. -/
def GnssSt.demand (g : GnssSt) (mast antenna mask : Nat) : List Channel :=
  (((upto 9).filter (bitOf mask)).map fun signal =>
    (g.above mast (signalConst signal)).map fun sv => ⟨antenna, signalConst signal, sv, signal, false, none, 0⟩).flatten

/-- The lowest enabled signal bit of a constellation. -/
def lowestSignal (mask k : Nat) : Option Nat := (upto 9).find? (fun i => signalConst i == k && bitOf mask i)

/-- Satellites without a prediction, to be searched on A0 in their lowest enabled signal.
Log 127: DEDUCED, unsafe. -/
def GnssSt.searches (g : GnssSt) (mast mask : Nat) : List Channel :=
  ((upto 3).map fun k => match lowestSignal mask k with
    | none => []
    | some signal => (((upto 63).map (· + 1)).filter fun sv => (g.elevation mast k sv).isNone).map fun sv =>
        (⟨0, k, sv, signal, true, none, 0⟩ : Channel)).flatten

/-- A channel for a signal, if one is free; one that searched for it before goes on where it was. -/
def giveChannel (limit window : Nat) (before : List Channel) (pool : List Channel) (want : Channel) : List Channel :=
  if pool.any (fun c => c.follows want.antenna want.constellation want.sv want.signal) ∨ limit ≤ pool.length then pool
  else match before.find? (fun c => c.follows want.antenna want.constellation want.sv want.signal) with
    | some c => pool ++ [{ c with search := want.search }]
    | none => pool ++ [{ want with window := window }]

/-- The channels of an epoch: those whose signal is still in demand are kept, then demand and searches are served from the
free ones. What the rule leaves open, ties among equal elevations and the order of searches, goes by constellation and
satellite number.
Log 127: DEDUCED, unsafe. -/
def GnssSt.allocate (g : GnssSt) (limit window : Nat) (demand searches : List Channel) : List Channel :=
  let kept := (g.channels.filter fun c => demand.any fun d => d.follows c.antenna c.constellation c.sv c.signal).map fun c =>
    { c with search := false }
  searches.foldl (giveChannel limit window g.channels) (demand.foldl (giveChannel limit window g.channels) (kept.take limit))

/-- The channels while D9 is on: 768 on both antennas. -/
def State.allocateFull (s : State) : List Channel :=
  let g := s.gnss
  let a1 := if gBaseline g.config = 0 then [] else g.demand s.time.mast 1 (gHeading g.config)
  g.allocate 768 s.searchWindow (g.demand s.time.mast 0 (gSignals g.config) ++ a1) (g.searches s.time.mast (gSignals g.config))

/-- The channels of a watch burst: `WATCH_CHANNELS` on A0, in one band (R372).
Log 127: DEDUCED, unsafe. -/
def State.allocateWatch (s : State) : List Channel :=
  let g := s.gnss
  let mask := gSignals g.config &&& watchSignals
  g.allocate (wChannels g.watch) s.searchWindow (g.demand s.time.mast 0 mask) (g.searches s.time.mast mask)

/-! ### Measurements (Table 13-8) -/

def mConst (m : Bytes) : Nat := u8 m 0
def mSv (m : Bytes) : Nat := u8 m 1
def mSignal (m : Bytes) : Nat := u8 m 2
def mAntenna (m : Bytes) : Nat := bitsOf (u8 m 3) 0 1
def mLock (m : Bytes) : Bool := flagAt m 4 0
def mUsed (m : Bytes) : Bool := flagAt m 4 4
def mCn0 (m : Bytes) : Nat := u16 m 6
def mDoppler (m : Bytes) : Int := s32 m 0x18
def mKey (m : Bytes) : Nat := satKey (mConst m) (mSv m)

/-- The measurements of an epoch: at most one of each channel. -/
def measured (pool : List Channel) (l : List Bytes) : List Bytes :=
  pool.filterMap fun c => l.find? fun m => c.follows (mAntenna m) (mConst m) (mSv m) (mSignal m)

/-- The channels after an epoch's measurements: one whose signal has lost code lock for 1 s is freed.
Log 127: DEDUCED, unsafe. -/
def trackLocks (now : Nat) (seen : List Bytes) (pool : List Channel) : List Channel :=
  (pool.map fun c =>
    if seen.any (fun m => mLock m && c.follows (mAntenna m) (mConst m) (mSv m) (mSignal m)) then { c with lockAt := some now }
    else c).filter fun c => match c.lockAt with
      | some t => decide (now < t + 1000000000)
      | none => true

/-- Satellites with code lock on an antenna. -/
def lockedOn (antenna : Nat) (seen : List Bytes) : List Nat :=
  ((seen.filter fun m => mAntenna m == antenna && mLock m).map mKey).eraseDups

/-- A satellite, or its constellation, is excluded (R365). -/
def GnssSt.excluded (g : GnssSt) (key : Nat) : Bool :=
  (Tbl.find g.exclusions key).isSome || (Tbl.find g.exclusions (256 + key / 64)).isSome

/-- Usable satellites: code lock on A0, an ephemeris that may be used, and no exclusion of their own. -/
def GnssSt.usable (g : GnssSt) (mast : Nat) (seen : List Bytes) : List Nat :=
  (lockedOn 0 seen).filter fun k => (Tbl.find g.exclusions k).isNone && g.data.ephemeris false mast (k / 64) (k % 64)

/-- Satellites of the solution: usable, measured with the flag `used`, and not excluded with their constellation. -/
def GnssSt.inSolution (g : GnssSt) (mast : Nat) (seen : List Bytes) : List Nat :=
  (g.usable mast seen).filter fun k => !g.excluded k && seen.any fun m => mKey m == k && mAntenna m == 0 && mUsed m

/-- Constellations of a list of satellites, as a mask. -/
def constMask (keys : List Nat) : Nat :=
  packFlags ((upto 3).map fun k => keys.any fun x => x / 64 == k)

/-- A measurement as the entry gives it: bit 4 of `FLAGS` for a satellite of the solution, bit 5 for an excluded one. -/
def GnssSt.entryOf (g : GnssSt) (m : Bytes) : Bytes :=
  let ex := g.excluded (mKey m)
  m.take 4 ++ putLE 1 (u8 m 4 % 16 + 16 * b2n (mUsed m && !ex) + 32 * b2n ex) ++ m.drop 5

end Sys2Proof.Machine
end

