-- ==== Sys2Proof/Machine/Gnss.lean ====
section
/-!
DEFINITION. The satellite navigation block (13): antennas, checks, solutions, the time state, time pulses, watch bursts, rings
and signals, and its opcodes. Its tracker is in Track.
-/
namespace Sys2Proof.Machine
open Sys2Proof

/-! ### Settings (Tables 13-16 to 13-18) -/

def gRate (c : Bytes) : Nat := u8 c 4
/-- `OUTPUT_DELAY_MS` in ns. -/
def gDelay (c : Bytes) : Nat := u16 c 6 * 1000000
def gBaselineTol (c : Bytes) : Nat := u16 c 0x0A
def gHeadingOffset (c : Bytes) : Int := s32 c 0x0C
/-- `ANT_SUPPLY` of an antenna. -/
def gSupply (c : Bytes) (a : Nat) : Nat := bitsOf (u8 c 0x12) (2 * a) 2
def gSignalTol (c : Bytes) : Nat := u16 c 0x14
def gConstTol (c : Bytes) : Nat := u16 c 0x16
def gClockTol (c : Bytes) : Nat := u16 c 0x18
def gAcceptS (c : Bytes) : Nat := u16 c 0x1A
def gCeiling (c : Bytes) : Nat := u16 c 0x1C

def tpEnable (c : Bytes) : Bool := flagAt c 0 0
def tpLow (c : Bytes) : Bool := flagAt c 0 1
def tpGate (c : Bytes) : Nat := bitsOf (u8 c 0) 2 2
def tpPeriod (c : Bytes) : Nat := u32 c 4
def tpWidth (c : Bytes) : Nat := u32 c 8
def tpOffset (c : Bytes) : Nat := u32 c 12

/-- A record of the block. -/
def State.raiseGnss (s : State) (code : Nat) (l : List Int) : State := s.raise code 5 255 (details l)

/-! ### Antennas (R352) -/

/-- Either tracker is on.
Log 75: DEDUCED, unsafe. -/
def State.gnssOn (s : State) : Bool := s.domain 9 || s.domain 10

/-- An antenna's current has been below 2 mA for 1 s, or is so no longer. -/
def antennaOpen (antenna : Nat) (open_ : Bool) (current : Nat) (s : State) : State :=
  if !s.gnssOn || decide (1 < antenna) || (open_ && decide (2000 ≤ current)) then s else
  let was := if antenna = 0 then s.gnss.a0Open else s.gnss.a1Open
  let s1 := s.updGnss fun g => if antenna = 0 then { g with a0Open := open_ } else { g with a1Open := open_ }
  if open_ && !was then s1.raiseGnss 0x0A01 [antenna, 0, current] else s1

/-- The supply fault of an antenna, and the tick of its next retry. -/
def GnssSt.setFault (g : GnssSt) (antenna : Nat) (fault : Bool) (retry : Option Nat) : GnssSt :=
  if antenna = 0 then { g with a0Fault := fault, a0Retry := retry } else { g with a1Fault := fault, a1Retry := retry }

/-- A current above 150 mA for 1 ms switches the supply off. -/
def antennaSupplyFault (antenna current : Nat) (s : State) : State :=
  let was := if antenna = 0 then s.gnss.a0Fault else s.gnss.a1Fault
  if !s.gnssOn || decide (1 < antenna) || was || gSupply s.gnss.config antenna == 0 || decide (current ≤ 150000) then s
  else (s.updGnss fun g => g.setFault antenna true (some (s.now + 1000000000))).raiseGnss 0x0A01 [antenna, 1, current]

/-- The retry every 1,000 ms: the supply stays on if the current is then 150 mA or less. -/
def antennaSupplyRetry (antenna : Nat) (exceeds : Bool) (s : State) : State :=
  match (if antenna = 0 then s.gnss.a0Retry else s.gnss.a1Retry) with
  | none => s
  | some t =>
    if decide (s.now < t) || decide (1 < antenna) then s
    else s.updGnss fun g =>
      if exceeds then g.setFault antenna true (some (s.now + 1000000000)) else g.setFault antenna false none

/-! ### Jamming (R353) -/

/-- `JAM_LEVEL` of an in-band power over the noise floor, 0.1 dB. -/
def jamLevel (p : Int) : Nat := if p < 30 then 0 else if p < 100 then 1 else if p < 200 then 2 else 3

/-- Bands in use: mask over the bands of Table 13-1 for a signal mask of Table 13-2. -/
def bandsOf (mask : Nat) : List Bool :=
  [mask &&& 0xC9 != 0, mask &&& 2 != 0, mask &&& 0x134 != 0]

/-- `JAMMING`: a band in use on A0 at level 2 or more. -/
def jamming (g : GnssSt) : Bool :=
  ((bandsOf (gSignals g.config)).zip g.jamLevels).any (fun x => x.1 && decide (2 ≤ x.2))

/-- The levels and notch filters of an epoch, of the first `bands` bands; the others are not sampled. A band that reaches
level 2 is recorded.
Log 70: DEDUCED, unsafe; log 127: DEDUCED, unsafe. -/
def State.noteJamming (s : State) (bands : Nat) (e : EpochData) : State :=
  let old := s.gnss.jamLevels
  let new := (upto 6).map (fun i => if i < bands then jamLevel (e.powers.getD i (-1000)) else 0)
  let s1 := s.updGnss fun g =>
    { g with
      jamLevels := new
      notches := ((upto bands).map fun i => notchesOf s.now i e.lines g.notches).flatten }
  (upto 6).foldl (fun t i =>
    if old.getD i 0 < 2 ∧ 2 ≤ new.getD i 0 then
      t.raiseGnss 0x0A02 [((i / 3 : Nat) : Int), ((i % 3 : Nat) : Int), (new.getD i 0 : Int)]
    else t) s1

/-! ### Consistency checks (R365, Table 13-10) -/

/-- Length of an exclusion. -/
def exclusionNs : Nat := 60000000000

/-- Exclusions that have run out are gone. -/
def State.dropExclusions (s : State) : State :=
  s.updGnss fun g => { g with exclusions := g.exclusions.filter (fun e => decide (s.now < e.2)) }

/-- A satellite is excluded, or its exclusion goes on (0 power, 1 signals). -/
def State.excludeSat (s : State) (cause : Nat) (key : Nat) : State :=
  let new := (Tbl.find s.gnss.exclusions key).isNone
  let s1 := s.updGnss fun g =>
    { g with
      exclusions := Tbl.put g.exclusions key (s.now + exclusionNs)
      satExclusions := sat32 g.satExclusions (b2n new) }
  if new then s1.raiseGnss 0x0A03 [((key / 64 : Nat) : Int), ((key % 64 : Nat) : Int), (cause : Int)] else s1

/-- A constellation is excluded, or its exclusion goes on. -/
def State.excludeConst (s : State) (c : Nat) (metres : Nat) : State :=
  let key := 256 + c
  let new := (Tbl.find s.gnss.exclusions key).isNone
  let s1 := s.updGnss fun g =>
    { g with
      exclusions := Tbl.put g.exclusions key (s.now + exclusionNs)
      constExclusions := sat32 g.constExclusions (b2n new) }
  if new then s1.raiseGnss 0x0A04 [(c : Int), (metres : Int)] else s1

/-- The power check fails for a satellite: the C/N0 of one of its signals, 0.01 dB-Hz, exceeds `CN0_CEILING`. -/
def powerFails (c : Bytes) (seen : List Bytes) (key : Nat) : Bool :=
  seen.any fun m => mKey m == key && decide (10 * gCeiling c < mCn0 m)

/-- The Dopplers of two signals, scaled to 1,575.42 MHz, differ by more than 5 Hz. -/
def dopplersDiffer (a b : Bytes) : Bool :=
  let fa := carrierKHz (mSignal a)
  let fb := carrierKHz (mSignal b)
  decide (5000 * fa * fb < ((mDoppler a * fb - mDoppler b * fa) * 1575420).natAbs)

/-- The check among the signals of one satellite fails. -/
def signalsFail (c : Bytes) (sats : List SatObs) (seen : List Bytes) (key : Nat) : Bool :=
  let mine := seen.filter fun m => mKey m == key && mLock m
  sats.any (fun o => satKey o.constellation o.sv == key && decide (1000 * gSignalTol c < o.rangeDiff)) ||
  mine.any fun a => mine.any fun b => mAntenna a == mAntenna b && dopplersDiffer a b

/-- Horizontal difference of two solutions, mm, rounded down. -/
def soloDistance (a b : SoloFix) : Nat :=
  isqrt ((a.east - b.east).natAbs * (a.east - b.east).natAbs + (a.north - b.north).natAbs * (a.north - b.north).natAbs)

/-- Two solutions differ by more than `CONST_TOL_M`. -/
def solosDiffer (c : Bytes) (a b : SoloFix) : Bool :=
  let tol := gConstTol c * 1000
  decide (tol * tol < (a.east - b.east).natAbs * (a.east - b.east).natAbs +
    (a.north - b.north).natAbs * (a.north - b.north).natAbs)

/-- The constellation that disagrees with two that agree, with its largest difference in m. -/
def oddOneOut (c : Bytes) (l : List SoloFix) : Option (Nat × Nat) :=
  match l with
  | [x, y, z] =>
    let far (a p q : SoloFix) : Option (Nat × Nat) :=
      if solosDiffer c a p && solosDiffer c a q && !solosDiffer c p q then
        some (a.constellation, max (soloDistance a p) (soloDistance a q) / 1000)
      else none
    ((far x y z).orElse fun _ => far y x z).orElse fun _ => far z x y
  | _ => none

/-- Any two of the solutions differ.
Log 70: DEDUCED, unsafe. -/
def anyDiffer (c : Bytes) : List SoloFix → Bool
  | [] => false
  | a :: r => r.any (fun b => solosDiffer c a b) || anyDiffer c r

/-- The constellations solved alone: those with 5 or more usable satellites. -/
def GnssSt.solosOf (g : GnssSt) (mast : Nat) (seen : List Bytes) (solos : List SoloFix) : List SoloFix :=
  let usable := g.usable mast seen
  (upto 3).filterMap fun k =>
    if 5 ≤ (usable.filter fun x => x / 64 == k).length then solos.find? (·.constellation == k) else none

/-- The checks before the solution, in the order of Table 13-10: the state after them, whether `SPOOF_SUSPECT` is set (and by
which check of the table), and whether position and time are cleared. -/
def State.checkEpoch (s : State) (seen : List Bytes) (e : EpochData) : State × Option Nat × Bool :=
  let c := s.gnss.config
  let keys := sortBy (fun x => x) (seen.map mKey).eraseDups
  let s0 := s.dropExclusions
  let power := keys.filter (powerFails c seen)
  let s1 := power.foldl (State.excludeSat · 0 ·) s0
  let s2 := (keys.filter (signalsFail c e.sats seen)).foldl (State.excludeSat · 1 ·) s1
  let solos := s2.gnss.solosOf s.time.mast seen e.solos
  let odd := oddOneOut c solos
  let clear := odd.isNone && anyDiffer c solos
  let s3 := match odd with
    | some (k, m) => s2.excludeConst k m
    | none => s2
  (s3, if !power.isEmpty then some 0 else if clear then some 2 else none, clear)

/-- `SPOOF_SUSPECT` of an epoch; its start is recorded with the check that set it.
Log 70: DEDUCED, unsafe. -/
def State.noteSpoof (s : State) (by_ : Option Nat) : State :=
  let s1 := s.updGnss fun g => { g with spoof := by_.isSome }
  match by_ with
  | some k => if s.gnss.spoof then s1 else s1.raiseGnss 0x0A05 [(k : Int)]
  | none => s1

/-! ### Time (R366 to R368) -/

/-- `UNCERTAINTY` and `HOLDOVER` of the time status follow the time state; a station on its master's time takes the
master's (15 R405). -/
def State.refreshTime (s : State) : State :=
  if s.time.timeFromMaster then s
  else { s with time := { s.time with
    uncertainty := s.uncertaintyNow
    holdover := decide (2 ≤ s.gnss.timeState) } }

/-- The state is `LOCKED` at this epoch, with its bound (R366, R367). -/
def State.lockTime (s : State) (bound : Nat) : State :=
  let s1 := s.updGnss fun g => { g with timeState := 1, bound := bound, lockedAt := s.now }
  s1.updGnss fun g => { g with u0 := s1.uncertaintyNow }

/-- An offset is accepted (R35, R368, R374, R501). -/
def State.acceptOffset (s : State) (offset rem : Int) (bound : Nat) : State :=
  let step := decide (1000 ≤ rem.natAbs) || s.time.pendingStep.isSome
  let was := s.gnss.timeState
  let s1 := s.updGnss fun g => { g with suspect := false, checkFailing := false, acceptCount := 0 }
  let s2 : State :=
    if step then
      let d := s1.dropManual
      let p : PendingStep := ⟨-offset, s.nextSecond, none⟩
      { d with
        time := { d.time with pendingStep := some p, slewing := false }
        gnss := { d.gnss with slew := 0 } }
    else
      { s1 with
        time := { s1.time with slewing := offset != 0, noTime := false }
        gnss := { s1.gnss with slew := -offset, slewAt := s.now } }
  let s3 := s2.lockTime bound
  if was = 1 then s3 else s3.raiseGnss 0x0A08 [rem, (b2n step : Int)]

/-- The clock check of an epoch has failed: recorded once per run (R374).
Log 74: DEDUCED, unsafe. -/
def State.clockFails (s : State) (rem : Int) : State :=
  let s1 := s.updGnss fun g => { g with suspect := true, checkFailing := true }
  if s.gnss.checkFailing then s1
  else (s1.updGnss fun g => { g with clockFails := sat32 g.clockFails 1 }).raiseGnss 0x0A07 [satS 32 rem]

/-- An epoch without a time solution: `HOLDOVER` from `LOCKED` or `ACCEPTING`, and the count starts again.
Log 75: DEDUCED, unsafe. -/
def State.loseTime (s : State) : State :=
  let s1 := s.updGnss fun g => { g with acceptCount := 0 }
  if s.gnss.timeState = 0 then s1
  else
    let s2 := s1.updGnss fun g => { g with timeState := 2 }
    if s.gnss.timeState = 1 then s2.raiseGnss 0x0A06 [(s2.uncertaintyNow : Int)] else s2

/-- The count of epochs within 100 ns of the first of them (R368).
Log 75: DEDUCED, unsafe. -/
def GnssSt.countEpoch (g : GnssSt) (rem : Int) : GnssSt :=
  if 0 < g.acceptCount ∧ (rem - g.acceptFirst).natAbs ≤ 100 then { g with acceptCount := g.acceptCount + 1 }
  else { g with acceptCount := 1, acceptFirst := rem }

/-- The time state at an epoch: `rate` epochs in a second, `valid` for `TIME_VALID` (R366, R368). On a master's time the
state follows `TIME_VALID` and nothing is corrected.
Log 74: DEDUCED, unsafe. -/
def State.judgeTime (s : State) (rate : Nat) (valid : Bool) (offset : Int) (bound : Nat) : State :=
  let rem := offset + s.unapplied
  let fails := decide (gClockTol s.gnss.config ≤ rem.natAbs)
  let s0 := if valid then s.updGnss (fun g => { g with clockOffset := satS 32 offset }) else s
  let s1 :=
    if s.time.timeFromMaster then
      if valid then
        let t := if fails then s0.clockFails rem
          else s0.updGnss fun g => { g with suspect := false, checkFailing := false }
        t.lockTime bound
      else (s0.loseTime).updGnss fun g => { g with timeState := 2 }
    else if !valid then s0.loseTime
    else if s.gnss.timeState = 0 ∨ !fails then s0.acceptOffset offset rem bound
    else
      let t := (s0.clockFails rem).updGnss fun g => { g.countEpoch rem with timeState := 3 }
      if gAcceptS s.gnss.config * rate ≤ t.gnss.acceptCount then t.acceptOffset offset rem bound else t
  s1.refreshTime

/-! ### Leap seconds (R369, 02 R60, R61) -/

/-- Kinds of message that give the leap-second count: GPS LNAV and CNAV, Galileo I/NAV, BeiDou D1 and B-CNAV. -/
def leapKind (kind : Nat) : Bool := [0, 1, 2, 4, 6, 7, 8].contains kind

/-- The count and the announced change of a message; BeiDou gives its own count, 14 below. -/
def messageLeap (m : NavMessage) : Option (Nat × Option (Bool × Nat)) :=
  if leapKind m.kind then
    (Config.navLeap m.kind m.bits).map fun x => (if m.constellation = 2 then x.1 + 14 else x.1, x.2)
  else none

/-- What the messages of an epoch add to the decoded counts. -/
def learnLeaps (t : Tbl (Nat × Option (Bool × Nat))) (l : List NavMessage) : Tbl (Nat × Option (Bool × Nat)) :=
  l.foldl (fun t m => match messageLeap m with
    | some x => Tbl.put t m.constellation x
    | none => t) t

/-- Two decoded values that differ: in the count, or in what both announce. -/
def leapsClash (a b : Nat × Option (Bool × Nat)) : Bool :=
  a.1 != b.1 || (a.2.isSome && b.2.isSome && a.2 != b.2)

/-- The counts of the first two constellations whose decoded values differ. -/
def leapsDiffer : List (Nat × Option (Bool × Nat)) → Option (Nat × Nat)
  | [] => none
  | a :: r => match r.find? (leapsClash a) with
    | some b => some (a.1, b.1)
    | none => leapsDiffer r

/-- The change announced, if its second is still to come. -/
def State.leapAhead (s : State) (l : List (Nat × Option (Bool × Nat))) : Option (Bool × Nat) :=
  ((l.filterMap (·.2)).filter fun x => decide (s.time.mast / 1000000000 < x.2)).head?

/-- The leap-second values decoded at an epoch: used where the constellations agree, and saved when they change (R356). -/
def State.decodeLeap (s : State) (l : List NavMessage) : State :=
  if !(l.any fun m => (messageLeap m).isSome) then s else
  let s0 := s.updGnss fun g => { g with leaps := learnLeaps g.leaps l }
  let values := s0.gnss.leaps.map (·.2)
  match leapsDiffer values with
  | some (a, b) =>
    if s.gnss.leapConflict then s0
    else (s0.updGnss fun g => { g with leapConflict := true }).raiseGnss 0x0A0A [(a : Int), (b : Int)]
  | none => match values with
    | [] => s0
    | (n, _) :: _ =>
      let next := s.leapAhead values
      let t := { s.time with
        leapSeconds := n
        leapValid := true
        leapDecoded := true
        leapPending := next.isSome
        leapDirection := (match next with
          | some (d, _) => d
          | none => false)
        leapEffective := (match next with
          | some (_, sec) => sec
          | none => 0) }
      let s1 := ({ s0 with time := t }).updGnss fun g => { g with leapConflict := false }
      let same := s.time.leapSeconds == n && s.time.leapPending == t.leapPending &&
        s.time.leapDirection == t.leapDirection && s.time.leapEffective == t.leapEffective
      if same then s1 else s1.saveGnss

/-! ### Solutions (R361, R362) -/

/-- Constellations of a mask. -/
def constCount (mask : Nat) : Nat := b2n (bitOf mask 0) + b2n (bitOf mask 1) + b2n (bitOf mask 2)

/-- At least 4 satellites, one more for each further constellation, and a PDOP of 10 or less. -/
def enoughSats (sats consts pdop : Nat) : Bool := decide (3 + constCount consts ≤ sats) && decide (4 ≤ sats) && decide (pdop ≤ 100)

/-- Log 74: DEDUCED, unsafe. -/
def baselineFits (c : Bytes) (mm : Nat) : Bool :=
  decide (gBaseline c ≤ mm + gBaselineTol c) && decide (mm ≤ gBaseline c + gBaselineTol c)

/-- Common satellites of the baseline: resolved, locked on both antennas and not excluded. -/
def GnssSt.common (g : GnssSt) (seen : List Bytes) (e : EpochData) : List Nat :=
  ((e.resolved.map fun x => satKey x.1 x.2).eraseDups).filter fun k =>
    (lockedOn 0 seen).contains k && (lockedOn 1 seen).contains k && !g.excluded k

/-- `HEADING_VALID` (R362). -/
def headingOk (c : Bytes) (sats baseline : Nat) : Bool := gBaseline c != 0 && decide (5 ≤ sats) && baselineFits c baseline

/-- Heading: azimuth plus `HEADING_OFFSET`, 0 to 35,999,999. -/
def headingOf (c : Bytes) (e : EpochData) : Nat := (((e.azimuth : Int) + gHeadingOffset c) % 36000000).toNat

/-- `HEADING_VALID` of an epoch; a loss is recorded with its cause.
Log 127: DEDUCED, unsafe. -/
def State.noteHeading (s : State) (seen : List Bytes) (e : EpochData) : State :=
  let c := s.gnss.config
  let sats := (s.gnss.common seen e).length
  let ok := headingOk c sats e.baseline
  let s1 := s.updGnss fun g => { g with headingValid := ok }
  if s.gnss.headingValid && !ok && gBaseline c != 0 then s1.raiseGnss 0x0A0B [if sats < 5 then 0 else 1] else s1

/-- Yaw rate, 10^-3 degree/s, from the heading of the epoch before and of this one (R362), a part that is not whole rounded
either way; with no heading at the epoch before, what the tracker has.
Log 18: DESIGN CHOICE, safe. -/
def yawRateOf (last : Option (Nat × Nat)) (rate epoch heading : Nat) (free : Int) : Int :=
  match last with
  | some (e, h) =>
    if e + 1000000000 / rate = epoch then
      let turn := ((heading : Int) - h + 18000000) % 36000000 - 18000000
      wholeOf (turn * rate * fixOne / 100)
    else free
  | none => free

/-- The navigation record of an epoch (Table 13-7); a field whose flag is clear keeps its last valid value. -/
def navRecord (s : State) (epoch number : Nat) (used : List Nat) (e : EpochData) (pos vel time : Bool) : Bytes :=
  let g := s.gnss
  let c := g.config
  let old (off n : Nat) : Bytes := fitTo n ((g.last.drop off).take n)
  let keep (ok : Bool) (off n : Nat) (new : Bytes) : Bytes := if ok then new else old off n
  let head := g.headingValid
  let yaw := yawRateOf g.lastHeading (gRate c) epoch (headingOf c e) e.yawRate
  putLE 8 epoch ++ putLE 4 number ++
  putLE 2 (packFlags [pos, head, vel, time, decide (2 ≤ g.timeState), g.suspect, g.spoof, jamming g,
    !g.exclusions.isEmpty, e.dual]) ++
  putLE 1 used.length ++ zeros 1 ++
  keep pos 0x10 8 (putS 8 e.lat) ++ keep pos 0x18 8 (putS 8 e.lon) ++ keep pos 0x20 4 (putS 4 e.height) ++
  keep pos 0x24 4 (putLE 4 e.hAcc) ++ keep pos 0x28 4 (putLE 4 e.vAcc) ++
  keep head 0x2C 4 (putLE 4 (headingOf c e)) ++ keep head 0x30 4 (putLE 4 e.headAcc) ++ keep head 0x34 4 (putS 4 e.pitch) ++
  keep vel 0x38 4 (putS 4 e.velE) ++ keep vel 0x3C 4 (putS 4 e.velN) ++ keep vel 0x40 4 (putS 4 e.velU) ++
  keep head 0x44 4 (putS 4 yaw) ++ keep time 0x48 4 (putS 4 (satS 32 e.offset)) ++
  putLE 4 s.uncertainty ++ putLE 4 e.baseline ++ putLE 1 (constMask used) ++ zeros 11

/-- The measurement entry of an epoch (Table 13-8). -/
def measEntry (epoch : Nat) (l : List Bytes) : Bytes :=
  putLE 8 epoch ++ putLE 2 l.length ++ zeros 22 ++ (l.map (fitTo 32)).flatten

/-- The epoch that falls on this tick at `rate` epochs a second (R359): Mast time reads it, or a step has just passed
over it.
Log 71: DEDUCED, unsafe. -/
def State.epochDue (s : State) (rate : Nat) : Option Nat :=
  let p := 1000000000 / rate
  let e := s.time.mast / p * p
  let skipped := s.time.timeStep && decide (0 < s.time.lastStep) && decide ((s.time.mast : Int) < e + s.time.lastStep)
  match s.gnss.epochAt with
  | some (e0, t0) => if t0 ≠ s.now ∧ (e = s.time.mast ∨ (skipped ∧ e0 ≠ e)) then some e else none
  | none => if e = s.time.mast ∨ skipped then some e else none

/-- The tracker at an epoch: channels as allocated, their measurements, what is decoded, and the aided ephemerides that the
measured pseudoranges confirm.
Log 69: DESIGN CHOICE, safe. -/
def State.trackEpoch (s : State) (epoch : Nat) (pool : List Channel) (decodes : Bool) (d : EpochData) : State × List Bytes :=
  let seen := measured pool d.measurements
  let close := (d.sats.filter fun o => decide (o.aidError ≤ 300000)).map fun o => satKey o.constellation o.sv
  (s.updGnss fun g =>
    { g with
      epochAt := some (epoch, s.now)
      channels := trackLocks s.now seen pool
      data := if s.domain 10 then
          (if decodes then g.data.learn d else g.data).confirm (close.filter fun k => (lockedOn 0 seen).contains k)
        else {} }, seen)

/-- A valid position of an epoch is kept (R356, R358). -/
def State.keepPosition (s : State) (pos : Bool) (d : EpochData) : State :=
  if pos then s.updGnss fun g =>
    { g with
      positionAt := some s.now
      positionAid := none
      data := if s.domain 10 then { g.data with position := some (d.lat, d.lon, d.height) } else g.data }
  else s

/-- An epoch while D9 is on (R354 to R369): channels, checks, solution, time state, and the record and entry for delivery.
The checks come in the order of Table 13-10. The data of R356 are held in D10.
Log 69: DESIGN CHOICE, safe. -/
def gnssEpoch (d : EpochData) (s : State) : State :=
  let rate := gRate s.gnss.config
  match s.epochDue rate with
  | none => s
  | some e =>
    if !s.domain 9 then s else
    let (s1, seen) := s.trackEpoch e s.allocateFull true d
    let (s2, spoof, clear) := (s1.noteJamming 6 d).checkEpoch seen d
    let s3 := s2.noteSpoof spoof
    let used := s3.gnss.inSolution s.time.mast seen
    let moving := (d.velSats.map fun x => satKey x.1 x.2).eraseDups.filter fun k =>
      (s3.gnss.usable s.time.mast seen).contains k && !s3.gnss.excluded k
    let time := d.timeFix && !used.isEmpty && !clear
    let pos := d.fix && enoughSats used.length (constMask used) d.pdop && !clear
    let vel := enoughSats moving.length (constMask moving) d.velPdop && !clear
    let s4 := ((s3.decodeLeap d.messages).judgeTime rate time d.offset d.timeBound).noteHeading seen d
    let number := e * rate / 1000000000 % 4294967296
    let rec_ := navRecord s4 e number used d pos vel time
    let entry := measEntry e (seen.map s4.gnss.entryOf)
    let late := s.time.mast - e
    let n : NavDelivery :=
      ⟨s.now + gDelay s.gnss.config - late, e + gDelay s.gnss.config, number, ⟨s.grid - late, rec_⟩, entry, seen.length⟩
    (s4.keepPosition pos d).updGnss fun g =>
      { g with
        last := rec_
        lastHeading := if g.headingValid then some (e, headingOf g.config d) else none
        deliveries := g.deliveries ++ [n] }

/-- The tracking of a burst is extended to 36 s: one in every `REFRESH_MIN` minutes (R373). -/
def GnssSt.extends (g : GnssSt) (now : Nat) : Bool :=
  wRefresh g.watch != 0 && decide (g.refreshEnd ≤ now) && decide (g.refreshFrom + wRefresh g.watch ≤ now)

/-- A burst begins at this tick: how long it lasts.
Log 127: DEDUCED, unsafe. -/
def State.beginBurst (s : State) : State :=
  s.updGnss fun g =>
    { g with
      channels := if s.now < g.refreshEnd then g.channels else []
      burstEnd := s.now + wBurst g.watch
      refreshEnd := if g.extends s.now then s.now + 36000000000 else g.refreshEnd
      refreshFrom := if g.extends s.now then s.now else g.refreshFrom }

/-- A watch burst at each whole second of Mast time while D10 is on and D9 is off (R372). Messages are decoded only while a
burst is extended (R373).
Log 69: DESIGN CHOICE, safe. -/
def watchBurst (d : EpochData) (s : State) : State :=
  match s.epochDue 1 with
  | none => s
  | some e =>
    if s.domain 9 || !s.domain 10 then s else
    let s0 := s.beginBurst
    let decodes := decide (s.now < s0.gnss.refreshEnd)
    let (s1, seen) := s0.trackEpoch e s0.allocateWatch decodes d
    let (s2, spoof, clear) := (s1.noteJamming 1 d).checkEpoch seen d
    let s3 := s2.noteSpoof spoof
    let recent := match s.gnss.positionAt with
      | some t => decide (s.now < t + 3600000000000)
      | none => false
    let usable := ((s3.gnss.usable s.time.mast seen).filter fun k => !s3.gnss.excluded k).length
    let time := !clear && (decide (4 ≤ usable) || (decide (1 ≤ usable) && recent))
    let pos := !clear && decide (4 ≤ usable)
    (((if decodes then s3.decodeLeap d.messages else s3).judgeTime 1 time d.offset d.timeBound)).keepPosition pos d

/-! ### Delivery (R360, R363, R364) -/

/-- Ground speed of a record. -/
def groundSpeed (r : Bytes) : Int :=
  let e := s32 r 0x38
  let n := s32 r 0x3C
  vectorLength e n

/-- A notice value of Table 13-9. -/
def noticeValue (r : Bytes) (ring number count : Nat) : Nat :=
  leNat (r.take 8 ++ (r.drop 0x0C).take 2 ++ putLE 1 (if ring = 0 then 0 else number % ring) ++ zeros 1 ++ putLE 2 count ++ zeros 2)

/-- The fusion engine takes a navigation record (12 R326); records too old for any round to come are let go. -/
def State.egoRecord (s : State) (r : NavRec) : State :=
  if s.domain 6 then
    { s with fus := { s.fus with poses := s.fus.poses.filter (fun x => decide (s.grid < x.epoch + 4000000000)) ++ [r] } }
  else s

/-- The signals of one record, stamped with its epoch (R364, Table 13-9). -/
def State.publishSolution (s : State) (n : NavDelivery) : State :=
  let c := s.gnss.config
  let r := n.record.bytes
  let navs := u8 c 0x1F
  let meas := u8 c 0x1E
  let pub (t : State) (code value : Nat) (valid : Bool) : State := t.publishMast code value (u64 r 0) s.grid valid
  let head := flagAt r 0x0C 1
  let s1 := pub s 0x5100 (noticeValue r navs n.number (u8 r 0x0E)) true
  let s2 := pub s1 0x5200 (noticeValue r meas n.number n.count) true
  let s3 := pub s2 0x5300 (u32 r 0x2C) head
  let s4 := pub s3 0x5400 (ofSigned 32 (groundSpeed r)) (flagAt r 0x0C 2)
  pub s4 0x5500 (u32 r 0x44) head

/-- The record and entry with the earliest delivery stamp. -/
def firstDelivery : List NavDelivery → Option NavDelivery
  | [] => none
  | n :: r => match firstDelivery r with
    | some m => if m.due < n.due then some m else some n
    | none => some n

/-- The record and entry that have reached their delivery stamp, the earliest first: rings, tally and signals. -/
def gnssDelivery (s : State) : State :=
  match firstDelivery s.gnss.deliveries with
  | none => s
  | some n =>
    if s.now < n.due ∨ !s.domain 9 then s else
    let c := s.gnss.config
    let r := n.record.bytes
    let navs := u8 c 0x1F
    let meas := u8 c 0x1E
    let pos := flagAt r 0x0C 0
    let s1 := s.updGnss fun g =>
      { g with
        deliveries := g.deliveries.erase n
        ttffMs := (match g.startAt with
          | some t => if pos then min max32 ((s.now - t) / 1000000) else g.ttffMs
          | none => g.ttffMs)
        startAt := if pos then none else g.startAt }
    let s2 := if navs = 0 then s1 else s1.fanWrite (u64 c 0x28 + n.number % navs * 128) r
    let s3 := if meas = 0 then s2 else s2.fanWrite (u64 c 0x20 + n.number % meas * 28672) n.entry
    ((if s.domain 11 then s3.tallyRecord n.record else s3).egoRecord n.record).publishSolution n

/-- An exclusion ends 60 s after its check last failed (R365). -/
def exclusionExpiry (key : Nat) (s : State) : State :=
  s.updGnss fun g => { g with exclusions := g.exclusions.filter (fun e => e.1 != key || decide (s.now < e.2)) }

/-- The data are saved to MRAM every 10 min (R356).
Log 73: DEDUCED, unsafe. -/
def gnssDataSave (s : State) : State :=
  if s.domain 10 && decide (s.gnss.savedAt + 600000000000 ≤ s.now) then s.saveGnss.updGnss fun g => { g with savedAt := s.now } else s

/-! ### Starts (R355, R373) -/

/-- The kind of a start, by what the block holds when D9 switches on (Table 13-3). Watch mode of more than 2 h that refreshed
no ephemerides ends in a warm start.
Log 127: DEDUCED, unsafe. -/
def State.startKind (s : State) : Nat :=
  let d := s.gnss.data
  let watched := match s.gnss.watchFrom with
    | some t => if wRefresh s.gnss.watch = 0 ∧ t + 7200000000000 < s.now then 2 else 1
    | none => 0
  if watched = 2 then 1
  else if watched = 1 ∧ s.gnss.timeState = 1 then 3
  else if d.position.isNone then 0
  else if 5 ≤ d.ephemerides s.time.mast ∧ s.uncertainty ≤ 10000000 then 2
  else if d.almanacs.isEmpty ∨ 2000000000 < s.uncertainty then 0
  else 1

/-- The time within which a start gives the first valid position under open sky, ns (Table 13-3). -/
def startLimit (kind : Nat) : Nat := [45000000000, 30000000000, 3000000000].getD kind 1000000000

/-- The tracker starts with D9. -/
def State.trackerUp (s : State) : State :=
  s.updGnss fun g => { g with startAt := some s.now, startKind := s.startKind, watchFrom := none, channels := [] }

/-- D9 is off: what the tracker held is gone, and with D10 on the watch tracker runs. -/
def GnssSt.trackerDown (g : GnssSt) (now : Nat) : GnssSt :=
  { g with
    deliveries := []
    startAt := none
    channels := []
    notches := []
    jamLevels := []
    watchFrom := some (g.watchFrom.getD now)
    refreshFrom := if g.watchFrom.isSome then g.refreshFrom else now }

/-! ### Time pulses (R370, R371) -/

def State.pulse (s : State) (tp : Nat) : Pulse := if tp = 0 then s.gnss.tp0 else s.gnss.tp1

def State.updPulse (s : State) (tp : Nat) (f : Pulse → Pulse) : State :=
  s.updGnss fun g => if tp = 0 then { g with tp0 := f g.tp0 } else { g with tp1 := f g.tp1 }

/-- The last pulse instant at or before a Mast time, if there is one. -/
def pulseInstant (c : Bytes) (mast : Nat) : Option Nat :=
  if mast < tpOffset c then none else some ((mast - tpOffset c) / tpPeriod c * tpPeriod c + tpOffset c)

/-- A pulse is suppressed in a time state (Table 13-12). -/
def pulseSuppressed (timeState gate : Nat) : Bool :=
  match timeState with
  | 0 => gate != 0
  | 1 => false
  | _ => gate == 2

/-- A pulse begins when Mast time reaches or passes its next instant, unless its gate suppresses it. -/
def timePulseStart (tp : Nat) (s : State) : State :=
  let p := s.pulse tp
  if !tpEnable p.cfg || decide (1 < tp) then s else
  match pulseInstant p.cfg s.time.mast with
  | none => s
  | some i =>
    if i < p.bound then s else
    let s1 := s.updPulse tp fun p => { p with bound := s.time.mast + 1 }
    if pulseSuppressed s.gnss.timeState (tpGate p.cfg) then s1
    else (s1.updPulse tp fun q => { q with endAt := some (s.now + tpWidth p.cfg) }).emit (.pulse tp (!tpLow p.cfg) s.time.mast)

/-- A pulse ends after `WIDTH_NS` ticks. -/
def timePulseEnd (tp : Nat) (s : State) : State :=
  let p := s.pulse tp
  match p.endAt with
  | none => s
  | some t =>
    if s.now < t ∨ 1 < tp then s
    else (s.updPulse tp fun q => { q with endAt := none }).emit (.pulse tp (tpLow p.cfg) s.time.mast)

/-! ### Opcodes (R375, R376) -/

/-- The swap of `GNSS_SET_CONFIG`: a change of the masks or the baseline restarts the heading resolution. -/
def applyGnssConfig (s : State) (e : Staged) : State :=
  let p := e.req.payload
  let c := s.gnss.config
  let restart := gSignals p != gSignals c || gHeading p != gHeading c || gBaseline p != gBaseline c
  s.updGnss fun g => { g with config := p, headingValid := g.headingValid && !restart, lastHeading := if restart then none else g.lastHeading }

/-- Field tests of Table 13-16, in its order. -/
def gnssFields (p : Bytes) : List (Option Nat) :=
  let ring (n : Nat) : Bool := n == 0 || (decide (2 ≤ n) && decide (n ≤ 64))
  [need (gSignals p != 0) 0, need (gHeading p &&& gSignals p == gHeading p) 0, need (gBaseline p == 0 || gHeading p != 0) 2,
   need ([1, 2, 5, 10, 20, 25, 50].contains (gRate p)) 4, need (decide (u8 p 5 ≤ 45)) 5,
   need (decide (5 ≤ u16 p 6) && decide (u16 p 6 ≤ 500)) 6,
   need (gBaseline p == 0 || (decide (300 ≤ gBaseline p) && decide (gBaseline p ≤ 5000))) 8,
   need (decide (5 ≤ gBaselineTol p) && decide (gBaselineTol p ≤ 200)) 0x0A,
   need (decide ((gHeadingOffset p).natAbs ≤ 18000000)) 0x0C, need (decide (u16 p 0x10 ≤ 1000)) 0x10,
   need (decide (gSupply p 0 ≤ 2) && decide (gSupply p 1 ≤ 2)) 0x12,
   need (decide (5 ≤ gSignalTol p) && decide (gSignalTol p ≤ 100)) 0x14,
   need (decide (10 ≤ gConstTol p) && decide (gConstTol p ≤ 500)) 0x16,
   need (decide (100 ≤ gClockTol p) && decide (gClockTol p ≤ 1000)) 0x18,
   need (decide (1 ≤ gAcceptS p) && decide (gAcceptS p ≤ 600)) 0x1A,
   need (decide (450 ≤ gCeiling p) && decide (gCeiling p ≤ 650)) 0x1C,
   need (ring (u8 p 0x1E)) 0x1E, need (ring (u8 p 0x1F)) 0x1F, need (u64 p 0x20 % 4096 == 0) 0x20,
   need (u64 p 0x28 % 4096 == 0) 0x28]

def opGnssSetConfig : OpSpec :=
  { code := 0x0A01
    role := fun _ => 2
    kind := .major
    block := 5
    param := fun r => lengthThen 48 r (gnssFields r.payload)
    check := fun s r z =>
      if regionsFit (gnssRegions r.payload) (s.imageAt z.gridAt) (s.regionsBelow 3 z.gridAt) then none else some (0x40, []) }

/-- The swap of `GNSS_SET_TIME_PULSE`: a pulse in progress runs on; the next instant is found under the new setting. -/
def applyTimePulse (s : State) (e : Staged) : State :=
  s.updPulse e.target fun p => { p with cfg := e.req.payload, bound := max p.bound s.time.mast }

def opGnssSetTimePulse : OpSpec :=
  { code := 0x0A02
    role := fun _ => 2
    kind := .major
    block := 5
    target := fun r => decide (r.target ≤ 1)
    param := fun r =>
      let p := r.payload
      lengthThen 16 r
        [need (decide (tpGate p ≤ 2)) 0,
         need (decide (1000 ≤ tpPeriod p) && decide (tpPeriod p ≤ 1000000000) && 1000000000 % tpPeriod p == 0) 4,
         need (decide (100 ≤ tpWidth p) && decide (tpWidth p + 100 ≤ tpPeriod p)) 8,
         need (decide (tpOffset p < tpPeriod p)) 0x0C] }

/-- The swap of `GNSS_SET_WATCH`. -/
def applyGnssWatch (s : State) (e : Staged) : State := s.updGnss fun g => { g with watch := e.req.payload }

def opGnssSetWatch : OpSpec :=
  { code := 0x0A03
    role := fun _ => 2
    kind := .major
    block := 5
    param := fun r =>
      let p := r.payload
      lengthThen 8 r
        [need (decide (20 ≤ u16 p 0) && decide (u16 p 0 ≤ 200)) 0, need (decide (8 ≤ u8 p 2) && decide (u8 p 2 ≤ 48)) 2,
         need (u8 p 3 == 0 || (decide (10 ≤ u8 p 3) && decide (u8 p 3 ≤ 240))) 3] }

/-! ### Aiding (R357, R358) -/

/-- The aiding records of a payload behind its head, with their offsets; none: a length exceeds the space behind it.
The second part is what is left over. -/
def aidRecords : Nat → Nat → Bytes → Option (List (Nat × Bytes) × Bytes)
  | 0, _, p => some ([], p)
  | n + 1, off, p =>
    let size := 8 + (u16 p 4 + 7) / 8 * 8
    if p.length < 8 ∨ p.length < size then none
    else match aidRecords n (off + size) (p.drop size) with
      | some (l, rest) => some ((off, p.take size) :: l, rest)
      | none => none

/-- Log 72: DEDUCED, unsafe. -/
def aidsOf (p : Bytes) : Option (List (Nat × Bytes) × Bytes) := aidRecords (u16 p 0) 4 (p.drop 4)

/-- Bytes of the message bits of a kind (Table 13-6). -/
def aidMessageBytes (kind : Nat) : Nat :=
  match kind with
  | 2 => 16
  | 3 => 31
  | 6 => 75
  | 7 => 33
  | 8 => 36
  | _ => 38

/-- Field tests of a record head (Table 13-4).
Log 72: DEDUCED, unsafe. -/
def aidFields (x : Nat × Bytes) : List (Option Nat) :=
  let b := x.2
  let nav := u8 b 0 == 3
  [need (decide (1 ≤ u8 b 0) && decide (u8 b 0 ≤ 3)) x.1,
   need (if nav then decide (u8 b 1 ≤ 2) else u8 b 1 == 255) (x.1 + 1),
   need (if nav then decide (u8 b 2 ≤ 63) else u8 b 2 == 0) (x.1 + 2),
   need (if nav then decide (u8 b 3 ≤ 8) else u8 b 3 == 0) (x.1 + 3),
   need (nav || u16 b 4 == (if u8 b 0 = 1 then 8 else 16)) (x.1 + 4)]

/-- One record is accepted or rejected (R358). -/
def takeAid (s : State) (b : Bytes) : State :=
  let ok (t : State) : State := t.updGnss fun g => { g with aidsAccepted := sat16 g.aidsAccepted 1 }
  let bad (t : State) : State := t.updGnss fun g => { g with aidsRejected := sat16 g.aidsRejected 1 }
  match u8 b 0 with
  | 1 => if s.time.noTime then bad s else ok (s.updGnss fun g => { g with timeAid := some (u32 b 8) })
  | 2 => ok (s.updGnss fun g => { g with positionAid := some (s32 b 8, s32 b 12, s32 b 16, u32 b 20) })
  | _ =>
    let bits := (b.drop 16).take (u16 b 4 - 8)
    let m : NavMessage := ⟨u8 b 1, u8 b 2, u8 b 3, u32 b 8, bits⟩
    if u16 b 4 ≠ 8 + aidMessageBytes m.kind ∨ !Config.navMessageOk m.constellation m.sv m.kind bits ∨
        !Config.navMessageValid m.constellation m.sv m.kind m.tow bits (s.time.mast / 1000000000) then bad s
    else
      match s.gnss.data.messages.find? (fun h => h.own && sameIssue h.msg m) with
      | some h =>
        if h.msg.bits = bits then ok s
        else (bad (s.updGnss fun g => { g with disagreements := sat32 g.disagreements 1 })).raiseGnss 0x0A09
          [(m.constellation : Int), (m.sv : Int), (m.kind : Int)]
      | none => ok (s.updGnss fun g => { g with data := g.data.hold ⟨m, false, false⟩ })

/-- Log 72: DEDUCED, unsafe. -/
def opGnssAid : OpSpec :=
  { code := 0x0A04
    block := 5
    exceeds := fun r => decide (2 ≤ r.payload.length) && (aidsOf r.payload).isNone
    param := fun r =>
      if r.payload.length < 4 then some 0x0010
      else match aidsOf r.payload with
        | none => some 0x0020
        | some (l, rest) => if rest.isEmpty then firstFail (l.map aidFields).flatten else some 0x0020
    check := fun s _ _ => if s.domain 9 then none else some (0x41, [])
    run := fun s r =>
      let l := match aidsOf r.payload with
        | some (l, _) => l
        | none => []
      let z := l.foldl (fun t b => takeAid t b.2) (s.updGnss fun g => { g with aidsAccepted := 0, aidsRejected := 0 })
      let acc := z.gnss.aidsAccepted
      let rej := z.gnss.aidsRejected
      (z.updGnss fun g =>
        { g with aidsAccepted := sat16 s.gnss.aidsAccepted acc, aidsRejected := sat16 s.gnss.aidsRejected rej },
       some (stOk, putLE 2 acc ++ putLE 2 rej)) }

/-- Log 73: DEDUCED, unsafe. -/
def opGnssResetData : OpSpec :=
  { code := 0x0A05
    role := fun _ => 1
    block := 5
    param := needLength 4
    run := fun s r =>
      let b (i : Nat) : Bool := flagAt r.payload 0 i
      (s.updGnss fun g =>
        { g with
          positionAt := if b 2 then none else g.positionAt
          exclusions := if b 3 then [] else g.exclusions
          data := { g.data with
            messages := if b 0 then [] else g.data.messages
            almanacs := if b 1 then [] else g.data.almanacs
            position := if b 2 then none else g.data.position } },
       some (stOk, [])) }

/-- Table 13-19. -/
def gnssStatus (s : State) : Bytes :=
  let g := s.gnss
  putLE 1 g.timeState ++
  putLE 1 (packFlags [g.a0Open, g.a1Open, g.a0Fault, g.a1Fault, s.domain 9, s.time.pendingStep.isSome]) ++
  putLE 2 (if s.domain 9 ∨ s.now < max g.burstEnd g.refreshEnd then g.channels.length else 0) ++
  putLE 1 (min (g.data.ephemerides s.time.mast) 255) ++ zeros 1 ++
  putLE 2 ((upto 6).foldr (fun i v => g.jamLevels.getD i 0 + 4 * v) 0) ++ putS 4 g.clockOffset ++
  putLE 4 s.uncertainty ++ putLE 4 g.acceptCount ++
  putLE 4 g.satExclusions ++ putLE 4 g.constExclusions ++ putLE 4 g.clockFails ++ putLE 2 g.aidsAccepted ++
  putLE 2 g.aidsRejected ++ putLE 4 g.disagreements ++ putLE 4 g.ttffMs ++ zeros 4

def opGnssGetStatus : OpSpec :=
  { code := 0x0A06
    block := 5
    logs := false
    run := fun s _ => (s, some (stOk, gnssStatus s)) }

def opGnssClearCounters : OpSpec :=
  { code := 0x0A07
    role := fun _ => 1
    block := 5
    run := fun s _ =>
      (s.updGnss fun g =>
        { g with
          satExclusions := 0
          constExclusions := 0
          clockFails := 0
          aidsAccepted := 0
          aidsRejected := 0
          disagreements := 0 },
       some (stOk, [])) }

/-! ### Meanings -/

def execGnssDelivery (dt : Nat) (s : State) : Host.Outcome State Fault Refusal :=
  runCmd dt s gnssDelivery
def execExclusionExpiry (dt : Nat) (key : Nat) (s : State) : Host.Outcome State Fault Refusal :=
  runCmd dt s (exclusionExpiry key)
def execAntennaOpen (dt : Nat) (antenna : Nat) (open_ : Bool) (current : Nat) (s : State) :
    Host.Outcome State Fault Refusal :=
  runCmd dt s (antennaOpen antenna open_ current)
def execAntennaSupplyFault (dt : Nat) (antenna current : Nat) (s : State) : Host.Outcome State Fault Refusal :=
  runCmd dt s (antennaSupplyFault antenna current)
def execAntennaSupplyRetry (dt : Nat) (antenna : Nat) (exceeds : Bool) (s : State) : Host.Outcome State Fault Refusal :=
  runCmd dt s (antennaSupplyRetry antenna exceeds)
def execTimePulseStart (dt : Nat) (tp : Nat) (s : State) : Host.Outcome State Fault Refusal :=
  runCmd dt s (timePulseStart tp)
def execTimePulseEnd (dt : Nat) (tp : Nat) (s : State) : Host.Outcome State Fault Refusal :=
  runCmd dt s (timePulseEnd tp)
def execGnssDataSave (dt : Nat) (s : State) : Host.Outcome State Fault Refusal :=
  runCmd dt s gnssDataSave

end Sys2Proof.Machine
end

