-- ==== Sys2Proof/Machine/ImageCheck.lean ====
section
/-!
DEFINITION. The load checks of a schedule image (03 R89), in their order. Each check answers the image offset of the
entry that fails.
-/
namespace Sys2Proof.Machine
open Sys2Proof

/-- One test: the offset where it fails. -/
def failAt (ok : Bool) (off : Nat) : Option Nat := if ok then none else some off

/-- The first failure of a list. -/
def firstAt : List (Option Nat) → Option Nat
  | [] => none
  | some o :: _ => some o
  | none :: r => firstAt r

/-- The first failure of a list of entries, each tested with its number. -/
def firstEntry {α : Type} (l : List α) (off size : Nat) (ok : Nat → α → Bool) : Option Nat :=
  firstAt ((List.zip (upto l.length) l).map (fun x => failAt (ok x.1 x.2) (off + size * x.1)))

def within (v lo hi : Nat) : Bool := decide (lo ≤ v) && decide (v ≤ hi)

/-! ### 0x0001 to 0x0003: header, CRC, versions -/

/-- The header locates the sections (R89, 1): `n` is the length given at the begin. -/
def headerError (d : Bytes) (n : Nat) : Option Nat :=
  firstAt
    [failAt (u32 d 0 == 0x54533634) 0, failAt (u16 d 4 == 1) 4, failAt (within (u16 d 6) 1 64) 6, failAt (u32 d 8 == n) 8,
     failAt (within (u32 d 0x20) 48 (n - 16) && decide (u32 d 0x20 + 16 * u16 d 6 ≤ n)) 0x20]

/-- `IMAGE_CRC` against the begin and the loaded bytes. -/
def crcError (d : Bytes) (crc : Nat) : Option Nat :=
  failAt (u32 d 0x24 == crc && crc32c (setBytes d 0x24 (zeros 4)) == crc) 0x24

def versionError (d : Bytes) : Option Nat :=
  firstAt [failAt (u32 d 0x10 == 0x00010000) 0x10, failAt (u16 d 0x14 == 0x41) 0x14]

/-! ### 0x0004: section rules (R64, R65) -/

/-- Entry size of a section type; 0: a byte stream or entries of varying size. -/
def entrySize (type : Nat) : Nat :=
  match type with
  | 1 | 2 | 5 | 6 | 8 | 11 => 16
  | 3 => 48
  | 7 => 2
  | 10 => 32
  | 12 => 4128
  | _ => 0

def requiredSections : List Nat := [1, 2, 3, 4, 5, 6, 7, 8, 10]

/-- The initial commands of a section take exactly its bytes. -/
def initsFit : Nat → Bytes → Bool
  | 0, b => b.length == 0
  | n + 1, b =>
    let k := 8 + (u16 b 4 + 7) / 8 * 8
    decide (8 ≤ b.length) && decide (k ≤ b.length) && initsFit n (b.drop k)

/-- The length of a section agrees with its count. -/
def countFits (d : Bytes) (x : Section) : Bool :=
  if x.type = 4 then x.count == 0
  else if x.type = 9 then initsFit x.count ((d.drop x.offset).take x.length)
  else if x.type = 12 then x.count == 1 && x.length == 4128
  else x.count * entrySize x.type == x.length

/-- A part of the image: start, end, the most padding before it, the offset named when it fails. -/
structure Part where
  start : Nat
  stop  : Nat
  pad   : Nat
  at_   : Nat
deriving DecidableEq, Repr

/-- The parts in order of start follow each other without overlap or gap, from `pos` to the end `n`. An empty section takes no
byte; there may be padding before it all the same. -/
def coverError (n at_ : Nat) : Nat → List Part → Option Nat
  | pos, [] => failAt (pos == n) at_
  | pos, p :: r =>
    if p.start = p.stop ∧ p.start ≤ pos then coverError n at_ pos r
    else if pos ≤ p.start ∧ p.start ≤ pos + p.pad then coverError n at_ p.stop r
    else some p.at_

/-- Log 98: DEDUCED, unsafe. -/
def sectionError (d : Bytes) : Option Nat :=
  let n := u32 d 8
  let t := u32 d 0x20
  let l := sections d
  let seen (i : Nat) (x : Section) : Bool := (l.take i).any (fun y => y.type == x.type)
  let ok (i : Nat) (x : Section) : Bool :=
    within x.type 1 12 && !seen i x && x.offset % 8 == 0 && decide (x.offset + x.length ≤ n) && countFits d x
  let parts := ⟨t, t + 16 * l.length, 0, 0x20⟩ :: ((List.zip (upto l.length) l).map (fun x =>
    (⟨x.2.offset, x.2.offset + x.2.length, 7, t + 16 * x.1⟩ : Part)))
  firstAt
    [firstEntry l t 16 ok, failAt (requiredSections.all (fun k => l.any (fun x => x.type == k))) t,
     coverError n t 48 (sortBy (fun p => p.start * 8589934592 + p.stop) parts)]

/-! ### 0x0005: ranges -/

/-- Image offset of the section of a type. -/
def sectionAt (d : Bytes) (type : Nat) : Nat :=
  match (sections d).find? (fun x => x.type == type) with
  | some x => x.offset
  | none => 0

/-- Image offsets of the entries of the initial-command section. -/
def initOffsets (off : Nat) : List InitCmd → List Nat
  | [] => []
  | c :: r => off :: initOffsets (off + 8 + (c.payload.length + 7) / 8 * 8) r

/-- Log 99: DEDUCED, unsafe. -/
def slotRange (p : Nat) (e : SlotEntry) : Bool :=
  decide (e.start < p) && decide (e.repeat_ ≤ p) && within e.length 1 1000 && (decide (e.owner ≤ 4095) || e.owner == 65535)

/-- Log 99: DEDUCED, unsafe. -/
def coreRange (p : Nat) (e : SlotEntry) : Bool :=
  slotRange p e && within e.kind 1 4 && decide (e.resource ≤ 11) && (e.kind == 1 || e.owner == 65535)

def taskRange (objects : Nat) (t : TaskDesc) : Bool :=
  decide (t.index ≤ 4095) && within t.objectLength 1 objects && decide (t.entryOffset < t.objectLength) &&
  within t.budget 1 9999000 && decide (t.compute ≤ t.budget) && decide (t.readCount ≤ 1024) && decide (t.writeCount ≤ 1024) &&
  decide (t.windowCount ≤ 8) && decide (t.mailDepth ≤ 16) && decide (t.mailSends ≤ 16) && decide (t.mailBytes ≤ 65536)

def windowRange (w : Window) : Bool := w.base % 4096 == 0 && w.size % 4096 == 0 && within w.size 4096 2147483648

/-- A constant has no stale limit (R72). -/
def signalRange (x : SigDef) : Bool := within x.type 1 8 && within x.source 1 5 && (x.source != 5 || x.stale == 0)

def transferRange (p : Nat) (t : Transfer) : Bool :=
  decide (t.start < p) && decide (t.repeat_ ≤ p) && (t.repeat_ == 0 || p % t.repeat_ == 0) && decide (t.offset ≤ 9400) &&
  within t.receiver 1 11 && decide (t.signal ≤ 8191)

/-- Log 59: DEDUCED, unsafe. -/
def busRange (b : Bytes) : Bool :=
  decide (u8 b 0 ≤ 11) && decide (1 ≤ u32 b 4) && within (u32 b 8) 1000 100000 &&
  (u32 b 12 == 0 || within (u32 b 12) 200 100000)

/-- The cascade table entry (15 R399), checked against a station number (15 R400). -/
def cascadeRange (c : Bytes) (station : Nat) : Bool :=
  let masters := cascadeMaster c :: ((upto 7).map (fun i => successor c (i + 1))).filter (fun v => v != 65535)
  let routes := (upto 4096).map (fun d => route c d)
  decide (1 ≤ cascadeAbsent c) && ((upto 7).all fun i => let v := successor c (i + 1); decide (v ≤ 4095) || v == 65535) &&
  route c station == 255 && routes.all (fun r => r == 255 || portEnabled c r) && masters.eraseDups.length == masters.length

/-- `station` is the number in force (15 R400).
Log 98: DEDUCED, unsafe. -/
def rangeError (d : Bytes) (station : Nat) : Option Nat :=
  let i := readImage d
  let p := i.majorSlots
  let objects := match sectionOf d 4 with
    | some (b, _) => b.length
    | none => 0
  let sect (_ : Nat) (x : Section) : Bool := decide (x.length ≤ u32 d 8) && decide (x.count ≤ 16777216)
  firstAt
    [failAt (within (u32 d 8) 48 2147483648) 8, failAt (within p 100 100000 && p % 100 == 0) 0x0C,
     firstEntry (sections d) (u32 d 0x20) 16 sect,
     firstEntry i.core (sectionAt d 1) 16 (fun _ => coreRange p),
     firstEntry i.block (sectionAt d 2) 16 (fun _ e => slotRange p e && within e.resource 1 11),
     firstEntry i.tasks (sectionAt d 3) 48 (fun _ => taskRange objects),
     firstEntry i.windows (sectionAt d 5) 16 (fun _ => windowRange),
     firstEntry i.signals (sectionAt d 6) 16 (fun k x => signalRange x && decide (k < 65536)),
     firstEntry i.transfers (sectionAt d 8) 16 (fun _ => transferRange p),
     firstAt ((List.zip (initOffsets (sectionAt d 9) i.inits) i.inits).map
       (fun x => failAt (decide (x.2.payload.length ≤ 4064)) x.1)),
     firstEntry i.bus (sectionAt d 11) 16 (fun _ => busRange),
     match i.cascade with
       | some c => failAt (cascadeRange c station) (sectionAt d 12)
       | none => none]

/-! ### 0x0006: overlap and fit (R66, R70) -/

/-- The runs of an entry repeat within the major period and do not cross its end.
Log 99: DEDUCED, unsafe. -/
def runsFit (p : Nat) (e : SlotEntry) : Bool :=
  if e.repeat_ = 0 then decide (e.start + e.length ≤ p)
  else decide (e.length ≤ e.repeat_) && p % e.repeat_ == 0 &&
    decide (e.start + (p - 1 - e.start) / e.repeat_ * e.repeat_ + e.length ≤ p)

/-- Two entries of one core share a slot. -/
def shareSlot (p : Nat) (e f : SlotEntry) : Bool := e.resource == f.resource && (upto p).any (fun n => e.holds n && f.holds n)

/-- The budget of the entry's task fits its runs. -/
def budgetFits (i : Image) (e : SlotEntry) : Bool :=
  e.kind != 1 || match i.task e.owner with
    | some t => decide (t.budget + 1000 ≤ e.length * 10000)
    | none => true

def fitError (d : Bytes) : Option Nat :=
  let i := readImage d
  let p := i.majorSlots
  firstAt
    [firstEntry i.core (sectionAt d 1) 16 (fun k e =>
      runsFit p e && !(i.core.take k).any (shareSlot p e) && budgetFits i e),
     firstEntry i.block (sectionAt d 2) 16 (fun _ => runsFit p)]

/-! ### 0x0007: reservations (R67, R68) -/

/-- A core holds its self-test slots, with a run of at least eight; adjacent entries may make it up.
Log 62: DEDUCED, unsafe. -/
def selftestReserved (i : Image) (core : Nat) : Bool :=
  let slots := (upto i.majorSlots).filter (fun n => i.selftest core n)
  decide (max 10 (i.majorSlots / 50) ≤ slots.length) &&
  (upto i.majorSlots).any (fun n => decide (n + 8 ≤ i.majorSlots) && (upto 8).all (fun k => i.selftest core (n + k)))

/-- An `INTERPRETER` run lies in a slot. -/
def Image.interpreter (i : Image) (n : Nat) : Bool := i.core.any (fun e => e.kind == 3 && e.holds n)

/-- Every 100 slots on end, round the major boundary, hold an `INTERPRETER` slot. -/
def interpreterReserved (i : Image) : Bool :=
  (upto i.majorSlots).all fun n => (upto 100).any (fun k => i.interpreter ((n + k) % i.majorSlots))

/-- The heartbeat lies in slot h of every hundred, and in no other.
Log 20: PRESUMED, unsafe. -/
def heartbeatReserved (i : Image) : Bool :=
  let hb (n : Nat) : Bool := i.transfers.any (fun t => t.receiver == 11 && t.item == 1 && t.holds n)
  (upto 100).any fun h => (upto i.majorSlots).all (fun n => hb n == (n % 100 == h))

/-- The health report goes once per major period.
Log 20: PRESUMED, unsafe. -/
def healthReserved (i : Image) : Bool :=
  let sends := (i.transfers.filter (fun t => t.receiver == 11 && t.item == 2)).map fun t =>
    ((upto i.majorSlots).filter (fun n => t.holds n)).length
  sumNat sends == 1

/-- Log 98: DEDUCED, unsafe. -/
def reservationError (d : Bytes) : Option Nat :=
  let i := readImage d
  firstAt
    [failAt ((upto 12).all (selftestReserved i) && interpreterReserved i) (sectionAt d 1),
     failAt (heartbeatReserved i && healthReserved i) (sectionAt d 8)]

/-! ### 0x0008: references -/

/-- Type and number of indexes, from the first one, of each block item code (07 R209, 08 R235, 09 R255, 10 R281, 11 R312,
12 R344, 13 R364, 14 R388). -/
def blockItems : List (Nat × Nat × Nat × Nat) :=
  [(0x11, 2, 0, 104), (0x12, 2, 0, 104), (0x13, 2, 0, 104), (0x14, 1, 0, 104), (0x15, 2, 0, 104), (0x16, 3, 0, 104),
   (0x17, 2, 0, 104), (0x18, 2, 0, 4), (0x19, 2, 0, 4), (0x1A, 2, 0, 1), (0x1B, 1, 0, 1),
   (0x21, 2, 0, 96), (0x22, 3, 0, 96), (0x23, 3, 96, 24), (0x24, 5, 96, 24), (0x25, 2, 96, 24), (0x26, 2, 120, 4),
   (0x27, 2, 128, 8), (0x28, 2, 128, 8), (0x29, 3, 0, 124), (0x29, 3, 128, 8)] ++
  [(0x31, 8, 0, 8), (0x32, 8, 0, 8), (0x33, 8, 0, 32), (0x41, 8, 0, 8), (0x51, 8, 0, 1), (0x52, 8, 0, 1), (0x53, 2, 0, 1),
   (0x54, 2, 0, 1), (0x55, 2, 0, 1), (0x71, 3, 0, 12), (0x72, 3, 0, 12), (0x73, 3, 0, 12)]

/-- A shared block publishes this item code with this type.
Log 99: DEDUCED, unsafe. -/
def blockItemOk (index type : Nat) : Bool :=
  blockItems.any fun x => x.1 == index / 256 && x.2.1 == type && decide (x.2.2.1 ≤ index % 256) &&
    decide (index % 256 < x.2.2.1 + x.2.2.2)

/-- A block slot entry names an operation of its block: a round of the fusion engine (12 R334) or a write slot of a camera port
(10 R287); no other block has any.
Log 99: DEDUCED, unsafe. -/
def blockOpOk (e : SlotEntry) : Bool :=
  match e.resource with
  | 3 => within e.owner 0x10 0x17
  | 4 => decide (e.owner ≤ 7) && e.length == 1
  | _ => false

/-- A transfer's receiver takes its item, for a resource that it has, with signals of the types it needs (06 R162, 07 R201,
12 R332, 13 R375, 14 R381, 15 R401).
Log 99: DEDUCED, unsafe. -/
def transferOk (i : Image) (t : Transfer) : Bool :=
  let type (k : Nat) : Nat := match i.sig (i.localId (t.signal + k)) with
    | some x => x.type
    | none => 0
  if t.receiver = 11 ∧ (t.item = 1 ∨ t.item = 2) then true
  else type 0 != 0 &&
  match t.receiver with
  | 1 => decide (t.resource ≤ 103) && (t.item != 1 || type 0 == 2)
  | 2 => t.item != 0x0101 || type 0 == 2
  | 3 => decide (t.resource ≤ 7)
  | 4 => type 0 == 2 && within t.item 0x0100 0x010F && decide (t.resource ≤ 15)
  | 5 => false
  | 6 => false
  | 7 => decide (t.resource ≤ 11) && (!within t.item 0x1000 0x14FF || (upto (canSignals 7 t.item)).all (fun k => type k == 8))
  | 8 => decide (t.resource ≤ 3) &&
    (!within t.item 0x8000 0x9FFF || (t.resource == 0 && t.item == 0x8000 + t.signal))
  | 9 => decide (t.resource ≤ 3)
  | _ => true

def signalOk (i : Image) (k : Nat) (x : SigDef) : Bool :=
  !(i.signals.take k).any (fun y => y.id == x.id) &&
  match x.source with
  | 1 => (i.task x.index).isSome
  | 2 => decide (x.index ≤ 511)
  | 3 => blockItemOk x.index x.type
  | _ => true

def taskOk (i : Image) (objects k : Nat) (t : TaskDesc) : Bool :=
  !(i.tasks.take k).any (fun u => u.index == t.index) && decide (t.objectOffset + t.objectLength ≤ objects) &&
  decide (t.readList + t.readCount ≤ i.lists.length) && decide (t.writeList + t.writeCount ≤ i.lists.length) &&
  decide (t.windowFirst + t.windowCount ≤ i.windows.length)

/-- Cost annotations of an image (R77). -/
def costs (d : Bytes) : List Bytes := sectionEntries d 10 32 id

/-- Log 98: DEDUCED, unsafe. -/
def referenceError (d : Bytes) : Option Nat :=
  let i := readImage d
  let c := costs d
  let objects := match sectionOf d 4 with
    | some (b, _) => b.length
    | none => 0
  firstAt
    [firstEntry i.core (sectionAt d 1) 16 (fun _ e => e.kind != 1 || (i.task e.owner).isSome),
     firstEntry i.block (sectionAt d 2) 16 (fun _ => blockOpOk),
     firstEntry i.tasks (sectionAt d 3) 48 (taskOk i objects),
     firstEntry i.signals (sectionAt d 6) 16 (signalOk i),
     firstEntry i.lists (sectionAt d 7) 2 (fun _ v => (i.sig (i.localId v)).isSome),
     firstEntry i.transfers (sectionAt d 8) 16 (fun _ => transferOk i),
     firstEntry c (sectionAt d 10) 32 (fun k b =>
       (i.task (u16 b 0)).isSome && !(c.take k).any (fun x => u16 x 0 == u16 b 0)),
     failAt (i.tasks.all (fun t => c.any (fun b => u16 b 0 == t.index))) (sectionAt d 10),
     firstEntry i.bus (sectionAt d 11) 16 (fun k b => !(i.bus.take k).any (fun x => u8 x 0 == u8 b 0))]

/-! ### 0x0009 and 0x000A: annotations (R77), initial commands (R76) -/

def costError (d : Bytes) : Option Nat :=
  let i := readImage d
  firstEntry (costs d) (sectionAt d 10) 32 fun _ b =>
    match i.task (u16 b 0) with
    | some t => u32 b 0x14 == u32 b 4 + u32 b 8 + u32 b 12 + u32 b 16 && decide (u32 b 0x14 ≤ t.budget) && u32 b 4 == t.compute
    | none => false

/-- The first check of R89 that an image fails: `ERROR_CODE` and `ERROR_OFFSET`. `immediate` tells the opcodes of swap
kind immediate,
`station` is the number in force (15 R400).
Log 98: DEDUCED, unsafe. -/
def imageError (b : Bank) (station : Nat) (immediate : Nat → Bool) : Option (Nat × Nat) :=
  let d := b.data
  let inits := (readImage d).inits
  let immediateError := firstAt ((List.zip (initOffsets (sectionAt d 9) inits) inits).map
    (fun x => failAt (!immediate x.2.opcode) x.1))
  let tests := [headerError d b.length, crcError d b.crc, versionError d, sectionError d, rangeError d station, fitError d,
    reservationError d, referenceError d, costError d, immediateError]
  ((List.zip (upto 10) tests).find? (fun x => x.2.isSome)).map (fun x => (x.1 + 1, x.2.getD 0))

end Sys2Proof.Machine
end

