-- ==== Sys2Proof/Machine/Can.lean ====
section
/-!
DEFINITION. The CAN ports (14), second part: bus events, received frames, detection, recovery and the opcodes.
-/
namespace Sys2Proof.Machine
open Sys2Proof

/-! ### Sending (R384, R389) -/

/-- A frame as the model records it leaving: identifier, flags, data. -/
def frameBytes (f : CanFrame) : Bytes :=
  putLE 4 f.identifier ++ putLE 1 (f.dlc + 16 * packFlags [f.ide, f.rtr, f.fdf, f.brs]) ++ putLE 1 (b2n f.esi) ++ f.data

/-- The head frame's transmission ends with success: it leaves the queue and TEC goes down by 1.
Log 87: DESIGN CHOICE, safe. -/
def canTxComplete (p : Nat) (s : State) : State :=
  let c := s.canPort p
  match c.queue with
  | [] => s
  | t :: rest =>
    if !s.domain 12 || !(c.state == 2 || c.state == 3) || decide (s.now < t.at_) then s else
    let s1 := s.updCan p fun c =>
      { c with
        queue := rest
        tec := c.tec - 1
        txFrames := sat32 c.txFrames 1
        maxLatency := min max32 (max c.maxLatency (s.now - t.at_)) }
    ((s1.emit (.can p (frameBytes { t.frame with esi := t.frame.fdf && c.state == 3 }))).canConfine p).canFrameEnd p

/-- The dwell on a candidate ends: the port goes to the next (R390). -/
def State.nextDwell (s : State) (p : Nat) : State :=
  s.updCan p fun c => { c with candidate := nextCandidate (cCandidates c.cfg) c.candidate, good := 0, since := s.now }

/-- The error counters after an error (ISO 11898-1).
Log 88: DEDUCED, unsafe. -/
def CanPort.count (c : CanPort) (e : BusError) : CanPort :=
  match e with
  | .transmit => { c with tec := c.tec + 8 }
  | .receive => { c with rec_ := min 255 (c.rec_ + 1) }
  | .receiveEight => { c with rec_ := min 255 (c.rec_ + 8) }
  | .transmitUncounted | .arbitrationLost => c

/-- An error on the bus, or an arbitration that is lost (R384, R389, R390).
Log 87: DESIGN CHOICE, safe. -/
def canBusError (p : Nat) (e : BusError) (s : State) : State :=
  let c := s.canPort p
  if !s.domain 12 || decide (11 < p) || c.state == 0 || c.state == 1 || c.off then s else
  let lost := e == .arbitrationLost
  let s1 := s.updCan p fun c =>
    { c with errors := sat32 c.errors (b2n (!lost)), arbLost := sat32 c.arbLost (b2n lost) }
  if c.state = 7 then (if lost then s1 else s1.nextDwell p)
  else if c.state = 6 then s1.canFrameEnd p
  else
    let s2 := (s1.updCan p fun c => c.count e).canConfine p
    let s3 := s2.canBusOff p
    if lost then s3 else s3.canFrameEnd p

/-! ### Receiving (R386 to R388) -/

/-- Filter key of a frame. -/
def frameKey (f : CanFrame) : Nat := f.identifier + 536870912 * b2n f.ide + 1073741824 * b2n f.rtr

/-- A filter matches a key. -/
def filterMatches (key : Nat) (f : Bytes) : Bool :=
  let mask := u32 f 4 % 2147483648
  u8 f 8 != 0 && key &&& mask == u32 f 0 &&& mask

/-- The deciding filter and its action; the default is 0xFF (R386). -/
def CanPort.judge (c : CanPort) (f : CanFrame) : Nat × Nat :=
  match (upto 64).find? (fun i => filterMatches (frameKey f) (Tbl.getD c.filters i (zeros 16))) with
  | some i => (i, u8 (Tbl.getD c.filters i (zeros 16)) 8)
  | none => (255, if cDefault c.cfg then 2 else 3)

/-- A receive queue entry (Table 14-6). -/
def rxEntry (f : CanFrame) (stamp filter k : Nat) : Bytes :=
  putLE 8 stamp ++ putLE 4 f.identifier ++ putLE 1 (f.dlc + 16 * packFlags [f.ide, f.rtr, f.fdf, f.brs]) ++
  putLE 1 (b2n f.esi) ++ putLE 1 filter ++ zeros 1 ++ putLE 4 k ++ zeros 12 ++ fitTo 64 (f.data.take (frameSize f))

/-- A frame goes through the filters into RXQ0, RXQ1 or nowhere. -/
def State.fileFrame (s : State) (p : Nat) (f : CanFrame) : State :=
  let c := s.canPort p
  let (filter, action) := c.judge f
  if action = 3 then s.updCan p fun c => { c with rejected := sat32 c.rejected 1 }
  else
    let q := action - 1
    let k := if q = 0 then c.rx0 else c.rx1
    let n := (k + 1) % 4294967296
    let s1 := s.updCan p fun c =>
      { c with
        rxFrames := sat32 c.rxFrames 1
        rx0 := if q = 0 then n else c.rx0
        rx1 := if q = 0 then c.rx1 else n }
    let s2 := s1.fanWrite (cRxBase c.cfg + 12288 * q + k % 128 * 96) (rxEntry f s.time.mast filter k)
    s2.publishMast (0x7100 + 0x100 * q + p) n s.time.mast (s.grid + 500) true

/-- REC after a frame received without error (ISO 11898-1).
Log 87: DESIGN CHOICE, safe. -/
def CanPort.goodFrame (c : CanPort) (free : Nat) : CanPort :=
  { c with rec_ := if 127 < c.rec_ then 119 + Config.recAfter free % 9 else c.rec_ - 1 }

/-- A good frame in detect mode: enough of them settle the candidate (R390).
Log 88: DEDUCED, unsafe. -/
def State.detectFrame (s : State) (p : Nat) (f : CanFrame) : State :=
  let c := s.canPort p
  if f.brs then s
  else if c.good + 1 < cDetectFrames c.cfg then s.updCan p fun c => { c with good := c.good + 1 }
  else
    let ns := candidateNs.getD c.candidate 0
    (s.updCan p fun c => { c with state := 6, detected := ns, good := 0 }).raiseCan 0x0B06 p [(ns : Int)]

/-- A frame received without error (R386, R390).
Log 87: DESIGN CHOICE, safe. -/
def canFrameReceived (p : Nat) (f : CanFrame) (s : State) : State :=
  let c := s.canPort p
  if !s.domain 12 || decide (11 < p) then s
  else if c.state = 7 then (s.detectFrame p f).canFrameEnd p
  else if c.state = 6 then (s.fileFrame p f).canFrameEnd p
  else if c.state = 2 ∨ c.state = 3 then
    let s1 := if 127 < c.rec_ then (s.updCan p fun c => c.goodFrame s.free).useFree else s.updCan p fun c => c.goodFrame s.free
    ((s1.canConfine p).fileFrame p f).canFrameEnd p
  else s

/-- The dwell on a candidate expires (R390). -/
def detectDwellExpiry (p : Nat) (s : State) : State :=
  let c := s.canPort p
  if !s.domain 12 || c.state != 7 || decide (s.now < c.since + cDwell c.cfg) then s else s.nextDwell p

/-- 11 recessive bits after a change of settings: the port takes part (R391). -/
def canIntegrationComplete (p : Nat) (s : State) : State :=
  let c := s.canPort p
  if !s.domain 12 || c.state != 1 || decide (2 * s.now < 2 * c.since + 11 * nomBit2 c.cfg) then s
  else s.updCan p fun c => { c with state := 2, since := s.now }

/-- The recovery sequence of 128 times 11 recessive bits is complete (R389). -/
def busRecovered (p : Nat) (s : State) : State :=
  let c := s.canPort p
  if !s.domain 12 || c.state != 5 || decide (2 * s.now < 2 * c.since + 1408 * nomBit2 c.cfg) then s
  else (s.updCan p fun c => { c with state := 2, tec := 0, rec_ := 0, since := s.now }).raiseCan 0x0B02 p
    [((s.now - c.since) / 1000 : Nat)]

/-- The status words of all ports, every 100 µs of grid time, after the swaps of a major boundary (R388, 02 R55). -/
def canStatusProduce (s : State) : State :=
  if !s.domain 12 || s.grid % 100000 != 0 || s.majorDue then s else
  (upto 12).foldl (fun t p =>
    let c := s.canPort p
    t.publish (0x7300 + p) (c.state + 256 * min 255 c.tec + 65536 * c.rec_ + 16777216 * c.queue.length) s.grid (s.grid + 500)) s

/-! ### Opcodes (R394, R395) -/

/-- The swap of `CAN_SET_PORT`; `busy` is the mask of the ports with a frame on the bus (R391). -/
def applyCanPort (busy : Nat) (s : State) (e : Staged) : State :=
  s.updCan e.target fun c => c.setPort e.req.payload (bitOf busy e.target) s.now

/-- Field tests of Table 14-12 (R379, R395).
Log 59: DEDUCED, unsafe. -/
def canTests (p : Bytes) : List (Option Nat) :=
  let within (v lo hi : Nat) : Bool := decide (lo ≤ v) && decide (v ≤ hi)
  [need (cMode p != 3 || cCandidates p != 0) 0, need (within (u8 p 1) 1 32) 1,
   need (within (nomBit2 p) 2000 200000 && decide (dataBit2 p ≤ nomBit2 p)) 1, need (within (u16 p 2) 2 256) 2,
   need (within (u8 p 4) 1 128) 4, need (decide (u8 p 5 ≤ u8 p 4)) 4, need (within (u8 p 5) 1 128) 5,
   need (within (u8 p 6) 1 32) 6, need (decide (400 ≤ dataBit2 p)) 6, need (within (u8 p 7) 1 32) 7,
   need (within (u8 p 8) 1 16) 8, need (decide (u8 p 9 ≤ u8 p 8)) 8, need (within (u8 p 9) 1 16) 9,
   need (decide (u8 p 10 ≤ 127)) 10, need (within (cDetectFrames p) 1 16) 11, need (within (u16 p 14) 100 10000) 14,
   need (cRxBase p % 4096 == 0) 0x10]

def opCanSetPort : OpSpec :=
  { code := 0x0B01
    role := fun _ => 2
    kind := .major
    block := 7
    target := fun r => decide (r.target ≤ 11)
    param := fun r => lengthThen 32 r (canTests r.payload)
    check := fun s r z =>
      let p := r.payload
      let g := z.gridAt
      let old := s.canAt r.target g
      let modelled := s.sched.image.bus.any (fun b => u8 b 0 == r.target)
      let fits := cMode p == 0 ||
        regionsFit [canRegion p] (s.imageAt g) (s.regionsBelow 4 g ++ s.canRegions g r.target)
      if !fits then some (0x41, [])
      else if modelled && (nomBit2 p != nomBit2 old || dataBit2 p != dataBit2 old) then some (0x42, [])
      else none }

/-- The swap of `CAN_SET_FILTERS`. -/
def applyCanFilters (s : State) (e : Staged) : State :=
  let p := e.req.payload
  s.updCan e.target fun c =>
    { c with filters := (upto (u8 p 1)).foldl (fun t i => Tbl.put t (u8 p 0 + i) ((p.drop (4 + 16 * i)).take 16)) c.filters }

def opCanSetFilters : OpSpec :=
  { code := 0x0B02
    role := fun _ => 2
    kind := .major
    block := 7
    target := fun r => decide (r.target ≤ 11)
    exceeds := countedExceeds 4 1 16
    param := fun r =>
      let p := r.payload
      if p.length < 4 then some 0x0010
      else if p.length ≠ 4 + 16 * u8 p 1 then some 0x0021
      else firstFail ([need (decide (u8 p 0 ≤ 63)) 0, need (decide (u8 p 0 + u8 p 1 ≤ 64)) 0, need (decide (u8 p 1 ≤ 64)) 1] ++
        (upto (u8 p 1)).map (fun i => need (decide (u8 p (12 + 16 * i) ≤ 3)) (12 + 16 * i))) }

def opCanRecover : OpSpec :=
  { code := 0x0B03
    block := 7
    target := fun r => decide (r.target ≤ 11)
    check := fun s r _ => if (s.canPort r.target).off then none else some (0x40, [])
    run := fun s r =>
      (s.updCan r.target fun c => if c.state = 4 then { c with state := 5, since := s.now } else c, some (stOk, [])) }

/-- Table 14-14. -/
def CanPort.status (c : CanPort) : Bytes :=
  putLE 1 c.state ++ putLE 1 (min 255 c.tec) ++ putLE 1 c.rec_ ++ putLE 1 c.queue.length ++ putLE 4 c.detected ++
  ([c.txFrames, c.rxFrames, c.rejected, c.overflow, c.refused, c.flushed, c.busOffs, c.errors, c.arbLost, c.maxLatency].map
    (putLE 4)).flatten

def opCanGetStatus : OpSpec :=
  { code := 0x0B04
    block := 7
    logs := false
    target := fun r => decide (r.target ≤ 11)
    run := fun s r => (s, some (stOk, (s.canPort r.target).status)) }

def opCanClearCounters : OpSpec :=
  { code := 0x0B05
    role := fun _ => 1
    block := 7
    target := fun r => decide (r.target ≤ 11)
    run := fun s r =>
      (s.updCan r.target fun c =>
        { c with
          txFrames := 0
          rxFrames := 0
          rejected := 0
          overflow := 0
          refused := 0
          flushed := 0
          busOffs := 0
          errors := 0
          arbLost := 0
          maxLatency := 0 },
       some (stOk, [])) }

/-! ### Meanings -/

def execCanTxComplete (dt : Nat) (port : Nat) (s : State) : Host.Outcome State Fault Refusal :=
  runCmd dt s (canTxComplete port)
def execCanBusError (dt : Nat) (port : Nat) (error : BusError) (s : State) : Host.Outcome State Fault Refusal :=
  runCmd dt s (canBusError port error)
def execCanFrameReceived (dt : Nat) (port : Nat) (frame : CanFrame) (s : State) : Host.Outcome State Fault Refusal :=
  runCmd dt s (canFrameReceived port frame)
def execBusRecovered (dt : Nat) (port : Nat) (s : State) : Host.Outcome State Fault Refusal :=
  runCmd dt s (busRecovered port)
def execDetectDwellExpiry (dt : Nat) (port : Nat) (s : State) : Host.Outcome State Fault Refusal :=
  runCmd dt s (detectDwellExpiry port)
def execCanStatusProduce (dt : Nat) (s : State) : Host.Outcome State Fault Refusal :=
  runCmd dt s canStatusProduce
def execCanIntegrationComplete (dt : Nat) (port : Nat) (s : State) : Host.Outcome State Fault Refusal :=
  runCmd dt s (canIntegrationComplete port)

end Sys2Proof.Machine
end

