-- ==== Sys2Proof/Machine/Rec.lean ====
section
/-!
DEFINITION. The event recorder, the change log and the clear history (17): its events and its opcodes.
-/
namespace Sys2Proof.Machine
open Sys2Proof

/-! ### Codes (R441) -/

/-- Every event code that an event-code table defines, but for the recorder's own (Tables 17-2, 08-5, 09-16 and the
tables of the other chapters). -/
def eventCodes : List Nat :=
  [0x0101, 0x0102, 0x0103, 0x0201, 0x0301, 0x0401, 0x0402, 0x0403, 0x0404, 0x0405, 0x0406, 0x0407, 0x0408, 0x0409,
   0x040A, 0x040B] ++
  [0x0601, 0x0602, 0x0610, 0x0611, 0x0612, 0x0613, 0x0614, 0x0615, 0x0616, 0x0617, 0x0618, 0x0619, 0x061A, 0x061B,
   0x061C, 0x061D] ++
  [0x0701, 0x0702, 0x0703, 0x0710, 0x0711, 0x0712, 0x0801, 0x0802, 0x0803, 0x0804, 0x0805, 0x0806, 0x0807, 0x0810] ++
  [0x0901, 0x0902, 0x0903, 0x0904, 0x0905, 0x0A01, 0x0A02, 0x0A03, 0x0A04, 0x0A05, 0x0A06, 0x0A07, 0x0A08, 0x0A09,
   0x0A0A, 0x0A0B] ++
  [0x0B01, 0x0B02, 0x0B03, 0x0B04, 0x0B05, 0x0B06, 0x0C01, 0x0C02, 0x0C03, 0x0C04, 0x0C05, 0x0C06, 0x0C07, 0x0C08,
   0x0C09, 0x0C0A] ++
  [0x0D01, 0x0D02, 0x0D03, 0x0D04, 0x0D05, 0x0F01, 0x0F02, 0x0F03, 0x0F04, 0x0F05, 0x0F06, 0x0F07, 0x0F08, 0x0F09]

/-- The recorder's own codes, which have no bucket (R449). -/
def isOwnCode (c : Nat) : Bool := decide (0x0E01 ≤ c) && decide (c ≤ 0x0E05)

/-! ### Calendar time (02 R59, R60; 17 R444) -/

/-- Year, month and day of a day counted from 1970-01-01 (Gregorian). -/
def civil (day : Nat) : Nat × Nat × Nat :=
  let z := day + 719468
  let era := z / 146097
  let doe := z % 146097
  let yoe := (doe - doe / 1460 + doe / 36524 - doe / 146096) / 365
  let doy := doe - (365 * yoe + yoe / 4 - yoe / 100)
  let mp := (5 * doy + 2) / 153
  let d := doy - (153 * mp + 2) / 5 + 1
  let m := if mp < 10 then mp + 3 else mp - 9
  (yoe + era * 400 + (if m ≤ 2 then 1 else 0), m, d)

/-- L in force for a Mast second (R60, R444). -/
def leapFor (t : TimeSt) (sec : Nat) : Nat :=
  if t.leapPending && decide (t.leapEffective ≤ sec) then
    if t.leapDirection then t.leapSeconds - 1 else t.leapSeconds + 1
  else if sec < t.prevEffective then t.prevLeap
  else t.leapSeconds

/-- The Mast second is second 60 of an inserted leap second: the second before E (R60). -/
def isLeapSecond (t : TimeSt) (sec : Nat) : Bool :=
  (t.leapPending && !t.leapDirection && sec + 1 == t.leapEffective) ||
  (sec + 1 == t.prevEffective && decide (t.prevLeap < leapFor t t.prevEffective))

/-- The epoch, 1980-01-06 00:00:00, in seconds from 1970-01-01 (02 R33): Mast seconds below L lie before it. -/
def epochSecond : Nat := 3657 * 86400

/-- Bytes 0x0011 to 0x001B of an event record: second, minute, hour, day, month, year, nanosecond (Table 17-3). -/
def utcFields (t : TimeSt) (mast : Nat) : Bytes :=
  let sec := mast / 1000000000
  let leap := isLeapSecond t sec
  let u := epochSecond + sec - leapFor t sec - (if leap then 1 else 0)
  let date := civil (u / 86400)
  putLE 1 (if leap then 60 else u % 60) ++ putLE 1 (u / 60 % 60) ++ putLE 1 (u / 3600 % 24) ++
  putLE 1 date.2.2 ++ putLE 1 date.2.1 ++ putLE 2 date.1 ++ putLE 4 (mast % 1000000000)

/-- The 64 bytes of an event record (Table 17-3). -/
def EventRec.bytes (r : EventRec) : Bytes :=
  putLE 4 r.number ++ putLE 2 r.event.code ++ putLE 1 r.event.source ++
  putLE 1 (packFlags [r.unsure, r.held, r.pinned]) ++ putLE 8 r.event.mast ++ putLE 1 r.event.step ++ r.utc ++
  putLE 1 r.event.resource ++ zeros 3 ++ r.event.details

/-! ### Buckets and the hold queue (R445 to R451, R506) -/

def State.updRec (s : State) (f : RecSt → RecSt) : State := { s with rec_ := f s.rec_ }

def State.bucket (s : State) (code : Nat) : Bucket := Tbl.getD s.rec_.buckets code {}

/-- The timer of a bucket below its capacity runs (R446). -/
def Bucket.startTimer (b : Bucket) (now : Nat) : Bucket :=
  if b.tokens < b.capacity then
    match b.due with
    | some _ => b
    | none => { b with due := some (now + b.refillMs * 1000000) }
  else { b with due := none }

/-- Entries of the hold queue that are not the recorder's own (R506).
Log 100: DEDUCED, unsafe. -/
def RecSt.held (r : RecSt) : Nat := (r.hold.filter (fun e => !isOwnCode e.1.code)).length

/-- Reserved entries in use (R506). -/
def RecSt.ownHeld (r : RecSt) : Nat := (r.hold.filter (fun e => isOwnCode e.1.code)).length

/-- A record enters the hold queue; a full queue loses it (R450, R451). -/
def State.holdEvent (s : State) (e : Event) : State :=
  s.updRec fun r =>
    if r.held < 1024 then { r with hold := r.hold ++ [(e, false)] }
    else if r.frozen.isSome then { r with freezeLost := r.freezeLost.add s.time.mast }
    else { r with lost := r.lost.add s.time.mast }

/-- A record of the recorder itself. -/
def ownEvent (s : State) (code : Nat) (d : Bytes) : Event :=
  ⟨code, 0x13, s.time.mast, s.time.stepCount, 255, fitTo 32 d⟩

/-- A record reaches the recorder and is judged by its code's bucket (R446, R449). -/
def eventRecordArrival (s : State) : State :=
  match s.rec_.arriving with
  | [] => s
  | e :: rest =>
    let s1 := s.updRec fun r => { r with arriving := rest }
    if !s.domain 14 then s1
    else if isOwnCode e.code then s1.holdEvent e
    else
      let b := s1.bucket e.code
      if 0 < b.tokens then
        let b1 := Bucket.startTimer { b with tokens := b.tokens - 1 } s.now
        (s1.updRec fun r => { r with buckets := Tbl.put r.buckets e.code b1 }).holdEvent e
      else
        let b1 := { b with
          suppressed := sat32 b.suppressed 1
          first := if b.suppressed = 0 then e.mast else b.first
          last := e.mast }
        s1.updRec fun r =>
          { r with buckets := Tbl.put r.buckets e.code b1, suppressed := sat32 r.suppressed 1 }

/-- A bucket's refill timer falls due: a token, or a `RECORDS_SUPPRESSED` record that takes it (R446, R447, R506). -/
def tokenRefill (code : Nat) (s : State) : State :=
  let b := s.bucket code
  match b.due with
  | none => s
  | some due =>
    if s.now < due then s
    else if 0 < b.suppressed && decide (s.rec_.ownHeld < 16) then
      let d := details [(code : Int), toSigned 32 b.suppressed] ++ putLE 8 b.first ++ putLE 8 b.last
      let b1 := { b with
        suppressed := 0
        first := 0
        last := 0
        due := some (due + b.refillMs * 1000000) }
      s.updRec fun r =>
        { r with buckets := Tbl.put r.buckets code b1, hold := r.hold ++ [(ownEvent s 0x0E02 d, false)] }
    else
      let b1 : Bucket := { b with tokens := min (b.tokens + 1) b.capacity, due := none }
      s.updRec fun r => { r with buckets := Tbl.put r.buckets code (Bucket.startTimer b1 due) }

/-- Details of a lost-records record: count, first and last arrival stamps (Table 17-7). -/
def lostDetails (l : LostRun) : Bytes := putLE 4 l.count ++ zeros 4 ++ putLE 8 l.first ++ putLE 8 l.last

/-- Records the recorder owes about losses and an expired freeze, formed while reserved entries are free (R451, R506). -/
def State.formOwed (s : State) : State :=
  let lostDue (s : State) : State :=
    if s.rec_.owedFreeze && decide (s.rec_.ownHeld < 16) then
      s.updRec fun r =>
        { r with
          hold := r.hold ++ [(ownEvent s 0x0E03 (lostDetails r.freezeLost), false)]
          freezeLost := {}
          owedFreeze := false }
    else s
  let expired (s : State) : State :=
    match s.rec_.owedExpired with
    | some n =>
      if !s.rec_.owedFreeze && decide (s.rec_.ownHeld < 16) then
        s.updRec fun r =>
          { r with hold := r.hold ++ [(ownEvent s 0x0E05 (details [(n : Int)]), false)], owedExpired := none }
      else s
    | none => s
  let outside (s : State) : State :=
    if 0 < s.rec_.lost.count && decide (s.rec_.held < 1024) && decide (s.rec_.ownHeld < 16) then
      s.updRec fun r =>
        { r with hold := r.hold ++ [(ownEvent s 0x0E04 (lostDetails r.lost), false)], lost := {} }
    else s
  outside (expired (lostDue s))

/-- The store with one more record; a full store loses its oldest record that is not pinned (R445, R453). -/
def addRecord (store : List EventRec) (r : EventRec) : List EventRec :=
  let rec dropOldest : List EventRec → List EventRec
    | [] => []
    | x :: rest => if x.pinned then x :: dropOldest rest else rest
  (if store.length < 262144 then store else dropOldest store) ++ [r]

/-- An event committed with the next record number and its calendar time (R444, R445). -/
def State.commit (s : State) (e : Event) (held pinned : Bool) : State :=
  let r : EventRec := ⟨s.rec_.next, e, s.time.noTime || !s.time.leapValid, held, pinned, utcFields s.time e.mast⟩
  s.updRec fun x => { x with store := addRecord x.store r, next := (x.next + 1) % 4294967296 }

/-- The oldest held record is committed, unless the store is frozen or D14 is off (R445, R450). -/
def recordCommit (s : State) : State :=
  match s.rec_.hold with
  | [] => s
  | (e, h) :: rest =>
    if s.rec_.frozen.isSome || !s.domain 14 then s
    else ((s.updRec fun r => { r with hold := rest }).commit e h false).formOwed

/-- The freeze ends: every held record is marked `FROM_HOLD`; then the records it owes are formed (R450).
Log 100: DEDUCED, unsafe. -/
def State.endFreeze (s : State) (expired : Bool) : State :=
  let n := s.rec_.held
  (s.updRec fun r =>
    { r with
      frozen := none
      hold := r.hold.map (fun e => (e.1, true))
      owedFreeze := decide (0 < r.freezeLost.count)
      owedExpired := if expired then some n else r.owedExpired }).formOwed

/-- The limit of a freeze falls due (R450). -/
def freezeExpired (s : State) : State :=
  match s.rec_.frozen with
  | some due => if due ≤ s.now then s.endFreeze true else s
  | none => s

/-- A change-log entry is committed to its store (R455). -/
def changeLogEntry (s : State) : State :=
  match s.rec_.changeArriving with
  | [] => s
  | e :: rest =>
    let s1 := s.updRec fun r => { r with changeArriving := rest }
    if s.domain 14 then
      s1.updRec fun r =>
        { r with
          change := (r.change ++ [e]).drop (r.change.length + 1 - 253952)
          changeNext := (r.changeNext + 1) % 4294967296 }
    else s1

/-! ### Opcodes (R460) -/

/-- Oldest record number of the event store. -/
def RecSt.eventOldest (r : RecSt) : Nat :=
  match r.store with
  | [] => r.next
  | x :: _ => x.number

/-- A store's records with their numbers, its OLDEST and its NEXT (R452). -/
def RecSt.storeOf (r : RecSt) (store : Nat) : List (Nat × Bytes) × Nat × Nat :=
  let numbered (l : List Bytes) (next : Nat) : List (Nat × Bytes) :=
    let first := wrapDiff next l.length
    List.zip ((upto l.length).map (fun i => (first + i) % 4294967296)) l
  if store = 0 then (r.store.map (fun x => (x.number, x.bytes)), r.eventOldest, r.next)
  else if store = 1 then (numbered r.change r.changeNext, wrapDiff r.changeNext r.change.length, r.changeNext)
  else (numbered r.history r.clears, wrapDiff r.clears r.history.length, r.clears)

/-- The reply of a read: header of Table 17-9 and the records from the start R452 gives.
Log 17: DESIGN CHOICE, safe. -/
def readReply (recs : List (Nat × Bytes)) (oldest next first count : Nat) : Bytes :=
  let start : Option Nat :=
    if wrapDiff first oldest < wrapDiff next oldest then some first
    else if wrapDiff oldest first < 2147483648 then some oldest
    else none
  let got := match start with
    | some b => (recs.filter (fun (x : Nat × Bytes) => decide (wrapDiff b oldest ≤ wrapDiff x.1 oldest))).take count
    | none => []
  let fr := match got with
    | [] => Config.firstReturnedNone first oldest
    | x :: _ => x.1
  putLE 4 fr ++ putLE 1 got.length ++ zeros 3 ++ putLE 4 oldest ++ putLE 4 next ++ (got.map (fun (x : Nat × Bytes) => x.2)).flatten

def opRecRead : OpSpec :=
  { code := 0x0E01
    role := fun r => if u8 r.payload 4 = 0 then 0 else 1
    block := 10
    logs := false
    param := fun r => lengthThen 8 r [need (decide (u8 r.payload 4 ≤ 2)) 4, need (decide (u8 r.payload 5 ≤ 62)) 5]
    run := fun s r =>
      let (recs, oldest, next) := s.rec_.storeOf (u8 r.payload 4)
      (s, some (stOk, readReply recs oldest next (u32 r.payload 0) (u8 r.payload 5))) }

/-- The 32 bytes of a trouble log entry (Table 17-5). -/
def Trouble.bytes (t : Trouble) : Bytes :=
  putLE 8 t.mast ++ putLE 1 t.step ++ putLE 1 t.kind ++ putLE 2 t.code ++ putLE 4 t.entry ++ t.data

/-- The lane whose trouble log a request names. -/
def troubleLane (r : Request) : Lane := if r.target = 0 then .main else .mizzen

/-- `REC_READ_TROUBLE`: only the named lane answers, or the other one if it is down (R459). -/
def opRecReadTrouble : OpSpec :=
  { code := 0x0E02
    role := fun _ => 1
    logs := false
    solo := some fun s r => if s.computes (troubleLane r) then troubleLane r else (troubleLane r).other
    target := fun r => decide (r.target ≤ 1)
    param := fun r => lengthThen 8 r [need (u8 r.payload 4 == 0) 4, need (decide (u8 r.payload 5 ≤ 124)) 5]
    run := fun s r =>
      let l := troubleLane r
      if s.computes l then
        let a := s.lane l
        let oldest := wrapDiff a.troubleNext a.trouble.length
        (s, some (stOk, readReply (a.trouble.map (fun t => (t.entry, t.bytes))) oldest a.troubleNext
          (u32 r.payload 0) (u8 r.payload 5)))
      else (s, some (0x42, [])) }

/-- `REC_GET_STATUS` (Table 17-11). Milliseconds left are rounded up.
Log 100: DEDUCED, unsafe. -/
def opRecGetStatus : OpSpec :=
  { getOp 0x0E03 (fun s _ =>
      let r := s.rec_
      let left := match r.frozen with
        | some due => (due - s.now + 999999) / 1000000
        | none => 0
      putLE 1 (b2n r.frozen.isSome) ++ zeros 1 ++ putLE 2 r.held ++ putLE 4 left ++ putLE 4 r.eventOldest ++
      putLE 4 r.next ++ putLE 4 (wrapDiff r.changeNext r.change.length) ++ putLE 4 r.changeNext ++
      putLE 4 (min r.clears max32) ++ putLE 4 r.suppressed) with block := 10 }

def opRecFreeze : OpSpec :=
  { code := 0x0E04
    block := 10
    param := fun r =>
      lengthThen 4 r [need (decide (100 ≤ u32 r.payload 0) && decide (u32 r.payload 0 ≤ 60000)) 0]
    run := fun s r =>
      (s.updRec fun x => { x with frozen := some (s.now + u32 r.payload 0 * 1000000) }, some (stOk, [])) }

def opRecUnfreeze : OpSpec :=
  { code := 0x0E05
    block := 10
    run := fun s _ => if s.rec_.frozen.isSome then (s.endFreeze false, some (stOk, [])) else (s, some (0x41, [])) }

/-- `REC_CLEAR` (R453, R454).
Log 100: DEDUCED, unsafe. -/
def opRecClear : OpSpec :=
  { code := 0x0E06
    role := fun _ => 1
    block := 10
    run := fun s r =>
      if s.rec_.frozen.isSome then (s, some (0x40, []))
      else
        let n := s.rec_.store.length
        let e := ownEvent s 0x0E01 (putLE 4 n ++ putLE 4 r.origin ++ putLE 4 r.sequence)
        let s1 := (s.updRec fun x => { x with store := [] }).commit e false true
        let b := (s1.rec_.store.map EventRec.bytes).flatten
        (s1.updRec fun x =>
          { x with
            history := (x.history ++ [b]).drop (x.history.length + 1 - 64)
            clears := sat32 x.clears 1 }, some (stOk, [])) }

/-- The swap of `REC_SET_RATE` (R449). -/
def applySetRate (s : State) (e : Staged) : State :=
  let p := e.req.payload
  let inRange (c : Nat) : Bool := decide (u16 p 0 ≤ c) && decide (c < u16 p 0 + u16 p 2)
  (eventCodes.filter inRange).foldl (fun t c => t.updRec fun r =>
    let b := Tbl.getD r.buckets c {}
    let b1 := { b with
      capacity := u8 p 4
      refillMs := u16 p 6
      tokens := min b.tokens (u8 p 4) }
    { r with buckets := Tbl.put r.buckets c (Bucket.startTimer b1 t.now) }) s

def opRecSetRate : OpSpec :=
  { code := 0x0E07
    role := fun _ => 2
    kind := .major
    block := 10
    param := fun r =>
      let p := r.payload
      lengthThen 8 r
        [need (decide (0x0100 ≤ u16 p 0) && decide (u16 p 0 ≤ 0x0FFF)) 0,
         need (decide (1 ≤ u16 p 2) && decide (u16 p 0 + u16 p 2 ≤ 0x1000)) 2,
         need (decide (1 ≤ u8 p 4)) 4,
         need (decide (10 ≤ u16 p 6) && decide (u16 p 6 ≤ 60000)) 6] }

def opRecGetRate : OpSpec :=
  { code := 0x0E08
    block := 10
    logs := false
    param := fun r => lengthThen 4 r [need (eventCodes.contains (u16 r.payload 0)) 0]
    run := fun s r =>
      let b := s.bucket (u16 r.payload 0)
      let next := match b.due with
        | some d => s.time.mast + (d - s.now)
        | none => 0
      (s, some (stOk, putLE 1 b.capacity ++ putLE 1 b.tokens ++ putLE 2 b.refillMs ++ putLE 4 b.suppressed ++
        putLE 8 b.first ++ putLE 8 b.last ++ putLE 8 next)) }

/-! ### Meanings -/

def execEventRecordArrival (dt : Nat) (s : State) : Host.Outcome State Fault Refusal :=
  runCmd dt s eventRecordArrival
def execRecordCommit (dt : Nat) (s : State) : Host.Outcome State Fault Refusal :=
  runCmd dt s recordCommit
def execTokenRefill (dt : Nat) (code : Nat) (s : State) : Host.Outcome State Fault Refusal :=
  runCmd dt s (tokenRefill code)
def execFreezeExpired (dt : Nat) (s : State) : Host.Outcome State Fault Refusal :=
  runCmd dt s freezeExpired
def execChangeLogEntry (dt : Nat) (s : State) : Host.Outcome State Fault Refusal :=
  runCmd dt s changeLogEntry

end Sys2Proof.Machine
end

