-- ==== Sys2Proof/Machine/Stay.lean ====
section
/-!
DEFINITION. The Stay links, the cascade and the Ethernet ports (15), second part: frames received, time across the
cascade, membership, and the opcodes.
-/
namespace Sys2Proof.Machine
open Sys2Proof

/-! ### Link delay (R404) -/

/-- The mean of the measurements held, ns; `l` holds twice each.
Log 22: DEDUCED, unsafe. -/
def meanDelay (l : List Int) : Int := if l = [] then 0 else l.sum / (2 * l.length : Nat)

def State.linkDelay (s : State) (p : Nat) : Int := meanDelay (s.stayPort p).delays

/-- A peer-delay frame's payload. -/
def peerPayload (s : State) (phase t2 t3 : Nat) : Bytes :=
  stayPayload 6 s.sys.station 0 true 0 0 (putLE 1 phase ++ zeros 7 ++ putLE 8 t2 ++ putLE 8 t3)

/-- Mast stamp of a time or peer-delay frame that is sent on a port now. -/
def State.sendStamp (s : State) (p : Nat) : Nat := s.time.mast + s.stayWait p true / 10

/-- Each enabled port asks for its link delay every 1 s.
Log 89: DEDUCED, unsafe. -/
def peerDelayRequest (p : Nat) (s : State) : State :=
  let x := s.stayPort p
  if !s.domain 13 || !x.up || decide (s.now < x.askAt) then s else
  (s.stayOut p true (peerPayload s 0 0 0)).updStayPort p fun x =>
    { x with asked := some (s.sendStamp p), askAt := s.now + 1000000000 }

/-- A peer-delay frame: a request is answered, a response completes a measurement. -/
def State.peerDelay (s : State) (p : Nat) (body : Bytes) : State :=
  if u8 body 0 = 0 then s.stayOut p true (peerPayload s 1 s.time.mast (s.sendStamp p))
  else if u8 body 0 ≠ 1 then s
  else match (s.stayPort p).asked with
    | none => s
    | some t1 =>
      let d : Int := ((s.time.mast : Int) - t1) - ((u64 body 16 : Int) - u64 body 8)
      s.updStayPort p fun x => { x with asked := none, delays := (d :: x.delays).take 8 }

/-! ### Signals of other stations (R402, R412, R413) -/

/-- `SOURCE_ABSENT` of the records of a station's signals in both lanes. -/
def State.setAbsent (s : State) (station : Nat) (v : Bool) : State :=
  let ids := (s.sched.image.signals.filter (fun d => d.source == 4 && d.id / 8192 == station)).map (fun d => d.id)
  let mark (t : Tbl SigRec) (id : Nat) : Tbl SigRec :=
    match Tbl.find t id with
    | none => t
    | some r => Tbl.put t id { r with absent := v }
  s.updLanes fun a => { a with signals := ids.foldl mark a.signals }

/-- A frame of a station that has left comes after the window of its port's receiver.
Log 95: DEDUCED, unsafe. -/
def State.departedLate (s : State) (p source : Nat) : Bool :=
  match Tbl.find s.stay.departed source with
  | none => false
  | some b => decide (b + (s.recv (recvKey 8 p)).windowNs < s.grid)

def State.departedDiscard (s : State) : State :=
  s.updStay fun x => { x with departedDiscards := sat32 x.departedDiscards 1 }

/-- A signal frame is taken (R402). Of a signal that has none delivered yet the first frame is in the window whatever its number.
Log 128: DEDUCED, unsafe. -/
def State.takeSignal (s : State) (seq : Nat) (body : Bytes) : State :=
  let id := u32 body 0 % 33554432
  if !s.sched.image.signals.any (fun d => d.id == id && d.source == 4) then s else
  let fits := match Tbl.find s.stay.importSeq id with
    | some last => decide (1 ≤ wrapDiff seq last) && decide (wrapDiff seq last ≤ 1048576)
    | none => true
  if seq ≠ 0 ∧ !fits then s.updStay fun x => { x with staleDiscards := sat32 x.staleDiscards 1 }
  else
    let y : Delivery :=
      ⟨visibleSlot (s.grid + 200), id, leNat ((body.drop 0x10).take 16), u64 body 8, s.tickOf (u64 body 8),
       flagAt body 4 0, some (u32 body 0x20, flagAt body 4 3, flagAt body 4 4)⟩
    (s.updStay fun x => { x with importSeq := Tbl.put x.importSeq id seq }).updLanes fun a =>
      if a.running then { a with deliveries := a.deliveries ++ [y] } else a

/-! ### Time frames (R405, R406) -/

def tMaster (b : Bytes) : Nat := u16 b 0x1E % 4096
def tRank (b : Bytes) : Nat := u8 b 0x1D
def tStep (b : Bytes) : Nat := u8 b 0x1C
def tShift (b : Bytes) : Int := s64 b 0x10

/-- The body of a time frame that the master sends on a port (Table 15-5).
Log 92: DEDUCED, unsafe. -/
def timeBody (s : State) (p : Nat) : Bytes :=
  let t := s.time
  putLE 8 (s.sendStamp p) ++ zeros 8 ++ putS 8 t.gridShift ++ putLE 4 s.uncertainty ++ putLE 1 t.stepCount ++
  putLE 1 s.stay.rank ++ putLE 2 s.sys.station ++
  putLE 1 (packFlags [t.holdover, t.timeStep, t.slewing, t.leapValid, t.leapPending, t.leapDirection, t.timeFromMaster,
    t.noTime]) ++ putLE 1 t.leapSeconds ++ zeros 6

/-- At every whole millisecond of grid time the master broadcasts a time frame. -/
def timeFrameSend (s : State) : State :=
  if !s.domain 13 || s.stay.membership != 3 || s.grid % 1000000 != 0 then s
  else s.stayBroadcast none true fun t p => stayPayload 3 t.sys.station 0 true 0 0 (timeBody t p)

/-- A time frame as it leaves a forwarding station: residence time and link delay of the arrival port are added. -/
def forwardTime (s : State) (from_ to_ : Nat) (payload : Bytes) : Bytes :=
  let c := s64 payload 0x18 + (s.stayWait to_ true * 65536 / 10 : Nat) + s.linkDelay from_ * 65536
  setBytes payload 0x18 (putS 8 c)

/-- O of a frame, whole ns rounded down, after a shift of Mast time by `delta`.
Log 22: DEDUCED, unsafe. -/
def State.timeOffset (s : State) (p : Nat) (b : Bytes) (delta : Int) : Int :=
  (((s.time.mast : Int) + delta - u64 b 0) * 65536 - s64 b 8) / 65536 - s.linkDelay p

/-- A frame of a master that the station does not follow (R408). -/
def State.foreignMaster (s : State) (b : Bytes) : State :=
  let s1 := s.updStay fun x => { x with foreignFrames := sat32 x.foreignFrames 1, foreignSeen := true }
  if s.stay.foreignSeen then s1 else s1.raiseStay 0x0C09 255 [(tMaster b : Int), (tRank b : Int)]

/-- The tick of the next slot boundary. -/
def State.nextSlotTick (s : State) : Nat := s.now + (s.slotEnd - s.grid)

/-- What a station does with the offset of a frame it has accepted (R405).
Log 91: DEDUCED, unsafe; log 97: DEDUCED, unsafe. -/
def State.judgeOffset (s : State) (b : Bytes) (o : Int) : State :=
  let s0 := s.updStay fun x => { x with offset := satS 32 o }
  if o.natAbs < 1000 then
    let run := if o.natAbs < 200 then s.stay.syncRun + 1 else 0
    { s0.updStay (fun x => { x with syncRun := run, synced := x.synced || decide (10 ≤ run) }) with
      time := { s.time with slewing := o != 0 } }
  else
    let s1 := s0.updStay fun x => { x with synced := false, syncRun := 0 }
    if s.stay.membership = 2 then
      (s1.updStay fun x => { x with membership := 1 }).raiseStay 0x0C03 255 [satS 32 o]
    else s1.updStay fun x => { x with step := some ⟨-o, tShift b, tStep b, s.nextSlotTick⟩ }

/-- A station accepts a time frame from the master it follows, or begins to follow (R405, R406, R408).
Log 91: DEDUCED, unsafe; log 92: DEDUCED, unsafe. -/
def State.acceptTime (s : State) (p : Nat) (f : TimeFrame) : State :=
  let b := f.body
  let m := tMaster b
  let changed := s.stay.following && m != s.stay.master
  let differs := tStep b != s.time.stepCount
  let delta := if differs then tShift b - s.time.gridShift else 0
  let s1 := s.updStay fun x =>
    { x with
      following := true
      masterLost := false
      lostBounds := 0
      master := m
      rank := tRank b
      hops := min 31 (f.hops + 1)
      frameAt := s.now
      foreignSeen := x.foreignSeen && !changed
      synced := x.synced && !changed
      syncRun := if changed then 0 else x.syncRun
      stepSkew := differs
      adopt := if differs then some ⟨delta, tShift b, tStep b, s.nextSlotTick⟩ else none }
  let s2 : State := { s1 with time := { s1.time with
    uncertainty := u32 b 0x18
    leapSeconds := u8 b 0x21
    holdover := flagAt b 0x20 0
    leapValid := flagAt b 0x20 3
    noTime := flagAt b 0x20 7
    timeFromMaster := true } }
  let s3 := if changed then s2.raiseStay 0x0C05 255 [(m : Int), (tRank b : Int)] else s2
  s3.judgeOffset b (s.timeOffset p b delta)

/-- A time frame is taken: from the port toward the master the station follows (R405, R408).
Log 90: DEDUCED, unsafe; log 96: DESIGN CHOICE, safe. -/
def State.takeTime (s : State) (p : Nat) (f : TimeFrame) : State :=
  let m := tMaster f.body
  if !s.domain 13 || !s.inCascade || !(s.stayPort p).up || f.body.length != 40 then s
  else if s.stay.membership = 3 then (if m = s.sys.station then s else s.foreignMaster f.body)
  else if s.stay.following && !s.stay.masterLost && m != s.stay.master then s.foreignMaster f.body
  else if route s.cascade m ≠ p then s
  else s.acceptTime p f

/-- The step of a listener at its next slot boundary (R405): Mast time moves by -O, and the grid becomes the master's. A
step of the master that is still to be taken over comes first, since O is formed after it (R406).
Log 21: DEDUCED, unsafe; log 97: DEDUCED, unsafe. -/
def listenerTimeStep (s : State) : State :=
  match s.stay.step with
  | none => s
  | some x =>
    if decide (s.now < x.due) || s.stay.adopt.isSome then s else
    let s1 : State := { s.updStay (fun v => { v with step := none }) with time := { s.time with
      mast := ((s.time.mast : Int) + x.delta).toNat
      gridShift := x.shift
      stepCount := x.count
      lastStep := x.delta
      timeStep := true } }
    s1.raise 0x0201 8 255 (putS 8 x.delta ++ putLE 4 x.count)

/-- The master's step is taken over at the next slot boundary (R406): Mast time and `GRID_SHIFT` move by Δ together.
Log 21: DEDUCED, unsafe. -/
def gridShiftAdopt (s : State) : State :=
  match s.stay.adopt with
  | none => s
  | some x =>
    if s.now < x.due then s else
    let s1 : State := { s.updStay (fun v => { v with adopt := none, stepSkew := false }) with time := { s.time with
      mast := ((s.time.mast : Int) + x.delta).toNat
      gridShift := s.time.gridShift + x.delta
      stepCount := x.count
      lastStep := x.delta
      timeStep := true } }
    s1.raise 0x0201 8 255 (putS 8 x.delta ++ putLE 4 x.count)

/-! ### Master and succession (R407, R408) -/

/-- The station becomes master. It holds itself as a member.
Log 90: DEDUCED, unsafe. -/
def State.becomeMaster (s : State) (rank : Nat) : State :=
  let own := s.sys.station
  let me : Member :=
    { state := 3
      autoJoin := cascadeAutoJoin s.cascade
      imageId := s.sched.image.imageId
      seen := true }
  let s1 := s.updStay fun x =>
    { x with
      membership := 3
      following := false
      synced := false
      syncRun := 0
      masterLost := false
      stepSkew := false
      master := own
      rank := rank
      hops := 0
      offset := 0
      step := none
      adopt := none
      stations := [(own, me)] }
  let s2 : State := { s1 with time := { s1.time with timeFromMaster := false } }
  s2.refreshTime.raiseStay 0x0C05 255 [(own : Int), (rank : Int)]

/-- The designated master has heard no master for 10 ms since its first link came up. -/
def masterElectionTimeout (s : State) : State :=
  match s.stay.linkAt with
  | none => s
  | some t =>
    if s.domain 13 && s.inCascade && s.stay.membership == 1 && !s.stay.following &&
      cascadeMaster s.cascade == s.sys.station && decide (t + 10000000 ≤ s.now) then s.becomeMaster 0 else s

/-- No time frame from the master for 3 ms.
Log 91: DEDUCED, unsafe; log 94: DEDUCED, unsafe. -/
def masterLost (s : State) : State :=
  let x := s.stay
  if !s.domain 13 || !x.following || x.masterLost || x.membership == 3 || decide (s.now < x.frameAt + 3000000) then s
  else
    let s1 := s.updStay fun x => { x with masterLost := true, lostBounds := 0, synced := false, syncRun := 0 }
    let s2 : State := { s1 with time := { s1.time with holdover := true } }
    s2.raiseStay 0x0C04 255 [(x.master : Int)]

/-- The r-th major boundary after the flag was set: the successor of rank r becomes master. -/
def State.succession (s : State) : State :=
  if !s.stay.masterLost then s else
  let n := s.stay.lostBounds + 1
  if successorRank s.cascade s.sys.station = some n then s.becomeMaster n
  else s.updStay fun x => { x with lostBounds := n }

/-! ### Membership (R409 to R413) -/

/-- No lane is in service as ACTIVE or STANDBY; in a lane restart both are held or booting until the rejoin boundary
(01 R28, 05 R149, R150).
Log 119: DEDUCED, unsafe. -/
def State.lanesDown (s : State) : Bool :=
  let up (x : XtLane) : Bool := x.state == .active || x.state == .standby
  s.xt.restart || !(up s.xt.main || up s.xt.mizzen)

/-- The body of the own beacon (R410). -/
def beaconBody (s : State) : Bytes :=
  putLE 1 (if s.stay.membership = 1 then 1 else 2) ++
  putLE 1 (packFlags [s.stay.synced, s.lanesDown, cascadeAutoJoin s.cascade]) ++ zeros 2 ++ putLE 4 s.major ++
  putLE 8 (cascadeId s.cascade) ++ putLE 8 s.sched.image.imageId

/-- The master issues a join or a leave for a boundary: the control frame goes out, and it stages the change itself
(R411).
Log 93: DEDUCED, unsafe. -/
def State.issueChange (s : State) (join : Bool) (cause station idx : Nat) : State :=
  let c : Change := ⟨join, cause, station, idx % 4294967296, idx * s.majorLen⟩
  let body := putLE 1 (if join then 1 else 2) ++ putLE 1 cause ++ putLE 2 station ++ putLE 4 c.number
  let s1 := s.stayBroadcast none false fun t _ => stayPayload 5 t.sys.station 0 true 0 0 body
  s1.updStay fun x =>
    { x with
      changes := x.changes ++ [c]
      stations := if join then x.stations else Tbl.upd x.stations station {} fun m => { m with state := 4 } }

/-- The boundary of a change that the master makes of its own: the first that R411 allows.
Log 93: DEDUCED, unsafe. -/
def State.changeAt (s : State) : Nat := s.slotEnd / s.majorLen + 2

/-- The master takes a station's beacon (R410, R411). -/
def State.takeBeacon (s : State) (source : Nat) (b : Bytes) : State :=
  if s.stay.membership ≠ 3 then s else
  let old := Tbl.getD s.stay.stations source {}
  let held := old.state == 3 || old.state == 4
  let listener := u8 b 0 == 1
  let ready := flagAt b 1 0 && u64 b 8 == cascadeId s.cascade
  let state := if held then old.state else if listener then (if ready then 2 else 1) else 3
  let new : Member := { old with
    state := state
    lanesDown := flagAt b 1 1
    autoJoin := flagAt b 1 2
    missed := 0
    imageId := u64 b 16
    seen := true }
  let s1 := s.updStay fun x => { x with stations := Tbl.put x.stations source new }
  if old.state = 3 ∧ flagAt b 1 1 then s1.issueChange false 3 source s.changeAt
  else if old.state = 3 ∧ listener then s1.issueChange false 4 source s.changeAt
  else if state = 2 ∧ old.state ≠ 2 ∧ flagAt b 1 2 then s1.issueChange true 1 source s.changeAt
  else s1

/-- Every station sends its master a beacon 5,000 ns after each major boundary. -/
def beaconSend (s : State) : State :=
  let own := s.sys.station
  if !s.domain 13 || !s.inCascade || s.grid % s.majorLen != 5000 || s.stay.rank == 255 then s
  else if s.stay.master = own then s.takeBeacon own (beaconBody s)
  else s.stayUnicast s.stay.master (stayPayload 4 own s.stay.master false 0 0 (beaconBody s))

/-- A control frame of the master is taken: the change is staged (R411). A frame that arrives on the tick of its boundary is in
time (02 R57).
Log 90: DEDUCED, unsafe; log 96: DESIGN CHOICE, safe. -/
def State.takeControl (s : State) (source : Nat) (b : Bytes) : State :=
  let action := u8 b 0
  if !s.domain 13 || !s.inCascade || !s.stay.following || source != s.stay.master || b.length != 8 ||
    !(action == 1 || action == 2) then s
  else
    let first := s.grid / s.majorLen + (if s.majorDue then 0 else 1)
    let d := wrapDiff (u32 b 4) (first % 4294967296)
    let late := decide (2147483647 < d)
    let station := u16 b 2 % 4096
    let c : Change := ⟨action == 1, u8 b 1, station, u32 b 4, (first + if late then 0 else d) * s.majorLen⟩
    let s1 := s.updStay fun x => { x with changes := x.changes ++ [c] }
    if late then s1.raiseStay 0x0C08 255 [(station : Int), toSigned 32 (u32 b 4)] else s1

/-- A change of membership at its boundary (R412, R413). -/
def State.applyChange (s : State) (c : Change) : State :=
  let own := c.station = s.sys.station
  let s1 := s.updStay fun x =>
    { x with
      membership := if own then (if x.membership = 1 ∧ c.join then 2 else if x.membership = 2 ∧ !c.join then 1
        else x.membership) else x.membership
      departed := if own then x.departed else if c.join then Tbl.del x.departed c.station
        else Tbl.put x.departed c.station s.grid
      stations := if x.membership = 3 then Tbl.upd x.stations c.station {} fun m =>
        if c.join then { m with state := 3, joinedAt := c.number } else { m with state := 1 } else x.stations }
  let s2 := if own then s1 else s1.setAbsent c.station (!c.join)
  s2.raiseStay (if c.join then 0x0C06 else 0x0C07) 255 [(c.station : Int), toSigned 32 c.number, (c.cause : Int)]

/-- Beacons the master has missed at a major boundary; a member that has missed `ABSENT_PERIODS` leaves (R410, R411). -/
def State.missedBeacons (s : State) : State :=
  if s.stay.membership ≠ 3 then s else
  let count (m : Member) : Member :=
    { m with
      missed := if m.seen then 0 else min 255 (m.missed + 1)
      seen := false }
  let s1 := s.updStay fun x => { x with stations := x.stations.map (fun e => (e.1, count e.2)) }
  let gone := s1.stay.stations.filter fun e =>
    e.1 != s.sys.station && e.2.state == 3 && decide (cascadeAbsent s.cascade ≤ e.2.missed)
  gone.foldl (fun t e => t.issueChange false 2 e.1 t.changeAt) s1

/-- What the Stay block does at a major boundary. -/
def State.stayBoundary (s : State) : State :=
  if !s.domain 13 || !s.inCascade then s else
  let due := s.stay.changes.filter (fun c => decide (c.gridAt ≤ s.grid))
  let s1 := s.updStay fun x => { x with changes := x.changes.filter (fun c => !decide (c.gridAt ≤ s.grid)) }
  ((due.foldl State.applyChange s1).succession).missedBeacons

/-- Links that a new table no longer enables go down (R399, R420). -/
def State.linksDown (s : State) (keep : Nat → Bool) : State :=
  ((upto 4).filter fun p => (s.stayPort p).up && !keep p).foldl (fun t p => t.raiseStay 0x0C01 p [8, (p : Int)]) s

/-- A new image is in force: its cascade table, or none (R399). -/
def State.cascadeChanged (s : State) : State :=
  match s.sched.image.cascade with
  | none =>
    let x : StaySt :=
      { exports := s.stay.exports
        departedDiscards := s.stay.departedDiscards
        staleDiscards := s.stay.staleDiscards
        foreignFrames := s.stay.foreignFrames
        rxDiscards := s.stay.rxDiscards }
    ({ s.linksDown (fun _ => false) with stay := x, time := { s.time with timeFromMaster := false } } : State).refreshTime
  | some c => (s.linksDown (portEnabled c)).updStay fun x =>
    { x with
      membership := max 1 x.membership
      ports := x.ports.filter (fun e => portEnabled c e.1) }

/-! ### Received frames (R397, R398) -/

/-- The body a kind of frame has.
Log 95: DEDUCED, unsafe. -/
def bodyFits (kind n : Nat) : Bool :=
  match kind with
  | 1 => n == 40
  | 2 => true
  | 3 => n == 40
  | 4 => n == 24
  | 5 => n == 8
  | 6 => n == 24
  | _ => false

/-- The header of a Stay frame is acceptable (R397); the MAC payload may be filled up to 46 bytes. -/
def stayFrameOk (f : StayFrame) : Bool :=
  let p := f.payload
  let n := 16 + u16 p 12
  f.etherType == 0x88B5 && decide (16 ≤ p.length) && u8 p 0 == 1 && bodyFits (u8 p 1) (u16 p 12) &&
  (p.length == n || (p.length == 46 && decide (n ≤ 46)))

/-- The station takes a frame, by its kind.
Log 95: DEDUCED, unsafe. -/
def State.takeStay (s : State) (p : Nat) (payload : Bytes) : State :=
  let source := u16 payload 2 % 4096
  let body := (payload.drop 16).take (u16 payload 12)
  match u8 payload 1 with
  | 1 => if s.departedLate p source then s.departedDiscard else s.takeSignal (u32 payload 8) body
  | 2 =>
    if flagAt payload 5 4 then s
    else if s.departedLate p source then s.departedDiscard
    else s.unitArrival (.stay p) body
  | 3 => s.takeTime p ⟨u8 payload 6, body⟩
  | 4 => s.takeBeacon source body
  | 5 => s.takeControl source body
  | _ => s

/-- A frame that passes on by another port: `HOPS` + 1, and for a time frame its correction.
Log 89: DEDUCED, unsafe. -/
def forwardPayload (s : State) (from_ to_ : Nat) (payload : Bytes) : Bytes :=
  let q := setBytes payload 6 (putLE 1 (u8 payload 6 + 1))
  if u8 payload 1 = 3 then forwardTime s from_ to_ q else q

/-- A Stay frame is received (R397, R398).
Log 96: DESIGN CHOICE, safe. -/
def stayFrameReceived (p : Nat) (f : StayFrame) (s : State) : State :=
  let q := f.payload
  let x := s.stayPort p
  if !s.domain 13 || !s.inCascade || !x.up || decide (3 < p) then s
  else if !stayFrameOk f then s.stayDiscard
  else
    let s1 := if x.neighbour.isNone then s.updStayPort p fun x => { x with neighbour := some f.mac } else s
    let dest := u16 q 4 % 4096
    let last := decide (31 ≤ u8 q 6)
    if u8 q 1 = 6 then s1.peerDelay p ((q.drop 16).take 24)
    else if flagAt q 5 4 then
      if !treePort s.cascade p then s1
      else
        let s2 := if !last then s1.stayBroadcast (some p) (u8 q 1 == 3) fun t n => forwardPayload t p n q
          else if (upto 4).any (fun n => n != p && treePort s.cascade n) then s1.stayDiscard else s1
        s2.takeStay p q
    else if dest = s.sys.station then s1.takeStay p q
    else if last then s1.stayDiscard
    else s1.stayUnicast dest (forwardPayload s1 p (route s.cascade dest) q)

/-- A Stay link comes up or goes down (R396, R420). -/
def stayLinkChange (p : Nat) (up : Bool) (s : State) : State :=
  if !s.domain 13 || !s.inCascade || !portEnabled s.cascade p || (s.stayPort p).up == up then s
  else if up then
    let s1 := s.updStayPort p fun _ => { up := true, askAt := s.now }
    let s2 := s1.updStay fun x => { x with linkAt := some (x.linkAt.getD s.now) }
    s2.raiseStay 0x0C02 p [8, (p : Int), s2.linkDelay p]
  else (s.updStayPort p fun _ => {}).raiseStay 0x0C01 p [8, (p : Int)]

/-! ### Ethernet ports (R416 to R418) -/

/-- A frame is discarded and counted. -/
def State.ethDiscard (s : State) (p : Nat) : State := s.updEth p fun x => { x with rxDiscards := sat32 x.rxDiscards 1 }

/-- The frame's tag is the one the port takes; gPTP frames carry none.
Log 95: DEDUCED, unsafe. -/
def tagFits (c : Bytes) (f : EthFrame) : Bool :=
  match f.body with
  | .announce | .pdelayRequest _ | .pdelayResponse _ => f.vlan == none
  | _ => f.vlan == eVlan c

/-- A UDP datagram: a Halyard unit, a scan for a point-cloud source, or nothing the module knows. -/
def State.takeUdp (s : State) (p dport src sport : Nat) (data : Bytes) : State :=
  if dport = 50417 then
    (s.updEth p fun x => { x with halyardRx := sat32 x.halyardRx 1 }).unitArrival (.eth p src sport) data
  else
    let mine (n : Nat) : Bool :=
      let c := (s.fusSource n).cfg
      fKind c == 2 && fPort c == p && fUdp c == dport
    match (upto 16).find? mine with
    | some n => pointCloudDatagram n data s
    | none => s.ethDiscard p

/-- A PTP timestamp of a Mast time: seconds and nanoseconds on the PTP timescale (R418). -/
def ptpStamp (mast : Nat) : Bytes := putLE 6 (mast / 1000000000 + 315964819) ++ putLE 4 (mast % 1000000000)

/-- An Ethernet frame is received.
Log 95: DEDUCED, unsafe; log 96: DESIGN CHOICE, safe. -/
def ethFrameReceived (p : Nat) (f : EthFrame) (s : State) : State :=
  let e := s.eth p
  let ip := eAddress e.cfg
  if !s.domain 13 || !e.up || decide (3 < p) then s else
  let s1 := s.updEth p fun x => { x with rxFrames := sat32 x.rxFrames 1 }
  if !tagFits e.cfg f then s1.ethDiscard p
  else match f.body with
    | .arpRequest target sender =>
      if target = ip then s1.ethOut p (.eth p 0 (putLE 4 ip ++ putLE 4 sender)) else s1.ethDiscard p
    | .arpReply => s1
    | .echoRequest dst src data =>
      if dst = ip then s1.ethOut p (.eth p 1 (putLE 4 ip ++ putLE 4 src ++ data)) else s1.ethDiscard p
    | .udp dst dport src sport data => if dst = ip then s1.takeUdp p dport src sport data else s1.ethDiscard p
    | .announce =>
      if !eGptp e.cfg then s1.ethDiscard p else
      let s2 := s1.updEth p fun x => { x with announces := sat32 x.announces 1, foreignSeen := true }
      if e.foreignSeen then s2 else s2.raiseEth 0x0C0A p [(p : Int)]
    | .pdelayRequest n =>
      if eGptp e.cfg then s1.ethOut p (.eth p 6 (putLE 2 n ++ ptpStamp s.time.mast)) else s1.ethDiscard p
    | .pdelayResponse turnaround =>
      if !eGptp e.cfg then s1.ethDiscard p else
      match e.asked with
      | none => s1
      | some t1 =>
        let d : Int := ((s.time.mast : Int) - t1) - turnaround
        s1.updEth p fun x => { x with asked := none, delays := (d :: x.delays).take 8 }
    | .fragment | .other => s1.ethDiscard p

/-- `clockClass` by the GNSS time state (R418). -/
def State.clockClass (s : State) : Nat := if s.gnss.timeState = 0 then 248 else if s.gnss.timeState = 1 then 6 else 7

/-- Eight times a second Sync and Follow_Up; once a second Announce and a peer delay request (R418).
Log 95: DEDUCED, unsafe. -/
def gptpSyncSend (p : Nat) (s : State) : State :=
  let e := s.eth p
  if !s.domain 13 || decide (3 < p) || !e.up || !eGptp e.cfg || decide (s.now < e.syncAt) then s else
  let n := putLE 2 e.syncs
  let s1 := (s.ethOut p (.eth p 2 n)).ethOut p (.eth p 3 (n ++ ptpStamp s.time.mast))
  let s2 := s1.updEth p fun x => { x with syncs := x.syncs + 1, syncAt := x.syncAt + 125000000 }
  if e.syncs % 8 ≠ 0 then s2 else
  let a := putLE 1 (u8 e.cfg 1) ++ putLE 1 s.clockClass ++ putLE 2 (s.time.leapSeconds + 19)
  ((s2.ethOut p (.eth p 4 a)).ethOut p (.eth p 5 n)).updEth p fun x => { x with asked := some s.time.mast }

/-- The link of an Ethernet port, or of the service port, number 4, comes up or goes down (R416, R419, R420). The service port
has no settings and no gPTP. -/
def ethLinkChange (p : Nat) (up : Bool) (s : State) : State :=
  let e := s.eth p
  if !s.domain 13 || decide (4 < p) || (p != 4 && !eEnable e.cfg) || e.up == up then s
  else if up then
    (s.updEth p fun x => { x with up := true, foreignSeen := false, syncAt := s.now }).raiseEth 0x0C02 p
      [9, (p : Int), meanDelay e.delays]
  else (s.updEth p fun x => { x with up := false, asked := none, delays := [] }).raiseEth 0x0C01 p [9, (p : Int)]

/-- The swap of `ETH_SET_PORT`: a port that is not enabled has no link. -/
def applyEthPort (s : State) (e : Staged) : State :=
  let p := e.req.payload
  let s1 := s.updEth e.target fun x => { x with cfg := p, syncAt := if eGptp x.cfg then x.syncAt else s.now }
  if !eEnable p && (s.eth e.target).up then
    (s1.updEth e.target fun x => { x with up := false, asked := none, delays := [] }).raiseEth 0x0C01 e.target
      [9, (e.target : Int)]
  else s1

/-! ### Opcodes (R421) -/

/-- The boundary of a join or leave is at least 2 ahead of the resolution point. -/
def tooSoon (s : State) (z : Resolved) : Bool := decide (z.gridAt < (s.slotEnd / s.majorLen + 2) * s.majorLen)

/-- Log 93: DEDUCED, unsafe. -/
def opStayJoin : OpSpec :=
  { code := 0x0C01
    role := fun _ => 2
    kind := .major
    block := 8
    target := fun r => decide (r.target ≤ 4095)
    check := fun s r z =>
      if tooSoon s z then some (badParam 0x14)
      else if s.stay.membership ≠ 3 then some (0x40, [])
      else if (Tbl.getD s.stay.stations r.target {}).state ≠ 2 then some (0x41, [])
      else none
    onStage := fun s r z => s.issueChange true 0 r.target (z.gridAt / s.majorLen) }

/-- Log 93: DEDUCED, unsafe. -/
def opStayLeave : OpSpec :=
  { code := 0x0C02
    role := fun _ => 2
    kind := .major
    block := 8
    target := fun r => decide (r.target ≤ 4095)
    check := fun s r z =>
      let state := (Tbl.getD s.stay.stations r.target {}).state
      if s.stay.membership = 3 ∧ r.target = s.sys.station then some (stBadTarget, [])
      else if tooSoon s z then some (badParam 0x14)
      else if s.stay.membership ≠ 3 then some (0x40, [])
      else if state ≠ 3 ∧ state ≠ 4 then some (0x42, [])
      else none
    onStage := fun s r z => s.issueChange false 0 r.target (z.gridAt / s.majorLen) }

/-- Table 15-9. -/
def stayStatus (s : State) : Bytes :=
  let x := s.stay
  let ups := (upto 4).filter (fun p => (s.stayPort p).up)
  let delay := (ups.map s.linkDelay).foldl max 0
  putLE 1 x.membership ++ putLE 1 (packFlags [x.synced, x.masterLost, x.stepSkew]) ++ putLE 2 x.master ++
  putLE 1 (packFlags ((upto 4).map (fun p => (s.stayPort p).up))) ++ putLE 1 x.rank ++ putLE 1 x.hops ++ zeros 1 ++
  putS 4 x.offset ++
  putLE 4 (if x.membership = 3 then (x.stations.filter (fun e => e.2.state == 3 || e.2.state == 4)).length else 0) ++
  putLE 8 (cascadeId s.cascade) ++ putLE 4 x.exports ++ putLE 4 x.departedDiscards ++ putLE 4 x.staleDiscards ++
  putLE 4 x.foreignFrames ++ putLE 4 x.rxDiscards ++ putLE 4 delay.toNat

def opStayGetStatus : OpSpec := { getOp 0x0C03 (fun s _ => stayStatus s) with block := 8 }

/-- Table 15-10. -/
def Member.bytes (m : Member) : Bytes :=
  putLE 1 m.state ++ putLE 1 (packFlags [m.lanesDown, m.autoJoin]) ++ putLE 1 m.missed ++ zeros 1 ++ putLE 4 m.joinedAt ++
  putLE 8 m.imageId

def opStayGetStation : OpSpec :=
  { code := 0x0C04
    block := 8
    logs := false
    target := fun r => decide (r.target ≤ 4095)
    check := fun s _ _ => if s.stay.membership = 3 then none else some (0x40, [])
    run := fun s r => (s, some (stOk, (Tbl.getD s.stay.stations r.target {}).bytes)) }

/-- The gateway lies in the port's subnet, or there is none. -/
def gatewayFits (p : Bytes) : Bool :=
  let size := 2 ^ (32 - ePrefix p)
  eGateway p == 0 || eGateway p / size == eAddress p / size

def opEthSetPort : OpSpec :=
  { code := 0x0C05
    role := fun _ => 2
    kind := .major
    block := 9
    target := fun r => decide (r.target ≤ 3)
    param := fun r =>
      let p := r.payload
      lengthThen 32 r
        [need (!eEnable p || eAddress p != 0) 0,
         need (decide (1 ≤ u16 p 2 % 4096) && decide (u16 p 2 % 4096 ≤ 4094)) 2,
         need (gatewayFits p) 4,
         need (decide (8 ≤ ePrefix p) && decide (ePrefix p ≤ 30)) 8,
         need (decide (1024 ≤ u16 p 0x14)) 0x14] }

/-- Table 15-12. -/
def EthPort.status (e : EthPort) : Bytes :=
  putLE 1 (b2n e.up) ++ putLE 1 (b2n (e.up && eGptp e.cfg)) ++ zeros 2 ++ putLE 4 (meanDelay e.delays).toNat ++
  ([e.rxFrames, e.txFrames, e.rxDiscards, e.halyardRx, e.noPeer, e.announces].map (putLE 4)).flatten

def opEthGetStatus : OpSpec :=
  { code := 0x0C06
    block := 9
    logs := false
    target := fun r => decide (r.target ≤ 3)
    run := fun s r => (s, some (stOk, (s.eth r.target).status)) }

/-- The counters of an Ethernet port at zero. -/
def EthPort.clear (e : EthPort) : EthPort :=
  { e with
    rxFrames := 0
    txFrames := 0
    rxDiscards := 0
    halyardRx := 0
    noPeer := 0
    announces := 0 }

def opStayClearCounters : OpSpec :=
  { code := 0x0C07
    role := fun _ => 1
    block := 8
    run := fun s _ =>
      let s1 := s.updStay fun x =>
        { x with
          exports := 0
          departedDiscards := 0
          staleDiscards := 0
          foreignFrames := 0 }
      ({ s1 with eths := s1.eths.map (fun e => (e.1, e.2.clear)) }, some (stOk, [])) }

/-! ### Meanings -/

def execTimeFrameSend (dt : Nat) (s : State) : Host.Outcome State Fault Refusal :=
  runCmd dt s timeFrameSend
def execTimeFrameReceived (dt : Nat) (port : Nat) (frame : TimeFrame) (s : State) :
    Host.Outcome State Fault Refusal :=
  runCmd dt s fun s => s.takeTime port frame
def execListenerTimeStep (dt : Nat) (s : State) : Host.Outcome State Fault Refusal :=
  runCmd dt s listenerTimeStep
def execGridShiftAdopt (dt : Nat) (s : State) : Host.Outcome State Fault Refusal :=
  runCmd dt s gridShiftAdopt
def execPeerDelayRequest (dt : Nat) (port : Nat) (s : State) : Host.Outcome State Fault Refusal :=
  runCmd dt s (peerDelayRequest port)
def execMasterElectionTimeout (dt : Nat) (s : State) : Host.Outcome State Fault Refusal :=
  runCmd dt s masterElectionTimeout
def execMasterLost (dt : Nat) (s : State) : Host.Outcome State Fault Refusal :=
  runCmd dt s masterLost
def execBeaconSend (dt : Nat) (s : State) : Host.Outcome State Fault Refusal :=
  runCmd dt s beaconSend
def execControlFrameReceived (dt : Nat) (frame : ControlFrame) (s : State) : Host.Outcome State Fault Refusal :=
  runCmd dt s fun s => s.takeControl frame.source frame.body
def execStayLinkChange (dt : Nat) (port : Nat) (up : Bool) (s : State) : Host.Outcome State Fault Refusal :=
  runCmd dt s (stayLinkChange port up)
def execGptpSyncSend (dt : Nat) (port : Nat) (s : State) : Host.Outcome State Fault Refusal :=
  runCmd dt s (gptpSyncSend port)
def execEthLinkChange (dt : Nat) (port : Nat) (up : Bool) (s : State) : Host.Outcome State Fault Refusal :=
  runCmd dt s (ethLinkChange port up)

end Sys2Proof.Machine
end

