-- ==== Sys2Proof/Machine/PowerDom.lean ====
section
/-!
DEFINITION. Power domains, supply, wake sources, thermal limits, low states and module reset, and the power opcodes (18).
-/
namespace Sys2Proof.Machine
open Sys2Proof

/-! ### Domains (01 R29, R30) -/

/-- Column "Needs" of 01 Table 01-7. -/
def domainNeeds (n : Nat) : List Nat :=
  match n with
  | 0 => []
  | 2 => [0, 3]
  | 4 => [0, 5]
  | 6 => [0, 7]
  | 15 => [0, 1]
  | _ => [0]

/-- The domains in an order in which each comes after those it needs. -/
def domainOrder : List Nat := [0, 1, 3, 5, 7, 2, 4, 6, 8, 9, 10, 11, 12, 13, 14, 15]

/-- Cores and memory of a lane. -/
def coreDomain : Lane → Nat
  | .main => 2
  | .mizzen => 4

def memDomain : Lane → Nat
  | .main => 3
  | .mizzen => 5

def State.updPwr (s : State) (f : PwrSt → PwrSt) : State := { s with pwr := f s.pwr }

def State.setDomain (s : State) (n : Nat) (v : Bool) : State :=
  s.updPwr fun p => { p with domains := setBit p.domains n v }

/-- A record of the controller (R479).
Log 105: DEDUCED, unsafe. -/
def State.raisePwr (s : State) (code : Nat) (l : List Int) : State := s.raise code 0x14 255 (details l)

/-- Commands staged in a block whose domain goes off never take effect: `SUPERSEDED` (02 R52); those of the time subsystem are
held in D0.
Log 106: DEDUCED, unsafe. -/
def State.dropStaged (s : State) (block : Nat) : State :=
  (s.staged.filter (fun e => e.block == block && e.opcode / 256 != 2)).foldl State.withdraw s

/-! ### Channels and D15 (07 Table 07-9, 08 R229, R238) -/

/-- Channels that hold a state: all but the odd halves of pairs. -/
def State.heads (s : State) : List Nat := (upto 104).filter (fun c => !s.isOddOfPair c)

/-- A channel as its gate drive goes off. -/
def State.gateHold (s : State) (c : Nat) : State :=
  let h := s.chan c
  let held := s.hasHold h
  let cancelled := !held && (match h.retryDue with
    | some due => decide (due ≤ s.now)
    | none => false)
  let at_ := s.heldNow c
  let s1 := (s.clearOdd c).updChan c fun h =>
    let h1 := if held then h else h.freeze s.now
    { h1.outOff with
      episodeLatch := held && h.episodeLatch
      heldAt := at_ }
  if cancelled then s1.raise 0x0614 1 c (details [(HoldKind.gate.code : Int)]) else s1

/-- D15 goes off: every load drops, every channel enters `GATE_OFF`. -/
def State.gateDown (s : State) : State :=
  let l := s.heads
  ((l.foldl State.gateHold s).setDomain 15 false).bumpGen l.length

/-- A channel leaves `GATE_OFF`: its state by `MODE`, set duty 0, and what its retry state leaves it (08 Table 08-3). Items
taken and not yet the set duty stay (R203, R229). -/
def State.gateFree (s : State) (c : Nat) : State :=
  s.updChan c fun h =>
    let h1 := { h.byMode with pending := h.pending, itemSeen := !h.pending.isEmpty, periodNs := 0 }
    if s.hasHold h1 then h1 else h1.resume s.now

/-- D15 comes on in Run. -/
def State.gateUp (s : State) : State :=
  let l := s.heads
  let s1 := (s.setDomain 15 true).updPwr fun p => { p with d15At := s.now }
  let s2 : State := { s1 with power := { s1.power with supplies := [] } }
  (l.foldl State.gateFree s2).bumpGen l.length

/-! ### Lanes (Table 18-5) -/

/-- The cores of a lane go off: the lane is `FAILED`, and receivers ignore it.
Log 106: DEDUCED, unsafe. -/
def State.coresOff (s : State) (l : Lane) : State :=
  let s1 := (s.updLane l LaneSt.reset).updXt l fun x => { state := .failed, recoveries := x.recoveries }
  let s2 := (s1.discardUntaken l).finishAll
  if l = s.xt.active ∧ (s.xtLane l.other).state = .standby then s2.designate l.other 0 else s2

/-- The cores of a `FAILED` lane come on: `RECOVERING`, released at once (R469).
Log 106: DEDUCED, unsafe. -/
def State.coresOn (s : State) (l : Lane) : State :=
  if (s.xtLane l).state = .failed then
    (s.updXt l fun x => { x with state := .recovering, hold := some s.now }).setAdopted l false
  else s

/-- A lane's memory goes off: its trouble log is lost (17 R458). -/
def State.laneMemOff (s : State) (l : Lane) : State := s.updLane l fun a => { a with trouble := [], troubleNext := 0 }

/-- A lane's DRAM and SRAM controllers as its memory domain comes on. -/
def State.laneMemOn (s : State) (l : Lane) : State := (s.memOn l.code).memOn (2 + l.code)

/-! ### Effects of switching (Table 18-5) -/

/-- The fusion engine stops (12 R348). -/
def State.fusionDown (s : State) : State :=
  s.updFus fun f => { f with running := none, open_ := [], frames := [], releases := [] }

/-- Both fusion domains are on: slots are copied, and the next round that uses state resets it (12 R346, R348). -/
def State.fusionUp (s : State) : State :=
  if s.fusOn then
    s.updFus fun f =>
      { f with
        slots := f.slots.map (fun x => (x.1, if 3 ≤ x.2.state then { x.2 with state := 3 } else x.2))
        resetCause := some (f.resetCause.getD 0) }
  else s

/-- With D9 and D10 both off, no tracker is left: `HOLDOVER` (13 Table 13-11). -/
def State.gnssDark (s : State) : State := if s.domain 9 || s.domain 10 then s else s.loseTime.refreshTime

/-- The GNSS settings of D10 at their reset values. -/
def GnssSt.resetSettings (g : GnssSt) : GnssSt :=
  { g with
    config := gnssReset
    watch := watchReset
    tp0 := { g.tp0 with cfg := pulseReset }
    tp1 := { g.tp1 with cfg := pulseReset } }

/-- The Stay links and Ethernet ports at reset: a station whose image holds a cascade table is a listener (15 R409). -/
def State.portsDown (s : State) : State :=
  let x : StaySt := { membership := b2n s.inCascade }
  ({ s with
    stay := x
    eths := []
    time := { s.time with timeFromMaster := false } } : State).refreshTime

/-- A domain goes off.
Log 106: DEDUCED, unsafe. -/
def State.domainOff (s : State) (n : Nat) : State :=
  let off := s.setDomain n false
  match n with
  | 2 => off.coresOff .main
  | 4 => off.coresOff .mizzen
  | 3 => off.laneMemOff .main
  | 5 => off.laneMemOff .mizzen
  | 6 => (off.dropStaged 4).fusionDown
  | 7 => off.fusionDown
  | 8 => { off.dropStaged 3 with cams := [] }
  | 9 => (off.updGnss fun g => g.trackerDown s.now).gnssDark
  | 10 => ((off.dropStaged 5).updGnss fun g => { g.resetSettings with data := {} }).gnssDark
  | 11 => { off.dropStaged 2 with sense := { yield_ := resetYield } }
  | 12 => { off.dropStaged 7 with cans := [] }
  | 13 => ((off.dropStaged 8).dropStaged 9).portsDown
  | 14 => (off.dropStaged 10).updRec fun r => { r with arriving := [], changeArriving := [] }
  | 15 => s.gateDown
  | _ => off

/-- A domain comes on. -/
def State.domainOn (s : State) (n : Nat) : State :=
  let on := s.setDomain n true
  match n with
  | 2 => on.coresOn .main
  | 4 => on.coresOn .mizzen
  | 3 => on.laneMemOn .main
  | 5 => on.laneMemOn .mizzen
  | 6 => on.fusionUp
  | 7 => ({ (on.memOn 4).startFill 4 with
      cams := on.cams.map (fun x => (x.1, { x.2 with targetOff := false })) } : State).fusionUp
  | 9 => on.trackerUp
  | 10 => on.updGnss fun g => { g.resetSettings with data := g.saved }
  | 13 => on.updPwr fun p => { p with d13At := s.now }
  | 15 => s.gateUp
  | _ => on

/-- Domains that no command switches while a lane is active (01 R30, Table 01-7): D0, D1, D14, and those of that lane. -/
def lockedFor (active : Lane) : List Nat := [0, 1, 14, coreDomain active, memDomain active]

/-- The lane that is active after the swaps at grid time `g`, counting a `LANE_REQUEST_SWITCH` staged up to then (02 R53). -/
def State.activeAt (s : State) (g : Nat) : Lane :=
  if s.staged.any (fun e => e.opcode == 0x0406 && decide (e.gridAt ≤ g)) && (s.xtLane s.xt.active.other).state == .standby then
    s.xt.active.other
  else s.xt.active

/-- A domain may go off: nothing locks it, and no domain that is on needs it (01 R29, R30). -/
def State.mayGoOff (s : State) (n : Nat) : Bool :=
  !(lockedFor s.xt.active).contains n && (upto 16).all fun k => !(s.domain k && (domainNeeds k).contains n)

/-- A domain may come on: every domain that it needs is on (01 R29). -/
def State.mayComeOn (s : State) (n : Nat) : Bool := (domainNeeds n).all s.domain

/-- `PWR_SET_DOMAIN` at its boundary: the domains of `OFF` go off, those that need others first, then those of `ON` come on.
Where the active lane or the domains on are others than at staging, a switch that would break the order of 01 R29, or take the
active lane's domains from it (R30), is left undone.
Log 120: DEDUCED, unsafe. -/
def applySetDomain (s : State) (e : Staged) : State :=
  let on := u16 e.req.payload 0
  let off := u16 e.req.payload 2
  let goOff (t : State) (n : Nat) : State := if bitOf off n && t.domain n && t.mayGoOff n then t.domainOff n else t
  let comeOn (t : State) (n : Nat) : State := if bitOf on n && !t.domain n && t.mayComeOn n then t.domainOn n else t
  let s2 := domainOrder.foldl comeOn (domainOrder.reverse.foldl goOff s)
  s2.raisePwr 0x0F04 [(s.pwr.domains : Int), (s2.pwr.domains : Int)]

/-! ### Temperatures (R477) -/

/-- A sensor's last measurement, 0.1 °C. -/
def State.temp (s : State) (n : Nat) : Int := Tbl.getD s.pwr.temps n 0

/-- The warning level of a sensor, 0.1 °C (Table 18-7). -/
def warnLevel (config : Bytes) (n : Nat) : Option Int :=
  if n = 1 then some (10 * u8 config 12)
  else if n = 2 ∨ n = 3 ∨ n = 4 then some (10 * u8 config 13)
  else none

/-- The warning of a sensor follows its temperature: set and recorded at the level, clear 5 °C below. -/
def State.judgeWarning (s : State) (n : Nat) : State :=
  let t := s.temp n
  match warnLevel s.pwr.config n with
  | none => s
  | some w =>
    let warned := bitOf s.pwr.thermalWarn n
    if !warned && decide (w ≤ t) then
      (s.updPwr fun p => { p with thermalWarn := setBit p.thermalWarn n true }).raisePwr 0x0F08 [(n : Int), t]
    else if warned && decide (t ≤ w - 50) then s.updPwr fun p => { p with thermalWarn := setBit p.thermalWarn n false }
    else s

/-- The lane whose die a sensor measures. -/
def sensorLane (n : Nat) : Option Lane := if n = 2 then some .main else if n = 3 then some .mizzen else none

/-- The action limits of the lanes' and the fusion die (Table 18-7). -/
def State.judgeLimit (s : State) (n : Nat) : State :=
  let t := s.temp n
  match sensorLane n with
  | some l =>
    if 1150 ≤ t ∧ (s.lane l).running ∧ !(s.lane l).fatal then
      (s.raisePwr 0x0F09 [(n : Int), t, 1]).fatalFault l
    else s
  | none =>
    if n = 4 ∧ 1150 ≤ t ∧ (s.domain 6 ∨ s.domain 7) then
      let s1 := ([6, 7].filter (fun d => s.domain d)).foldl State.domainOff s
      s1.raisePwr 0x0F09 [(n : Int), t, 2]
    else s

/-- A measured temperature is judged. -/
def State.senseTemp (s : State) (n : Nat) (t : Int) : State :=
  let s1 := s.updPwr fun p =>
    { p with
      temps := Tbl.put p.temps n t
      hotSince := if n = 1 then (if 950 ≤ t then some (p.hotSince.getD s.now) else none) else p.hotSince }
  let s2 := match sensorLane n with
    | some l => s1.updLane l fun a => { a with health := { a.health with tempMax := max a.health.tempMax t } }
    | none => s1
  if s.domain 0 then (s2.judgeWarning n).judgeLimit n else s2

/-! ### The supply (R462) -/

/-- The 1 ms mean of ESUP, mV: at most ten samples of 10 kHz; 0 before the first.
Log 10: DESIGN CHOICE, unsafe; log 102: DEDUCED, unsafe. -/
def PwrSt.esupMean (p : PwrSt) : Nat := if p.esup = [] then 0 else sumNat p.esup / p.esup.length

/-- `SUPPLY_LOW` follows the mean; the record of a dip is made when it ends, with its lowest mean.
Log 102: DEDUCED, unsafe. -/
def State.judgeSupply (s : State) (m : Nat) : State :=
  if m < 14000 then
    s.updPwr fun p =>
      { p with
        supplyLow := true
        lowestEsup := if p.supplyLow then min p.lowestEsup m else m
        supplyLowEvents := sat32 p.supplyLowEvents (b2n !p.supplyLow) }
  else if s.pwr.supplyLow then
    (s.updPwr fun p => { p with supplyLow := false }).raisePwr 0x0F02 [(s.pwr.lowestEsup : Int)]
  else s

/-- `ESUP_MEASURE`: every 100 µs.
Log 102: DEDUCED, unsafe. -/
def esupMeasure (x : PwrSample) (s : State) : State :=
  let s1 := s.updPwr fun p => { p with esup := (x.mv :: p.esup).take 10, electronicsW := x.deciWatt }
  let s2 := (x.temps.zipIdx.take 6).foldl (fun t y => t.senseTemp y.2 y.1) s1
  let m := s2.pwr.esupMean
  if s.domain 0 then
    (s2.updPwr fun p =>
      { p with esupFailAt := if m < 10000 then some (p.esupFailAt.getD s.now) else none }).judgeSupply m
  else if m < 6000 then s2.updPwr fun p => { p with module_ := .unpowered }
  else s2

/-! ### What a module reset leaves (R470) -/

/-- The module with every block at its reset values; what flash and MRAM hold stays, and time, GNSS block and controller
are given. -/
def State.cleared (s : State) (t : TimeSt) (g : GnssSt) (p : PwrSt) : State :=
  { State.reset with
    pending := s.pending
    time := t
    sys := { State.reset.sys with keys := s.sys.keys, station := s.sys.station, serial := s.sys.serial, firmware := s.sys.firmware }
    sched :=
      { bank0 := s.sched.bank0
        bank1 := s.sched.bank1
        startBank := s.sched.startBank
        image := serviceImage s.sys.station }
    gnss := g
    fus := { resetFus with slots := s.fus.slots }
    mem :=
      { ctrls := s.mem.ctrls.map (fun x => (x.1, { resetMemCtrl x.1 with powerUps := x.2.powerUps }))
        fillAtPowerOn := s.mem.fillAtPowerOn }
    rec_ :=
      { store := s.rec_.store
        next := s.rec_.next
        change := s.rec_.change
        changeNext := s.rec_.changeNext
        history := s.rec_.history
        clears := s.rec_.clears }
    pwr := p
    free := s.free
    out := s.out }

/-- Time that runs on unbroken: its grid is anchored anew at the next start-up boundary.
Log 107: DEDUCED, unsafe. -/
def State.keptTime (s : State) : TimeSt :=
  { s.time with
    anchored := false
    gridShift := 0
    timeFromMaster := false
    lastMajor := none
    lastSlot := none }

/-- Time while D0 is off: only the count of the real-time clock, which the model keeps in `mast` (R465).
Log 107: DEDUCED, unsafe. -/
def State.clockTime (s : State) (leap : Nat) : TimeSt := { resetTime leap with mast := s.time.mast, ticks := s.time.ticks }

/-- The GNSS block after D10 has been off: its data come from MRAM (13 R356).
Log 107: DEDUCED, unsafe. -/
def GnssSt.restored (g : GnssSt) : GnssSt := { resetGnss with data := g.saved, saved := g.saved }

/-- The controller keeps what its pins and sensors show, and its settings. -/
def PwrSt.carried (p : PwrSt) : PwrSt :=
  { p with
    phase := 0
    runOn := none
    startupAt := none
    lowEntry := none
    resetAt := none
    alarmAt := none }

/-- A pulse in progress ends at its inactive level (13 Table 13-12). -/
def State.endPulses (s : State) : State :=
  let stop (t : State) (n : Nat) : State :=
    if (t.pulse n).endAt.isSome then t.emit (.pulse n (tpLow (t.pulse n).cfg) t.time.mast) else t
  stop (stop s 0) 1

/-- The recorder takes what is on its way and commits everything it holds (R463, R473).
Log 108: DEDUCED, unsafe. -/
def State.flushRecorder (s : State) : State :=
  let s1 := s.rec_.arriving.foldl (fun t _ => eventRecordArrival t) s
  let s2 := s1.rec_.hold.foldl (fun t x => t.commit x.1 x.2 false) s1
  (s2.rec_.changeArriving.foldl (fun t _ => changeLogEntry t) s2).updRec fun r => { r with hold := [] }

/-- Mast time is saved to MRAM. -/
def State.saveMast (s : State) : State := s.updPwr fun p => { p with savedMast := s.time.mast }

/-- The alarm's next due count: the next multiple of `ALARM_S` (R466).
Log 107: DEDUCED, unsafe. -/
def State.nextAlarm (s : State) : Option Nat :=
  let n := u32 s.pwr.config 8
  if n = 0 then none else some ((s.time.mast / 1000000000 / n + 1) * n)

/-! ### Low states (R472, R473) -/

/-- The module goes to Sleep: every domain off.
Log 108: DEDUCED, unsafe. -/
def State.toSleep (s : State) (cause : Nat) : State :=
  let p := s.pwr.carried
  s.endPulses.cleared (s.clockTime s.gnss.saved.leap) s.gnss.restored
    { p with
      module_ := .sleep
      resetCause := cause
      domains := 0
      supplyLow := false
      supplyLowEvents := 0
      thermalWarn := 0
      esupFailAt := none
      alarmAt := s.nextAlarm }

/-- The module goes to Watch: D0 and D10 on. -/
def State.toWatch (s : State) : State :=
  let p := s.pwr.carried
  s.cleared s.keptTime (s.gnss.trackerDown s.now)
    { p with
      module_ := .watch
      resetCause := 2
      domains := 1025
      alarmAt := s.nextAlarm }

/-- The entry sequence at a boundary: state 0 Sleep, 1 Watch, and what caused it (R473).
Log 104: DEDUCED, unsafe. -/
def State.enterLow (s : State) (state : Nat) (command : Bool) (cause : Nat) : State :=
  let s1 := s.raisePwr 0x0F05 [(state : Int), (b2n command : Int)]
  let s2 := if s.domain 15 then s1.gateDown else s1
  let s3 := s2.flushRecorder.saveMast
  if state = 0 then s3.toSleep cause else s3.toWatch

/-- Low-power entry due at a major boundary (R472). -/
def State.lowPowerBoundary (s : State) : State :=
  match s.pwr.lowEntry with
  | none => s
  | some (state, command) => s.enterLow state command (if state = 0 then 3 else 2)

/-- The module is in a low state or unpowered. -/
def PwrSt.down (p : PwrSt) : Bool :=
  match p.module_ with
  | .unpowered | .sleep | .watch => true
  | .starting | .run => false

/-- `SUPPLY_FAIL`: ESUP below 10.0 V for 10 ms (R463).
Log 104: DEDUCED, unsafe. -/
def supplyFail (s : State) : State :=
  match s.pwr.esupFailAt with
  | none => s
  | some t =>
    if !s.domain 0 || decide (s.now < t + 10000000) then s else
    let s1 := if s.domain 15 then s.gateDown else s
    let e : Event := ⟨0x0F03, 0x14, s.time.mast, s.time.stepCount, 255, fitTo 32 (details [(s.pwr.esupMean : Int)])⟩
    let s2 := (s1.commit e false false).flushRecorder.saveMast
    let s3 := if s.domain 10 then s2.saveGnss else s2
    (s3.toSleep 1).updPwr fun p => { p with module_ := .unpowered, alarmAt := none }

/-- `THERMAL_LIMIT`: the outlet has been at 95 °C for 10 s (R478).
Log 108: DEDUCED, unsafe; log 115: DESIGN CHOICE, safe. -/
def thermalLimit (temp : Int) (s : State) : State :=
  match s.pwr.hotSince with
  | none => s
  | some t =>
    if s.pwr.down || decide (s.now < t + 10000000000) then s
    else (s.raisePwr 0x0F09 [1, temp, 0]).enterLow 0 false 5

/-- `RUN_ON_EXPIRY` (R472).
Log 104: DEDUCED, unsafe. -/
def runOnExpiry (s : State) : State :=
  let n := u16 s.pwr.config 4
  match s.pwr.runOn with
  | none => s
  | some t =>
    if n = 0 ∨ s.pwr.wake ∨ s.now < t + n * 1000000000 then s
    else s.updPwr fun p => { p with runOn := none, lowEntry := some (u8 p.config 0, false) }

/-! ### Wake sources and starts (R466) -/

/-- `WAKE_CHANGE`.
Log 103: DEDUCED, unsafe; log 104: DEDUCED, unsafe. -/
def wakeChange (asserted : Bool) (s : State) : State :=
  s.updPwr fun p =>
    { p with
      wake := asserted
      runOn := if asserted then none else if p.down || !p.wake then p.runOn else some s.now }

/-- A wake source that does not last is there at its instant; one that meets a plate too hot waits (R478).
Log 103: DEDUCED, unsafe. -/
def State.wakeEvent (s : State) : State :=
  if s.pwr.down && (decide (16000 ≤ s.pwr.esupMean) || s.pwr.resetCause == 5) then
    s.updPwr fun p => { p with wakePending := true }
  else s

/-- `CAN_WAKE_PATTERN`.
Log 103: DEDUCED, unsafe. -/
def canWakePattern (port : Nat) (s : State) : State :=
  if bitOf (u16 s.pwr.config 2 % 4096) port && !s.domain 12 then s.wakeEvent else s

/-- `RTC_ALARM`: every `ALARM_S` seconds of the clock, in Sleep or Watch.
Log 103: DEDUCED, unsafe. -/
def rtcAlarm (s : State) : State :=
  match s.pwr.alarmAt with
  | none => s
  | some c =>
    if s.time.mast / 1000000000 < c then s
    else s.wakeEvent.updPwr fun p => { p with alarmAt := s.nextAlarm }

/-- `POWER_ON`: ESUP rises from below 6.0 V; the clock has kept its count or lost it. -/
def powerOn (rtcHeld : Bool) (s : State) : State :=
  if s.pwr.module_ = .unpowered then
    s.updPwr fun p => { p with resetCause := 0, esup := [], rtcLost := p.rtcLost || !rtcHeld }
  else s

/-- Everything a start needs is there: ESUP at 16.0 V or more, a wake source, and after a thermal reset a plate below
80 °C.
Log 103: DEDUCED, unsafe. -/
def State.mayStart (s : State) : Bool :=
  s.pwr.down && decide (16000 ≤ s.pwr.esupMean) && (s.pwr.wake || s.pwr.wakePending) &&
  (s.pwr.resetCause != 5 || decide (s.temp 1 < 800))

/-- Mast time as D0 switches on (R465). -/
def State.mastAtStart (s : State) : Nat :=
  if s.pwr.rtcLost then s.pwr.savedMast else s.time.mast / 1000000000 * 1000000000

/-- `MODULE_START`: the module reset of Table 18-4, and phase 1, or from Watch phase 2. -/
def moduleStart (s : State) : State :=
  if !s.mayStart then s else
  let p := { s.pwr with
    module_ := .starting
    phase1At := s.now
    wakePending := false
    alarmAt := none
    rtcLost := false }
  if s.pwr.module_ = .watch then
    s.endPulses.cleared s.keptTime { s.gnss.resetSettings with tp0 := { cfg := pulseReset }, tp1 := { cfg := pulseReset } }
      { p with phase := 2, domains := 17409 }
  else
    let t := s.clockTime s.gnss.saved.leap
    s.cleared { t with mast := s.mastAtStart } s.gnss { p with phase := 1, domains := 1 }

/-- `MODULE_RESET_BEGIN`: 2 ms after the boundary of `PWR_RESET` every domain but D0 and D10 goes off, and the start goes
on in phase 2 (R471). D14 comes on again with it. -/
def moduleResetBegin (s : State) : State :=
  match s.pwr.resetAt with
  | none => s
  | some t =>
    if s.now < t then s else
    let p := s.pwr.carried
    let g := { (s.gnss.trackerDown s.now).resetSettings with tp0 := { cfg := pulseReset }, tp1 := { cfg := pulseReset } }
    let g1 := if s.domain 10 then g else { g with data := g.saved }
    s.endPulses.cleared s.keptTime g1
      { p with
        module_ := .starting
        phase := 2
        resetCause := 4
        domains := 17409
        phase1At := s.now }

/-! ### Connectors (R475) -/

/-- `CONNECTOR_MATED` and `CONNECTOR_UNMATED`: connector 1 to 8.
Log 29: DEDUCED, unsafe; log 110: DESIGN CHOICE, safe; log 115: DESIGN CHOICE, safe. -/
def connector (n : Nat) (mated : Bool) (s : State) : State :=
  if n = 0 ∨ 8 < n ∨ !s.domain 0 then s
  else (s.updPwr fun p => { p with connectors := setBit p.connectors (n - 1) mated }).raisePwr
    (if mated then 0x0F07 else 0x0F06) [(n : Int)]

/-! ### Opcodes (R480) -/

/-- The domains on after a command.
Log 101: DEDUCED, unsafe. -/
def domainsAfter (now on off : Nat) (n : Nat) : Bool := (bitOf now n || bitOf on n) && !bitOf off n

/-- A domain is left on without one it needs, or named in both masks.
Log 101: DEDUCED, unsafe. -/
def orderBroken (now on off : Nat) : Bool :=
  (upto 16).any fun n =>
    (bitOf on n && bitOf off n) ||
    (domainsAfter now on off n && (domainNeeds n).any (fun k => !domainsAfter now on off k))

/-- `PWR_SET_DOMAIN` (R474).
Log 101: DEDUCED, unsafe; log 120: DEDUCED, unsafe. -/
def opPwrSetDomain : OpSpec :=
  { code := 0x0F01
    role := fun _ => 2
    kind := .major
    block := 11
    param := needLength 4
    check := fun s r z =>
      let on := u16 r.payload 0
      let off := u16 r.payload 2
      if orderBroken s.pwr.domains on off then some (0x40, [])
      else if (lockedFor (s.activeAt z.gridAt)).any (fun n => bitOf on n || bitOf off n) then some (0x41, [])
      else if bitOf on 6 && decide (950 ≤ s.temp 4) then some (0x43, [])
      else none }

/-- Milliseconds the run-on timer has left, rounded up. -/
def State.runOnLeft (s : State) : Nat :=
  match s.pwr.runOn with
  | none => 0
  | some t => msUp (t + u16 s.pwr.config 4 * 1000000000 - s.now)

/-- Table 18-10. The bit of J1 reads 1 in a module that can answer. -/
def powerStatus (s : State) : Bytes :=
  let p := s.pwr
  let active := p.runOn.isSome && u16 p.config 4 != 0
  putLE 1 (if p.module_ = .run then 1 else 0) ++ putLE 1 p.resetCause ++ putLE 2 p.domains ++ putLE 2 (setBit p.connectors 0 true) ++
  putLE 1 (packFlags [p.wake, active, p.supplyLow, p.thermalWarn != 0]) ++ zeros 1 ++ putLE 4 p.esupMean ++
  putLE 4 (if active then s.runOnLeft else 0) ++ ((upto 6).map (fun n => putS 2 (s.temp n))).flatten ++
  putLE 4 p.startMs ++ putLE 4 p.startupMajor ++ putLE 4 p.electronicsW ++ putLE 4 p.supplyLowEvents ++ zeros 4

def opPwrGetStatus : OpSpec := { getOp 0x0F02 (fun s _ => powerStatus s) with block := 11, local_ := true }

/-- `PWR_SET_CONFIG` at its boundary: stored in MRAM, and judged by at once. -/
def applyPwrConfig (s : State) (e : Staged) : State :=
  (upto 6).foldl State.judgeWarning (s.updPwr fun p => { p with config := e.req.payload })

/-- `PWR_SET_CONFIG` (Table 18-11). -/
def opPwrSetConfig : OpSpec :=
  { code := 0x0F03
    role := fun _ => 2
    kind := .major
    block := 11
    param := fun r =>
      let p := r.payload
      let alarm := u32 p 8
      lengthThen 16 r
        [need (decide (u8 p 0 ≤ 1)) 0, need (decide (u16 p 4 ≤ 3600)) 4, need (decide (u16 p 6 ≤ 120)) 6,
         need (alarm == 0 || (decide (60 ≤ alarm) && decide (alarm ≤ 604800))) 8,
         need (decide (40 ≤ u8 p 12) && decide (u8 p 12 ≤ 90)) 12,
         need (decide (60 ≤ u8 p 13) && decide (u8 p 13 ≤ 110)) 13] }

/-- `PWR_ENTER_LOW` at its boundary: with WAKE asserted the module stays in Run (R472). -/
def applyEnterLow (s : State) (e : Staged) : State :=
  if s.pwr.wake then s else s.updPwr fun p => { p with lowEntry := some (u8 e.req.payload 0, true) }

def opPwrEnterLow : OpSpec :=
  { code := 0x0F04
    kind := .major
    block := 11
    param := fun r => lengthThen 4 r [need (decide (u8 r.payload 0 ≤ 1)) 0]
    check := fun s _ _ => if s.pwr.wake then some (0x42, []) else none }

/-- `PWR_RESET` at its boundary (R471).
Log 104: DEDUCED, unsafe; log 108: DEDUCED, unsafe. -/
def applyPwrReset (s : State) (_ : Staged) : State := s.updPwr fun p => { p with resetAt := some (s.now + 2000000) }

def opPwrReset : OpSpec :=
  { code := 0x0F05
    role := fun _ => 1
    kind := .major
    block := 11 }

/-! ### Meanings -/

def execPowerOn (dt : Nat) (rtcHeld : Bool) (s : State) : Host.Outcome State Fault Refusal :=
  runCmd dt s (powerOn rtcHeld)
def execSupplyFail (dt : Nat) (s : State) : Host.Outcome State Fault Refusal :=
  runCmd dt s supplyFail
def execWakeChange (dt : Nat) (asserted : Bool) (s : State) : Host.Outcome State Fault Refusal :=
  runCmd dt s (wakeChange asserted)
def execCanWakePattern (dt : Nat) (port : Nat) (s : State) : Host.Outcome State Fault Refusal :=
  runCmd dt s (canWakePattern port)
def execRtcAlarm (dt : Nat) (s : State) : Host.Outcome State Fault Refusal :=
  runCmd dt s rtcAlarm
def execModuleStart (dt : Nat) (s : State) : Host.Outcome State Fault Refusal :=
  runCmd dt s moduleStart
def execRunOnExpiry (dt : Nat) (s : State) : Host.Outcome State Fault Refusal :=
  runCmd dt s runOnExpiry
def execModuleResetBegin (dt : Nat) (s : State) : Host.Outcome State Fault Refusal :=
  runCmd dt s moduleResetBegin
def execConnectorMated (dt : Nat) (connector : Nat) (s : State) : Host.Outcome State Fault Refusal :=
  runCmd dt s (Sys2Proof.Machine.connector connector true)
def execConnectorUnmated (dt : Nat) (connector : Nat) (s : State) : Host.Outcome State Fault Refusal :=
  runCmd dt s (Sys2Proof.Machine.connector connector false)
def execThermalLimit (dt : Nat) (temp : Int) (s : State) : Host.Outcome State Fault Refusal :=
  runCmd dt s (thermalLimit temp)
def execLaneStopped (dt : Nat) (lane : Lane) (s : State) : Host.Outcome State Fault Refusal :=
  runCmd dt s (laneStopped lane)

end Sys2Proof.Machine
end

