-- ==== Sys2Proof/Machine/Sys.lean ====
section
/-!
DEFINITION. The system opcodes (04 R126 to R128).
-/
namespace Sys2Proof.Machine
open Sys2Proof

/-- `KEYS_SET`: bit n set if the key of role n is set. -/
def SysSt.keysSet (y : SysSt) : Nat := packFlags ((upto 4).map (fun n => (Tbl.find y.keys n).isSome))

def opSysGetInfo : OpSpec := getOp 0x0101 fun s _ =>
  putLE 2 0x41 ++ putLE 1 1 ++ putLE 1 s.sys.keysSet ++ putLE 2 s.sys.station ++ zeros 2 ++ putLE 8 s.sys.serial ++
  putLE 4 s.sys.firmware ++ putLE 4 0x00010000 ++ zeros 8

/-- The swap of `SYS_SET_KEY` (R127). -/
def applySetKey (s : State) (e : Staged) : State :=
  let p := e.req.payload
  { s with sys := { s.sys with keys := Tbl.put s.sys.keys (u8 p 0) ((p.drop 4).take 32) } }

/-- `SYS_SET_KEY` (R127, Table 04-12): only the key of a role strictly below the sender's. -/
def opSysSetKey : OpSpec :=
  { code := 0x0102
    role := fun _ => 2
    kind := .major
    block := 10
    param := fun r =>
      let p := r.payload
      lengthThen 36 r [need (decide (u8 p 0 ≤ 3)) 0, need ((p.drop 4).any (fun b => b != 0)) 4]
    check := fun _ r _ => if u8 r.payload 0 < roleOf r then none else some (stNotAuthorised, []) }

/-- `SYS_CLEAR_ORIGINS` empties both lanes' origin tables (R128). -/
def opSysClearOrigins : OpSpec :=
  { code := 0x0103
    role := fun _ => 1
    run := fun s _ => (s.updLanes (fun a => { a with origins := [] }), some (stOk, [])) }

def opSysGetPacketCounters : OpSpec := getOp 0x0104 fun s _ =>
  let y := s.sys
  putLE 4 y.runts ++ putLE 4 y.syncDiscards ++ putLE 4 y.lengthExceeds ++ putLE 4 y.badCrc ++
  putLE 4 y.notAuthorised ++ putLE 4 y.sequenceStale ++ putLE 4 y.originFull ++ putLE 4 y.replyDiscards

end Sys2Proof.Machine
end

