-- ==== Sys2Proof/Machine/Sched.lean ====
section
/-!
DEFINITION. The opcode directory (04 R123), the opcodes that need it, and activation of an image (03 R95, R96, R502).
-/
namespace Sys2Proof.Machine
open Sys2Proof

/-- Every opcode but those that use this table themselves, `SCHED_LOAD_END` and `SCHED_ACTIVATE`. -/
def ops0 : List OpSpec :=
  [opTimeGetStatus, opTimeSetLeap, opTimeSetManual] ++
  [opSysGetInfo, opSysSetKey, opSysClearOrigins, opSysGetPacketCounters] ++
  [opSchedLoadBegin, opSchedLoadData, opSchedSetStartBank, opSchedGetStatus] ++
  [opLaneGetStatus, opLaneSetPolicy, opLaneSetDedupWindow, opLaneGetReceiverCounters, opLaneRequestBurst,
   opLaneRequestSwitch, opLaneRecover, opLaneResyncRequest] ++
  [opCtrlSetLoop, opCtrlSetCoeffs, opCtrlSetClamp, opCtrlPresetState, opCtrlGetLoop, opCtrlGetStatus,
   opCtrlClearCounters] ++
  [opChanSetConfig, opChanSetProtection, opChanGetConfig, opChanGetStatus, opChanGetSupply, opChanClearCounters,
   opChanGetProtection, opChanGetGeneration, opChanReleaseLatch, opChanRefillRetry, opChanStopReset, opChanAdopt] ++
  [opSenseSetInput, opSenseSetLoss, opSenseSetBridge, opSenseSetSupply, opSenseGetStatus] ++
  [opYieldSetGrid, opYieldSetSources, opYieldClearGrid, opYieldGetTotals] ++
  [opCamSetPort, opCamSetGeometry, opCamSetLinear, opCamSetExposure, opCamSensorTransfer, opCamGetStatus,
   opCamClearCounters, opCamSetCfa, opCamSetWb, opCamSetMatrix, opCamSetTone, opCamSetStream, opCamSetStats,
   opCamGetStreamStatus] ++
  [opFusionSetSource, opFusionSetRound, opFusionSetCanvas, opFusionResetState, opFusionNetLoadBegin,
   opFusionNetLoadData, opFusionNetLoadEnd, opFusionGetRoundStatus, opFusionGetSourceStatus, opFusionGetNetStatus,
   opFusionClearCounters] ++
  [opGnssSetConfig, opGnssSetTimePulse, opGnssSetWatch, opGnssAid, opGnssResetData, opGnssGetStatus,
   opGnssClearCounters] ++
  [opCanSetPort, opCanSetFilters, opCanRecover, opCanGetStatus, opCanClearCounters] ++
  [opStayJoin, opStayLeave, opStayGetStatus, opStayGetStation, opEthSetPort, opEthGetStatus, opStayClearCounters] ++
  [opMemSetMode, opMemSetPatrol, opMemGetStatus, opMemClearLog, opMemRewrite, opMemTestWrite, opMemTestRead,
   opMemSetFill] ++
  [opRecRead, opRecReadTrouble, opRecGetStatus, opRecFreeze, opRecUnfreeze, opRecClear, opRecSetRate, opRecGetRate] ++
  [opPwrSetDomain, opPwrGetStatus, opPwrSetConfig, opPwrEnterLow, opPwrReset]

/-- An opcode of the directory, by number. -/
def findIn (l : List OpSpec) (code : Nat) : Option OpSpec := l.find? (fun op => op.code == code)

/-- The opcode has swap kind immediate; `SCHED_LOAD_END` is the one outside `ops0` that has. -/
def immediateOp (code : Nat) : Bool :=
  code == 0x0303 || match findIn ops0 code with
    | some op => op.kind == .immediate
    | none => false

/-! ### `SCHED_LOAD_END` (R89, R94) -/

/-- `SCHED_LOAD_END`: the load checks, and the bank becomes valid or invalid. -/
def opSchedLoadEnd : OpSpec :=
  { code := 0x0303
    role := fun _ => 2
    block := 10
    param := fun r => lengthThen 4 r [needBank r]
    check := fun s r _ =>
      let b := s.bank (bankOf r)
      if !b.loading || decide (b.data.length < b.length) then some (0x42, []) else none
    run := fun s r =>
      match imageError (s.bank (bankOf r)) s.sys.station immediateOp with
      | none => (s.updBank (bankOf r) fun b => { b with state := .valid }, some (stOk, []))
      | some (code, off) =>
        (s.updBank (bankOf r) fun b => { b with state := .invalid }, some (0x40, putLE 4 off ++ putLE 2 code ++ zeros 2)) }

/-! ### Initial commands (R76, R502) -/

/-- An initial command as a request, with the role that R76 gives and the station number in force, in the lanes that execute
it.
Log 53: DEDUCED, unsafe. -/
def initRequest (station role : Nat) (only : Option Lane) (c : InitCmd) : Request :=
  { path := .initial
    target := c.target
    sequence := 0
    origin := station + 0x4000 + role * 268435456
    boundary := 0
    tag := 0
    payload := c.payload
    only := only }

/-- The image's initial commands execute in its order, for the boundary `z`; `ops` is the directory.
Log 58: DEDUCED, unsafe. -/
def State.runInit (s : State) (ops : List OpSpec) (img : Image) (role : Nat) (only : Option Lane) (z : Resolved) : State :=
  let at_ : Resolved := ⟨z.number, z.gridAt, s.now + (z.gridAt - s.grid)⟩
  img.inits.foldl (fun t c =>
    let r := initRequest s.sys.station role only c
    match findIn ops c.opcode with
    | some op => t.runResolved op r (some at_)
    | none => t.answer c.opcode r stBadOpcode z.number []) s

/-- The one lane that executes a request, if it is one. -/
def onlyLane (r : Request) : Option Lane :=
  match r.path with
  | .firmware l => some l
  | _ => r.only

/-! ### `SCHED_ACTIVATE` (R95) -/

/-- The image a request names. -/
def State.imageOf (s : State) (r : Request) : Image := readImage (s.bank (bankOf r)).data

/-- The checks of R95 on bank, identifier and boundary.
Log 58: DEDUCED, unsafe. -/
def activateBasic (s : State) (r : Request) (z : Resolved) : Option (Nat × Bytes) :=
  let i := s.imageOf r
  if (s.bank (bankOf r)).state ≠ .valid then some (badParam 0x20)
  else if i.imageId ≠ u64 r.payload 8 then some (badParam 0x28)
  else if z.gridAt % s.majorLen ≠ 0 ∨ z.gridAt % (i.majorSlots * 10000) ≠ 0 then some (badParam 0x14)
  else none

/-- `SCHED_ACTIVATE` as an initial command: staged for its boundary, without initial commands of its own. -/
def opSchedActivateInit : OpSpec :=
  { code := 0x0304
    role := fun _ => 2
    kind := .major
    block := 10
    param := fun r => lengthThen 16 r [needBank r]
    check := activateBasic }

/-- The directory as initial commands find it.
Log 58: DEDUCED, unsafe. -/
def opsInit : List OpSpec := opSchedLoadEnd :: opSchedActivateInit :: ops0

/-- The image with its initial commands staged, before the activation itself is. While they are checked, the image they
belong to counts as staged (R53). -/
def State.activateTrial (s : State) (r : Request) (z : Resolved) : State :=
  let e : Staged := ⟨10, 0x0304, 65536, r, .major, z.number, z.gridAt, z.after, false⟩
  let t := ({ s with staged := s.staged ++ [e] } : State).runInit opsInit (s.imageOf r) (roleOf r) (onlyLane r) z
  { t with staged := t.staged.filter (fun x => x != e) }

/-- An earlier activation that waits is superseded, with its initial commands (R51, R502). -/
def State.dropActivation (s : State) : State :=
  match s.findStaged 0x0304 0 with
  | some e => s.supersede e
  | none => s

/-- Loops that are enabled at grid time `g`. -/
def State.loopsAt (s : State) (g : Nat) : List Bytes := s.otherLoops 512 g

/-- Every signal a running loop reads is defined in an image (R95), and its period divides P (R186). -/
def loopFits (i : Image) (d : Bytes) : Bool :=
  (i.sig (descInput d)).isSome && (descInputMode d || (i.sig (descSetpoint d)).isSome) && i.majorSlots % descPeriod d == 0

/-- Every region the blocks keep in lane DRAM at grid time `g`. -/
def State.allRegions (s : State) (g : Nat) : List Region :=
  (s.regionsBelow 4 g ++ s.canRegions g 12).filter (fun a => a.2 != 0)

/-- A CAN bus model entry agrees with its port's settings at grid time `g` (14 R385); 0 is no data bit time.
Log 59: DEDUCED, unsafe. -/
def State.busFits (s : State) (g : Nat) (b : Bytes) : Bool :=
  let c := s.canAt (u8 b 0) g
  2 * u32 b 8 == nomBit2 c && (u32 b 12 == 0 || 2 * u32 b 12 == dataBit2 c)

/-- The image suits the settings at its boundary (R95, R186, 09 R264, 11 R319, 12 R349, 13 R363, 14 R385, R387). -/
def State.imageSuits (s : State) (i : Image) (g : Nat) : Bool :=
  (s.loopsAt g).all (loopFits i) && regionsFit (s.allRegions g) i [] && i.bus.all (s.busFits g)

/-- `SCHED_ACTIVATE` (R95, R502): checked with its initial commands staged; if it is refused, they are withdrawn. -/
def opSchedActivate : OpSpec :=
  { opSchedActivateInit with
    check := fun s r z =>
      match activateBasic s r z with
      | some x => some x
      | none =>
        let t := s.dropActivation.activateTrial r z
        if !t.imageSuits (s.imageOf r) z.gridAt then some (badParam 0xFFFF)
        else if 4096 ≤ t.stagedCount 10 then some (stScheduleConflict, [])
        else none
    refused := fun s r z =>
      match activateBasic s r z with
      | some _ => s
      | none =>
        let t := s.activateTrial r z
        (t.staged.filter (fun x => x.initial && !s.staged.contains x)).foldl State.withdraw t
    preStage := fun s r z => s.dropActivation.activateTrial r z }

/-- The opcode directory. -/
def ops : List OpSpec := opSchedLoadEnd :: opSchedActivate :: ops0

def findOp (code : Nat) : Option OpSpec := findIn ops code

/-! ### The activation boundary (R96) -/

/-- A lane enters an image: streams restart, mailboxes are empty, no activation runs. -/
def LaneSt.enterImage (a : LaneSt) (signals : Tbl SigRec) (loaded : Nat) : LaneSt :=
  { a with
    signals := signals
    streams := []
    inbound := []
    acts := []
    loaded := loaded }

/-- Every duty stream's count restarts (06 R186).
Log 32: DESIGN CHOICE, unsafe. -/
def Engine.restart (e : Engine) : Engine := { e with loops := e.loops.map (fun x => (x.1, { x.2 with itemsSent := 0 })) }

/-- Receivers take sequence 0 of every stream as new (05 R131).
Log 113: DEDUCED, unsafe. -/
def State.restartStreams (s : State) : State :=
  { s with
    recvs := s.recvs.map (fun x => (x.1, { x.2 with streams := [] }))
    ctrl := ⟨s.ctrl.main.restart, s.ctrl.mizzen.restart⟩ }

/-- An image becomes active, with its counters at 0.
Log 61: DEDUCED, unsafe. -/
def State.setImage (s : State) (i : Image) (bank : Nat) : State :=
  { s with
    sched := { s.sched with
      image := i
      activeBank := bank
      activatedAt := s.grid / (i.majorSlots * 10000) % 4294967296
      activations := s.sched.activations + 1
      scheduleOverruns := 0
      mainOverruns := 0
      mizzenOverruns := 0
      interpreterDrops := 0
      mailboxDrops := 0 }
    sys := { s.sys with station := i.station } }

/-- The swap of `SCHED_ACTIVATE`: both lanes switch in one step (R95, R96). -/
def applyActivate (s : State) (e : Staged) : State :=
  let i := s.imageOf e.req
  let old := s.sched.image
  let n := s.sched.activations + 1
  let switch (l : Lane) (a : LaneSt) : LaneSt :=
    a.enterImage (carrySignals old i a.signals s.time.mast) (if s.computes l || (s.xtLane l).state == .resync then n else a.loaded)
  let s1 := s.setImage i (bankOf e.req)
  let s2 := (s1.updLane .main (switch .main)).updLane .mizzen (switch .mizzen)
  s2.restartStreams.cascadeChanged

end Sys2Proof.Machine
end

