-- ==== Sys2Proof/Machine/Settle.lean ====
section
/-!
DEFINITION. Commands that a receiver takes later than they arrive (05 R132, R133, R153): once an event or a request is over,
their blocks act on them.
-/
namespace Sys2Proof.Machine
open Sys2Proof

/-- A command taken by its receiver has its effect in its block. -/
def State.performTaken (s : State) (t : Taken) : State :=
  match t.copy.cargo with
  | .command code r z => match findOp code with
    | some op => s.perform op r z
    | none => s
  | _ => s

/-- The blocks act on what waits, oldest first, until nothing does; `n` bounds the commands. -/
def State.settleFor : Nat → State → State
  | 0, s => s
  | n + 1, s => match s.taken with
    | [] => s
    | t :: rest => State.settleFor n (({ s with taken := rest } : State).performTaken t)

/-- As many commands as can be taken: those that have been, and one for each open pair, since acting on a command opens no
pair for another (05 R136). -/
def State.settleLimit (s : State) : Nat := s.taken.length + (s.recvs.map fun x => x.2.pairs.length).sum

/-- The blocks act on every command that has been taken.
Log 15: DEDUCED, unsafe. -/
def State.settle (s : State) : State := State.settleFor s.settleLimit s

/-- A command of the model whose effect may let a receiver take items: the blocks act on the commands among them at once. -/
def runTaking (dt : Nat) (s : State) (f : State → State) : Host.Outcome State Fault Refusal :=
  runCmd dt s fun s => (f s).settle

end Sys2Proof.Machine
end

