-- ==== Sys2Proof/Machine/Interp.lean ====
section
/-!
DEFINITION. The Halyard interpreter: packets as transport units, steps 1 to 8 of Table 04-3, replies that arrive, and the
`INTERPRETER` runs (04 R99 to R112, R118, R119, 03 R86).
-/
namespace Sys2Proof.Machine
open Sys2Proof

/-! ### Fields of a transport unit (Table 04-1) -/

def unitOpcode (u : Bytes) : Nat := u16 u 4
def unitOrigin (u : Bytes) : Nat := u32 u 0x0C
def unitLength (u : Bytes) : Nat := u16 u 0x10
def unitIsReply (u : Bytes) : Bool := flagAt u 3 0

/-- The request a unit carries. -/
def unitRequest (path : Path) (u : Bytes) : Request :=
  { path := path
    target := u16 u 6
    sequence := u32 u 8
    origin := unitOrigin u
    boundary := u32 u 0x14
    tag := u64 u 0x18
    payload := (u.drop 32).take (unitLength u)
    only := none }

/-- `LENGTH` fits the unit (step 3, Table 04-4). -/
def unitFits (u : Bytes) : Bool := decide (unitLength u ≤ 4064) && decide (36 + unitLength u ≤ u.length)

/-- The CRC-32C holds (R100). -/
def unitCrcOk (u : Bytes) : Bool := u32 u (32 + unitLength u) == crc32c (u.take (32 + unitLength u))

/-- The tag a key gives for the unit (R104). -/
def unitTag (key u : Bytes) : Nat := tagOf key (setBytes (u.take (32 + unitLength u)) 0x18 (zeros 8))

/-- The key of the role named is set, and `TAG` matches it (R105, R106). -/
def State.tagOk (s : State) (u : Bytes) : Bool :=
  match Tbl.find s.sys.keys (originRole (unitOrigin u)) with
  | some k => u64 u 0x18 == unitTag k u
  | none => false

/-- `ORIGIN` fits its path (Table 04-6, R103). -/
def State.originFits (s : State) (path : Path) (o : Nat) : Bool :=
  match path with
  | .eth n _ _ => originKind o == 1 && originIndex o == n && originLane o == 0
  | .stay _ => originStation o != s.sys.station && decide (originKind o ≤ 3) && originLane o == 0
  | .service => originKind o == 3 && originIndex o == 0 && originLane o == 0
  | .mailbox t =>
    originStation o == s.sys.station && originKind o == 0 && originIndex o == t && originLane o == 0 && originRole o == 0
  | .initial => originStation o == s.sys.station && originKind o == 4
  | .firmware l => originKind o == 5 && originLane o == l.code + 1

/-- Tag and sequence are checked on the external paths only (R108). -/
def external : Path → Bool
  | .eth _ _ _ | .stay _ | .service => true
  | .mailbox _ | .initial | .firmware _ => false

/-! ### Counters (Table 04-13) -/

def State.updSys (s : State) (f : SysSt → SysSt) : State := { s with sys := f s.sys }
def State.countRunt (s : State) : State := s.updSys fun x => { x with runts := sat32 x.runts 1 }
def State.countSync (s : State) : State := s.updSys fun x => { x with syncDiscards := sat32 x.syncDiscards 1 }
def State.countReplyDiscard (s : State) : State := s.updSys fun x => { x with replyDiscards := sat32 x.replyDiscards 1 }

/-! ### Steps 1 to 6 -/

/-- Outcome of steps 1 to 6 of Table 04-3. -/
inductive Verdict where
  | runt
  | noSync
  /-- Step 3, 4, 5 or 6 fails: status and payload of the reply, whose `TAG` is 0. -/
  | fails (status : Nat) (payload : Bytes)
  | passes
deriving DecidableEq, Repr

/-- Steps 1 to 5, which a request and a reply pass alike. -/
def checkForm (u : Bytes) : Verdict :=
  if u.length < 32 then .runt
  else if u16 u 0 ≠ 0xA55A then .noSync
  else if !unitFits u then .fails stLengthExceeds []
  else if !unitCrcOk u then .fails stBadCrc []
  else if u8 u 2 ≠ 1 then .fails stBadParameter (fieldOffset 2)
  else .passes

/-- Steps 1 to 6 of a request. -/
def State.checkUnit (s : State) (path : Path) (u : Bytes) : Verdict :=
  match checkForm u with
  | .passes =>
    if s.originFits path (unitOrigin u) && (!external path || s.tagOk u) then .passes else .fails stNotAuthorised []
  | v => v

/-- A reply with `TAG` 0 and the `VERSION` of its request, and its count (steps 3 to 6, R113). -/
def State.answerEarly (s : State) (r : Request) (u : Bytes) (status : Nat) (payload : Bytes) : State :=
  let op := unitOpcode u
  let s1 := s.updSys fun x =>
    { x with
      lengthExceeds := sat32 x.lengthExceeds (if status = stLengthExceeds then 1 else 0)
      badCrc := sat32 x.badCrc (if status = stBadCrc then 1 else 0)
      notAuthorised := sat32 x.notAuthorised (if status = stNotAuthorised then 1 else 0) }
  let s2 := s1.answerWith (fun p => { p with version := u8 u 2, tag := 0 }) op r status s.major fun _ => payload
  if status = stNotAuthorised then s2.raisePaired (s.senders r) 0x0101 (details [toSigned 32 r.origin, (op : Int)]) else s2

/-! ### Replies that arrive (R110) -/

/-- A reply in the interpreters of the lanes given: steps 1 to 5, key and tag; then to the mailbox of the task its `ORIGIN`
names. It is never executed.
Log 56: DEDUCED, unsafe. -/
def State.replyUnit (s : State) (ls : List Lane) (u : Bytes) : State :=
  match checkForm u with
  | .runt => s.countRunt
  | .noSync => s.countSync
  | .fails _ _ => s.countReplyDiscard
  | .passes =>
    let o := unitOrigin u
    if s.tagOk u && originKind o == 0 && originStation o == s.sys.station && s.mailDepth (originIndex o) != 0 then
      s.pushMail ls (originIndex o) fun _ => u.take (36 + unitLength u)
    else s.countReplyDiscard

/-! ### Sequence (R107) -/

/-- `ORIGIN` with its `LANE` bits ignored. -/
def originKey (o : Nat) : Nat := o % 1073741824

/-- The judgement of a sequence by an origin table: status 0 where it is accepted, and the table after it. -/
def judgeSequence (t : Tbl Nat) (o sequence : Nat) : Nat × Tbl Nat :=
  let k := originKey o
  match Tbl.find t k with
  | some last =>
    let d := wrapDiff sequence last
    if 1 ≤ d ∧ d ≤ 1048576 then (stOk, Tbl.put t k sequence) else (stSequenceStale, t)
  | none => if t.length < 512 then (stOk, Tbl.put t k sequence) else (stOriginFull, t)

/-! ### One packet -/

/-- Step 8 and on: the opcode is looked up and executed. -/
def State.execute (s : State) (opcode : Nat) (r : Request) : State :=
  match findOp opcode with
  | some op => s.runRequest op r
  | none => s.answer opcode r stBadOpcode s.major []

/-- The effect of a request that has passed step 6, by its status at step 7. -/
def State.afterSequence (s : State) (opcode : Nat) (r : Request) (status : Nat) : State :=
  if status = stOk then s.execute opcode r
  else
    let s1 := s.updSys fun x =>
      { x with
        sequenceStale := sat32 x.sequenceStale (if status = stSequenceStale then 1 else 0)
        originFull := sat32 x.originFull (if status = stOriginFull then 1 else 0) }
    s1.answer opcode r status s.major []

/-- Step 7 in the origin table of each lane that holds the packet (R107), and what follows; lanes that judge differently go
on apart, the active one first. -/
def State.sequenceUnit (s : State) (opcode : Nat) (r : Request) : State :=
  let judge (l : Lane) : Nat × Tbl Nat := judgeSequence (s.lane l).origins r.origin r.sequence
  let put (t : State) (l : Lane) : State :=
    if heldIn r l then t.updLane l fun a => { a with origins := (judge l).2 } else t
  let t := put (put s .main) .mizzen
  match r.only with
  | some l => t.afterSequence opcode r (judge l).1
  | none =>
    let a := s.xt.active
    if (judge a).1 = (judge a.other).1 then t.afterSequence opcode r (judge a).1
    else (t.afterSequence opcode { r with only := some a } (judge a).1).afterSequence opcode { r with only := some a.other }
      (judge a.other).1

/-- A packet taken by the interpreters of the lanes that hold it: of both, or of one only.
Log 14: DESIGN CHOICE, safe. -/
def State.takeUnit (s : State) (only : Option Lane) (path : Path) (u : Bytes) : State :=
  let r := { unitRequest path u with only := only }
  if decide (32 ≤ u.length) && u16 u 0 == 0xA55A && unitIsReply u then s.replyUnit (s.lanesInOrder.filter (heldIn r)) u else
  match s.checkUnit path u with
  | .runt => s.countRunt
  | .noSync => s.countSync
  | .fails st p => s.answerEarly r u st p
  | .passes => if external path then s.sequenceUnit (unitOpcode u) r else s.execute (unitOpcode u) r

/-! ### `INTERPRETER` runs (03 R86) -/

/-- Cost of a packet in half nanoseconds (03 Table 03-12).
Log 54: DEDUCED, unsafe. -/
def unitCost (u : Bytes) : Nat := 4000 + if unitFits u then unitLength u else 0

/-- The packets that fit a capacity, in order.
Log 54: DEDUCED, unsafe. -/
def fitCost : Nat → List QPacket → List QPacket
  | _, [] => []
  | room, q :: r => if unitCost q.unit ≤ room then q :: fitCost (room - unitCost q.unit) r else []

/-- Order of a run: stamp, then origin. -/
def runOrder (l : List QPacket) : List QPacket := sortBy (fun q => q.stamp) (sortBy (fun q => unitOrigin q.unit) l)

/-- What a lane takes in a run of `len` slots that starts now: the eligible packets whose summed cost fits.
Log 55: DEDUCED, unsafe. -/
def State.selects (s : State) (l : Lane) (len : Nat) : List QPacket :=
  if s.computes l then fitCost (len * 20000 - 2000) (runOrder ((s.lane l).queue.filter (fun q => decide (q.slot ≤ s.slot))))
  else []

/-- The slot in which each packet of a run executes, by the cost up to its end: a run begins 400 ns after its slot start.
Log 54: DEDUCED, unsafe. -/
def runSlots (first : Nat) : Nat → List QPacket → List (Nat × QPacket)
  | _, [] => []
  | c, q :: r =>
    let c' := c + unitCost q.unit
    (first + (800 + c') / 20000, q) :: runSlots first c' r

/-- A run of `len` slots takes its packets from a lane's queue.
Log 54: DEDUCED, unsafe. -/
def State.openRun (len : Nat) (s : State) (l : Lane) : State :=
  let sel := s.selects l len
  s.updLane l fun a =>
    { a with
      queue := sel.foldl List.erase a.queue
      taking := a.taking ++ runSlots s.slot 0 sel }

/-- The packets that a lane executes in the slot that begins. -/
def State.executing (s : State) (l : Lane) : List QPacket :=
  if s.computes l then ((s.lane l).taking.filter (fun x => decide (x.1 ≤ s.slot))).map (fun x => x.2) else []

/-- One packet of a run has its effect in the lanes that execute it now.
Log 55: DEDUCED, unsafe. -/
def State.runUnit (main mizzen : List QPacket) (s : State) (q : QPacket) : State :=
  let only : Option Lane :=
    if !mizzen.contains q then some .main else if !main.contains q then some .mizzen else none
  s.takeUnit only q.path q.unit

/-- The packets of a slot, of both lanes, in order. -/
def State.runPackets (s : State) : State :=
  let a := s.executing .main
  let b := s.executing .mizzen
  let s1 := s.updLanes fun x => { x with taking := x.taking.filter (fun y => !decide (y.1 ≤ s.slot)) }
  (runOrder (a ++ b.filter (fun q => !a.contains q))).foldl (State.runUnit a b) s1

/-- The runs that start in this slot take their packets, and those of this slot execute.
Log 14: DESIGN CHOICE, safe; log 54: DEDUCED, unsafe. -/
def State.interpreterRuns (s : State) : State :=
  let runs := s.sched.image.core.filter (fun e => e.kind == 3 && e.startsAt s.slotInMajor)
  (runs.foldl (fun t e => (t.openRun e.length .main).openRun e.length .mizzen) s).runPackets

/-! ### Events -/

/-- The receiver of the port is powered. -/
def State.portOn (s : State) (path : Path) : Bool := external path && s.domain 13

/-- `HALYARD_UNIT_ARRIVAL`. -/
def halyardUnitArrival (path : Path) (unit : Bytes) (s : State) : State :=
  if s.portOn path then s.unitArrival path unit else s

/-- `HALYARD_REPLY_RECEIVED`.
Log 56: DEDUCED, unsafe. -/
def halyardReplyReceived (path : Path) (unit : Bytes) (s : State) : State :=
  if s.portOn path then s.replyUnit (s.lanesInOrder.filter s.computes) unit else s

/-! ### Meanings -/

def execHalyardUnitArrival (dt : Nat) (path : Path) (unit : Bytes) (s : State) : Host.Outcome State Fault Refusal :=
  runTaking dt s (halyardUnitArrival path unit)
def execHalyardReplyReceived (dt : Nat) (path : Path) (unit : Bytes) (s : State) : Host.Outcome State Fault Refusal :=
  runCmd dt s (halyardReplyReceived path unit)

end Sys2Proof.Machine
end

