-- ==== Sys2Proof/Machine/Startup.lean ====
section
/-!
DEFINITION. Start-up, the release of lanes, and the boundaries at which lanes enter the schedule (05 R149, R150, R154,
18 R467 to R469).
-/
namespace Sys2Proof.Machine
open Sys2Proof

/-! ### Releasing a lane (05 R154, 18 R469) -/

/-- The lane's firmware boots: its control-engine store is written anew, and the image is the active one.
Log 32: DESIGN CHOICE, unsafe. -/
def State.boot (s : State) (l : Lane) : State :=
  let up (a : LaneSt) : LaneSt := { a with running := true, loaded := s.sched.activations }
  ((s.updLane l up).updEngine l fun _ => {}).logTrouble l 5 0 []

/-- After a lane restart, what the blocks' rings in a lane's DRAM hold is undefined until it is written anew (11 R318, 12 R349,
13 R363, 14 R387): a free value for each byte. The yield grid is cleared from the rejoin boundary (09 R266). -/
def State.ringsUndefined (s : State) (l : Lane) : State :=
  ({ s with free := s.free + 1 } : State).updMem l.code fun m => m.undefine l.code s.free (s.allRegions s.grid)

/-- A lane is released and boots. In a lane restart it has 10 s to report ready; in recovery its count rises. -/
def State.release (s : State) (l : Lane) : State :=
  let s1 := if s.xt.restart && !(s.xtLane l).filling then s.ringsUndefined l else s
  (s1.boot l).updXt l fun x =>
    if s.xt.restart && x.state != .recovering then
      { x with
        hold := none
        filling := false
        readyDue := some (s.now + 10000000000) }
    else
      { x with
        hold := none
        filling := false
        booted := true
        recoveries := x.recoveries + 1 }

/-- `RESET_HOLD_EXPIRY`: the lane is released, after a fill of its DRAM where one is set (16 R438, R469). A lane whose cores
are off waits. -/
def resetHoldExpiry (l : Lane) (s : State) : State :=
  let x := s.xtLane l
  match x.hold with
  | none => s
  | some t =>
    if s.xt.stopped || decide (s.now < t) || !s.domain (coreDomain l) then s
    else if s.mem.fillAtPowerOn && !x.filling then (s.startFill l.code).updXt l fun x => { x with filling := true }
    else if x.filling && (s.memc l.code).fillFrom.isSome then s
    else s.release l

/-- `MEM_FILL_DONE`: a lane whose release waits for its fill is released (16 R438). -/
def fillDone (c : Nat) (s : State) : State :=
  let t := memFillDone c s
  match if c < 2 then memLane c else none with
  | none => t
  | some l =>
    let x := t.xtLane l
    if x.hold.isSome && x.filling && (s.memc c).fillFrom.isSome && (t.memc c).fillFrom.isNone && !t.xt.stopped &&
        t.domain (coreDomain l) then t.release l
    else t

/-! ### The rejoin boundary (05 R150) -/

/-- The first major boundary at least 1 ms ahead, grid time.
Log 66: DEDUCED, unsafe. -/
def State.boundaryAhead (s : State) : Nat := (s.grid + 1000000 + s.majorLen - 1) / s.majorLen * s.majorLen

/-- The image's initial commands execute for the boundary at grid time `g`, as Maker (03 R76, R502). -/
def State.initFor (s : State) (g : Nat) : State :=
  s.runInit opsInit s.sched.image 2 none ⟨g / s.majorLen % 4294967296, g, s.now⟩

/-- The Crosstree names the rejoin boundary. -/
def State.nameRejoin (s : State) : State :=
  let g := s.boundaryAhead
  ({ s with xt := { s.xt with rejoin := some g } } : State).initFor g

/-- In a restart, the Crosstree still waits for the lane: it is held, or booting. A lane whose cores are off is not waited
for.
Log 65: DEDUCED, unsafe. -/
def State.laneWaits (s : State) (l : Lane) : Bool :=
  let x := s.xtLane l
  s.domain (coreDomain l) && x.state != .failed && x.state != .recovering && (x.hold.isSome || x.readyDue.isSome)

/-! ### The start-up boundary (18 R468) -/

/-- The wait for time is over. -/
def State.timeWaitOver (s : State) : Bool :=
  let n := u16 s.pwr.config 6
  n == 0 || !s.time.noTime || decide (s.pwr.phase1At + n * 1000000000 ≤ s.now)

/-- The wait for a cascade's master is over. -/
def State.cascadeWaitOver (s : State) : Bool :=
  !s.inCascade || s.stay.following || s.stay.membership == 3 || decide (s.pwr.d13At + 2000000000 ≤ s.now)

/-- The Crosstree names the start-up boundary, once both lanes are ready and every wait is over; it names another if the
first has passed with a lane no longer ready. A station that follows a
master anchors its grid with the master's `GRID_SHIFT`, any other with 0.
Log 66: DEDUCED, unsafe; log 111: DEDUCED, unsafe. -/
def State.tryNameStart (s : State) : State :=
  let open_ := match s.pwr.startupAt with
    | some g => decide (g < s.grid)
    | none => true
  if s.pwr.module_ == .starting && open_ && !s.xt.stopped && s.xt.main.ready && s.xt.mizzen.ready &&
      decide (s.pwr.d15At + 10000000 ≤ s.now) && s.timeWaitOver && s.cascadeWaitOver then
    let s1 : State := { s with time := { s.time with gridShift := if s.stay.following then s.time.gridShift else 0 } }
    let g := s1.boundaryAhead
    (s1.updPwr fun p => { p with startupAt := some g }).initFor g
  else s

/-- `LANE_READY_REPORT`: a lane that has adopted the power-channel block since its release (08 R239, R240) reports ready, in phase 7 of a start or after a
lane restart (05 R150, 18 R467).
Log 65: DEDUCED, unsafe. -/
def laneReadyReport (l : Lane) (s : State) : State :=
  if s.xt.stopped || !(s.lane l).running || !s.adopted l || !(s.xtLane l).adopted then s
  else if s.pwr.module_ == .starting && decide (7 ≤ s.pwr.phase) then (s.updXt l fun x => { x with ready := true }).tryNameStart
  else if s.xt.restart && (s.xtLane l).readyDue.isSome then
    let s1 := s.updXt l fun x => { x with ready := true, readyDue := none }
    if s1.laneWaits l.other then s1 else s1.nameRejoin
  else s

/-- A lane that a restart leaves behind is failed; if it was the active one, the other is designated at once, so that one lane
is `ACTIVE` (R129). -/
def State.leaveBehind (s : State) (l : Lane) : State :=
  let t := s.failLane l 3
  if l = s.xt.active then t.designate l.other 0 else t

/-- `LANE_READY_TIMEOUT`: a lane not ready 10 s after its release is failed; the other lane joins alone. With no other lane
left, both restart again.
Log 64: DEDUCED, unsafe. -/
def laneReadyTimeout (l : Lane) (s : State) : State :=
  match (s.xtLane l).readyDue with
  | none => s
  | some t =>
    if s.xt.stopped || !s.xt.restart || decide (s.now < t) then s else
    if (s.xtLane l.other).ready then (s.leaveBehind l).nameRejoin
    else if s.laneWaits l.other then s.leaveBehind l
    else s.laneRestart l

/-! ### Start-up phases (18 Table 18-2) -/

/-- The image a start activates (03 R97): bank, or 255, and image. -/
def State.startImage (s : State) : Nat × Image :=
  let b := s.sched.startBank
  if (s.bank b).state = .valid then (b, readImage (s.bank b).data)
  else if (s.bank (1 - b)).state = .valid then (1 - b, readImage (s.bank (1 - b)).data)
  else (255, serviceImage s.sys.station)

/-- Phase 3: the shared domains come on, with the power-channel block at reset. -/
def State.phase3 (s : State) : State :=
  let (b, i) := s.startImage
  let s1 : State := { s with sched := { s.sched with image := i, activeBank := b } }
  let s2 := ([7, 6, 8, 9, 10, 11, 12, 13].filter (fun n => !s1.domain n)).foldl State.domainOn s1
  (((s2.setDomain 1 true).setDomain 15 true).memOn 5).cascadeChanged.updPwr fun p => { p with d15At := s.now }

/-- Phase 4: the lanes' memories come on. -/
def State.phase4 (s : State) : State := (((s.domainOn 3).domainOn 5).startFill 0).startFill 1

/-- Phase 5: the cores come on and both lanes' firmware boots. -/
def State.phase5 (s : State) : State := (((s.setDomain 2 true).setDomain 4 true).boot .main).boot .mizzen

/-- What a phase does as it begins. -/
def State.beginPhase (s : State) (n : Nat) : State :=
  let s1 := s.updPwr fun p => { p with phase := n }
  match n with
  | 2 => s1.domainOn 14
  | 3 => s1.phase3
  | 4 => s1.phase4
  | 5 => s1.phase5
  | _ => s1

/-- `START_PHASE_COMPLETE`: phases 1 to 7 each end with the beginning of the next; phase 4 once the lanes' memories are
filled, where a fill is set, and phase 7 once both lanes are ready. -/
def startPhaseComplete (s : State) : State :=
  let n := s.pwr.phase
  if s.pwr.module_ != .starting || n == 0 || decide (7 < n) then s
  else if n == 4 && !((s.memc 0).fillFrom.isNone && (s.memc 1).fillFrom.isNone) then s
  else if n == 7 && !(s.xt.main.ready && s.xt.mizzen.ready) then s
  else (s.beginPhase (n + 1)).tryNameStart

/-! ### Meanings -/

def execMemFillDone (dt : Nat) (ctrl : Nat) (s : State) : Host.Outcome State Fault Refusal :=
  runTaking dt s (fillDone ctrl)
def execResetHoldExpiry (dt : Nat) (lane : Lane) (s : State) : Host.Outcome State Fault Refusal :=
  runTaking dt s (resetHoldExpiry lane)
def execLaneReadyReport (dt : Nat) (lane : Lane) (s : State) : Host.Outcome State Fault Refusal :=
  runTaking dt s (laneReadyReport lane)
def execLaneReadyTimeout (dt : Nat) (lane : Lane) (s : State) : Host.Outcome State Fault Refusal :=
  runTaking dt s (laneReadyTimeout lane)
def execStartPhaseComplete (dt : Nat) (s : State) : Host.Outcome State Fault Refusal :=
  runTaking dt s startPhaseComplete
def execStartupWaitExpiry (dt : Nat) (s : State) : Host.Outcome State Fault Refusal :=
  runTaking dt s State.tryNameStart

end Sys2Proof.Machine
end

