-- ==== Sys2Proof/Machine/Boundary.lean ====
section
/-!
DEFINITION. Slots and major boundaries: the swaps of staged commands, the start-up and rejoin boundaries, and the work
of a slot (02 R40, R54, R62, 03 R73, R78, 05 R145, R150, R152, R155, 18 R468).
-/
namespace Sys2Proof.Machine
open Sys2Proof

/-! ### Swaps of kind major (02 R47, R54) -/

/-- The effect of a staged command of kind major; `busy` is the mask of the CAN ports with a frame on the bus. -/
def applyMajor (busy : Nat) (s : State) (e : Staged) : State :=
  match e.opcode with
  | 0x0102 => applySetKey s e
  | 0x0202 => applySetLeap s e
  | 0x0304 => applyActivate s e
  | 0x0305 => applyStartBank s e
  | 0x0402 => applyLanePolicy s e
  | 0x0403 => applyDedupWindow s e
  | 0x0405 => applyRequestBurst s e
  | 0x0406 => applyRequestSwitch s e
  | 0x0501 => applyCtrl s e
  | 0x0601 => applyChanConfig s e
  | 0x0606 => applyChanProtection s e
  | 0x0701 => applySense s e
  | 0x0702 => applySense s e
  | 0x0703 => applySense s e
  | 0x0704 => applySense s e
  | 0x0706 => applyYieldGrid s e
  | 0x0707 => applyYieldSources s e
  | 0x0708 => applyYieldClear s e
  | 0x0901 => applyFusSource s e
  | 0x0902 => applyFusRound s e
  | 0x0903 => applyFusCanvas s e
  | 0x0904 => applyFusReset s e
  | 0x0A01 => applyGnssConfig s e
  | 0x0A02 => applyTimePulse s e
  | 0x0A03 => applyGnssWatch s e
  | 0x0B01 => applyCanPort busy s e
  | 0x0B02 => applyCanFilters s e
  | 0x0C05 => applyEthPort s e
  | 0x0D01 => applyMemMode s e
  | 0x0D02 => applyMemPatrol s e
  | 0x0D08 => applyMemFill s e
  | 0x0E07 => applySetRate s e
  | 0x0F01 => applySetDomain s e
  | 0x0F03 => applyPwrConfig s e
  | 0x0F04 => applyEnterLow s e
  | 0x0F05 => applyPwrReset s e
  | _ => s

/-- The order in which one boundary's swaps are written down: the image first; what builds on another swap of the boundary
after it, the odd half of a former pair (07 R196) and the clearing of a new grid (09 R265); switched domains last.
Log 60: DEDUCED, unsafe. -/
def swapRank (e : Staged) : Nat :=
  if e.opcode = 0x0304 then 0
  else if e.opcode = 0x0F01 then 3
  else if (e.opcode = 0x0601 ∧ e.target % 2 = 1) ∨ e.opcode = 0x0708 then 2
  else 1

/-- The staged commands of kind major whose boundary has come; those held in the Crosstree wait while it has stopped.
Log 60: DEDUCED, unsafe; log 61: DEDUCED, unsafe. -/
def State.dueMajor (s : State) : List Staged :=
  sortBy swapRank (s.staged.filter fun e =>
    e.kind == .major && decide (e.gridAt ≤ s.grid) && !(e.block == 11 && s.xt.stopped))

/-- Every staged command of the boundary swaps in.
Log 60: DEDUCED, unsafe. -/
def State.swapMajor (s : State) (busy : Nat) : State := s.dueMajor.foldl (fun t e => t.swapIn e (applyMajor busy)) s

/-! ### What the lanes hold of a boundary (02 R62, 05 R160) -/

/-- The time status of the boundary is formed and delivered to both lanes. -/
def State.deliverTimeStatus (s0 : State) : State :=
  let s := s0.refreshTime
  let st := timeStatus s
  let s1 := s.updLanes fun a => if a.running then { a with timeStatus := st } else a
  { s1 with time := { s1.time with status := st, timeStep := false } }

/-- A new health period of a lane: counts from 0, and the CRC of its signal table at the boundary (05 Table 05-5).
Log 31: DEDUCED, unsafe. -/
def State.newHealth (s : State) (l : Lane) : State :=
  let t := if l = .main then s.temp 2 else s.temp 3
  s.updLane l fun a => { a with health := { tempMax := t, tableCrc := a.tableCrc } }

/-- Everything the lanes are given at a boundary. -/
def State.tellLanes (s : State) : State :=
  ((s.deliverTimeStatus.deliverLaneStatus s.major).newHealth .main).newHealth .mizzen

/-! ### Lane state copied in resynchronisation (05 R155, Table 05-8) -/

/-- The ranges of lane DRAM the copy moves: windows with write access, and the blocks' regions.
Log 63: DEDUCED, unsafe. -/
def State.copyRanges (s : State) : List Region := s.sched.image.writeWindows ++ s.allRegions s.grid

/-- Bytes the background copy moves. -/
def State.copyTotal (s : State) : Nat :=
  copyBytes s.sched.image.windows s.sched.image.signals.length (sumNat ((s.allRegions s.grid).map (fun a => a.2)))

/-- The copied ranges of a lane's DRAM as the other lane's stand.
Log 63: DEDUCED, unsafe. -/
def State.copyDram (s : State) (l : Lane) : State :=
  s.updMem l.code fun m => m.copyFrom l.other.code (s.memc l.other.code) s.copyRanges

/-- The Crosstree's part of a boundary; a lane that enters `PROBATION` has the active lane's DRAM. -/
def State.lanesBoundary (s : State) (major : Nat) : State :=
  let t := s.crosstreeBoundary major
  let copy (u : State) (l : Lane) : State :=
    if (s.xtLane l).state = .resync ∧ (t.xtLane l).state = .probation then u.copyDram l else u
  copy (copy t .main) .mizzen

/-! ### The rejoin boundary (05 R150) -/

/-- Deliveries that had become visible before the boundary are gone with the signal table.
Log 57: DEDUCED, unsafe. -/
def LaneSt.rejoin (a : LaneSt) (i : Image) (mast slot activations : Nat) : LaneSt :=
  { a.enterImage (freshSignals i mast) activations with
    origins := []
    deliveries := a.deliveries.filter (fun d => decide (slot ≤ d.slot)) }

/-- The lanes that are ready enter the active image again; a lane that is not stays as it is. The cross-lane path is on again.
Log 57: DEDUCED, unsafe; log 64: DEDUCED, unsafe; log 116: DESIGN CHOICE, unsafe. -/
def State.rejoinBoundary (s : State) : State :=
  match s.xt.rejoin with
  | none => s
  | some g =>
    if s.xt.stopped || decide (s.grid < g) then s else
    let first : Lane := if s.xt.main.ready then .main else .mizzen
    let enter (t : State) (l : Lane) : State :=
      if !(s.xtLane l).ready then t else
      (t.updLane l fun a => a.rejoin s.sched.image s.time.mast s.slot s.sched.activations).updXt l fun x =>
        { x with
          state := if l = first then .active else .standby
          ready := false }
    let s1 := enter (enter s .main) .mizzen
    let s2 := { s1 with xt := { s1.xt with restart := false, rejoin := none, crossLane := true } }
    let s3 := if first = s.xt.active then s2 else s2.designate first 0
    s3.restartStreams.loseGrid

/-! ### `MAJOR_BOUNDARY` -/

/-- A burst ordered for the period that opens, whose number the new image may change (05 R152).
Log 61: DEDUCED, unsafe; log 62: DEDUCED, unsafe. -/
def State.openBurst (s : State) (number : Nat) : State :=
  if s.xt.stopped then s
  else if s.xt.burstFor = some number then ({ s with xt := { s.xt with burstFor := some s.major } }).startBurst s.major
  else s.startBurst s.major

/-- `MAJOR_BOUNDARY`: the period that ends is judged, what is staged swaps in, and a low-power entry comes last
(02 R54, R55). -/
def majorBoundary (busy : Nat) (s : State) : State :=
  if !s.majorDue then s else
  let n := s.major
  let s1 := ({ s with time := { s.time with lastMajor := some s.grid } } : State).lanesBoundary n
  let s2 := (s1.swapMajor busy).joinStops.stayBoundary
  (s2.rejoinBoundary.openBurst n).tellLanes.lowPowerBoundary

/-! ### `STARTUP_BOUNDARY` (18 R468) -/

/-- The grid is anchored: with the master's `GRID_SHIFT` where the station follows one, else with 0 (02 R38, R39).
Log 68: DEDUCED, unsafe. -/
def State.anchor (s : State) : State :=
  { s with time := { s.time with gridShift := if s.stay.following then s.time.gridShift else 0 } }

/-- The power-domain controller enters operation. -/
def PwrSt.enterRun (p : PwrSt) (now major : Nat) : PwrSt :=
  { p with
    module_ := .run
    phase := 0
    startupAt := none
    startMs := msUp (now - p.phase1At)
    startupMajor := major
    runOn := if p.wake then none else some (p.runOn.getD now) }

/-- Both lanes enter the image, Main `ACTIVE` and Mizzen `STANDBY`, with the cross-lane path on for the standby's digests.
Log 116: DESIGN CHOICE, unsafe. -/
def State.lanesStart (s : State) : State :=
  let sig := freshSignals s.sched.image s.time.mast
  let s1 := s.updLanes fun a => a.enterImage sig s.sched.activations
  { s1 with xt := { s1.xt with
    active := .main
    restart := false
    rejoin := none
    crossLane := true
    main := { s1.xt.main with state := .active, ready := false }
    mizzen := { s1.xt.mizzen with state := .standby, ready := false } } }

/-- `STARTUP_BOUNDARY`.
Log 68: DEDUCED, unsafe. -/
def startupBoundary (s0 : State) : State :=
  match s0.pwr.startupAt with
  | none => s0
  | some g =>
    let s := s0.anchor
    if s.pwr.module_ != .starting || decide (s.grid < g) || s.grid % s.majorLen != 0 ||
        !(s.xt.main.ready && s.xt.mizzen.ready) then s0
    else
      let s1 : State := { s with time := { s.time with anchored := true, lastMajor := some s.grid } }
      let s2 := (s1.setImage s1.sched.image s1.sched.activeBank).lanesStart.cascadeChanged
      let s3 := (s2.swapMajor 0).joinStops.restartStreams
      let s4 := s3.updPwr fun p => p.enterRun s3.now s3.major
      (s4.raisePwr 0x0F01 [(s4.pwr.resetCause : Int), toSigned 32 s4.major, (s4.pwr.startMs : Int)]).tellLanes

/-! ### Self-tests and bursts in a slot (05 R145, R152) -/

/-- The lane runs the self-test steps of Table 05-6 in its `SELFTEST` slots: a standby, and a lane in probation on its way to
that.
Log 121: DEDUCED, unsafe. -/
def State.selfTests (s : State) (l : Lane) : Bool :=
  s.computes l && match (s.xtLane l).state with
    | .standby | .probation => true
    | .active | .resync | .recovering | .failed => false

/-- The core whose self-test takes this slot: one that is under way, or the next in rotation where eight slots of a `SELFTEST`
run of that core lie ahead (Table 05-6).
Log 121: DEDUCED, unsafe. -/
def State.coreTest (s : State) (l : Lane) : Option Nat :=
  let a := s.lane l
  let c := a.selfTestStep
  let n := s.slotInMajor
  if !s.selfTests l || decide (11 < c) || s.bursting c n then none
  else if a.selfTestLeft != 0 || (s.sched.image.selftestRuns c).any (fun x => decide (x.1 ≤ n) && decide (n + 8 ≤ x.2)) then some c
  else none

/-- The queue of a pipeline at this slot start leaves room for a test loop of eight sections, behind it and before the next
slot start, at which loops may fall due (06 R179, R183).
Log 121: DEDUCED, unsafe. -/
def State.pipeFree (s : State) (l : Lane) (p : Nat) : Bool :=
  let e := s.engine l
  let q : Pipeline := Tbl.getD e.pipes p {}
  let waits (x : Nat × Loop) : Bool :=
    descPipeline x.2.desc == p && (q.waiting.contains x.1 ||
      (descEnable x.2.desc && s.grid % (max (descPeriod x.2.desc) 1 * 10000) == 0))
  decide (sumNat ((e.loops.filter waits).map (fun x => (4 + 5 * descSections x.2.desc) * 2)) + 176 ≤ 10000)

/-- The control-engine check takes this slot: after the twelve cores' tests, in a `SELFTEST` slot in which every pipeline has
room for it (06 R183, R188).
Log 121: DEDUCED, unsafe. -/
def State.engineTest (s : State) (l : Lane) : Bool :=
  s.selfTests l && (s.lane l).selfTestStep == 12 && s.selftestFree && (upto 4).all (s.pipeFree l)

/-- The rotation after a slot. -/
def State.nextTest (s : State) (l : Lane) : State :=
  match s.coreTest l with
  | some c =>
    s.updLane l fun a =>
      let n := (if a.selfTestLeft = 0 then 8 else a.selfTestLeft) - 1
      { a with selfTestLeft := n, selfTestStep := if n = 0 then c + 1 else c }
  | none =>
    let done := s.engineTest l
    s.updLane l fun a => { a with selfTestLeft := 0, selfTestStep := if done then 0 else a.selfTestStep }

/-- A core fails its test in this slot: a step of a burst, or of the rotation, where it is a fatal fault of the standby. -/
def State.coreFails (s : State) (l : Lane) (core : Nat) : State :=
  let bad := s.updLane l fun a => { a with health := { a.health with coreFail := setBit a.health.coreFail core true } }
  if !s.computes l || decide (11 < core) then s
  else if s.bursting core s.slotInMajor && s.inDuty l then bad.updLane l fun a => { a with burstFailed := true }
  else if s.coreTest l = some core then if (s.xtLane l).state = .standby then bad.fatalFault l else bad
  else s

/-- A lane's engine check fails in this slot (06 R188). -/
def State.engineFails (s : State) (l : Lane) : State :=
  let bad := s.updLane l fun a => { a with health := { a.health with engineCheckFail := true } }
  if !s.computes l then s
  else if (upto 12).any (fun c => s.bursting c s.slotInMajor) && s.inDuty l then bad.updLane l fun a => { a with burstFailed := true }
  else if s.engineTest l then if (s.xtLane l).state = .standby then bad.fatalFault l else bad
  else s

/-- The tests of a slot: their failures, and the rotation's next step.
Log 62: DEDUCED, unsafe. -/
def State.slotTests (s : State) (f : SlotFaults) : State :=
  let t := f.engineFail.foldl State.engineFails (f.coreFail.foldl (fun t x => t.coreFails x.1 x.2) s)
  (t.nextTest .main).nextTest .mizzen

/-- The burst's results leave in the slot that follows its last run.
Log 62: DEDUCED, unsafe. -/
def State.burstResults (s : State) : State :=
  if s.xt.burstJudge = some s.slot then (s.sendBurst .main).sendBurst .mizzen else s

/-! ### Copies and patrols in a slot (05 R155, 16 R433) -/

/-- The background copy of a slot in which core 0 is in a `SELFTEST` run.
Log 63: DEDUCED, unsafe. -/
def State.resyncSlot (s : State) : State :=
  match s.resyncLane with
  | none => s
  | some l =>
    if s.sched.image.selftest 0 s.slotInMajor && s.computes l.other then
      { s with xt := { s.xt with resyncBytes := min (s.xt.resyncBytes + 65536) s.copyTotal } }
    else s

/-- The patrol of a `STANDBY` lane's DRAM.
Log 40: DEDUCED, unsafe. -/
def State.lanePatrol (s : State) (l : Lane) : State :=
  if s.computes l && (s.xtLane l).state == .standby && s.sched.image.selftest 0 s.slotInMajor then (s.patrolSlot l.code).1
  else s

/-- The patrol of fusion memory while the engine is not busy; a network slot with an uncorrectable byte is copied again. -/
def State.fusionPatrol (s : State) : State :=
  if s.fusionMem && s.fus.running.isNone then
    let (t, bad) := s.patrolSlot 4
    bad.foldl (fun u a =>
      let n := a / 2147483648
      if n < 8 ∧ (u.netSlot n).state = 4 then u.updSlot n fun x => { x with state := 3 } else u) t
  else s

/-- `RESYNC_COPY_COMPLETE` (05 R156). -/
def resyncCopyComplete (l : Lane) (s : State) : State :=
  let x := s.xtLane l
  if x.state == .resync && !x.copyDone && s.xt.resyncBytes == s.copyTotal then s.updXt l fun x => { x with copyDone := true }
  else s

/-! ### `SLOT_START` -/

/-- Each slot starts once; at a major boundary it starts after the boundary's own work (02 R40).
Log 12: DESIGN CHOICE, unsafe; log 109: DEDUCED, unsafe. -/
def State.slotDue (s : State) : Bool :=
  s.time.anchored && s.domain 0 && s.grid % 10000 == 0 && s.time.lastSlot != some s.slot &&
  (s.grid % s.majorLen != 0 || s.time.lastMajor == some s.grid)

/-- `SLOT_START`. At a major boundary, an idle camera port's frame boundary comes after the loops' (02 R55). -/
def slotStart (f : SlotFaults) (s : State) : State :=
  if !s.slotDue then s else
  let s0 : State := { s with time := { s.time with lastSlot := some s.slot } }
  let s1 := if s.grid % s.majorLen = 0 then s0.cameraMajor else s0
  let s2 := (s1.refreshSignals .main).refreshSignals .mizzen
  let s3 := (s2.dispatchTasks .main).dispatchTasks .mizzen
  let s4 := ((s3.slotTests f).burstResults).resyncSlot
  let s5 := if s4.domain 11 then s4.clearSlot else s4
  (((s5.lanePatrol .main).lanePatrol .mizzen).fusionPatrol).interpreterRuns

/-! ### Meanings -/

def execMajorBoundary (dt : Nat) (canBusy : Nat) (s : State) : Host.Outcome State Fault Refusal :=
  runTaking dt s (majorBoundary canBusy)
def execStartupBoundary (dt : Nat) (s : State) : Host.Outcome State Fault Refusal :=
  runTaking dt s startupBoundary
def execSlotStart (dt : Nat) (faults : SlotFaults) (s : State) : Host.Outcome State Fault Refusal :=
  runTaking dt s (slotStart faults)
def execResyncCopyComplete (dt : Nat) (lane : Lane) (s : State) : Host.Outcome State Fault Refusal :=
  runCmd dt s (resyncCopyComplete lane)

end Sys2Proof.Machine
end

