-- ==== Sys2Proof/Machine/Commands.lean ====
section
/-!
DEFINITION. The commands of the model that may let a receiver take items, requests first among them: each has its effect, then
the blocks act on the commands taken.
-/
namespace Sys2Proof.Machine
open Sys2Proof

/-! ### System (04) -/

def execSysGetInfo (dt : Nat) (r : Request) (s : State) : Host.Outcome State Fault Refusal :=
  runTaking dt s fun s => s.runRequest opSysGetInfo r
def execSysSetKey (dt : Nat) (r : Request) (s : State) : Host.Outcome State Fault Refusal :=
  runTaking dt s fun s => s.runRequest opSysSetKey r
def execSysClearOrigins (dt : Nat) (r : Request) (s : State) : Host.Outcome State Fault Refusal :=
  runTaking dt s fun s => s.runRequest opSysClearOrigins r
def execSysGetPacketCounters (dt : Nat) (r : Request) (s : State) : Host.Outcome State Fault Refusal :=
  runTaking dt s fun s => s.runRequest opSysGetPacketCounters r

/-! ### Time (02) -/

def execTimeGetStatus (dt : Nat) (r : Request) (s : State) : Host.Outcome State Fault Refusal :=
  runTaking dt s fun s => s.runRequest opTimeGetStatus r
def execTimeSetLeap (dt : Nat) (r : Request) (s : State) : Host.Outcome State Fault Refusal :=
  runTaking dt s fun s => s.runRequest opTimeSetLeap r
def execTimeSetManual (dt : Nat) (r : Request) (s : State) : Host.Outcome State Fault Refusal :=
  runTaking dt s fun s => s.runRequest opTimeSetManual r
def execTimeStepApplied (dt : Nat) (s : State) : Host.Outcome State Fault Refusal :=
  runTaking dt s stepApplied

/-! ### Flash banks (03) -/

def execSchedLoadBegin (dt : Nat) (r : Request) (s : State) : Host.Outcome State Fault Refusal :=
  runTaking dt s fun s => s.runRequest opSchedLoadBegin r
def execSchedLoadData (dt : Nat) (r : Request) (s : State) : Host.Outcome State Fault Refusal :=
  runTaking dt s fun s => s.runRequest opSchedLoadData r
def execSchedSetStartBank (dt : Nat) (r : Request) (s : State) : Host.Outcome State Fault Refusal :=
  runTaking dt s fun s => s.runRequest opSchedSetStartBank r
def execSchedGetStatus (dt : Nat) (r : Request) (s : State) : Host.Outcome State Fault Refusal :=
  runTaking dt s fun s => s.runRequest opSchedGetStatus r

/-! ### Schedule (03) -/

def execSchedLoadEnd (dt : Nat) (r : Request) (s : State) : Host.Outcome State Fault Refusal :=
  runTaking dt s fun s => s.runRequest opSchedLoadEnd r
def execSchedActivate (dt : Nat) (r : Request) (s : State) : Host.Outcome State Fault Refusal :=
  runTaking dt s fun s => s.runRequest opSchedActivate r

/-! ### Lanes, receivers and the Crosstree (05) -/

def execLaneGetStatus (dt : Nat) (r : Request) (s : State) : Host.Outcome State Fault Refusal :=
  runTaking dt s fun s => s.runRequest opLaneGetStatus r
def execLaneSetPolicy (dt : Nat) (r : Request) (s : State) : Host.Outcome State Fault Refusal :=
  runTaking dt s fun s => s.runRequest opLaneSetPolicy r
def execLaneSetDedupWindow (dt : Nat) (r : Request) (s : State) : Host.Outcome State Fault Refusal :=
  runTaking dt s fun s => s.runRequest opLaneSetDedupWindow r
def execLaneGetReceiverCounters (dt : Nat) (r : Request) (s : State) : Host.Outcome State Fault Refusal :=
  runTaking dt s fun s => s.runRequest opLaneGetReceiverCounters r
def execLaneRequestBurst (dt : Nat) (r : Request) (s : State) : Host.Outcome State Fault Refusal :=
  runTaking dt s fun s => s.runRequest opLaneRequestBurst r
def execLaneRequestSwitch (dt : Nat) (r : Request) (s : State) : Host.Outcome State Fault Refusal :=
  runTaking dt s fun s => s.runRequest opLaneRequestSwitch r
def execLaneRecover (dt : Nat) (r : Request) (s : State) : Host.Outcome State Fault Refusal :=
  runTaking dt s fun s => s.runRequest opLaneRecover r
def execLaneResyncRequest (dt : Nat) (r : Request) (s : State) : Host.Outcome State Fault Refusal :=
  runTaking dt s fun s => s.runRequest opLaneResyncRequest r
def execReceiverCopyArrival (dt : Nat) (lane : Lane) (block resource : Nat) (s : State) : Host.Outcome State Fault Refusal :=
  runTaking dt s (receiverCopyArrival lane block resource)
def execDedupWindowExpiry (dt : Nat) (block resource : Nat) (s : State) : Host.Outcome State Fault Refusal :=
  runTaking dt s (dedupWindowExpiry block resource)
def execPairLimitExpiry (dt : Nat) (block resource : Nat) (s : State) : Host.Outcome State Fault Refusal :=
  runTaking dt s (pairLimitExpiry block resource)
def execHeartbeatReceived (dt : Nat) (lane : Lane) (s : State) : Host.Outcome State Fault Refusal :=
  runTaking dt s (heartbeatReceived lane)
def execHeartbeatTimerExpiry (dt : Nat) (lane : Lane) (s : State) : Host.Outcome State Fault Refusal :=
  runTaking dt s (heartbeatTimerExpiry lane)
def execOverrunClassify (dt : Nat) (s : State) : Host.Outcome State Fault Refusal :=
  runTaking dt s overrunClassify
def execBurstResultDeadline (dt : Nat) (s : State) : Host.Outcome State Fault Refusal :=
  runTaking dt s burstResultDeadline

/-! ### Tasks and transfers (03) -/

def execTaskCommit (dt : Nat) (lane : Lane) (task : TaskOn) (s : State) : Host.Outcome State Fault Refusal :=
  runTaking dt s (taskCommit lane task.task task.core)
def execTransferSend (dt : Nat) (lane : Lane) (entry : Nat) (s : State) : Host.Outcome State Fault Refusal :=
  runTaking dt s (transferSend lane entry)

/-! ### Control engine (06) -/

def execCtrlSetLoop (dt : Nat) (r : Request) (s : State) : Host.Outcome State Fault Refusal :=
  runTaking dt s fun s => s.runRequest opCtrlSetLoop r
def execCtrlSetCoeffs (dt : Nat) (r : Request) (s : State) : Host.Outcome State Fault Refusal :=
  runTaking dt s fun s => s.runRequest opCtrlSetCoeffs r
def execCtrlSetClamp (dt : Nat) (r : Request) (s : State) : Host.Outcome State Fault Refusal :=
  runTaking dt s fun s => s.runRequest opCtrlSetClamp r
def execCtrlPresetState (dt : Nat) (r : Request) (s : State) : Host.Outcome State Fault Refusal :=
  runTaking dt s fun s => s.runRequest opCtrlPresetState r
def execCtrlGetLoop (dt : Nat) (r : Request) (s : State) : Host.Outcome State Fault Refusal :=
  runTaking dt s fun s => s.runRequest opCtrlGetLoop r
def execCtrlGetStatus (dt : Nat) (r : Request) (s : State) : Host.Outcome State Fault Refusal :=
  runTaking dt s fun s => s.runRequest opCtrlGetStatus r
def execCtrlClearCounters (dt : Nat) (r : Request) (s : State) : Host.Outcome State Fault Refusal :=
  runTaking dt s fun s => s.runRequest opCtrlClearCounters r
def execLoopPeriodBoundary (dt : Nat) (loop : Nat) (s : State) : Host.Outcome State Fault Refusal :=
  runTaking dt s (loopPeriodBoundary loop)

/-! ### Power channels (07, 08) -/

def execChanSetConfig (dt : Nat) (r : Request) (s : State) : Host.Outcome State Fault Refusal :=
  runTaking dt s fun s => s.runRequest opChanSetConfig r
def execChanGetConfig (dt : Nat) (r : Request) (s : State) : Host.Outcome State Fault Refusal :=
  runTaking dt s fun s => s.runRequest opChanGetConfig r
def execChanGetStatus (dt : Nat) (r : Request) (s : State) : Host.Outcome State Fault Refusal :=
  runTaking dt s fun s => s.runRequest opChanGetStatus r
def execChanGetSupply (dt : Nat) (r : Request) (s : State) : Host.Outcome State Fault Refusal :=
  runTaking dt s fun s => s.runRequest opChanGetSupply r
def execChanClearCounters (dt : Nat) (r : Request) (s : State) : Host.Outcome State Fault Refusal :=
  runTaking dt s fun s => s.runRequest opChanClearCounters r
def execChanSetProtection (dt : Nat) (r : Request) (s : State) : Host.Outcome State Fault Refusal :=
  runTaking dt s fun s => s.runRequest opChanSetProtection r
def execChanGetProtection (dt : Nat) (r : Request) (s : State) : Host.Outcome State Fault Refusal :=
  runTaking dt s fun s => s.runRequest opChanGetProtection r
def execChanReleaseLatch (dt : Nat) (r : Request) (s : State) : Host.Outcome State Fault Refusal :=
  runTaking dt s fun s => s.runRequest opChanReleaseLatch r
def execChanRefillRetry (dt : Nat) (r : Request) (s : State) : Host.Outcome State Fault Refusal :=
  runTaking dt s fun s => s.runRequest opChanRefillRetry r
def execChanStopReset (dt : Nat) (r : Request) (s : State) : Host.Outcome State Fault Refusal :=
  runTaking dt s fun s => s.runRequest opChanStopReset r
def execChanGetGeneration (dt : Nat) (r : Request) (s : State) : Host.Outcome State Fault Refusal :=
  runTaking dt s fun s => s.runRequest opChanGetGeneration r
def execChanAdopt (dt : Nat) (r : Request) (s : State) : Host.Outcome State Fault Refusal :=
  runTaking dt s fun s => s.runRequest opChanAdopt r

/-! ### Crop sensing (09) -/

def execSenseSetInput (dt : Nat) (r : Request) (s : State) : Host.Outcome State Fault Refusal :=
  runTaking dt s fun s => s.runRequest opSenseSetInput r
def execSenseSetLoss (dt : Nat) (r : Request) (s : State) : Host.Outcome State Fault Refusal :=
  runTaking dt s fun s => s.runRequest opSenseSetLoss r
def execSenseSetBridge (dt : Nat) (r : Request) (s : State) : Host.Outcome State Fault Refusal :=
  runTaking dt s fun s => s.runRequest opSenseSetBridge r
def execSenseSetSupply (dt : Nat) (r : Request) (s : State) : Host.Outcome State Fault Refusal :=
  runTaking dt s fun s => s.runRequest opSenseSetSupply r
def execSenseGetStatus (dt : Nat) (r : Request) (s : State) : Host.Outcome State Fault Refusal :=
  runTaking dt s fun s => s.runRequest opSenseGetStatus r

/-! ### Yield tally (09) -/

def execYieldSetGrid (dt : Nat) (r : Request) (s : State) : Host.Outcome State Fault Refusal :=
  runTaking dt s fun s => s.runRequest opYieldSetGrid r
def execYieldSetSources (dt : Nat) (r : Request) (s : State) : Host.Outcome State Fault Refusal :=
  runTaking dt s fun s => s.runRequest opYieldSetSources r
def execYieldClearGrid (dt : Nat) (r : Request) (s : State) : Host.Outcome State Fault Refusal :=
  runTaking dt s fun s => s.runRequest opYieldClearGrid r
def execYieldGetTotals (dt : Nat) (r : Request) (s : State) : Host.Outcome State Fault Refusal :=
  runTaking dt s fun s => s.runRequest opYieldGetTotals r

/-! ### Camera ports (10, 11) -/

def execCamSetPort (dt : Nat) (r : Request) (s : State) : Host.Outcome State Fault Refusal :=
  runTaking dt s fun s => s.runRequest opCamSetPort r
def execCamSetGeometry (dt : Nat) (r : Request) (s : State) : Host.Outcome State Fault Refusal :=
  runTaking dt s fun s => s.runRequest opCamSetGeometry r
def execCamSetLinear (dt : Nat) (r : Request) (s : State) : Host.Outcome State Fault Refusal :=
  runTaking dt s fun s => s.runRequest opCamSetLinear r
def execCamSetExposure (dt : Nat) (r : Request) (s : State) : Host.Outcome State Fault Refusal :=
  runTaking dt s fun s => s.runRequest opCamSetExposure r
def execCamSensorTransfer (dt : Nat) (r : Request) (s : State) : Host.Outcome State Fault Refusal :=
  runTaking dt s fun s => s.runRequest opCamSensorTransfer r
def execCamGetStatus (dt : Nat) (r : Request) (s : State) : Host.Outcome State Fault Refusal :=
  runTaking dt s fun s => s.runRequest opCamGetStatus r
def execCamClearCounters (dt : Nat) (r : Request) (s : State) : Host.Outcome State Fault Refusal :=
  runTaking dt s fun s => s.runRequest opCamClearCounters r
def execCamSetCfa (dt : Nat) (r : Request) (s : State) : Host.Outcome State Fault Refusal :=
  runTaking dt s fun s => s.runRequest opCamSetCfa r
def execCamSetWb (dt : Nat) (r : Request) (s : State) : Host.Outcome State Fault Refusal :=
  runTaking dt s fun s => s.runRequest opCamSetWb r
def execCamSetMatrix (dt : Nat) (r : Request) (s : State) : Host.Outcome State Fault Refusal :=
  runTaking dt s fun s => s.runRequest opCamSetMatrix r
def execCamSetTone (dt : Nat) (r : Request) (s : State) : Host.Outcome State Fault Refusal :=
  runTaking dt s fun s => s.runRequest opCamSetTone r
def execCamSetStream (dt : Nat) (r : Request) (s : State) : Host.Outcome State Fault Refusal :=
  runTaking dt s fun s => s.runRequest opCamSetStream r
def execCamSetStats (dt : Nat) (r : Request) (s : State) : Host.Outcome State Fault Refusal :=
  runTaking dt s fun s => s.runRequest opCamSetStats r
def execCamGetStreamStatus (dt : Nat) (r : Request) (s : State) : Host.Outcome State Fault Refusal :=
  runTaking dt s fun s => s.runRequest opCamGetStreamStatus r
def execFrameValidRise (dt : Nat) (port : Nat) (s : State) : Host.Outcome State Fault Refusal :=
  runTaking dt s (frameValidRise port)
def execLinkTransactionEnd (dt : Nat) (port : Nat) (result : LinkResult) (s : State) :
    Host.Outcome State Fault Refusal :=
  runTaking dt s (linkTransactionEnd port result)

/-! ### Fusion (12) -/

def execFusionSetSource (dt : Nat) (r : Request) (s : State) : Host.Outcome State Fault Refusal :=
  runTaking dt s fun s => s.runRequest opFusionSetSource r
def execFusionSetRound (dt : Nat) (r : Request) (s : State) : Host.Outcome State Fault Refusal :=
  runTaking dt s fun s => s.runRequest opFusionSetRound r
def execFusionSetCanvas (dt : Nat) (r : Request) (s : State) : Host.Outcome State Fault Refusal :=
  runTaking dt s fun s => s.runRequest opFusionSetCanvas r
def execFusionResetState (dt : Nat) (r : Request) (s : State) : Host.Outcome State Fault Refusal :=
  runTaking dt s fun s => s.runRequest opFusionResetState r
def execFusionNetLoadBegin (dt : Nat) (r : Request) (s : State) : Host.Outcome State Fault Refusal :=
  runTaking dt s fun s => s.runRequest opFusionNetLoadBegin r
def execFusionNetLoadData (dt : Nat) (r : Request) (s : State) : Host.Outcome State Fault Refusal :=
  runTaking dt s fun s => s.runRequest opFusionNetLoadData r
def execFusionNetLoadEnd (dt : Nat) (r : Request) (s : State) : Host.Outcome State Fault Refusal :=
  runTaking dt s fun s => s.runRequest opFusionNetLoadEnd r
def execFusionGetRoundStatus (dt : Nat) (r : Request) (s : State) : Host.Outcome State Fault Refusal :=
  runTaking dt s fun s => s.runRequest opFusionGetRoundStatus r
def execFusionGetSourceStatus (dt : Nat) (r : Request) (s : State) : Host.Outcome State Fault Refusal :=
  runTaking dt s fun s => s.runRequest opFusionGetSourceStatus r
def execFusionGetNetStatus (dt : Nat) (r : Request) (s : State) : Host.Outcome State Fault Refusal :=
  runTaking dt s fun s => s.runRequest opFusionGetNetStatus r
def execFusionClearCounters (dt : Nat) (r : Request) (s : State) : Host.Outcome State Fault Refusal :=
  runTaking dt s fun s => s.runRequest opFusionClearCounters r

/-! ### Satellite navigation (13) -/

def execGnssSetConfig (dt : Nat) (r : Request) (s : State) : Host.Outcome State Fault Refusal :=
  runTaking dt s fun s => s.runRequest opGnssSetConfig r
def execGnssSetTimePulse (dt : Nat) (r : Request) (s : State) : Host.Outcome State Fault Refusal :=
  runTaking dt s fun s => s.runRequest opGnssSetTimePulse r
def execGnssSetWatch (dt : Nat) (r : Request) (s : State) : Host.Outcome State Fault Refusal :=
  runTaking dt s fun s => s.runRequest opGnssSetWatch r
def execGnssAid (dt : Nat) (r : Request) (s : State) : Host.Outcome State Fault Refusal :=
  runTaking dt s fun s => s.runRequest opGnssAid r
def execGnssResetData (dt : Nat) (r : Request) (s : State) : Host.Outcome State Fault Refusal :=
  runTaking dt s fun s => s.runRequest opGnssResetData r
def execGnssGetStatus (dt : Nat) (r : Request) (s : State) : Host.Outcome State Fault Refusal :=
  runTaking dt s fun s => s.runRequest opGnssGetStatus r
def execGnssClearCounters (dt : Nat) (r : Request) (s : State) : Host.Outcome State Fault Refusal :=
  runTaking dt s fun s => s.runRequest opGnssClearCounters r
def execGnssEpoch (dt : Nat) (epoch : EpochData) (s : State) : Host.Outcome State Fault Refusal :=
  runTaking dt s (gnssEpoch epoch)
def execWatchBurst (dt : Nat) (epoch : EpochData) (s : State) : Host.Outcome State Fault Refusal :=
  runTaking dt s (watchBurst epoch)

/-! ### CAN (14) -/

def execCanSetPort (dt : Nat) (r : Request) (s : State) : Host.Outcome State Fault Refusal :=
  runTaking dt s fun s => s.runRequest opCanSetPort r
def execCanSetFilters (dt : Nat) (r : Request) (s : State) : Host.Outcome State Fault Refusal :=
  runTaking dt s fun s => s.runRequest opCanSetFilters r
def execCanRecover (dt : Nat) (r : Request) (s : State) : Host.Outcome State Fault Refusal :=
  runTaking dt s fun s => s.runRequest opCanRecover r
def execCanGetStatus (dt : Nat) (r : Request) (s : State) : Host.Outcome State Fault Refusal :=
  runTaking dt s fun s => s.runRequest opCanGetStatus r
def execCanClearCounters (dt : Nat) (r : Request) (s : State) : Host.Outcome State Fault Refusal :=
  runTaking dt s fun s => s.runRequest opCanClearCounters r

/-! ### Stay and Ethernet (15) -/

def execStayJoin (dt : Nat) (r : Request) (s : State) : Host.Outcome State Fault Refusal :=
  runTaking dt s fun s => s.runRequest opStayJoin r
def execStayLeave (dt : Nat) (r : Request) (s : State) : Host.Outcome State Fault Refusal :=
  runTaking dt s fun s => s.runRequest opStayLeave r
def execStayGetStatus (dt : Nat) (r : Request) (s : State) : Host.Outcome State Fault Refusal :=
  runTaking dt s fun s => s.runRequest opStayGetStatus r
def execStayGetStation (dt : Nat) (r : Request) (s : State) : Host.Outcome State Fault Refusal :=
  runTaking dt s fun s => s.runRequest opStayGetStation r
def execEthSetPort (dt : Nat) (r : Request) (s : State) : Host.Outcome State Fault Refusal :=
  runTaking dt s fun s => s.runRequest opEthSetPort r
def execEthGetStatus (dt : Nat) (r : Request) (s : State) : Host.Outcome State Fault Refusal :=
  runTaking dt s fun s => s.runRequest opEthGetStatus r
def execStayClearCounters (dt : Nat) (r : Request) (s : State) : Host.Outcome State Fault Refusal :=
  runTaking dt s fun s => s.runRequest opStayClearCounters r
def execStayFrameReceived (dt : Nat) (port : Nat) (frame : StayFrame) (s : State) :
    Host.Outcome State Fault Refusal :=
  runTaking dt s (stayFrameReceived port frame)
def execEthFrameReceived (dt : Nat) (port : Nat) (frame : EthFrame) (s : State) : Host.Outcome State Fault Refusal :=
  runTaking dt s (ethFrameReceived port frame)

/-! ### Memory (16) -/

def execMemSetMode (dt : Nat) (r : Request) (s : State) : Host.Outcome State Fault Refusal :=
  runTaking dt s fun s => s.runRequest opMemSetMode r
def execMemSetPatrol (dt : Nat) (r : Request) (s : State) : Host.Outcome State Fault Refusal :=
  runTaking dt s fun s => s.runRequest opMemSetPatrol r
def execMemGetStatus (dt : Nat) (r : Request) (s : State) : Host.Outcome State Fault Refusal :=
  runTaking dt s fun s => s.runRequest opMemGetStatus r
def execMemClearLog (dt : Nat) (r : Request) (s : State) : Host.Outcome State Fault Refusal :=
  runTaking dt s fun s => s.runRequest opMemClearLog r
def execMemRewrite (dt : Nat) (r : Request) (s : State) : Host.Outcome State Fault Refusal :=
  runTaking dt s fun s => s.runRequest opMemRewrite r
def execMemTestWrite (dt : Nat) (r : Request) (s : State) : Host.Outcome State Fault Refusal :=
  runTaking dt s fun s => s.runRequest opMemTestWrite r
def execMemTestRead (dt : Nat) (r : Request) (s : State) : Host.Outcome State Fault Refusal :=
  runTaking dt s fun s => s.runRequest opMemTestRead r
def execMemSetFill (dt : Nat) (r : Request) (s : State) : Host.Outcome State Fault Refusal :=
  runTaking dt s fun s => s.runRequest opMemSetFill r

/-! ### Recorder (17) -/

def execRecRead (dt : Nat) (r : Request) (s : State) : Host.Outcome State Fault Refusal :=
  runTaking dt s fun s => s.runRequest opRecRead r
def execRecReadTrouble (dt : Nat) (r : Request) (s : State) : Host.Outcome State Fault Refusal :=
  runTaking dt s fun s => s.runRequest opRecReadTrouble r
def execRecGetStatus (dt : Nat) (r : Request) (s : State) : Host.Outcome State Fault Refusal :=
  runTaking dt s fun s => s.runRequest opRecGetStatus r
def execRecFreeze (dt : Nat) (r : Request) (s : State) : Host.Outcome State Fault Refusal :=
  runTaking dt s fun s => s.runRequest opRecFreeze r
def execRecUnfreeze (dt : Nat) (r : Request) (s : State) : Host.Outcome State Fault Refusal :=
  runTaking dt s fun s => s.runRequest opRecUnfreeze r
def execRecClear (dt : Nat) (r : Request) (s : State) : Host.Outcome State Fault Refusal :=
  runTaking dt s fun s => s.runRequest opRecClear r
def execRecSetRate (dt : Nat) (r : Request) (s : State) : Host.Outcome State Fault Refusal :=
  runTaking dt s fun s => s.runRequest opRecSetRate r
def execRecGetRate (dt : Nat) (r : Request) (s : State) : Host.Outcome State Fault Refusal :=
  runTaking dt s fun s => s.runRequest opRecGetRate r

/-! ### Power domains (18) -/

def execPwrSetDomain (dt : Nat) (r : Request) (s : State) : Host.Outcome State Fault Refusal :=
  runTaking dt s fun s => s.runRequest opPwrSetDomain r
def execPwrGetStatus (dt : Nat) (r : Request) (s : State) : Host.Outcome State Fault Refusal :=
  runTaking dt s fun s => s.runRequest opPwrGetStatus r
def execPwrSetConfig (dt : Nat) (r : Request) (s : State) : Host.Outcome State Fault Refusal :=
  runTaking dt s fun s => s.runRequest opPwrSetConfig r
def execPwrEnterLow (dt : Nat) (r : Request) (s : State) : Host.Outcome State Fault Refusal :=
  runTaking dt s fun s => s.runRequest opPwrEnterLow r
def execPwrReset (dt : Nat) (r : Request) (s : State) : Host.Outcome State Fault Refusal :=
  runTaking dt s fun s => s.runRequest opPwrReset r
def execEsupMeasure (dt : Nat) (sample : PwrSample) (s : State) : Host.Outcome State Fault Refusal :=
  runTaking dt s (esupMeasure sample)
def execThermalWarning (dt : Nat) (sensor : Nat) (temp : Int) (s : State) : Host.Outcome State Fault Refusal :=
  runTaking dt s fun s => s.senseTemp sensor temp

end Sys2Proof.Machine
end

