-- ==== Sys2Proof/Machine/Dispatch.lean ====
section
/-!
DEFINITION. The dispatch of a command to its meaning: one arm for each constructor of `Instr`, in the table's order.
-/
namespace Sys2Proof.Machine
open Sys2Proof

def exec (i : Instr) (s : State) : Host.Outcome State Fault Refusal :=
  match i with
  | .timeGetStatus dt r => Sys2Proof.Machine.execTimeGetStatus dt r s
  | .timeSetLeap dt r => Sys2Proof.Machine.execTimeSetLeap dt r s
  | .timeSetManual dt r => Sys2Proof.Machine.execTimeSetManual dt r s
  | .schedLoadBegin dt r => Sys2Proof.Machine.execSchedLoadBegin dt r s
  | .schedLoadData dt r => Sys2Proof.Machine.execSchedLoadData dt r s
  | .schedLoadEnd dt r => Sys2Proof.Machine.execSchedLoadEnd dt r s
  | .schedActivate dt r => Sys2Proof.Machine.execSchedActivate dt r s
  | .schedSetStartBank dt r => Sys2Proof.Machine.execSchedSetStartBank dt r s
  | .schedGetStatus dt r => Sys2Proof.Machine.execSchedGetStatus dt r s
  | .sysGetInfo dt r => Sys2Proof.Machine.execSysGetInfo dt r s
  | .sysSetKey dt r => Sys2Proof.Machine.execSysSetKey dt r s
  | .sysClearOrigins dt r => Sys2Proof.Machine.execSysClearOrigins dt r s
  | .sysGetPacketCounters dt r => Sys2Proof.Machine.execSysGetPacketCounters dt r s
  | .laneGetStatus dt r => Sys2Proof.Machine.execLaneGetStatus dt r s
  | .laneSetPolicy dt r => Sys2Proof.Machine.execLaneSetPolicy dt r s
  | .laneSetDedupWindow dt r => Sys2Proof.Machine.execLaneSetDedupWindow dt r s
  | .laneGetReceiverCounters dt r => Sys2Proof.Machine.execLaneGetReceiverCounters dt r s
  | .laneRequestBurst dt r => Sys2Proof.Machine.execLaneRequestBurst dt r s
  | .laneRequestSwitch dt r => Sys2Proof.Machine.execLaneRequestSwitch dt r s
  | .laneRecover dt r => Sys2Proof.Machine.execLaneRecover dt r s
  | .laneResyncRequest dt r => Sys2Proof.Machine.execLaneResyncRequest dt r s
  | .ctrlSetLoop dt r => Sys2Proof.Machine.execCtrlSetLoop dt r s
  | .ctrlSetCoeffs dt r => Sys2Proof.Machine.execCtrlSetCoeffs dt r s
  | .ctrlSetClamp dt r => Sys2Proof.Machine.execCtrlSetClamp dt r s
  | .ctrlPresetState dt r => Sys2Proof.Machine.execCtrlPresetState dt r s
  | .ctrlGetLoop dt r => Sys2Proof.Machine.execCtrlGetLoop dt r s
  | .ctrlGetStatus dt r => Sys2Proof.Machine.execCtrlGetStatus dt r s
  | .ctrlClearCounters dt r => Sys2Proof.Machine.execCtrlClearCounters dt r s
  | .chanSetConfig dt r => Sys2Proof.Machine.execChanSetConfig dt r s
  | .chanGetConfig dt r => Sys2Proof.Machine.execChanGetConfig dt r s
  | .chanGetStatus dt r => Sys2Proof.Machine.execChanGetStatus dt r s
  | .chanGetSupply dt r => Sys2Proof.Machine.execChanGetSupply dt r s
  | .chanClearCounters dt r => Sys2Proof.Machine.execChanClearCounters dt r s
  | .chanSetProtection dt r => Sys2Proof.Machine.execChanSetProtection dt r s
  | .chanGetProtection dt r => Sys2Proof.Machine.execChanGetProtection dt r s
  | .chanReleaseLatch dt r => Sys2Proof.Machine.execChanReleaseLatch dt r s
  | .chanRefillRetry dt r => Sys2Proof.Machine.execChanRefillRetry dt r s
  | .chanStopReset dt r => Sys2Proof.Machine.execChanStopReset dt r s
  | .chanGetGeneration dt r => Sys2Proof.Machine.execChanGetGeneration dt r s
  | .chanAdopt dt r => Sys2Proof.Machine.execChanAdopt dt r s
  | .senseSetInput dt r => Sys2Proof.Machine.execSenseSetInput dt r s
  | .senseSetLoss dt r => Sys2Proof.Machine.execSenseSetLoss dt r s
  | .senseSetBridge dt r => Sys2Proof.Machine.execSenseSetBridge dt r s
  | .senseSetSupply dt r => Sys2Proof.Machine.execSenseSetSupply dt r s
  | .senseGetStatus dt r => Sys2Proof.Machine.execSenseGetStatus dt r s
  | .yieldSetGrid dt r => Sys2Proof.Machine.execYieldSetGrid dt r s
  | .yieldSetSources dt r => Sys2Proof.Machine.execYieldSetSources dt r s
  | .yieldClearGrid dt r => Sys2Proof.Machine.execYieldClearGrid dt r s
  | .yieldGetTotals dt r => Sys2Proof.Machine.execYieldGetTotals dt r s
  | .camSetPort dt r => Sys2Proof.Machine.execCamSetPort dt r s
  | .camSetGeometry dt r => Sys2Proof.Machine.execCamSetGeometry dt r s
  | .camSetLinear dt r => Sys2Proof.Machine.execCamSetLinear dt r s
  | .camSetExposure dt r => Sys2Proof.Machine.execCamSetExposure dt r s
  | .camSensorTransfer dt r => Sys2Proof.Machine.execCamSensorTransfer dt r s
  | .camGetStatus dt r => Sys2Proof.Machine.execCamGetStatus dt r s
  | .camClearCounters dt r => Sys2Proof.Machine.execCamClearCounters dt r s
  | .camSetCfa dt r => Sys2Proof.Machine.execCamSetCfa dt r s
  | .camSetWb dt r => Sys2Proof.Machine.execCamSetWb dt r s
  | .camSetMatrix dt r => Sys2Proof.Machine.execCamSetMatrix dt r s
  | .camSetTone dt r => Sys2Proof.Machine.execCamSetTone dt r s
  | .camSetStream dt r => Sys2Proof.Machine.execCamSetStream dt r s
  | .camSetStats dt r => Sys2Proof.Machine.execCamSetStats dt r s
  | .camGetStreamStatus dt r => Sys2Proof.Machine.execCamGetStreamStatus dt r s
  | .fusionSetSource dt r => Sys2Proof.Machine.execFusionSetSource dt r s
  | .fusionSetRound dt r => Sys2Proof.Machine.execFusionSetRound dt r s
  | .fusionSetCanvas dt r => Sys2Proof.Machine.execFusionSetCanvas dt r s
  | .fusionResetState dt r => Sys2Proof.Machine.execFusionResetState dt r s
  | .fusionNetLoadBegin dt r => Sys2Proof.Machine.execFusionNetLoadBegin dt r s
  | .fusionNetLoadData dt r => Sys2Proof.Machine.execFusionNetLoadData dt r s
  | .fusionNetLoadEnd dt r => Sys2Proof.Machine.execFusionNetLoadEnd dt r s
  | .fusionGetRoundStatus dt r => Sys2Proof.Machine.execFusionGetRoundStatus dt r s
  | .fusionGetSourceStatus dt r => Sys2Proof.Machine.execFusionGetSourceStatus dt r s
  | .fusionGetNetStatus dt r => Sys2Proof.Machine.execFusionGetNetStatus dt r s
  | .fusionClearCounters dt r => Sys2Proof.Machine.execFusionClearCounters dt r s
  | .gnssSetConfig dt r => Sys2Proof.Machine.execGnssSetConfig dt r s
  | .gnssSetTimePulse dt r => Sys2Proof.Machine.execGnssSetTimePulse dt r s
  | .gnssSetWatch dt r => Sys2Proof.Machine.execGnssSetWatch dt r s
  | .gnssAid dt r => Sys2Proof.Machine.execGnssAid dt r s
  | .gnssResetData dt r => Sys2Proof.Machine.execGnssResetData dt r s
  | .gnssGetStatus dt r => Sys2Proof.Machine.execGnssGetStatus dt r s
  | .gnssClearCounters dt r => Sys2Proof.Machine.execGnssClearCounters dt r s
  | .canSetPort dt r => Sys2Proof.Machine.execCanSetPort dt r s
  | .canSetFilters dt r => Sys2Proof.Machine.execCanSetFilters dt r s
  | .canRecover dt r => Sys2Proof.Machine.execCanRecover dt r s
  | .canGetStatus dt r => Sys2Proof.Machine.execCanGetStatus dt r s
  | .canClearCounters dt r => Sys2Proof.Machine.execCanClearCounters dt r s
  | .stayJoin dt r => Sys2Proof.Machine.execStayJoin dt r s
  | .stayLeave dt r => Sys2Proof.Machine.execStayLeave dt r s
  | .stayGetStatus dt r => Sys2Proof.Machine.execStayGetStatus dt r s
  | .stayGetStation dt r => Sys2Proof.Machine.execStayGetStation dt r s
  | .ethSetPort dt r => Sys2Proof.Machine.execEthSetPort dt r s
  | .ethGetStatus dt r => Sys2Proof.Machine.execEthGetStatus dt r s
  | .stayClearCounters dt r => Sys2Proof.Machine.execStayClearCounters dt r s
  | .memSetMode dt r => Sys2Proof.Machine.execMemSetMode dt r s
  | .memSetPatrol dt r => Sys2Proof.Machine.execMemSetPatrol dt r s
  | .memGetStatus dt r => Sys2Proof.Machine.execMemGetStatus dt r s
  | .memClearLog dt r => Sys2Proof.Machine.execMemClearLog dt r s
  | .memRewrite dt r => Sys2Proof.Machine.execMemRewrite dt r s
  | .memTestWrite dt r => Sys2Proof.Machine.execMemTestWrite dt r s
  | .memTestRead dt r => Sys2Proof.Machine.execMemTestRead dt r s
  | .memSetFill dt r => Sys2Proof.Machine.execMemSetFill dt r s
  | .recRead dt r => Sys2Proof.Machine.execRecRead dt r s
  | .recReadTrouble dt r => Sys2Proof.Machine.execRecReadTrouble dt r s
  | .recGetStatus dt r => Sys2Proof.Machine.execRecGetStatus dt r s
  | .recFreeze dt r => Sys2Proof.Machine.execRecFreeze dt r s
  | .recUnfreeze dt r => Sys2Proof.Machine.execRecUnfreeze dt r s
  | .recClear dt r => Sys2Proof.Machine.execRecClear dt r s
  | .recSetRate dt r => Sys2Proof.Machine.execRecSetRate dt r s
  | .recGetRate dt r => Sys2Proof.Machine.execRecGetRate dt r s
  | .pwrSetDomain dt r => Sys2Proof.Machine.execPwrSetDomain dt r s
  | .pwrGetStatus dt r => Sys2Proof.Machine.execPwrGetStatus dt r s
  | .pwrSetConfig dt r => Sys2Proof.Machine.execPwrSetConfig dt r s
  | .pwrEnterLow dt r => Sys2Proof.Machine.execPwrEnterLow dt r s
  | .pwrReset dt r => Sys2Proof.Machine.execPwrReset dt r s
  | .halyardUnitArrival dt path unit => Sys2Proof.Machine.execHalyardUnitArrival dt path unit s
  | .halyardReplyReceived dt path unit => Sys2Proof.Machine.execHalyardReplyReceived dt path unit s
  | .slotStart dt faults => Sys2Proof.Machine.execSlotStart dt faults s
  | .majorBoundary dt canBusy => Sys2Proof.Machine.execMajorBoundary dt canBusy s
  | .taskFinish dt lane task result => Sys2Proof.Machine.execTaskFinish dt lane task result s
  | .taskCommit dt lane task => Sys2Proof.Machine.execTaskCommit dt lane task s
  | .taskBudgetExpiry dt lane task => Sys2Proof.Machine.execTaskBudgetExpiry dt lane task s
  | .taskWindowFault dt lane task address access => Sys2Proof.Machine.execTaskWindowFault dt lane task address access s
  | .transferSend dt lane entry => Sys2Proof.Machine.execTransferSend dt lane entry s
  | .receiverCopyArrival dt lane block resource => Sys2Proof.Machine.execReceiverCopyArrival dt lane block resource s
  | .dedupWindowExpiry dt block resource => Sys2Proof.Machine.execDedupWindowExpiry dt block resource s
  | .pairLimitExpiry dt block resource => Sys2Proof.Machine.execPairLimitExpiry dt block resource s
  | .heartbeatReceived dt lane => Sys2Proof.Machine.execHeartbeatReceived dt lane s
  | .heartbeatTimerExpiry dt lane => Sys2Proof.Machine.execHeartbeatTimerExpiry dt lane s
  | .heartbeatAckReceived dt lane => Sys2Proof.Machine.execHeartbeatAckReceived dt lane s
  | .laneFatalFault dt lane => Sys2Proof.Machine.execLaneFatalFault dt lane s
  | .healthReportReceived dt lane => Sys2Proof.Machine.execHealthReportReceived dt lane s
  | .discrepancyReportReceived dt => Sys2Proof.Machine.execDiscrepancyReportReceived dt s
  | .scheduleOverrunReceived dt => Sys2Proof.Machine.execScheduleOverrunReceived dt s
  | .overrunClassify dt => Sys2Proof.Machine.execOverrunClassify dt s
  | .commitDigestArrival dt => Sys2Proof.Machine.execCommitDigestArrival dt s
  | .commitDigestCompare dt => Sys2Proof.Machine.execCommitDigestCompare dt s
  | .burstResultReceived dt lane => Sys2Proof.Machine.execBurstResultReceived dt lane s
  | .burstResultDeadline dt => Sys2Proof.Machine.execBurstResultDeadline dt s
  | .resetHoldExpiry dt lane => Sys2Proof.Machine.execResetHoldExpiry dt lane s
  | .laneReadyReport dt lane => Sys2Proof.Machine.execLaneReadyReport dt lane s
  | .laneReadyTimeout dt lane => Sys2Proof.Machine.execLaneReadyTimeout dt lane s
  | .resyncCopyComplete dt lane => Sys2Proof.Machine.execResyncCopyComplete dt lane s
  | .loopPeriodBoundary dt loop => Sys2Proof.Machine.execLoopPeriodBoundary dt loop s
  | .loopStart dt lane pipeline => Sys2Proof.Machine.execLoopStart dt lane pipeline s
  | .loopResultReady dt lane loop => Sys2Proof.Machine.execLoopResultReady dt lane loop s
  | .loopOutputRelease dt lane loop => Sys2Proof.Machine.execLoopOutputRelease dt lane loop s
  | .pwmPeriodStart dt chan => Sys2Proof.Machine.execPwmPeriodStart dt chan s
  | .channelSampleEnd dt chan sample => Sys2Proof.Machine.execChannelSampleEnd dt chan sample s
  | .supplySampleEnd dt sample => Sys2Proof.Machine.execSupplySampleEnd dt sample s
  | .overcurrentFast dt chan low => Sys2Proof.Machine.execOvercurrentFast dt chan low s
  | .inrushWindowEnd dt chan => Sys2Proof.Machine.execInrushWindowEnd dt chan s
  | .retry dt chan => Sys2Proof.Machine.execRetry dt chan s
  | .thermalLatch dt chan => Sys2Proof.Machine.execThermalLatch dt chan s
  | .freewheelMissing dt chan => Sys2Proof.Machine.execFreewheelMissing dt chan s
  | .freewheelWatchEnd dt chan mv ns => Sys2Proof.Machine.execFreewheelWatchEnd dt chan mv ns s
  | .stopAsserted dt => Sys2Proof.Machine.execStopAsserted dt s
  | .stopDeasserted dt => Sys2Proof.Machine.execStopDeasserted dt s
  | .universalSampleEnd dt sample => Sys2Proof.Machine.execUniversalSampleEnd dt sample s
  | .shuntOpen dt input => Sys2Proof.Machine.execShuntOpen dt input s
  | .shuntTrial dt input inRange => Sys2Proof.Machine.execShuntTrial dt input inRange s
  | .lossHitEnd dt input hit => Sys2Proof.Machine.execLossHitEnd dt input hit s
  | .lossIntervalEnd dt input peak => Sys2Proof.Machine.execLossIntervalEnd dt input peak s
  | .capCheckComplete dt input capacitance => Sys2Proof.Machine.execCapCheckComplete dt input capacitance s
  | .bridgeSampleEnd dt input reading => Sys2Proof.Machine.execBridgeSampleEnd dt input reading s
  | .bridgeWireBreak dt input open_ => Sys2Proof.Machine.execBridgeWireBreak dt input open_ s
  | .sensorSupplyTrip dt supply => Sys2Proof.Machine.execSensorSupplyTrip dt supply s
  | .sensorSupplyRetry dt supply exceeds => Sys2Proof.Machine.execSensorSupplyRetry dt supply exceeds s
  | .yieldStepProcess dt => Sys2Proof.Machine.execYieldStepProcess dt s
  | .yieldCellWrite dt => Sys2Proof.Machine.execYieldCellWrite dt s
  | .frameValidRise dt port => Sys2Proof.Machine.execFrameValidRise dt port s
  | .lineEnd dt port line => Sys2Proof.Machine.execLineEnd dt port line s
  | .frameValidFall dt port => Sys2Proof.Machine.execFrameValidFall dt port s
  | .frameTimeout dt port => Sys2Proof.Machine.execFrameTimeout dt port s
  | .cameraClockLost dt port => Sys2Proof.Machine.execCameraClockLost dt port s
  | .pclkMeasure dt port edges => Sys2Proof.Machine.execPclkMeasure dt port edges s
  | .cameraWriteSlot dt port => Sys2Proof.Machine.execCameraWriteSlot dt port s
  | .linkTransactionEnd dt port result => Sys2Proof.Machine.execLinkTransactionEnd dt port result s
  | .fusionRoundInstant dt round => Sys2Proof.Machine.execFusionRoundInstant dt round s
  | .pointCloudDatagram dt source datagram => Sys2Proof.Machine.execPointCloudDatagram dt source datagram s
  | .fusionSampleArrival dt source => Sys2Proof.Machine.execFusionSampleArrival dt source s
  | .roundWaitExpiry dt round => Sys2Proof.Machine.execRoundWaitExpiry dt round s
  | .roundNetworkComplete dt => Sys2Proof.Machine.execRoundNetworkComplete dt s
  | .roundOutputWritten dt => Sys2Proof.Machine.execRoundOutputWritten dt s
  | .roundRelease dt round => Sys2Proof.Machine.execRoundRelease dt round s
  | .netSlotCopyComplete dt slot => Sys2Proof.Machine.execNetSlotCopyComplete dt slot s
  | .gnssEpoch dt epoch => Sys2Proof.Machine.execGnssEpoch dt epoch s
  | .gnssDelivery dt => Sys2Proof.Machine.execGnssDelivery dt s
  | .exclusionExpiry dt key => Sys2Proof.Machine.execExclusionExpiry dt key s
  | .antennaOpen dt antenna open_ current => Sys2Proof.Machine.execAntennaOpen dt antenna open_ current s
  | .antennaSupplyFault dt antenna current => Sys2Proof.Machine.execAntennaSupplyFault dt antenna current s
  | .antennaSupplyRetry dt antenna exceeds => Sys2Proof.Machine.execAntennaSupplyRetry dt antenna exceeds s
  | .timeStepApplied dt => Sys2Proof.Machine.execTimeStepApplied dt s
  | .slewComplete dt => Sys2Proof.Machine.execSlewComplete dt s
  | .leapSecondEffective dt => Sys2Proof.Machine.execLeapSecondEffective dt s
  | .timePulseStart dt tp => Sys2Proof.Machine.execTimePulseStart dt tp s
  | .timePulseEnd dt tp => Sys2Proof.Machine.execTimePulseEnd dt tp s
  | .watchBurst dt epoch => Sys2Proof.Machine.execWatchBurst dt epoch s
  | .gnssDataSave dt => Sys2Proof.Machine.execGnssDataSave dt s
  | .canTxComplete dt port => Sys2Proof.Machine.execCanTxComplete dt port s
  | .canBusError dt port error => Sys2Proof.Machine.execCanBusError dt port error s
  | .canFrameReceived dt port frame => Sys2Proof.Machine.execCanFrameReceived dt port frame s
  | .busRecovered dt port => Sys2Proof.Machine.execBusRecovered dt port s
  | .detectDwellExpiry dt port => Sys2Proof.Machine.execDetectDwellExpiry dt port s
  | .canStatusProduce dt => Sys2Proof.Machine.execCanStatusProduce dt s
  | .stayFrameReceived dt port frame => Sys2Proof.Machine.execStayFrameReceived dt port frame s
  | .timeFrameSend dt => Sys2Proof.Machine.execTimeFrameSend dt s
  | .timeFrameReceived dt port frame => Sys2Proof.Machine.execTimeFrameReceived dt port frame s
  | .listenerTimeStep dt => Sys2Proof.Machine.execListenerTimeStep dt s
  | .gridShiftAdopt dt => Sys2Proof.Machine.execGridShiftAdopt dt s
  | .peerDelayRequest dt port => Sys2Proof.Machine.execPeerDelayRequest dt port s
  | .masterElectionTimeout dt => Sys2Proof.Machine.execMasterElectionTimeout dt s
  | .masterLost dt => Sys2Proof.Machine.execMasterLost dt s
  | .beaconSend dt => Sys2Proof.Machine.execBeaconSend dt s
  | .controlFrameReceived dt frame => Sys2Proof.Machine.execControlFrameReceived dt frame s
  | .stayLinkChange dt port up => Sys2Proof.Machine.execStayLinkChange dt port up s
  | .ethFrameReceived dt port frame => Sys2Proof.Machine.execEthFrameReceived dt port frame s
  | .gptpSyncSend dt port => Sys2Proof.Machine.execGptpSyncSend dt port s
  | .sramPatrol dt reads => Sys2Proof.Machine.execSramPatrol dt reads s
  | .memFillDone dt ctrl => Sys2Proof.Machine.execMemFillDone dt ctrl s
  | .eventRecordArrival dt => Sys2Proof.Machine.execEventRecordArrival dt s
  | .recordCommit dt => Sys2Proof.Machine.execRecordCommit dt s
  | .tokenRefill dt code => Sys2Proof.Machine.execTokenRefill dt code s
  | .freezeExpired dt => Sys2Proof.Machine.execFreezeExpired dt s
  | .changeLogEntry dt => Sys2Proof.Machine.execChangeLogEntry dt s
  | .powerOn dt rtcHeld => Sys2Proof.Machine.execPowerOn dt rtcHeld s
  | .esupMeasure dt sample => Sys2Proof.Machine.execEsupMeasure dt sample s
  | .supplyFail dt => Sys2Proof.Machine.execSupplyFail dt s
  | .wakeChange dt asserted => Sys2Proof.Machine.execWakeChange dt asserted s
  | .canWakePattern dt port => Sys2Proof.Machine.execCanWakePattern dt port s
  | .rtcAlarm dt => Sys2Proof.Machine.execRtcAlarm dt s
  | .moduleStart dt => Sys2Proof.Machine.execModuleStart dt s
  | .startPhaseComplete dt => Sys2Proof.Machine.execStartPhaseComplete dt s
  | .startupWaitExpiry dt => Sys2Proof.Machine.execStartupWaitExpiry dt s
  | .startupBoundary dt => Sys2Proof.Machine.execStartupBoundary dt s
  | .runOnExpiry dt => Sys2Proof.Machine.execRunOnExpiry dt s
  | .moduleResetBegin dt => Sys2Proof.Machine.execModuleResetBegin dt s
  | .connectorMated dt connector => Sys2Proof.Machine.execConnectorMated dt connector s
  | .connectorUnmated dt connector => Sys2Proof.Machine.execConnectorUnmated dt connector s
  | .thermalWarning dt sensor temp => Sys2Proof.Machine.execThermalWarning dt sensor temp s
  | .thermalLimit dt temp => Sys2Proof.Machine.execThermalLimit dt temp s
  | .laneStopped dt lane => Sys2Proof.Machine.execLaneStopped dt lane s
  | .crosstreeStopped dt => Sys2Proof.Machine.execCrosstreeStopped dt s
  | .crosstreeResumed dt => Sys2Proof.Machine.execCrosstreeResumed dt s
  | .canIntegrationComplete dt port => Sys2Proof.Machine.execCanIntegrationComplete dt port s
  | .ethLinkChange dt port up => Sys2Proof.Machine.execEthLinkChange dt port up s

end Sys2Proof.Machine
end

