-- ==== Sys2Proof/Machine/Step.lean ====
section
/-!
DEFINITION. One step of the block: the command at the front of its queue, or one tick with nothing to do.
-/
namespace Sys2Proof.Machine
open Sys2Proof

/-- One step: the front command runs with the rest of the queue. On an empty queue one tick of 1 ns passes.
Log 1: DESIGN CHOICE, unsafe. -/
def step (s : State) : Host.Outcome State Fault Refusal :=
  match s.pending with
  | [] => runCmd 1 s id
  | c :: rest => exec c { s with pending := rest }

/-- The table gives its rows no bits, so no word spells a command.
Log 1: DESIGN CHOICE, unsafe. -/
def State.withFetchWord (s : State) (_nbits _w : Nat) : State := s

end Sys2Proof.Machine
end

