-- ==== Sys2Proof/Laws/State.lean ====
section
/-!
SUPPORT. Every field of the state after every update of the state: one lemma each.
-/
namespace Sys2Proof.Machine
open Sys2Proof

variable (s : State)


/-! ### `elapse` -/

@[simp] theorem State.elapse_pending (dt : Nat) : (s.elapse dt).pending = s.pending := rfl
@[simp] theorem State.elapse_staged (dt : Nat) : (s.elapse dt).staged = s.staged := rfl
@[simp] theorem State.elapse_sys (dt : Nat) : (s.elapse dt).sys = s.sys := rfl
@[simp] theorem State.elapse_sched (dt : Nat) : (s.elapse dt).sched = s.sched := rfl
@[simp] theorem State.elapse_main (dt : Nat) : (s.elapse dt).main = s.main := rfl
@[simp] theorem State.elapse_mizzen (dt : Nat) : (s.elapse dt).mizzen = s.mizzen := rfl
@[simp] theorem State.elapse_recvs (dt : Nat) : (s.elapse dt).recvs = s.recvs := rfl
@[simp] theorem State.elapse_xt (dt : Nat) : (s.elapse dt).xt = s.xt := rfl
@[simp] theorem State.elapse_ctrl (dt : Nat) : (s.elapse dt).ctrl = s.ctrl := rfl
@[simp] theorem State.elapse_power (dt : Nat) : (s.elapse dt).power = s.power := rfl
@[simp] theorem State.elapse_sense (dt : Nat) : (s.elapse dt).sense = s.sense := rfl
@[simp] theorem State.elapse_gnss (dt : Nat) : (s.elapse dt).gnss = s.gnss := rfl
@[simp] theorem State.elapse_cams (dt : Nat) : (s.elapse dt).cams = s.cams := rfl
@[simp] theorem State.elapse_fus (dt : Nat) : (s.elapse dt).fus = s.fus := rfl
@[simp] theorem State.elapse_cans (dt : Nat) : (s.elapse dt).cans = s.cans := rfl
@[simp] theorem State.elapse_stay (dt : Nat) : (s.elapse dt).stay = s.stay := rfl
@[simp] theorem State.elapse_eths (dt : Nat) : (s.elapse dt).eths = s.eths := rfl
@[simp] theorem State.elapse_mem (dt : Nat) : (s.elapse dt).mem = s.mem := rfl
@[simp] theorem State.elapse_rec (dt : Nat) : (s.elapse dt).rec_ = s.rec_ := rfl
@[simp] theorem State.elapse_pwr (dt : Nat) : (s.elapse dt).pwr = s.pwr := rfl
@[simp] theorem State.elapse_taken (dt : Nat) : (s.elapse dt).taken = s.taken := rfl
@[simp] theorem State.elapse_free (dt : Nat) : (s.elapse dt).free = s.free := rfl
@[simp] theorem State.elapse_out (dt : Nat) : (s.elapse dt).out = s.out := rfl
@[simp] theorem State.elapse_time_gridShift (dt : Nat) : (s.elapse dt).time.gridShift = s.time.gridShift := rfl
@[simp] theorem State.elapse_time_lastStep (dt : Nat) : (s.elapse dt).time.lastStep = s.time.lastStep := rfl
@[simp] theorem State.elapse_time_uncertainty (dt : Nat) : (s.elapse dt).time.uncertainty = s.time.uncertainty := rfl
@[simp] theorem State.elapse_time_stepCount (dt : Nat) : (s.elapse dt).time.stepCount = s.time.stepCount := rfl
@[simp] theorem State.elapse_time_leapSeconds (dt : Nat) : (s.elapse dt).time.leapSeconds = s.time.leapSeconds := rfl
@[simp] theorem State.elapse_time_holdover (dt : Nat) : (s.elapse dt).time.holdover = s.time.holdover := rfl
@[simp] theorem State.elapse_time_timeStep (dt : Nat) : (s.elapse dt).time.timeStep = s.time.timeStep := rfl
@[simp] theorem State.elapse_time_slewing (dt : Nat) : (s.elapse dt).time.slewing = s.time.slewing := rfl
@[simp] theorem State.elapse_time_leapValid (dt : Nat) : (s.elapse dt).time.leapValid = s.time.leapValid := rfl
@[simp] theorem State.elapse_time_leapDecoded (dt : Nat) : (s.elapse dt).time.leapDecoded = s.time.leapDecoded := rfl
@[simp] theorem State.elapse_time_leapPending (dt : Nat) : (s.elapse dt).time.leapPending = s.time.leapPending := rfl
@[simp] theorem State.elapse_time_leapDirection (dt : Nat) : (s.elapse dt).time.leapDirection = s.time.leapDirection := rfl
@[simp] theorem State.elapse_time_timeFromMaster (dt : Nat) : (s.elapse dt).time.timeFromMaster = s.time.timeFromMaster := rfl
@[simp] theorem State.elapse_time_noTime (dt : Nat) : (s.elapse dt).time.noTime = s.time.noTime := rfl
@[simp] theorem State.elapse_time_leapEffective (dt : Nat) : (s.elapse dt).time.leapEffective = s.time.leapEffective := rfl
@[simp] theorem State.elapse_time_prevEffective (dt : Nat) : (s.elapse dt).time.prevEffective = s.time.prevEffective := rfl
@[simp] theorem State.elapse_time_prevLeap (dt : Nat) : (s.elapse dt).time.prevLeap = s.time.prevLeap := rfl
@[simp] theorem State.elapse_time_anchored (dt : Nat) : (s.elapse dt).time.anchored = s.time.anchored := rfl
@[simp] theorem State.elapse_time_pendingStep (dt : Nat) : (s.elapse dt).time.pendingStep = s.time.pendingStep := rfl
@[simp] theorem State.elapse_time_status (dt : Nat) : (s.elapse dt).time.status = s.time.status := rfl
@[simp] theorem State.elapse_time_lastMajor (dt : Nat) : (s.elapse dt).time.lastMajor = s.time.lastMajor := rfl
@[simp] theorem State.elapse_time_lastSlot (dt : Nat) : (s.elapse dt).time.lastSlot = s.time.lastSlot := rfl
@[simp] theorem State.elapse_mast (dt : Nat) : (s.elapse dt).time.mast = s.time.mast + dt := rfl
@[simp] theorem State.elapse_ticks (dt : Nat) : (s.elapse dt).time.ticks = s.time.ticks + dt := rfl

/-! ### `updLane` -/

@[simp] theorem State.updLane_pending (l : Lane) (f : LaneSt → LaneSt) : (s.updLane l f).pending = s.pending := by cases l <;> rfl
@[simp] theorem State.updLane_time (l : Lane) (f : LaneSt → LaneSt) : (s.updLane l f).time = s.time := by cases l <;> rfl
@[simp] theorem State.updLane_staged (l : Lane) (f : LaneSt → LaneSt) : (s.updLane l f).staged = s.staged := by cases l <;> rfl
@[simp] theorem State.updLane_sys (l : Lane) (f : LaneSt → LaneSt) : (s.updLane l f).sys = s.sys := by cases l <;> rfl
@[simp] theorem State.updLane_sched (l : Lane) (f : LaneSt → LaneSt) : (s.updLane l f).sched = s.sched := by cases l <;> rfl
@[simp] theorem State.updLane_recvs (l : Lane) (f : LaneSt → LaneSt) : (s.updLane l f).recvs = s.recvs := by cases l <;> rfl
@[simp] theorem State.updLane_xt (l : Lane) (f : LaneSt → LaneSt) : (s.updLane l f).xt = s.xt := by cases l <;> rfl
@[simp] theorem State.updLane_ctrl (l : Lane) (f : LaneSt → LaneSt) : (s.updLane l f).ctrl = s.ctrl := by cases l <;> rfl
@[simp] theorem State.updLane_power (l : Lane) (f : LaneSt → LaneSt) : (s.updLane l f).power = s.power := by cases l <;> rfl
@[simp] theorem State.updLane_sense (l : Lane) (f : LaneSt → LaneSt) : (s.updLane l f).sense = s.sense := by cases l <;> rfl
@[simp] theorem State.updLane_gnss (l : Lane) (f : LaneSt → LaneSt) : (s.updLane l f).gnss = s.gnss := by cases l <;> rfl
@[simp] theorem State.updLane_cams (l : Lane) (f : LaneSt → LaneSt) : (s.updLane l f).cams = s.cams := by cases l <;> rfl
@[simp] theorem State.updLane_fus (l : Lane) (f : LaneSt → LaneSt) : (s.updLane l f).fus = s.fus := by cases l <;> rfl
@[simp] theorem State.updLane_cans (l : Lane) (f : LaneSt → LaneSt) : (s.updLane l f).cans = s.cans := by cases l <;> rfl
@[simp] theorem State.updLane_stay (l : Lane) (f : LaneSt → LaneSt) : (s.updLane l f).stay = s.stay := by cases l <;> rfl
@[simp] theorem State.updLane_eths (l : Lane) (f : LaneSt → LaneSt) : (s.updLane l f).eths = s.eths := by cases l <;> rfl
@[simp] theorem State.updLane_mem (l : Lane) (f : LaneSt → LaneSt) : (s.updLane l f).mem = s.mem := by cases l <;> rfl
@[simp] theorem State.updLane_rec (l : Lane) (f : LaneSt → LaneSt) : (s.updLane l f).rec_ = s.rec_ := by cases l <;> rfl
@[simp] theorem State.updLane_pwr (l : Lane) (f : LaneSt → LaneSt) : (s.updLane l f).pwr = s.pwr := by cases l <;> rfl
@[simp] theorem State.updLane_taken (l : Lane) (f : LaneSt → LaneSt) : (s.updLane l f).taken = s.taken := by cases l <;> rfl
@[simp] theorem State.updLane_free (l : Lane) (f : LaneSt → LaneSt) : (s.updLane l f).free = s.free := by cases l <;> rfl
@[simp] theorem State.updLane_out (l : Lane) (f : LaneSt → LaneSt) : (s.updLane l f).out = s.out := by cases l <;> rfl

/-! ### `updLanes` -/

@[simp] theorem State.updLanes_pending (f : LaneSt → LaneSt) : (s.updLanes f).pending = s.pending := rfl
@[simp] theorem State.updLanes_time (f : LaneSt → LaneSt) : (s.updLanes f).time = s.time := rfl
@[simp] theorem State.updLanes_staged (f : LaneSt → LaneSt) : (s.updLanes f).staged = s.staged := rfl
@[simp] theorem State.updLanes_sys (f : LaneSt → LaneSt) : (s.updLanes f).sys = s.sys := rfl
@[simp] theorem State.updLanes_sched (f : LaneSt → LaneSt) : (s.updLanes f).sched = s.sched := rfl
@[simp] theorem State.updLanes_recvs (f : LaneSt → LaneSt) : (s.updLanes f).recvs = s.recvs := rfl
@[simp] theorem State.updLanes_xt (f : LaneSt → LaneSt) : (s.updLanes f).xt = s.xt := rfl
@[simp] theorem State.updLanes_ctrl (f : LaneSt → LaneSt) : (s.updLanes f).ctrl = s.ctrl := rfl
@[simp] theorem State.updLanes_power (f : LaneSt → LaneSt) : (s.updLanes f).power = s.power := rfl
@[simp] theorem State.updLanes_sense (f : LaneSt → LaneSt) : (s.updLanes f).sense = s.sense := rfl
@[simp] theorem State.updLanes_gnss (f : LaneSt → LaneSt) : (s.updLanes f).gnss = s.gnss := rfl
@[simp] theorem State.updLanes_cams (f : LaneSt → LaneSt) : (s.updLanes f).cams = s.cams := rfl
@[simp] theorem State.updLanes_fus (f : LaneSt → LaneSt) : (s.updLanes f).fus = s.fus := rfl
@[simp] theorem State.updLanes_cans (f : LaneSt → LaneSt) : (s.updLanes f).cans = s.cans := rfl
@[simp] theorem State.updLanes_stay (f : LaneSt → LaneSt) : (s.updLanes f).stay = s.stay := rfl
@[simp] theorem State.updLanes_eths (f : LaneSt → LaneSt) : (s.updLanes f).eths = s.eths := rfl
@[simp] theorem State.updLanes_mem (f : LaneSt → LaneSt) : (s.updLanes f).mem = s.mem := rfl
@[simp] theorem State.updLanes_rec (f : LaneSt → LaneSt) : (s.updLanes f).rec_ = s.rec_ := rfl
@[simp] theorem State.updLanes_pwr (f : LaneSt → LaneSt) : (s.updLanes f).pwr = s.pwr := rfl
@[simp] theorem State.updLanes_taken (f : LaneSt → LaneSt) : (s.updLanes f).taken = s.taken := rfl
@[simp] theorem State.updLanes_free (f : LaneSt → LaneSt) : (s.updLanes f).free = s.free := rfl
@[simp] theorem State.updLanes_out (f : LaneSt → LaneSt) : (s.updLanes f).out = s.out := rfl
@[simp] theorem State.updLanes_main (f : LaneSt → LaneSt) : (s.updLanes f).main = f s.main := rfl
@[simp] theorem State.updLanes_mizzen (f : LaneSt → LaneSt) : (s.updLanes f).mizzen = f s.mizzen := rfl

/-! ### `updXt` -/

@[simp] theorem State.updXt_pending (l : Lane) (f : XtLane → XtLane) : (s.updXt l f).pending = s.pending := by cases l <;> rfl
@[simp] theorem State.updXt_time (l : Lane) (f : XtLane → XtLane) : (s.updXt l f).time = s.time := by cases l <;> rfl
@[simp] theorem State.updXt_staged (l : Lane) (f : XtLane → XtLane) : (s.updXt l f).staged = s.staged := by cases l <;> rfl
@[simp] theorem State.updXt_sys (l : Lane) (f : XtLane → XtLane) : (s.updXt l f).sys = s.sys := by cases l <;> rfl
@[simp] theorem State.updXt_sched (l : Lane) (f : XtLane → XtLane) : (s.updXt l f).sched = s.sched := by cases l <;> rfl
@[simp] theorem State.updXt_main (l : Lane) (f : XtLane → XtLane) : (s.updXt l f).main = s.main := by cases l <;> rfl
@[simp] theorem State.updXt_mizzen (l : Lane) (f : XtLane → XtLane) : (s.updXt l f).mizzen = s.mizzen := by cases l <;> rfl
@[simp] theorem State.updXt_recvs (l : Lane) (f : XtLane → XtLane) : (s.updXt l f).recvs = s.recvs := by cases l <;> rfl
@[simp] theorem State.updXt_ctrl (l : Lane) (f : XtLane → XtLane) : (s.updXt l f).ctrl = s.ctrl := by cases l <;> rfl
@[simp] theorem State.updXt_power (l : Lane) (f : XtLane → XtLane) : (s.updXt l f).power = s.power := by cases l <;> rfl
@[simp] theorem State.updXt_sense (l : Lane) (f : XtLane → XtLane) : (s.updXt l f).sense = s.sense := by cases l <;> rfl
@[simp] theorem State.updXt_gnss (l : Lane) (f : XtLane → XtLane) : (s.updXt l f).gnss = s.gnss := by cases l <;> rfl
@[simp] theorem State.updXt_cams (l : Lane) (f : XtLane → XtLane) : (s.updXt l f).cams = s.cams := by cases l <;> rfl
@[simp] theorem State.updXt_fus (l : Lane) (f : XtLane → XtLane) : (s.updXt l f).fus = s.fus := by cases l <;> rfl
@[simp] theorem State.updXt_cans (l : Lane) (f : XtLane → XtLane) : (s.updXt l f).cans = s.cans := by cases l <;> rfl
@[simp] theorem State.updXt_stay (l : Lane) (f : XtLane → XtLane) : (s.updXt l f).stay = s.stay := by cases l <;> rfl
@[simp] theorem State.updXt_eths (l : Lane) (f : XtLane → XtLane) : (s.updXt l f).eths = s.eths := by cases l <;> rfl
@[simp] theorem State.updXt_mem (l : Lane) (f : XtLane → XtLane) : (s.updXt l f).mem = s.mem := by cases l <;> rfl
@[simp] theorem State.updXt_rec (l : Lane) (f : XtLane → XtLane) : (s.updXt l f).rec_ = s.rec_ := by cases l <;> rfl
@[simp] theorem State.updXt_pwr (l : Lane) (f : XtLane → XtLane) : (s.updXt l f).pwr = s.pwr := by cases l <;> rfl
@[simp] theorem State.updXt_taken (l : Lane) (f : XtLane → XtLane) : (s.updXt l f).taken = s.taken := by cases l <;> rfl
@[simp] theorem State.updXt_free (l : Lane) (f : XtLane → XtLane) : (s.updXt l f).free = s.free := by cases l <;> rfl
@[simp] theorem State.updXt_out (l : Lane) (f : XtLane → XtLane) : (s.updXt l f).out = s.out := by cases l <;> rfl

/-! ### `useFree` -/

@[simp] theorem State.useFree_pending : (s.useFree).pending = s.pending := rfl
@[simp] theorem State.useFree_time : (s.useFree).time = s.time := rfl
@[simp] theorem State.useFree_staged : (s.useFree).staged = s.staged := rfl
@[simp] theorem State.useFree_sys : (s.useFree).sys = s.sys := rfl
@[simp] theorem State.useFree_sched : (s.useFree).sched = s.sched := rfl
@[simp] theorem State.useFree_main : (s.useFree).main = s.main := rfl
@[simp] theorem State.useFree_mizzen : (s.useFree).mizzen = s.mizzen := rfl
@[simp] theorem State.useFree_recvs : (s.useFree).recvs = s.recvs := rfl
@[simp] theorem State.useFree_xt : (s.useFree).xt = s.xt := rfl
@[simp] theorem State.useFree_ctrl : (s.useFree).ctrl = s.ctrl := rfl
@[simp] theorem State.useFree_power : (s.useFree).power = s.power := rfl
@[simp] theorem State.useFree_sense : (s.useFree).sense = s.sense := rfl
@[simp] theorem State.useFree_gnss : (s.useFree).gnss = s.gnss := rfl
@[simp] theorem State.useFree_cams : (s.useFree).cams = s.cams := rfl
@[simp] theorem State.useFree_fus : (s.useFree).fus = s.fus := rfl
@[simp] theorem State.useFree_cans : (s.useFree).cans = s.cans := rfl
@[simp] theorem State.useFree_stay : (s.useFree).stay = s.stay := rfl
@[simp] theorem State.useFree_eths : (s.useFree).eths = s.eths := rfl
@[simp] theorem State.useFree_mem : (s.useFree).mem = s.mem := rfl
@[simp] theorem State.useFree_rec : (s.useFree).rec_ = s.rec_ := rfl
@[simp] theorem State.useFree_pwr : (s.useFree).pwr = s.pwr := rfl
@[simp] theorem State.useFree_taken : (s.useFree).taken = s.taken := rfl
@[simp] theorem State.useFree_out : (s.useFree).out = s.out := rfl
@[simp] theorem State.useFree_free : (s.useFree).free = s.free + 1 := rfl

/-! ### `emit` -/

@[simp] theorem State.emit_pending (o : Out) : (s.emit o).pending = s.pending := rfl
@[simp] theorem State.emit_time (o : Out) : (s.emit o).time = s.time := rfl
@[simp] theorem State.emit_staged (o : Out) : (s.emit o).staged = s.staged := rfl
@[simp] theorem State.emit_sys (o : Out) : (s.emit o).sys = s.sys := rfl
@[simp] theorem State.emit_sched (o : Out) : (s.emit o).sched = s.sched := rfl
@[simp] theorem State.emit_main (o : Out) : (s.emit o).main = s.main := rfl
@[simp] theorem State.emit_mizzen (o : Out) : (s.emit o).mizzen = s.mizzen := rfl
@[simp] theorem State.emit_recvs (o : Out) : (s.emit o).recvs = s.recvs := rfl
@[simp] theorem State.emit_xt (o : Out) : (s.emit o).xt = s.xt := rfl
@[simp] theorem State.emit_ctrl (o : Out) : (s.emit o).ctrl = s.ctrl := rfl
@[simp] theorem State.emit_power (o : Out) : (s.emit o).power = s.power := rfl
@[simp] theorem State.emit_sense (o : Out) : (s.emit o).sense = s.sense := rfl
@[simp] theorem State.emit_gnss (o : Out) : (s.emit o).gnss = s.gnss := rfl
@[simp] theorem State.emit_cams (o : Out) : (s.emit o).cams = s.cams := rfl
@[simp] theorem State.emit_fus (o : Out) : (s.emit o).fus = s.fus := rfl
@[simp] theorem State.emit_cans (o : Out) : (s.emit o).cans = s.cans := rfl
@[simp] theorem State.emit_stay (o : Out) : (s.emit o).stay = s.stay := rfl
@[simp] theorem State.emit_eths (o : Out) : (s.emit o).eths = s.eths := rfl
@[simp] theorem State.emit_mem (o : Out) : (s.emit o).mem = s.mem := rfl
@[simp] theorem State.emit_rec (o : Out) : (s.emit o).rec_ = s.rec_ := rfl
@[simp] theorem State.emit_pwr (o : Out) : (s.emit o).pwr = s.pwr := rfl
@[simp] theorem State.emit_taken (o : Out) : (s.emit o).taken = s.taken := rfl
@[simp] theorem State.emit_free (o : Out) : (s.emit o).free = s.free := rfl
@[simp] theorem State.emit_out (o : Out) : (s.emit o).out = s.out ++ [o] := rfl

/-! ### `updRecv` -/

@[simp] theorem State.updRecv_pending (k : Nat) (f : Receiver → Receiver) : (s.updRecv k f).pending = s.pending := rfl
@[simp] theorem State.updRecv_time (k : Nat) (f : Receiver → Receiver) : (s.updRecv k f).time = s.time := rfl
@[simp] theorem State.updRecv_staged (k : Nat) (f : Receiver → Receiver) : (s.updRecv k f).staged = s.staged := rfl
@[simp] theorem State.updRecv_sys (k : Nat) (f : Receiver → Receiver) : (s.updRecv k f).sys = s.sys := rfl
@[simp] theorem State.updRecv_sched (k : Nat) (f : Receiver → Receiver) : (s.updRecv k f).sched = s.sched := rfl
@[simp] theorem State.updRecv_main (k : Nat) (f : Receiver → Receiver) : (s.updRecv k f).main = s.main := rfl
@[simp] theorem State.updRecv_mizzen (k : Nat) (f : Receiver → Receiver) : (s.updRecv k f).mizzen = s.mizzen := rfl
@[simp] theorem State.updRecv_xt (k : Nat) (f : Receiver → Receiver) : (s.updRecv k f).xt = s.xt := rfl
@[simp] theorem State.updRecv_ctrl (k : Nat) (f : Receiver → Receiver) : (s.updRecv k f).ctrl = s.ctrl := rfl
@[simp] theorem State.updRecv_power (k : Nat) (f : Receiver → Receiver) : (s.updRecv k f).power = s.power := rfl
@[simp] theorem State.updRecv_sense (k : Nat) (f : Receiver → Receiver) : (s.updRecv k f).sense = s.sense := rfl
@[simp] theorem State.updRecv_gnss (k : Nat) (f : Receiver → Receiver) : (s.updRecv k f).gnss = s.gnss := rfl
@[simp] theorem State.updRecv_cams (k : Nat) (f : Receiver → Receiver) : (s.updRecv k f).cams = s.cams := rfl
@[simp] theorem State.updRecv_fus (k : Nat) (f : Receiver → Receiver) : (s.updRecv k f).fus = s.fus := rfl
@[simp] theorem State.updRecv_cans (k : Nat) (f : Receiver → Receiver) : (s.updRecv k f).cans = s.cans := rfl
@[simp] theorem State.updRecv_stay (k : Nat) (f : Receiver → Receiver) : (s.updRecv k f).stay = s.stay := rfl
@[simp] theorem State.updRecv_eths (k : Nat) (f : Receiver → Receiver) : (s.updRecv k f).eths = s.eths := rfl
@[simp] theorem State.updRecv_mem (k : Nat) (f : Receiver → Receiver) : (s.updRecv k f).mem = s.mem := rfl
@[simp] theorem State.updRecv_rec (k : Nat) (f : Receiver → Receiver) : (s.updRecv k f).rec_ = s.rec_ := rfl
@[simp] theorem State.updRecv_pwr (k : Nat) (f : Receiver → Receiver) : (s.updRecv k f).pwr = s.pwr := rfl
@[simp] theorem State.updRecv_taken (k : Nat) (f : Receiver → Receiver) : (s.updRecv k f).taken = s.taken := rfl
@[simp] theorem State.updRecv_free (k : Nat) (f : Receiver → Receiver) : (s.updRecv k f).free = s.free := rfl
@[simp] theorem State.updRecv_out (k : Nat) (f : Receiver → Receiver) : (s.updRecv k f).out = s.out := rfl

/-! ### `report` -/

@[simp] theorem State.report_pending (d : Discrepancy) : (s.report d).pending = s.pending := rfl
@[simp] theorem State.report_time (d : Discrepancy) : (s.report d).time = s.time := rfl
@[simp] theorem State.report_staged (d : Discrepancy) : (s.report d).staged = s.staged := rfl
@[simp] theorem State.report_sys (d : Discrepancy) : (s.report d).sys = s.sys := rfl
@[simp] theorem State.report_sched (d : Discrepancy) : (s.report d).sched = s.sched := rfl
@[simp] theorem State.report_main (d : Discrepancy) : (s.report d).main = s.main := rfl
@[simp] theorem State.report_mizzen (d : Discrepancy) : (s.report d).mizzen = s.mizzen := rfl
@[simp] theorem State.report_recvs (d : Discrepancy) : (s.report d).recvs = s.recvs := rfl
@[simp] theorem State.report_ctrl (d : Discrepancy) : (s.report d).ctrl = s.ctrl := rfl
@[simp] theorem State.report_power (d : Discrepancy) : (s.report d).power = s.power := rfl
@[simp] theorem State.report_sense (d : Discrepancy) : (s.report d).sense = s.sense := rfl
@[simp] theorem State.report_gnss (d : Discrepancy) : (s.report d).gnss = s.gnss := rfl
@[simp] theorem State.report_cams (d : Discrepancy) : (s.report d).cams = s.cams := rfl
@[simp] theorem State.report_fus (d : Discrepancy) : (s.report d).fus = s.fus := rfl
@[simp] theorem State.report_cans (d : Discrepancy) : (s.report d).cans = s.cans := rfl
@[simp] theorem State.report_stay (d : Discrepancy) : (s.report d).stay = s.stay := rfl
@[simp] theorem State.report_eths (d : Discrepancy) : (s.report d).eths = s.eths := rfl
@[simp] theorem State.report_mem (d : Discrepancy) : (s.report d).mem = s.mem := rfl
@[simp] theorem State.report_rec (d : Discrepancy) : (s.report d).rec_ = s.rec_ := rfl
@[simp] theorem State.report_pwr (d : Discrepancy) : (s.report d).pwr = s.pwr := rfl
@[simp] theorem State.report_taken (d : Discrepancy) : (s.report d).taken = s.taken := rfl
@[simp] theorem State.report_free (d : Discrepancy) : (s.report d).free = s.free := rfl
@[simp] theorem State.report_out (d : Discrepancy) : (s.report d).out = s.out := rfl

/-! ### `blockLate` -/

@[simp] theorem State.blockLate_pending (b o : Nat) : (s.blockLate b o).pending = s.pending := rfl
@[simp] theorem State.blockLate_time (b o : Nat) : (s.blockLate b o).time = s.time := rfl
@[simp] theorem State.blockLate_staged (b o : Nat) : (s.blockLate b o).staged = s.staged := rfl
@[simp] theorem State.blockLate_sys (b o : Nat) : (s.blockLate b o).sys = s.sys := rfl
@[simp] theorem State.blockLate_sched (b o : Nat) : (s.blockLate b o).sched = s.sched := rfl
@[simp] theorem State.blockLate_main (b o : Nat) : (s.blockLate b o).main = s.main := rfl
@[simp] theorem State.blockLate_mizzen (b o : Nat) : (s.blockLate b o).mizzen = s.mizzen := rfl
@[simp] theorem State.blockLate_recvs (b o : Nat) : (s.blockLate b o).recvs = s.recvs := rfl
@[simp] theorem State.blockLate_ctrl (b o : Nat) : (s.blockLate b o).ctrl = s.ctrl := rfl
@[simp] theorem State.blockLate_power (b o : Nat) : (s.blockLate b o).power = s.power := rfl
@[simp] theorem State.blockLate_sense (b o : Nat) : (s.blockLate b o).sense = s.sense := rfl
@[simp] theorem State.blockLate_gnss (b o : Nat) : (s.blockLate b o).gnss = s.gnss := rfl
@[simp] theorem State.blockLate_cams (b o : Nat) : (s.blockLate b o).cams = s.cams := rfl
@[simp] theorem State.blockLate_fus (b o : Nat) : (s.blockLate b o).fus = s.fus := rfl
@[simp] theorem State.blockLate_cans (b o : Nat) : (s.blockLate b o).cans = s.cans := rfl
@[simp] theorem State.blockLate_stay (b o : Nat) : (s.blockLate b o).stay = s.stay := rfl
@[simp] theorem State.blockLate_eths (b o : Nat) : (s.blockLate b o).eths = s.eths := rfl
@[simp] theorem State.blockLate_mem (b o : Nat) : (s.blockLate b o).mem = s.mem := rfl
@[simp] theorem State.blockLate_rec (b o : Nat) : (s.blockLate b o).rec_ = s.rec_ := rfl
@[simp] theorem State.blockLate_pwr (b o : Nat) : (s.blockLate b o).pwr = s.pwr := rfl
@[simp] theorem State.blockLate_taken (b o : Nat) : (s.blockLate b o).taken = s.taken := rfl
@[simp] theorem State.blockLate_free (b o : Nat) : (s.blockLate b o).free = s.free := rfl
@[simp] theorem State.blockLate_out (b o : Nat) : (s.blockLate b o).out = s.out := rfl

/-! ### `updBank` -/

@[simp] theorem State.updBank_pending (b : Nat) (f : Bank → Bank) : (s.updBank b f).pending = s.pending := by unfold State.updBank; split <;> rfl
@[simp] theorem State.updBank_time (b : Nat) (f : Bank → Bank) : (s.updBank b f).time = s.time := by unfold State.updBank; split <;> rfl
@[simp] theorem State.updBank_staged (b : Nat) (f : Bank → Bank) : (s.updBank b f).staged = s.staged := by unfold State.updBank; split <;> rfl
@[simp] theorem State.updBank_sys (b : Nat) (f : Bank → Bank) : (s.updBank b f).sys = s.sys := by unfold State.updBank; split <;> rfl
@[simp] theorem State.updBank_main (b : Nat) (f : Bank → Bank) : (s.updBank b f).main = s.main := by unfold State.updBank; split <;> rfl
@[simp] theorem State.updBank_mizzen (b : Nat) (f : Bank → Bank) : (s.updBank b f).mizzen = s.mizzen := by unfold State.updBank; split <;> rfl
@[simp] theorem State.updBank_recvs (b : Nat) (f : Bank → Bank) : (s.updBank b f).recvs = s.recvs := by unfold State.updBank; split <;> rfl
@[simp] theorem State.updBank_xt (b : Nat) (f : Bank → Bank) : (s.updBank b f).xt = s.xt := by unfold State.updBank; split <;> rfl
@[simp] theorem State.updBank_ctrl (b : Nat) (f : Bank → Bank) : (s.updBank b f).ctrl = s.ctrl := by unfold State.updBank; split <;> rfl
@[simp] theorem State.updBank_power (b : Nat) (f : Bank → Bank) : (s.updBank b f).power = s.power := by unfold State.updBank; split <;> rfl
@[simp] theorem State.updBank_sense (b : Nat) (f : Bank → Bank) : (s.updBank b f).sense = s.sense := by unfold State.updBank; split <;> rfl
@[simp] theorem State.updBank_gnss (b : Nat) (f : Bank → Bank) : (s.updBank b f).gnss = s.gnss := by unfold State.updBank; split <;> rfl
@[simp] theorem State.updBank_cams (b : Nat) (f : Bank → Bank) : (s.updBank b f).cams = s.cams := by unfold State.updBank; split <;> rfl
@[simp] theorem State.updBank_fus (b : Nat) (f : Bank → Bank) : (s.updBank b f).fus = s.fus := by unfold State.updBank; split <;> rfl
@[simp] theorem State.updBank_cans (b : Nat) (f : Bank → Bank) : (s.updBank b f).cans = s.cans := by unfold State.updBank; split <;> rfl
@[simp] theorem State.updBank_stay (b : Nat) (f : Bank → Bank) : (s.updBank b f).stay = s.stay := by unfold State.updBank; split <;> rfl
@[simp] theorem State.updBank_eths (b : Nat) (f : Bank → Bank) : (s.updBank b f).eths = s.eths := by unfold State.updBank; split <;> rfl
@[simp] theorem State.updBank_mem (b : Nat) (f : Bank → Bank) : (s.updBank b f).mem = s.mem := by unfold State.updBank; split <;> rfl
@[simp] theorem State.updBank_rec (b : Nat) (f : Bank → Bank) : (s.updBank b f).rec_ = s.rec_ := by unfold State.updBank; split <;> rfl
@[simp] theorem State.updBank_pwr (b : Nat) (f : Bank → Bank) : (s.updBank b f).pwr = s.pwr := by unfold State.updBank; split <;> rfl
@[simp] theorem State.updBank_taken (b : Nat) (f : Bank → Bank) : (s.updBank b f).taken = s.taken := by unfold State.updBank; split <;> rfl
@[simp] theorem State.updBank_free (b : Nat) (f : Bank → Bank) : (s.updBank b f).free = s.free := by unfold State.updBank; split <;> rfl
@[simp] theorem State.updBank_out (b : Nat) (f : Bank → Bank) : (s.updBank b f).out = s.out := by unfold State.updBank; split <;> rfl

/-! ### `updSys` -/

@[simp] theorem State.updSys_pending (f : SysSt → SysSt) : (s.updSys f).pending = s.pending := rfl
@[simp] theorem State.updSys_time (f : SysSt → SysSt) : (s.updSys f).time = s.time := rfl
@[simp] theorem State.updSys_staged (f : SysSt → SysSt) : (s.updSys f).staged = s.staged := rfl
@[simp] theorem State.updSys_sched (f : SysSt → SysSt) : (s.updSys f).sched = s.sched := rfl
@[simp] theorem State.updSys_main (f : SysSt → SysSt) : (s.updSys f).main = s.main := rfl
@[simp] theorem State.updSys_mizzen (f : SysSt → SysSt) : (s.updSys f).mizzen = s.mizzen := rfl
@[simp] theorem State.updSys_recvs (f : SysSt → SysSt) : (s.updSys f).recvs = s.recvs := rfl
@[simp] theorem State.updSys_xt (f : SysSt → SysSt) : (s.updSys f).xt = s.xt := rfl
@[simp] theorem State.updSys_ctrl (f : SysSt → SysSt) : (s.updSys f).ctrl = s.ctrl := rfl
@[simp] theorem State.updSys_power (f : SysSt → SysSt) : (s.updSys f).power = s.power := rfl
@[simp] theorem State.updSys_sense (f : SysSt → SysSt) : (s.updSys f).sense = s.sense := rfl
@[simp] theorem State.updSys_gnss (f : SysSt → SysSt) : (s.updSys f).gnss = s.gnss := rfl
@[simp] theorem State.updSys_cams (f : SysSt → SysSt) : (s.updSys f).cams = s.cams := rfl
@[simp] theorem State.updSys_fus (f : SysSt → SysSt) : (s.updSys f).fus = s.fus := rfl
@[simp] theorem State.updSys_cans (f : SysSt → SysSt) : (s.updSys f).cans = s.cans := rfl
@[simp] theorem State.updSys_stay (f : SysSt → SysSt) : (s.updSys f).stay = s.stay := rfl
@[simp] theorem State.updSys_eths (f : SysSt → SysSt) : (s.updSys f).eths = s.eths := rfl
@[simp] theorem State.updSys_mem (f : SysSt → SysSt) : (s.updSys f).mem = s.mem := rfl
@[simp] theorem State.updSys_rec (f : SysSt → SysSt) : (s.updSys f).rec_ = s.rec_ := rfl
@[simp] theorem State.updSys_pwr (f : SysSt → SysSt) : (s.updSys f).pwr = s.pwr := rfl
@[simp] theorem State.updSys_taken (f : SysSt → SysSt) : (s.updSys f).taken = s.taken := rfl
@[simp] theorem State.updSys_free (f : SysSt → SysSt) : (s.updSys f).free = s.free := rfl
@[simp] theorem State.updSys_out (f : SysSt → SysSt) : (s.updSys f).out = s.out := rfl
@[simp] theorem State.updSys_sys (f : SysSt → SysSt) : (s.updSys f).sys = f s.sys := rfl

/-! ### `updEngine` -/

@[simp] theorem State.updEngine_pending (l : Lane) (f : Engine → Engine) : (s.updEngine l f).pending = s.pending := by cases l <;> rfl
@[simp] theorem State.updEngine_time (l : Lane) (f : Engine → Engine) : (s.updEngine l f).time = s.time := by cases l <;> rfl
@[simp] theorem State.updEngine_staged (l : Lane) (f : Engine → Engine) : (s.updEngine l f).staged = s.staged := by cases l <;> rfl
@[simp] theorem State.updEngine_sys (l : Lane) (f : Engine → Engine) : (s.updEngine l f).sys = s.sys := by cases l <;> rfl
@[simp] theorem State.updEngine_sched (l : Lane) (f : Engine → Engine) : (s.updEngine l f).sched = s.sched := by cases l <;> rfl
@[simp] theorem State.updEngine_main (l : Lane) (f : Engine → Engine) : (s.updEngine l f).main = s.main := by cases l <;> rfl
@[simp] theorem State.updEngine_mizzen (l : Lane) (f : Engine → Engine) : (s.updEngine l f).mizzen = s.mizzen := by cases l <;> rfl
@[simp] theorem State.updEngine_recvs (l : Lane) (f : Engine → Engine) : (s.updEngine l f).recvs = s.recvs := by cases l <;> rfl
@[simp] theorem State.updEngine_xt (l : Lane) (f : Engine → Engine) : (s.updEngine l f).xt = s.xt := by cases l <;> rfl
@[simp] theorem State.updEngine_power (l : Lane) (f : Engine → Engine) : (s.updEngine l f).power = s.power := by cases l <;> rfl
@[simp] theorem State.updEngine_sense (l : Lane) (f : Engine → Engine) : (s.updEngine l f).sense = s.sense := by cases l <;> rfl
@[simp] theorem State.updEngine_gnss (l : Lane) (f : Engine → Engine) : (s.updEngine l f).gnss = s.gnss := by cases l <;> rfl
@[simp] theorem State.updEngine_cams (l : Lane) (f : Engine → Engine) : (s.updEngine l f).cams = s.cams := by cases l <;> rfl
@[simp] theorem State.updEngine_fus (l : Lane) (f : Engine → Engine) : (s.updEngine l f).fus = s.fus := by cases l <;> rfl
@[simp] theorem State.updEngine_cans (l : Lane) (f : Engine → Engine) : (s.updEngine l f).cans = s.cans := by cases l <;> rfl
@[simp] theorem State.updEngine_stay (l : Lane) (f : Engine → Engine) : (s.updEngine l f).stay = s.stay := by cases l <;> rfl
@[simp] theorem State.updEngine_eths (l : Lane) (f : Engine → Engine) : (s.updEngine l f).eths = s.eths := by cases l <;> rfl
@[simp] theorem State.updEngine_mem (l : Lane) (f : Engine → Engine) : (s.updEngine l f).mem = s.mem := by cases l <;> rfl
@[simp] theorem State.updEngine_rec (l : Lane) (f : Engine → Engine) : (s.updEngine l f).rec_ = s.rec_ := by cases l <;> rfl
@[simp] theorem State.updEngine_pwr (l : Lane) (f : Engine → Engine) : (s.updEngine l f).pwr = s.pwr := by cases l <;> rfl
@[simp] theorem State.updEngine_taken (l : Lane) (f : Engine → Engine) : (s.updEngine l f).taken = s.taken := by cases l <;> rfl
@[simp] theorem State.updEngine_free (l : Lane) (f : Engine → Engine) : (s.updEngine l f).free = s.free := by cases l <;> rfl
@[simp] theorem State.updEngine_out (l : Lane) (f : Engine → Engine) : (s.updEngine l f).out = s.out := by cases l <;> rfl

/-! ### `updChan` -/

@[simp] theorem State.updChan_pending (c : Nat) (f : Chan → Chan) : (s.updChan c f).pending = s.pending := rfl
@[simp] theorem State.updChan_time (c : Nat) (f : Chan → Chan) : (s.updChan c f).time = s.time := rfl
@[simp] theorem State.updChan_staged (c : Nat) (f : Chan → Chan) : (s.updChan c f).staged = s.staged := rfl
@[simp] theorem State.updChan_sys (c : Nat) (f : Chan → Chan) : (s.updChan c f).sys = s.sys := rfl
@[simp] theorem State.updChan_sched (c : Nat) (f : Chan → Chan) : (s.updChan c f).sched = s.sched := rfl
@[simp] theorem State.updChan_main (c : Nat) (f : Chan → Chan) : (s.updChan c f).main = s.main := rfl
@[simp] theorem State.updChan_mizzen (c : Nat) (f : Chan → Chan) : (s.updChan c f).mizzen = s.mizzen := rfl
@[simp] theorem State.updChan_recvs (c : Nat) (f : Chan → Chan) : (s.updChan c f).recvs = s.recvs := rfl
@[simp] theorem State.updChan_xt (c : Nat) (f : Chan → Chan) : (s.updChan c f).xt = s.xt := rfl
@[simp] theorem State.updChan_ctrl (c : Nat) (f : Chan → Chan) : (s.updChan c f).ctrl = s.ctrl := rfl
@[simp] theorem State.updChan_sense (c : Nat) (f : Chan → Chan) : (s.updChan c f).sense = s.sense := rfl
@[simp] theorem State.updChan_gnss (c : Nat) (f : Chan → Chan) : (s.updChan c f).gnss = s.gnss := rfl
@[simp] theorem State.updChan_cams (c : Nat) (f : Chan → Chan) : (s.updChan c f).cams = s.cams := rfl
@[simp] theorem State.updChan_fus (c : Nat) (f : Chan → Chan) : (s.updChan c f).fus = s.fus := rfl
@[simp] theorem State.updChan_cans (c : Nat) (f : Chan → Chan) : (s.updChan c f).cans = s.cans := rfl
@[simp] theorem State.updChan_stay (c : Nat) (f : Chan → Chan) : (s.updChan c f).stay = s.stay := rfl
@[simp] theorem State.updChan_eths (c : Nat) (f : Chan → Chan) : (s.updChan c f).eths = s.eths := rfl
@[simp] theorem State.updChan_mem (c : Nat) (f : Chan → Chan) : (s.updChan c f).mem = s.mem := rfl
@[simp] theorem State.updChan_rec (c : Nat) (f : Chan → Chan) : (s.updChan c f).rec_ = s.rec_ := rfl
@[simp] theorem State.updChan_pwr (c : Nat) (f : Chan → Chan) : (s.updChan c f).pwr = s.pwr := rfl
@[simp] theorem State.updChan_taken (c : Nat) (f : Chan → Chan) : (s.updChan c f).taken = s.taken := rfl
@[simp] theorem State.updChan_free (c : Nat) (f : Chan → Chan) : (s.updChan c f).free = s.free := rfl
@[simp] theorem State.updChan_out (c : Nat) (f : Chan → Chan) : (s.updChan c f).out = s.out := rfl

/-! ### `setInput` -/

@[simp] theorem State.setInput_pending (i : Nat) (v : SenseInput) : (s.setInput i v).pending = s.pending := rfl
@[simp] theorem State.setInput_time (i : Nat) (v : SenseInput) : (s.setInput i v).time = s.time := rfl
@[simp] theorem State.setInput_staged (i : Nat) (v : SenseInput) : (s.setInput i v).staged = s.staged := rfl
@[simp] theorem State.setInput_sys (i : Nat) (v : SenseInput) : (s.setInput i v).sys = s.sys := rfl
@[simp] theorem State.setInput_sched (i : Nat) (v : SenseInput) : (s.setInput i v).sched = s.sched := rfl
@[simp] theorem State.setInput_main (i : Nat) (v : SenseInput) : (s.setInput i v).main = s.main := rfl
@[simp] theorem State.setInput_mizzen (i : Nat) (v : SenseInput) : (s.setInput i v).mizzen = s.mizzen := rfl
@[simp] theorem State.setInput_recvs (i : Nat) (v : SenseInput) : (s.setInput i v).recvs = s.recvs := rfl
@[simp] theorem State.setInput_xt (i : Nat) (v : SenseInput) : (s.setInput i v).xt = s.xt := rfl
@[simp] theorem State.setInput_ctrl (i : Nat) (v : SenseInput) : (s.setInput i v).ctrl = s.ctrl := rfl
@[simp] theorem State.setInput_power (i : Nat) (v : SenseInput) : (s.setInput i v).power = s.power := rfl
@[simp] theorem State.setInput_gnss (i : Nat) (v : SenseInput) : (s.setInput i v).gnss = s.gnss := rfl
@[simp] theorem State.setInput_cams (i : Nat) (v : SenseInput) : (s.setInput i v).cams = s.cams := rfl
@[simp] theorem State.setInput_fus (i : Nat) (v : SenseInput) : (s.setInput i v).fus = s.fus := rfl
@[simp] theorem State.setInput_cans (i : Nat) (v : SenseInput) : (s.setInput i v).cans = s.cans := rfl
@[simp] theorem State.setInput_stay (i : Nat) (v : SenseInput) : (s.setInput i v).stay = s.stay := rfl
@[simp] theorem State.setInput_eths (i : Nat) (v : SenseInput) : (s.setInput i v).eths = s.eths := rfl
@[simp] theorem State.setInput_mem (i : Nat) (v : SenseInput) : (s.setInput i v).mem = s.mem := rfl
@[simp] theorem State.setInput_rec (i : Nat) (v : SenseInput) : (s.setInput i v).rec_ = s.rec_ := rfl
@[simp] theorem State.setInput_pwr (i : Nat) (v : SenseInput) : (s.setInput i v).pwr = s.pwr := rfl
@[simp] theorem State.setInput_taken (i : Nat) (v : SenseInput) : (s.setInput i v).taken = s.taken := rfl
@[simp] theorem State.setInput_free (i : Nat) (v : SenseInput) : (s.setInput i v).free = s.free := rfl
@[simp] theorem State.setInput_out (i : Nat) (v : SenseInput) : (s.setInput i v).out = s.out := rfl

/-! ### `updYield` -/

@[simp] theorem State.updYield_pending (f : YieldSt → YieldSt) : (s.updYield f).pending = s.pending := rfl
@[simp] theorem State.updYield_time (f : YieldSt → YieldSt) : (s.updYield f).time = s.time := rfl
@[simp] theorem State.updYield_staged (f : YieldSt → YieldSt) : (s.updYield f).staged = s.staged := rfl
@[simp] theorem State.updYield_sys (f : YieldSt → YieldSt) : (s.updYield f).sys = s.sys := rfl
@[simp] theorem State.updYield_sched (f : YieldSt → YieldSt) : (s.updYield f).sched = s.sched := rfl
@[simp] theorem State.updYield_main (f : YieldSt → YieldSt) : (s.updYield f).main = s.main := rfl
@[simp] theorem State.updYield_mizzen (f : YieldSt → YieldSt) : (s.updYield f).mizzen = s.mizzen := rfl
@[simp] theorem State.updYield_recvs (f : YieldSt → YieldSt) : (s.updYield f).recvs = s.recvs := rfl
@[simp] theorem State.updYield_xt (f : YieldSt → YieldSt) : (s.updYield f).xt = s.xt := rfl
@[simp] theorem State.updYield_ctrl (f : YieldSt → YieldSt) : (s.updYield f).ctrl = s.ctrl := rfl
@[simp] theorem State.updYield_power (f : YieldSt → YieldSt) : (s.updYield f).power = s.power := rfl
@[simp] theorem State.updYield_gnss (f : YieldSt → YieldSt) : (s.updYield f).gnss = s.gnss := rfl
@[simp] theorem State.updYield_cams (f : YieldSt → YieldSt) : (s.updYield f).cams = s.cams := rfl
@[simp] theorem State.updYield_fus (f : YieldSt → YieldSt) : (s.updYield f).fus = s.fus := rfl
@[simp] theorem State.updYield_cans (f : YieldSt → YieldSt) : (s.updYield f).cans = s.cans := rfl
@[simp] theorem State.updYield_stay (f : YieldSt → YieldSt) : (s.updYield f).stay = s.stay := rfl
@[simp] theorem State.updYield_eths (f : YieldSt → YieldSt) : (s.updYield f).eths = s.eths := rfl
@[simp] theorem State.updYield_mem (f : YieldSt → YieldSt) : (s.updYield f).mem = s.mem := rfl
@[simp] theorem State.updYield_rec (f : YieldSt → YieldSt) : (s.updYield f).rec_ = s.rec_ := rfl
@[simp] theorem State.updYield_pwr (f : YieldSt → YieldSt) : (s.updYield f).pwr = s.pwr := rfl
@[simp] theorem State.updYield_taken (f : YieldSt → YieldSt) : (s.updYield f).taken = s.taken := rfl
@[simp] theorem State.updYield_free (f : YieldSt → YieldSt) : (s.updYield f).free = s.free := rfl
@[simp] theorem State.updYield_out (f : YieldSt → YieldSt) : (s.updYield f).out = s.out := rfl

/-! ### `updGnss` -/

@[simp] theorem State.updGnss_pending (f : GnssSt → GnssSt) : (s.updGnss f).pending = s.pending := rfl
@[simp] theorem State.updGnss_time (f : GnssSt → GnssSt) : (s.updGnss f).time = s.time := rfl
@[simp] theorem State.updGnss_staged (f : GnssSt → GnssSt) : (s.updGnss f).staged = s.staged := rfl
@[simp] theorem State.updGnss_sys (f : GnssSt → GnssSt) : (s.updGnss f).sys = s.sys := rfl
@[simp] theorem State.updGnss_sched (f : GnssSt → GnssSt) : (s.updGnss f).sched = s.sched := rfl
@[simp] theorem State.updGnss_main (f : GnssSt → GnssSt) : (s.updGnss f).main = s.main := rfl
@[simp] theorem State.updGnss_mizzen (f : GnssSt → GnssSt) : (s.updGnss f).mizzen = s.mizzen := rfl
@[simp] theorem State.updGnss_recvs (f : GnssSt → GnssSt) : (s.updGnss f).recvs = s.recvs := rfl
@[simp] theorem State.updGnss_xt (f : GnssSt → GnssSt) : (s.updGnss f).xt = s.xt := rfl
@[simp] theorem State.updGnss_ctrl (f : GnssSt → GnssSt) : (s.updGnss f).ctrl = s.ctrl := rfl
@[simp] theorem State.updGnss_power (f : GnssSt → GnssSt) : (s.updGnss f).power = s.power := rfl
@[simp] theorem State.updGnss_sense (f : GnssSt → GnssSt) : (s.updGnss f).sense = s.sense := rfl
@[simp] theorem State.updGnss_cams (f : GnssSt → GnssSt) : (s.updGnss f).cams = s.cams := rfl
@[simp] theorem State.updGnss_fus (f : GnssSt → GnssSt) : (s.updGnss f).fus = s.fus := rfl
@[simp] theorem State.updGnss_cans (f : GnssSt → GnssSt) : (s.updGnss f).cans = s.cans := rfl
@[simp] theorem State.updGnss_stay (f : GnssSt → GnssSt) : (s.updGnss f).stay = s.stay := rfl
@[simp] theorem State.updGnss_eths (f : GnssSt → GnssSt) : (s.updGnss f).eths = s.eths := rfl
@[simp] theorem State.updGnss_mem (f : GnssSt → GnssSt) : (s.updGnss f).mem = s.mem := rfl
@[simp] theorem State.updGnss_rec (f : GnssSt → GnssSt) : (s.updGnss f).rec_ = s.rec_ := rfl
@[simp] theorem State.updGnss_pwr (f : GnssSt → GnssSt) : (s.updGnss f).pwr = s.pwr := rfl
@[simp] theorem State.updGnss_taken (f : GnssSt → GnssSt) : (s.updGnss f).taken = s.taken := rfl
@[simp] theorem State.updGnss_free (f : GnssSt → GnssSt) : (s.updGnss f).free = s.free := rfl
@[simp] theorem State.updGnss_out (f : GnssSt → GnssSt) : (s.updGnss f).out = s.out := rfl
@[simp] theorem State.updGnss_gnss (f : GnssSt → GnssSt) : (s.updGnss f).gnss = f s.gnss := rfl

/-! ### `updCam` -/

@[simp] theorem State.updCam_pending (p : Nat) (f : CamPort → CamPort) : (s.updCam p f).pending = s.pending := rfl
@[simp] theorem State.updCam_time (p : Nat) (f : CamPort → CamPort) : (s.updCam p f).time = s.time := rfl
@[simp] theorem State.updCam_staged (p : Nat) (f : CamPort → CamPort) : (s.updCam p f).staged = s.staged := rfl
@[simp] theorem State.updCam_sys (p : Nat) (f : CamPort → CamPort) : (s.updCam p f).sys = s.sys := rfl
@[simp] theorem State.updCam_sched (p : Nat) (f : CamPort → CamPort) : (s.updCam p f).sched = s.sched := rfl
@[simp] theorem State.updCam_main (p : Nat) (f : CamPort → CamPort) : (s.updCam p f).main = s.main := rfl
@[simp] theorem State.updCam_mizzen (p : Nat) (f : CamPort → CamPort) : (s.updCam p f).mizzen = s.mizzen := rfl
@[simp] theorem State.updCam_recvs (p : Nat) (f : CamPort → CamPort) : (s.updCam p f).recvs = s.recvs := rfl
@[simp] theorem State.updCam_xt (p : Nat) (f : CamPort → CamPort) : (s.updCam p f).xt = s.xt := rfl
@[simp] theorem State.updCam_ctrl (p : Nat) (f : CamPort → CamPort) : (s.updCam p f).ctrl = s.ctrl := rfl
@[simp] theorem State.updCam_power (p : Nat) (f : CamPort → CamPort) : (s.updCam p f).power = s.power := rfl
@[simp] theorem State.updCam_sense (p : Nat) (f : CamPort → CamPort) : (s.updCam p f).sense = s.sense := rfl
@[simp] theorem State.updCam_gnss (p : Nat) (f : CamPort → CamPort) : (s.updCam p f).gnss = s.gnss := rfl
@[simp] theorem State.updCam_fus (p : Nat) (f : CamPort → CamPort) : (s.updCam p f).fus = s.fus := rfl
@[simp] theorem State.updCam_cans (p : Nat) (f : CamPort → CamPort) : (s.updCam p f).cans = s.cans := rfl
@[simp] theorem State.updCam_stay (p : Nat) (f : CamPort → CamPort) : (s.updCam p f).stay = s.stay := rfl
@[simp] theorem State.updCam_eths (p : Nat) (f : CamPort → CamPort) : (s.updCam p f).eths = s.eths := rfl
@[simp] theorem State.updCam_mem (p : Nat) (f : CamPort → CamPort) : (s.updCam p f).mem = s.mem := rfl
@[simp] theorem State.updCam_rec (p : Nat) (f : CamPort → CamPort) : (s.updCam p f).rec_ = s.rec_ := rfl
@[simp] theorem State.updCam_pwr (p : Nat) (f : CamPort → CamPort) : (s.updCam p f).pwr = s.pwr := rfl
@[simp] theorem State.updCam_taken (p : Nat) (f : CamPort → CamPort) : (s.updCam p f).taken = s.taken := rfl
@[simp] theorem State.updCam_free (p : Nat) (f : CamPort → CamPort) : (s.updCam p f).free = s.free := rfl
@[simp] theorem State.updCam_out (p : Nat) (f : CamPort → CamPort) : (s.updCam p f).out = s.out := rfl

/-! ### `updFus` -/

@[simp] theorem State.updFus_pending (f : FusSt → FusSt) : (s.updFus f).pending = s.pending := rfl
@[simp] theorem State.updFus_time (f : FusSt → FusSt) : (s.updFus f).time = s.time := rfl
@[simp] theorem State.updFus_staged (f : FusSt → FusSt) : (s.updFus f).staged = s.staged := rfl
@[simp] theorem State.updFus_sys (f : FusSt → FusSt) : (s.updFus f).sys = s.sys := rfl
@[simp] theorem State.updFus_sched (f : FusSt → FusSt) : (s.updFus f).sched = s.sched := rfl
@[simp] theorem State.updFus_main (f : FusSt → FusSt) : (s.updFus f).main = s.main := rfl
@[simp] theorem State.updFus_mizzen (f : FusSt → FusSt) : (s.updFus f).mizzen = s.mizzen := rfl
@[simp] theorem State.updFus_recvs (f : FusSt → FusSt) : (s.updFus f).recvs = s.recvs := rfl
@[simp] theorem State.updFus_xt (f : FusSt → FusSt) : (s.updFus f).xt = s.xt := rfl
@[simp] theorem State.updFus_ctrl (f : FusSt → FusSt) : (s.updFus f).ctrl = s.ctrl := rfl
@[simp] theorem State.updFus_power (f : FusSt → FusSt) : (s.updFus f).power = s.power := rfl
@[simp] theorem State.updFus_sense (f : FusSt → FusSt) : (s.updFus f).sense = s.sense := rfl
@[simp] theorem State.updFus_gnss (f : FusSt → FusSt) : (s.updFus f).gnss = s.gnss := rfl
@[simp] theorem State.updFus_cams (f : FusSt → FusSt) : (s.updFus f).cams = s.cams := rfl
@[simp] theorem State.updFus_cans (f : FusSt → FusSt) : (s.updFus f).cans = s.cans := rfl
@[simp] theorem State.updFus_stay (f : FusSt → FusSt) : (s.updFus f).stay = s.stay := rfl
@[simp] theorem State.updFus_eths (f : FusSt → FusSt) : (s.updFus f).eths = s.eths := rfl
@[simp] theorem State.updFus_mem (f : FusSt → FusSt) : (s.updFus f).mem = s.mem := rfl
@[simp] theorem State.updFus_rec (f : FusSt → FusSt) : (s.updFus f).rec_ = s.rec_ := rfl
@[simp] theorem State.updFus_pwr (f : FusSt → FusSt) : (s.updFus f).pwr = s.pwr := rfl
@[simp] theorem State.updFus_taken (f : FusSt → FusSt) : (s.updFus f).taken = s.taken := rfl
@[simp] theorem State.updFus_free (f : FusSt → FusSt) : (s.updFus f).free = s.free := rfl
@[simp] theorem State.updFus_out (f : FusSt → FusSt) : (s.updFus f).out = s.out := rfl
@[simp] theorem State.updFus_fus (f : FusSt → FusSt) : (s.updFus f).fus = f s.fus := rfl

/-! ### `updCan` -/

@[simp] theorem State.updCan_pending (p : Nat) (f : CanPort → CanPort) : (s.updCan p f).pending = s.pending := rfl
@[simp] theorem State.updCan_time (p : Nat) (f : CanPort → CanPort) : (s.updCan p f).time = s.time := rfl
@[simp] theorem State.updCan_staged (p : Nat) (f : CanPort → CanPort) : (s.updCan p f).staged = s.staged := rfl
@[simp] theorem State.updCan_sys (p : Nat) (f : CanPort → CanPort) : (s.updCan p f).sys = s.sys := rfl
@[simp] theorem State.updCan_sched (p : Nat) (f : CanPort → CanPort) : (s.updCan p f).sched = s.sched := rfl
@[simp] theorem State.updCan_main (p : Nat) (f : CanPort → CanPort) : (s.updCan p f).main = s.main := rfl
@[simp] theorem State.updCan_mizzen (p : Nat) (f : CanPort → CanPort) : (s.updCan p f).mizzen = s.mizzen := rfl
@[simp] theorem State.updCan_recvs (p : Nat) (f : CanPort → CanPort) : (s.updCan p f).recvs = s.recvs := rfl
@[simp] theorem State.updCan_xt (p : Nat) (f : CanPort → CanPort) : (s.updCan p f).xt = s.xt := rfl
@[simp] theorem State.updCan_ctrl (p : Nat) (f : CanPort → CanPort) : (s.updCan p f).ctrl = s.ctrl := rfl
@[simp] theorem State.updCan_power (p : Nat) (f : CanPort → CanPort) : (s.updCan p f).power = s.power := rfl
@[simp] theorem State.updCan_sense (p : Nat) (f : CanPort → CanPort) : (s.updCan p f).sense = s.sense := rfl
@[simp] theorem State.updCan_gnss (p : Nat) (f : CanPort → CanPort) : (s.updCan p f).gnss = s.gnss := rfl
@[simp] theorem State.updCan_cams (p : Nat) (f : CanPort → CanPort) : (s.updCan p f).cams = s.cams := rfl
@[simp] theorem State.updCan_fus (p : Nat) (f : CanPort → CanPort) : (s.updCan p f).fus = s.fus := rfl
@[simp] theorem State.updCan_stay (p : Nat) (f : CanPort → CanPort) : (s.updCan p f).stay = s.stay := rfl
@[simp] theorem State.updCan_eths (p : Nat) (f : CanPort → CanPort) : (s.updCan p f).eths = s.eths := rfl
@[simp] theorem State.updCan_mem (p : Nat) (f : CanPort → CanPort) : (s.updCan p f).mem = s.mem := rfl
@[simp] theorem State.updCan_rec (p : Nat) (f : CanPort → CanPort) : (s.updCan p f).rec_ = s.rec_ := rfl
@[simp] theorem State.updCan_pwr (p : Nat) (f : CanPort → CanPort) : (s.updCan p f).pwr = s.pwr := rfl
@[simp] theorem State.updCan_taken (p : Nat) (f : CanPort → CanPort) : (s.updCan p f).taken = s.taken := rfl
@[simp] theorem State.updCan_free (p : Nat) (f : CanPort → CanPort) : (s.updCan p f).free = s.free := rfl
@[simp] theorem State.updCan_out (p : Nat) (f : CanPort → CanPort) : (s.updCan p f).out = s.out := rfl

/-! ### `updStay` -/

@[simp] theorem State.updStay_pending (f : StaySt → StaySt) : (s.updStay f).pending = s.pending := rfl
@[simp] theorem State.updStay_time (f : StaySt → StaySt) : (s.updStay f).time = s.time := rfl
@[simp] theorem State.updStay_staged (f : StaySt → StaySt) : (s.updStay f).staged = s.staged := rfl
@[simp] theorem State.updStay_sys (f : StaySt → StaySt) : (s.updStay f).sys = s.sys := rfl
@[simp] theorem State.updStay_sched (f : StaySt → StaySt) : (s.updStay f).sched = s.sched := rfl
@[simp] theorem State.updStay_main (f : StaySt → StaySt) : (s.updStay f).main = s.main := rfl
@[simp] theorem State.updStay_mizzen (f : StaySt → StaySt) : (s.updStay f).mizzen = s.mizzen := rfl
@[simp] theorem State.updStay_recvs (f : StaySt → StaySt) : (s.updStay f).recvs = s.recvs := rfl
@[simp] theorem State.updStay_xt (f : StaySt → StaySt) : (s.updStay f).xt = s.xt := rfl
@[simp] theorem State.updStay_ctrl (f : StaySt → StaySt) : (s.updStay f).ctrl = s.ctrl := rfl
@[simp] theorem State.updStay_power (f : StaySt → StaySt) : (s.updStay f).power = s.power := rfl
@[simp] theorem State.updStay_sense (f : StaySt → StaySt) : (s.updStay f).sense = s.sense := rfl
@[simp] theorem State.updStay_gnss (f : StaySt → StaySt) : (s.updStay f).gnss = s.gnss := rfl
@[simp] theorem State.updStay_cams (f : StaySt → StaySt) : (s.updStay f).cams = s.cams := rfl
@[simp] theorem State.updStay_fus (f : StaySt → StaySt) : (s.updStay f).fus = s.fus := rfl
@[simp] theorem State.updStay_cans (f : StaySt → StaySt) : (s.updStay f).cans = s.cans := rfl
@[simp] theorem State.updStay_eths (f : StaySt → StaySt) : (s.updStay f).eths = s.eths := rfl
@[simp] theorem State.updStay_mem (f : StaySt → StaySt) : (s.updStay f).mem = s.mem := rfl
@[simp] theorem State.updStay_rec (f : StaySt → StaySt) : (s.updStay f).rec_ = s.rec_ := rfl
@[simp] theorem State.updStay_pwr (f : StaySt → StaySt) : (s.updStay f).pwr = s.pwr := rfl
@[simp] theorem State.updStay_taken (f : StaySt → StaySt) : (s.updStay f).taken = s.taken := rfl
@[simp] theorem State.updStay_free (f : StaySt → StaySt) : (s.updStay f).free = s.free := rfl
@[simp] theorem State.updStay_out (f : StaySt → StaySt) : (s.updStay f).out = s.out := rfl
@[simp] theorem State.updStay_stay (f : StaySt → StaySt) : (s.updStay f).stay = f s.stay := rfl

/-! ### `updEth` -/

@[simp] theorem State.updEth_pending (p : Nat) (f : EthPort → EthPort) : (s.updEth p f).pending = s.pending := rfl
@[simp] theorem State.updEth_time (p : Nat) (f : EthPort → EthPort) : (s.updEth p f).time = s.time := rfl
@[simp] theorem State.updEth_staged (p : Nat) (f : EthPort → EthPort) : (s.updEth p f).staged = s.staged := rfl
@[simp] theorem State.updEth_sys (p : Nat) (f : EthPort → EthPort) : (s.updEth p f).sys = s.sys := rfl
@[simp] theorem State.updEth_sched (p : Nat) (f : EthPort → EthPort) : (s.updEth p f).sched = s.sched := rfl
@[simp] theorem State.updEth_main (p : Nat) (f : EthPort → EthPort) : (s.updEth p f).main = s.main := rfl
@[simp] theorem State.updEth_mizzen (p : Nat) (f : EthPort → EthPort) : (s.updEth p f).mizzen = s.mizzen := rfl
@[simp] theorem State.updEth_recvs (p : Nat) (f : EthPort → EthPort) : (s.updEth p f).recvs = s.recvs := rfl
@[simp] theorem State.updEth_xt (p : Nat) (f : EthPort → EthPort) : (s.updEth p f).xt = s.xt := rfl
@[simp] theorem State.updEth_ctrl (p : Nat) (f : EthPort → EthPort) : (s.updEth p f).ctrl = s.ctrl := rfl
@[simp] theorem State.updEth_power (p : Nat) (f : EthPort → EthPort) : (s.updEth p f).power = s.power := rfl
@[simp] theorem State.updEth_sense (p : Nat) (f : EthPort → EthPort) : (s.updEth p f).sense = s.sense := rfl
@[simp] theorem State.updEth_gnss (p : Nat) (f : EthPort → EthPort) : (s.updEth p f).gnss = s.gnss := rfl
@[simp] theorem State.updEth_cams (p : Nat) (f : EthPort → EthPort) : (s.updEth p f).cams = s.cams := rfl
@[simp] theorem State.updEth_fus (p : Nat) (f : EthPort → EthPort) : (s.updEth p f).fus = s.fus := rfl
@[simp] theorem State.updEth_cans (p : Nat) (f : EthPort → EthPort) : (s.updEth p f).cans = s.cans := rfl
@[simp] theorem State.updEth_stay (p : Nat) (f : EthPort → EthPort) : (s.updEth p f).stay = s.stay := rfl
@[simp] theorem State.updEth_mem (p : Nat) (f : EthPort → EthPort) : (s.updEth p f).mem = s.mem := rfl
@[simp] theorem State.updEth_rec (p : Nat) (f : EthPort → EthPort) : (s.updEth p f).rec_ = s.rec_ := rfl
@[simp] theorem State.updEth_pwr (p : Nat) (f : EthPort → EthPort) : (s.updEth p f).pwr = s.pwr := rfl
@[simp] theorem State.updEth_taken (p : Nat) (f : EthPort → EthPort) : (s.updEth p f).taken = s.taken := rfl
@[simp] theorem State.updEth_free (p : Nat) (f : EthPort → EthPort) : (s.updEth p f).free = s.free := rfl
@[simp] theorem State.updEth_out (p : Nat) (f : EthPort → EthPort) : (s.updEth p f).out = s.out := rfl

/-! ### `updMem` -/

@[simp] theorem State.updMem_pending (c : Nat) (f : MemCtrl → MemCtrl) : (s.updMem c f).pending = s.pending := rfl
@[simp] theorem State.updMem_time (c : Nat) (f : MemCtrl → MemCtrl) : (s.updMem c f).time = s.time := rfl
@[simp] theorem State.updMem_staged (c : Nat) (f : MemCtrl → MemCtrl) : (s.updMem c f).staged = s.staged := rfl
@[simp] theorem State.updMem_sys (c : Nat) (f : MemCtrl → MemCtrl) : (s.updMem c f).sys = s.sys := rfl
@[simp] theorem State.updMem_sched (c : Nat) (f : MemCtrl → MemCtrl) : (s.updMem c f).sched = s.sched := rfl
@[simp] theorem State.updMem_main (c : Nat) (f : MemCtrl → MemCtrl) : (s.updMem c f).main = s.main := rfl
@[simp] theorem State.updMem_mizzen (c : Nat) (f : MemCtrl → MemCtrl) : (s.updMem c f).mizzen = s.mizzen := rfl
@[simp] theorem State.updMem_recvs (c : Nat) (f : MemCtrl → MemCtrl) : (s.updMem c f).recvs = s.recvs := rfl
@[simp] theorem State.updMem_xt (c : Nat) (f : MemCtrl → MemCtrl) : (s.updMem c f).xt = s.xt := rfl
@[simp] theorem State.updMem_ctrl (c : Nat) (f : MemCtrl → MemCtrl) : (s.updMem c f).ctrl = s.ctrl := rfl
@[simp] theorem State.updMem_power (c : Nat) (f : MemCtrl → MemCtrl) : (s.updMem c f).power = s.power := rfl
@[simp] theorem State.updMem_sense (c : Nat) (f : MemCtrl → MemCtrl) : (s.updMem c f).sense = s.sense := rfl
@[simp] theorem State.updMem_gnss (c : Nat) (f : MemCtrl → MemCtrl) : (s.updMem c f).gnss = s.gnss := rfl
@[simp] theorem State.updMem_cams (c : Nat) (f : MemCtrl → MemCtrl) : (s.updMem c f).cams = s.cams := rfl
@[simp] theorem State.updMem_fus (c : Nat) (f : MemCtrl → MemCtrl) : (s.updMem c f).fus = s.fus := rfl
@[simp] theorem State.updMem_cans (c : Nat) (f : MemCtrl → MemCtrl) : (s.updMem c f).cans = s.cans := rfl
@[simp] theorem State.updMem_stay (c : Nat) (f : MemCtrl → MemCtrl) : (s.updMem c f).stay = s.stay := rfl
@[simp] theorem State.updMem_eths (c : Nat) (f : MemCtrl → MemCtrl) : (s.updMem c f).eths = s.eths := rfl
@[simp] theorem State.updMem_rec (c : Nat) (f : MemCtrl → MemCtrl) : (s.updMem c f).rec_ = s.rec_ := rfl
@[simp] theorem State.updMem_pwr (c : Nat) (f : MemCtrl → MemCtrl) : (s.updMem c f).pwr = s.pwr := rfl
@[simp] theorem State.updMem_taken (c : Nat) (f : MemCtrl → MemCtrl) : (s.updMem c f).taken = s.taken := rfl
@[simp] theorem State.updMem_free (c : Nat) (f : MemCtrl → MemCtrl) : (s.updMem c f).free = s.free := rfl
@[simp] theorem State.updMem_out (c : Nat) (f : MemCtrl → MemCtrl) : (s.updMem c f).out = s.out := rfl

/-! ### `updRec` -/

@[simp] theorem State.updRec_pending (f : RecSt → RecSt) : (s.updRec f).pending = s.pending := rfl
@[simp] theorem State.updRec_time (f : RecSt → RecSt) : (s.updRec f).time = s.time := rfl
@[simp] theorem State.updRec_staged (f : RecSt → RecSt) : (s.updRec f).staged = s.staged := rfl
@[simp] theorem State.updRec_sys (f : RecSt → RecSt) : (s.updRec f).sys = s.sys := rfl
@[simp] theorem State.updRec_sched (f : RecSt → RecSt) : (s.updRec f).sched = s.sched := rfl
@[simp] theorem State.updRec_main (f : RecSt → RecSt) : (s.updRec f).main = s.main := rfl
@[simp] theorem State.updRec_mizzen (f : RecSt → RecSt) : (s.updRec f).mizzen = s.mizzen := rfl
@[simp] theorem State.updRec_recvs (f : RecSt → RecSt) : (s.updRec f).recvs = s.recvs := rfl
@[simp] theorem State.updRec_xt (f : RecSt → RecSt) : (s.updRec f).xt = s.xt := rfl
@[simp] theorem State.updRec_ctrl (f : RecSt → RecSt) : (s.updRec f).ctrl = s.ctrl := rfl
@[simp] theorem State.updRec_power (f : RecSt → RecSt) : (s.updRec f).power = s.power := rfl
@[simp] theorem State.updRec_sense (f : RecSt → RecSt) : (s.updRec f).sense = s.sense := rfl
@[simp] theorem State.updRec_gnss (f : RecSt → RecSt) : (s.updRec f).gnss = s.gnss := rfl
@[simp] theorem State.updRec_cams (f : RecSt → RecSt) : (s.updRec f).cams = s.cams := rfl
@[simp] theorem State.updRec_fus (f : RecSt → RecSt) : (s.updRec f).fus = s.fus := rfl
@[simp] theorem State.updRec_cans (f : RecSt → RecSt) : (s.updRec f).cans = s.cans := rfl
@[simp] theorem State.updRec_stay (f : RecSt → RecSt) : (s.updRec f).stay = s.stay := rfl
@[simp] theorem State.updRec_eths (f : RecSt → RecSt) : (s.updRec f).eths = s.eths := rfl
@[simp] theorem State.updRec_mem (f : RecSt → RecSt) : (s.updRec f).mem = s.mem := rfl
@[simp] theorem State.updRec_pwr (f : RecSt → RecSt) : (s.updRec f).pwr = s.pwr := rfl
@[simp] theorem State.updRec_taken (f : RecSt → RecSt) : (s.updRec f).taken = s.taken := rfl
@[simp] theorem State.updRec_free (f : RecSt → RecSt) : (s.updRec f).free = s.free := rfl
@[simp] theorem State.updRec_out (f : RecSt → RecSt) : (s.updRec f).out = s.out := rfl
@[simp] theorem State.updRec_rec (f : RecSt → RecSt) : (s.updRec f).rec_ = f s.rec_ := rfl

/-! ### `updPwr` -/

@[simp] theorem State.updPwr_pending (f : PwrSt → PwrSt) : (s.updPwr f).pending = s.pending := rfl
@[simp] theorem State.updPwr_time (f : PwrSt → PwrSt) : (s.updPwr f).time = s.time := rfl
@[simp] theorem State.updPwr_staged (f : PwrSt → PwrSt) : (s.updPwr f).staged = s.staged := rfl
@[simp] theorem State.updPwr_sys (f : PwrSt → PwrSt) : (s.updPwr f).sys = s.sys := rfl
@[simp] theorem State.updPwr_sched (f : PwrSt → PwrSt) : (s.updPwr f).sched = s.sched := rfl
@[simp] theorem State.updPwr_main (f : PwrSt → PwrSt) : (s.updPwr f).main = s.main := rfl
@[simp] theorem State.updPwr_mizzen (f : PwrSt → PwrSt) : (s.updPwr f).mizzen = s.mizzen := rfl
@[simp] theorem State.updPwr_recvs (f : PwrSt → PwrSt) : (s.updPwr f).recvs = s.recvs := rfl
@[simp] theorem State.updPwr_xt (f : PwrSt → PwrSt) : (s.updPwr f).xt = s.xt := rfl
@[simp] theorem State.updPwr_ctrl (f : PwrSt → PwrSt) : (s.updPwr f).ctrl = s.ctrl := rfl
@[simp] theorem State.updPwr_power (f : PwrSt → PwrSt) : (s.updPwr f).power = s.power := rfl
@[simp] theorem State.updPwr_sense (f : PwrSt → PwrSt) : (s.updPwr f).sense = s.sense := rfl
@[simp] theorem State.updPwr_gnss (f : PwrSt → PwrSt) : (s.updPwr f).gnss = s.gnss := rfl
@[simp] theorem State.updPwr_cams (f : PwrSt → PwrSt) : (s.updPwr f).cams = s.cams := rfl
@[simp] theorem State.updPwr_fus (f : PwrSt → PwrSt) : (s.updPwr f).fus = s.fus := rfl
@[simp] theorem State.updPwr_cans (f : PwrSt → PwrSt) : (s.updPwr f).cans = s.cans := rfl
@[simp] theorem State.updPwr_stay (f : PwrSt → PwrSt) : (s.updPwr f).stay = s.stay := rfl
@[simp] theorem State.updPwr_eths (f : PwrSt → PwrSt) : (s.updPwr f).eths = s.eths := rfl
@[simp] theorem State.updPwr_mem (f : PwrSt → PwrSt) : (s.updPwr f).mem = s.mem := rfl
@[simp] theorem State.updPwr_rec (f : PwrSt → PwrSt) : (s.updPwr f).rec_ = s.rec_ := rfl
@[simp] theorem State.updPwr_taken (f : PwrSt → PwrSt) : (s.updPwr f).taken = s.taken := rfl
@[simp] theorem State.updPwr_free (f : PwrSt → PwrSt) : (s.updPwr f).free = s.free := rfl
@[simp] theorem State.updPwr_out (f : PwrSt → PwrSt) : (s.updPwr f).out = s.out := rfl
@[simp] theorem State.updPwr_pwr (f : PwrSt → PwrSt) : (s.updPwr f).pwr = f s.pwr := rfl

/-! ### Readers after updates -/

@[simp] theorem State.updLane_lane (l : Lane) (f : LaneSt → LaneSt) : (s.updLane l f).lane l = f (s.lane l) := by
  cases l <;> rfl
@[simp] theorem State.updLane_other (l : Lane) (f : LaneSt → LaneSt) : (s.updLane l f).lane l.other = s.lane l.other := by
  cases l <;> rfl
@[simp] theorem State.updLanes_lane (l : Lane) (f : LaneSt → LaneSt) : (s.updLanes f).lane l = f (s.lane l) := by
  cases l <;> rfl
@[simp] theorem State.updXt_xtLane (l : Lane) (f : XtLane → XtLane) : (s.updXt l f).xtLane l = f (s.xtLane l) := by
  cases l <;> rfl
@[simp] theorem State.updXt_other (l : Lane) (f : XtLane → XtLane) : (s.updXt l f).xtLane l.other = s.xtLane l.other := by
  cases l <;> rfl
@[simp] theorem State.updXt_lane (l x : Lane) (f : XtLane → XtLane) : (s.updXt l f).lane x = s.lane x := by
  cases l <;> rfl
@[simp] theorem State.updLane_xtLane (l x : Lane) (f : LaneSt → LaneSt) : (s.updLane l f).xtLane x = s.xtLane x := by
  cases l <;> rfl
@[simp] theorem State.elapse_lane (dt : Nat) (l : Lane) : (s.elapse dt).lane l = s.lane l := by cases l <;> rfl
@[simp] theorem State.elapse_xtLane (dt : Nat) (l : Lane) : (s.elapse dt).xtLane l = s.xtLane l := by cases l <;> rfl
@[simp] theorem State.elapse_now (dt : Nat) : (s.elapse dt).now = s.now + dt := rfl
@[simp] theorem State.elapse_domain (dt n : Nat) : (s.elapse dt).domain n = s.domain n := rfl
@[simp] theorem State.elapse_computes (dt : Nat) (l : Lane) : (s.elapse dt).computes l = s.computes l := by cases l <;> rfl
@[simp] theorem State.elapse_taking (dt : Nat) : (s.elapse dt).taking = s.taking := by simp [State.taking]
@[simp] theorem State.elapse_slots (dt : Nat) : (s.elapse dt).slots = s.slots := rfl
@[simp] theorem State.elapse_majorLen (dt : Nat) : (s.elapse dt).majorLen = s.majorLen := rfl
@[simp] theorem State.elapse_recv (dt k : Nat) : (s.elapse dt).recv k = s.recv k := rfl

end Sys2Proof.Machine
end

