-- ==== Sys2Proof/Laws/Memory.lean ====
section
/-!
SUPPORT. Tables and memories (16): a read after a write gives what was written and a write leaves every other number alone;
every memory operation keeps the canonical form.
-/
namespace Sys2Proof.Machine
open Sys2Proof

/-! ### Tables -/

theorem Tbl.find_put_self {α : Type} (t : Tbl α) (k : Nat) (a : α) : Tbl.find (Tbl.put t k a) k = some a := by
  induction t with
  | nil => simp [Tbl.put, Tbl.find]
  | cons x r ih =>
    obtain ⟨i, b⟩ := x
    unfold Tbl.put
    split
    · simp [Tbl.find]
    · rename_i h
      split <;> simp [Tbl.find, h, ih]

theorem Tbl.find_put_ne {α : Type} (t : Tbl α) (k j : Nat) (a : α) (h : j ≠ k) :
    Tbl.find (Tbl.put t k a) j = Tbl.find t j := by
  induction t with
  | nil => simp [Tbl.put, Tbl.find, h.symm]
  | cons x r ih =>
    obtain ⟨i, b⟩ := x
    unfold Tbl.put
    split
    · rename_i h1; subst h1; simp [Tbl.find, h.symm]
    · split <;> simp [Tbl.find, h.symm, ih]

@[simp] theorem Tbl.getD_put_self {α : Type} (t : Tbl α) (k : Nat) (a d : α) : Tbl.getD (Tbl.put t k a) k d = a := by
  simp [Tbl.getD, Tbl.find_put_self]

theorem Tbl.getD_put_ne {α : Type} (t : Tbl α) (k j : Nat) (a d : α) (h : j ≠ k) :
    Tbl.getD (Tbl.put t k a) j d = Tbl.getD t j d := by
  simp [Tbl.getD, Tbl.find_put_ne t k j a h]

@[simp] theorem Tbl.getD_upd_self {α : Type} (t : Tbl α) (k : Nat) (d : α) (f : α → α) :
    Tbl.getD (Tbl.upd t k d f) k d = f (Tbl.getD t k d) := by simp [Tbl.upd]

theorem Tbl.getD_upd_ne {α : Type} (t : Tbl α) (k j : Nat) (d : α) (f : α → α) (h : j ≠ k) :
    Tbl.getD (Tbl.upd t k d f) j d = Tbl.getD t j d := by simp [Tbl.upd, Tbl.getD_put_ne t k j _ d h]

theorem Tbl.rising_mono {α : Type} {t : Tbl α} {lo hi : Nat} (h : lo ≤ hi) (ht : Tbl.rising hi t = true) :
    Tbl.rising lo t = true := by
  cases t with
  | nil => rfl
  | cons x r =>
    obtain ⟨i, b⟩ := x
    simp only [Tbl.rising, Bool.and_eq_true, decide_eq_true_eq] at ht ⊢
    exact ⟨Nat.le_trans h ht.1, ht.2⟩

theorem Tbl.rising_put {α : Type} (t : Tbl α) (k lo : Nat) (a : α) (h : lo ≤ k) (ht : Tbl.rising lo t = true) :
    Tbl.rising lo (Tbl.put t k a) = true := by
  induction t generalizing lo with
  | nil => simp [Tbl.put, Tbl.rising, h]
  | cons x r ih =>
    obtain ⟨i, b⟩ := x
    simp only [Tbl.rising, Bool.and_eq_true, decide_eq_true_eq] at ht
    unfold Tbl.put
    split
    · rename_i h1; subst h1; simp [Tbl.rising, ht.1, ht.2]
    · rename_i h1
      split
      · rename_i h2; simp [Tbl.rising, h, ht.2, Nat.succ_le_of_lt h2]
      · rename_i h2; simp only [Tbl.rising, Bool.and_eq_true, decide_eq_true_eq]; exact ⟨ht.1, ih (i + 1) (by omega) ht.2⟩

theorem Tbl.rising_sublist {α : Type} {t u : Tbl α} (lo : Nat) (h : u.Sublist t) (ht : Tbl.rising lo t = true) :
    Tbl.rising lo u = true := by
  induction h generalizing lo with
  | slnil => rfl
  | @cons u t x h ih =>
    obtain ⟨i, b⟩ := x
    simp only [Tbl.rising, Bool.and_eq_true, decide_eq_true_eq] at ht
    exact Tbl.rising_mono (by omega) (ih (i + 1) ht.2)
  | @cons_cons u t x h ih =>
    obtain ⟨i, b⟩ := x
    simp only [Tbl.rising, Bool.and_eq_true, decide_eq_true_eq] at ht ⊢
    exact ⟨ht.1, ih (i + 1) ht.2⟩

theorem Tbl.all_put {α : Type} {p : α → Bool} {t : Tbl α} {k : Nat} {a : α} (ha : p a = true)
    (ht : t.all (fun x => p x.2) = true) : (Tbl.put t k a).all (fun x => p x.2) = true := by
  induction t with
  | nil => simp [Tbl.put, ha]
  | cons x r ih =>
    obtain ⟨i, b⟩ := x
    simp only [List.all_cons, Bool.and_eq_true] at ht
    unfold Tbl.put
    split
    · simp [ha, ht.2]
    · split
      · simp [ha, ht.1, ht.2]
      · simp only [List.all_cons, Bool.and_eq_true]; exact ⟨ht.1, ih ht.2⟩

theorem Tbl.all_find {α : Type} {p : α → Bool} {t : Tbl α} {k : Nat} {a : α} (ht : t.all (fun x => p x.2) = true)
    (h : Tbl.find t k = some a) : p a = true := by
  induction t with
  | nil => simp [Tbl.find] at h
  | cons x r ih =>
    obtain ⟨i, b⟩ := x
    simp only [List.all_cons, Bool.and_eq_true] at ht
    unfold Tbl.find at h
    split at h
    · cases h; exact ht.1
    · exact ih ht.2 h

/-! ### Stored bytes -/

theorem Cells.find_eq (c : Cells) (k : Nat) : Cells.find c k = Tbl.find c k := by
  induction c with
  | nil => rfl
  | cons x r ih => obtain ⟨i, b⟩ := x; simp [Cells.find, Tbl.find, ih]

theorem Cells.put_eq (c : Cells) (k : Nat) (v : BitVec 13) : Cells.put c k v = Tbl.put c k v := by
  induction c with
  | nil => rfl
  | cons x r ih => obtain ⟨i, b⟩ := x; simp [Cells.put, Tbl.put, ih]

theorem Cells.del_sublist (c : Cells) (k : Nat) : (Cells.del c k).Sublist c := by
  induction c with
  | nil => exact .slnil
  | cons x r ih =>
    obtain ⟨i, b⟩ := x
    unfold Cells.del
    split
    · exact ih.cons _
    · exact ih.cons_cons _

theorem Cells.find_del_ne (c : Cells) (k j : Nat) (h : j ≠ k) : Cells.find (Cells.del c k) j = Cells.find c j := by
  induction c with
  | nil => rfl
  | cons x r ih =>
    obtain ⟨i, b⟩ := x
    unfold Cells.del
    split
    · rename_i h1; subst h1; simp [Cells.find, h.symm, ih]
    · simp [Cells.find, ih]

theorem Cells.find_del_self (c : Cells) (k : Nat) : Cells.find (Cells.del c k) k = none := by
  induction c with
  | nil => rfl
  | cons x r ih =>
    obtain ⟨i, b⟩ := x
    unfold Cells.del
    split
    · exact ih
    · rename_i h1; simp [Cells.find, h1, ih]

/-! ### One memory -/

theorem MemCtrl.wf_iff (m : MemCtrl) : m.wf = true ↔
    Tbl.rising 0 m.cells = true ∧ Tbl.rising 0 m.test = true ∧ ∀ x ∈ m.cells, m.zeroAt x.1 = true → x.2 ≠ 0#13 := by
  simp only [MemCtrl.wf, Bool.and_eq_true, and_assoc, List.all_eq_true, Bool.or_eq_true, Bool.not_eq_true', bne_iff_ne]
  refine and_congr_right fun _ => and_congr_right fun _ => forall_congr' fun x => forall_congr' fun _ => ?_
  cases m.zeroAt x.1 <;> simp

theorem Tbl.mem_put {α : Type} {t : Tbl α} {k : Nat} {a : α} {x : Nat × α} (h : x ∈ Tbl.put t k a) : x = (k, a) ∨ x ∈ t := by
  induction t with
  | nil => simpa [Tbl.put] using h
  | cons y r ih =>
    obtain ⟨i, b⟩ := y
    unfold Tbl.put at h
    split at h
    · rcases List.mem_cons.1 h with h | h
      · exact .inl h
      · exact .inr (List.mem_cons_of_mem _ h)
    · split at h
      · rcases List.mem_cons.1 h with h | h
        · exact .inl h
        · exact .inr h
      · rcases List.mem_cons.1 h with h | h
        · exact .inr (h ▸ List.mem_cons_self ..)
        · exact (ih h).imp id (List.mem_cons_of_mem _)

@[simp] theorem MemCtrl.ground_store (m : MemCtrl) (ctrl a b : Nat) (c : BitVec 13) : (m.store a c).ground ctrl b = m.ground ctrl b := rfl
@[simp] theorem MemCtrl.zeroAt_store (m : MemCtrl) (a b : Nat) (c : BitVec 13) : (m.store a c).zeroAt b = m.zeroAt b := rfl

/-- Storing a byte keeps the canonical form. -/
theorem MemCtrl.store_wf (m : MemCtrl) (a : Nat) (c : BitVec 13) (h : m.wf = true) : (m.store a c).wf = true := by
  rw [MemCtrl.wf_iff] at h ⊢
  obtain ⟨h1, h2, h3⟩ := h
  by_cases hc : (m.zeroAt a && c == 0#13) = true
  · have he : (m.store a c).cells = m.cells.del a := if_pos hc
    rw [he]
    exact ⟨Tbl.rising_sublist 0 (Cells.del_sublist _ _) h1, h2, fun x hx => h3 x ((Cells.del_sublist _ _).subset hx)⟩
  · have he : (m.store a c).cells = Tbl.put m.cells a c := (if_neg hc).trans (Cells.put_eq _ _ _)
    rw [he]
    refine ⟨Tbl.rising_put _ _ _ _ (Nat.zero_le _) h1, h2, fun x hx hz => ?_⟩
    rcases Tbl.mem_put hx with rfl | hx
    · intro h0
      simp only [zeroAt_store] at hz
      exact hc (by simp [hz, show c = 0#13 from h0])
    · exact h3 x hx hz

/-- Writing a run of bytes keeps the canonical form. -/
theorem MemCtrl.write_wf (m : MemCtrl) (a : Nat) (b : Bytes) (h : m.wf = true) : (m.write a b).wf = true := by
  induction b generalizing m a with
  | nil => exact h
  | cons x r ih => exact ih _ _ (m.store_wf _ _ h)

/-- The address stored to reads as what was stored. -/
theorem MemCtrl.code_store_self (m : MemCtrl) (ctrl a : Nat) (c : BitVec 13) : (m.store a c).code ctrl a = c := by
  unfold MemCtrl.code
  by_cases hc : (m.zeroAt a && c == 0#13) = true
  · have he : (m.store a c).cells = m.cells.del a := if_pos hc
    simp only [he, Cells.find_del_self, ground_store]
    simp only [Bool.and_eq_true, beq_iff_eq, MemCtrl.zeroAt] at hc
    have hg : m.ground ctrl a = .zeros := by
      have := hc.1
      unfold MemCtrl.ground at this ⊢
      split at this
      · rename_i g hg; simpa using this
      · rename_i hg
        split at this
        · rename_i hf; simp [hf]
        · exact absurd this (by simp)
    rw [hg, hc.2]; rfl
  · have he : (m.store a c).cells = Tbl.put m.cells a c := (if_neg hc).trans (Cells.put_eq _ _ _)
    simp only [he, Cells.find_eq, Tbl.find_put_self]

/-- Every other address reads as before. -/
theorem MemCtrl.code_store_ne (m : MemCtrl) (ctrl a b : Nat) (c : BitVec 13) (h : b ≠ a) :
    (m.store a c).code ctrl b = m.code ctrl b := by
  unfold MemCtrl.code
  by_cases hc : (m.zeroAt a && c == 0#13) = true
  · have he : (m.store a c).cells = m.cells.del a := if_pos hc
    simp only [he, Cells.find_del_ne _ _ _ h, ground_store]
  · have he : (m.store a c).cells = Tbl.put m.cells a c := (if_neg hc).trans (Cells.put_eq _ _ _)
    simp only [he, Cells.find_eq, Tbl.find_put_ne _ _ _ _ h, ground_store]

/-- A run of bytes written leaves every address outside it as before. -/
theorem MemCtrl.code_write_ne (m : MemCtrl) (ctrl a x : Nat) (b : Bytes) (h : x < a ∨ a + b.length ≤ x) :
    (m.write a b).code ctrl x = m.code ctrl x := by
  induction b generalizing m a with
  | nil => rfl
  | cons y r ih =>
    simp only [List.length_cons] at h
    exact (ih _ _ (by omega)).trans (m.code_store_ne ctrl a x _ (by omega))

theorem MemCtrl.fill_wf (m : MemCtrl) (h : m.wf = true) : m.fill.wf = true := by
  rw [MemCtrl.wf_iff] at h ⊢
  exact ⟨rfl, h.2.1, fun _ hx => by cases hx⟩

/-! ### New grounds -/

theorem List.find_filter_of {α : Type} {p q : α → Bool} {l : List α} (h : ∀ x ∈ l, p x = true → q x = true) :
    (l.filter q).find? p = l.find? p := by
  induction l with
  | nil => rfl
  | cons x r ih =>
    have ih := ih fun y hy => h y (List.mem_cons_of_mem _ hy)
    by_cases hq : q x = true
    · simp [hq, List.find?_cons, ih]
    · have hp : p x = false := by
        cases hp : p x with
        | false => rfl
        | true => exact absurd (h x (List.mem_cons_self ..) hp) hq
      simp [hq, hp, ih]

/-- Every new ground lies in the ranges. -/
def groundsIn (l : List (Nat × Nat)) (g : List Ground) : Prop :=
  ∀ x ∈ g, ∀ a, x.base ≤ a → a < x.base + x.size → inRanges l a = true

/-- Outside the ranges an unlisted byte holds what it held. -/
theorem MemCtrl.ground_reground (m : MemCtrl) (ctrl a : Nat) {l : List (Nat × Nat)} {g : List Ground} (hg : groundsIn l g)
    (ha : inRanges l a = false) : (m.reground l g).ground ctrl a = m.ground ctrl a := by
  have h1 : g.find? (fun g => decide (g.base ≤ a) && decide (a < g.base + g.size)) = none := by
    rw [List.find?_eq_none]
    intro x hx hp
    simp only [Bool.and_eq_true, decide_eq_true_eq] at hp
    simp [hg x hx a hp.1 hp.2] at ha
  have h2 : ∀ x ∈ m.grounds, (decide (x.base ≤ a) && decide (a < x.base + x.size)) = true →
      (!l.contains (x.base, x.size)) = true := by
    intro x _ hp
    simp only [Bool.not_eq_true']
    cases hc : l.contains (x.base, x.size) with
    | false => rfl
    | true =>
      have : inRanges l a = true := List.any_eq_true.2 ⟨_, List.contains_iff_mem.1 hc, hp⟩
      simp [this] at ha
  unfold MemCtrl.ground MemCtrl.reground
  simp only [List.find?_append, h1, Option.none_or, List.find_filter_of h2]

/-- Outside the ranges every address reads as before. -/
theorem MemCtrl.code_reground (m : MemCtrl) (ctrl a : Nat) {l : List (Nat × Nat)} {g : List Ground} (hg : groundsIn l g)
    (ha : inRanges l a = false) : (m.reground l g).code ctrl a = m.code ctrl a := by
  unfold MemCtrl.code
  rw [m.ground_reground ctrl a hg ha]
  have : (m.reground l g).cells.find a = m.cells.find a := by
    show Cells.find (m.cells.filter (fun x => !inRanges l x.1)) a = m.cells.find a
    induction m.cells with
    | nil => rfl
    | cons x r ih =>
      obtain ⟨i, b⟩ := x
      by_cases hi : i = a
      · subst hi; simp [ha, Cells.find]
      · by_cases hr : inRanges l i = true
        · simpa [List.filter_cons, hr, Cells.find, hi] using ih
        · simpa [List.filter_cons, hr, Cells.find, hi] using ih
  rw [this]

/-- New grounds keep the canonical form. -/
theorem MemCtrl.reground_wf (m : MemCtrl) {l : List (Nat × Nat)} {g : List Ground} (hg : groundsIn l g) (h : m.wf = true) :
    (m.reground l g).wf = true := by
  rw [MemCtrl.wf_iff] at h ⊢
  obtain ⟨h1, h2, h3⟩ := h
  refine ⟨Tbl.rising_sublist 0 List.filter_sublist h1, h2, fun x hx hz => ?_⟩
  obtain ⟨hm, hr⟩ := List.mem_filter.1 hx
  simp only [Bool.not_eq_true'] at hr
  exact h3 x hm ((congrArg (· == Contents.zeros) (m.ground_reground 0 x.1 hg hr)).symm.trans hz)

theorem inRanges_mem {l : List (Nat × Nat)} {r : Nat × Nat} (hr : r ∈ l) {a : Nat} (h1 : r.1 ≤ a) (h2 : a < r.1 + r.2) :
    inRanges l a = true := List.any_eq_true.2 ⟨r, hr, by simp [h1, h2]⟩

theorem groundsIn_cover (l : List ((Nat × Nat) × Contents)) :
    groundsIn (l.map (·.1)) (l.map fun x => ⟨x.1.1, x.1.2, x.2⟩) := by
  intro x hx a h1 h2
  obtain ⟨y, hy, rfl⟩ := List.mem_map.1 hx
  exact inRanges_mem (List.mem_map_of_mem hy) h1 h2

theorem MemCtrl.cover_wf (m : MemCtrl) (l : List ((Nat × Nat) × Contents)) (h : m.wf = true) : (m.cover l).wf = true :=
  m.reground_wf (groundsIn_cover l) h

theorem MemCtrl.undefine_wf (m : MemCtrl) (ctrl n : Nat) (l : List (Nat × Nat)) (h : m.wf = true) :
    (m.undefine ctrl n l).wf = true := m.cover_wf _ h

theorem MemCtrl.fold_wf {β : Type} {g : MemCtrl → β → MemCtrl} (hg : ∀ m x, m.wf = true → (g m x).wf = true) (l : List β)
    {m : MemCtrl} (h : m.wf = true) : (l.foldl g m).wf = true := by
  induction l generalizing m with
  | nil => exact h
  | cons x r ih => exact ih (hg m x h)

theorem MemCtrl.writes_wf (w : List (Nat × Bytes)) (m : MemCtrl) (h : m.wf = true) :
    (w.foldl (fun m x => m.write x.1 x.2) m).wf = true := MemCtrl.fold_wf (fun m _ hm => m.write_wf _ _ hm) w h

theorem MemCtrl.copyFrom_wf (m : MemCtrl) (ctrl : Nat) (src : MemCtrl) (l : List (Nat × Nat)) (h : m.wf = true) :
    (m.copyFrom ctrl src l).wf = true := by
  refine MemCtrl.fold_wf (fun m x hm => m.store_wf _ _ hm) _ (m.reground_wf ?_ h)
  intro x hx a h1 h2
  obtain ⟨r, hr, hx⟩ := List.mem_flatMap.1 hx
  refine inRanges_mem hr ?_ ?_ <;>
    (rcases List.mem_append.1 hx with hx | hx
     · obtain ⟨g, _, rfl⟩ := List.mem_map.1 hx
       simp only [Ground.clip] at h1 h2; omega
     · simp only [List.mem_singleton] at hx; subst hx; simp_all)

theorem resetMemCtrl_wf (c : Nat) : (resetMemCtrl c).wf = true := by
  rw [MemCtrl.wf_iff]; exact ⟨rfl, rfl, fun _ hx => by cases hx⟩

/-! ### All memories -/

theorem MemSt.wf_iff (m : MemSt) : m.wf = true ↔ Tbl.rising 0 m.ctrls = true ∧ m.ctrls.all (fun x => x.2.wf) = true := by
  simp [MemSt.wf]

theorem State.memc_wf (s : State) (c : Nat) (h : s.mem.wf = true) : (s.memc c).wf = true := by
  rw [MemSt.wf_iff] at h
  unfold State.memc Tbl.getD
  cases hf : Tbl.find s.mem.ctrls c with
  | none => exact resetMemCtrl_wf c
  | some m => exact Tbl.all_find (p := MemCtrl.wf) h.2 hf

/-- A change of one memory that keeps its form keeps the form of all. -/
theorem State.updMem_wf (s : State) (c : Nat) (f : MemCtrl → MemCtrl) (hf : ∀ m : MemCtrl, m.wf = true → (f m).wf = true)
    (h : s.mem.wf = true) : (s.updMem c f).mem.wf = true := by
  have h0 := hf _ (s.memc_wf c h)
  rw [MemSt.wf_iff] at h ⊢
  exact ⟨Tbl.rising_put _ _ _ _ (Nat.zero_le _) h.1, Tbl.all_put (p := MemCtrl.wf) h0 h.2⟩

theorem State.dramWrite_wf (s : State) (l : Lane) (a : Nat) (b : Bytes) (h : s.mem.wf = true) :
    (s.dramWrite l a b).mem.wf = true := by
  unfold State.dramWrite
  by_cases hd : s.domain (if l = .main then 3 else 5) = true
  · rw [if_pos hd]; exact s.updMem_wf _ _ (fun m hm => m.write_wf a b hm) h
  · rw [if_neg hd]; exact h

end Sys2Proof.Machine
end

