-- ==== Sys2Proof/WellFormed.lean ====
section
/-!
DEFINITION. Well-formed commands: every operand lies in the field or the range the manual gives it, and a request names the
path it came by (04 Tables 04-1, 04-2 and 04-6).
-/
namespace Sys2Proof

/-- A path by which a transport unit enters the module (04 R101). -/
def externalPath : Path → Bool
  | .eth port ip udp => decide (port ≤ 3) && decide (ip < 4294967296) && decide (udp ≤ 65535)
  | .stay port => decide (port ≤ 3)
  | .service => true
  | .mailbox _ => false
  | .initial => false
  | .firmware _ => false

/-- `ORIGIN` names the path, but for its station: `PORT_KIND`, `PORT_INDEX` and `LANE` (04 Table 04-6). Initial commands come
from an image only. -/
def originNames (path : Path) (origin : Nat) : Bool :=
  let kind := origin / 4096 % 16
  let index := origin / 65536 % 4096
  let lane := origin / 1073741824
  match path with
  | .eth port _ _ => kind == 1 && index == port && lane == 0
  | .stay _ => decide (kind ≤ 3) && lane == 0
  | .service => kind == 3 && index == 0 && lane == 0
  | .mailbox task => kind == 0 && index == task && lane == 0 && origin / 268435456 % 4 == 0
  | .initial => false
  | .firmware l => kind == 5 && lane == l.code + 1

/-- The path's own numbers lie in their ranges. -/
def pathOk : Path → Bool
  | .eth port ip udp => externalPath (.eth port ip udp)
  | .stay port => decide (port ≤ 3)
  | .service => true
  | .mailbox task => decide (task ≤ 4095)
  | .initial => true
  | .firmware _ => true

/-- Every header field of a request fits its width, and its payload its largest length. -/
structure Request.Fits (r : Request) : Prop where
  target   : r.target < 65536
  sequence : r.sequence < 4294967296
  origin   : r.origin < 4294967296
  boundary : r.boundary < 4294967296
  tag      : r.tag < 18446744073709551616
  payload  : r.payload.length ≤ 4064

/-- The same as a test. -/
def Request.fits (r : Request) : Bool :=
  decide (r.target < 65536) && decide (r.sequence < 4294967296) && decide (r.origin < 4294967296) &&
  decide (r.boundary < 4294967296) && decide (r.tag < 18446744073709551616) && decide (r.payload.length ≤ 4064)

/-- A request is well formed. -/
def Request.ok (r : Request) : Bool := r.fits && pathOk r.path && originNames r.path r.origin

/-- Ticks that pass before the command. -/
def Instr.dt : Instr → Nat
  | .timeGetStatus dt _ => dt
  | .timeSetLeap dt _ => dt
  | .timeSetManual dt _ => dt
  | .schedLoadBegin dt _ => dt
  | .schedLoadData dt _ => dt
  | .schedLoadEnd dt _ => dt
  | .schedActivate dt _ => dt
  | .schedSetStartBank dt _ => dt
  | .schedGetStatus dt _ => dt
  | .sysGetInfo dt _ => dt
  | .sysSetKey dt _ => dt
  | .sysClearOrigins dt _ => dt
  | .sysGetPacketCounters dt _ => dt
  | .laneGetStatus dt _ => dt
  | .laneSetPolicy dt _ => dt
  | .laneSetDedupWindow dt _ => dt
  | .laneGetReceiverCounters dt _ => dt
  | .laneRequestBurst dt _ => dt
  | .laneRequestSwitch dt _ => dt
  | .laneRecover dt _ => dt
  | .laneResyncRequest dt _ => dt
  | .ctrlSetLoop dt _ => dt
  | .ctrlSetCoeffs dt _ => dt
  | .ctrlSetClamp dt _ => dt
  | .ctrlPresetState dt _ => dt
  | .ctrlGetLoop dt _ => dt
  | .ctrlGetStatus dt _ => dt
  | .ctrlClearCounters dt _ => dt
  | .chanSetConfig dt _ => dt
  | .chanGetConfig dt _ => dt
  | .chanGetStatus dt _ => dt
  | .chanGetSupply dt _ => dt
  | .chanClearCounters dt _ => dt
  | .chanSetProtection dt _ => dt
  | .chanGetProtection dt _ => dt
  | .chanReleaseLatch dt _ => dt
  | .chanRefillRetry dt _ => dt
  | .chanStopReset dt _ => dt
  | .chanGetGeneration dt _ => dt
  | .chanAdopt dt _ => dt
  | .senseSetInput dt _ => dt
  | .senseSetLoss dt _ => dt
  | .senseSetBridge dt _ => dt
  | .senseSetSupply dt _ => dt
  | .senseGetStatus dt _ => dt
  | .yieldSetGrid dt _ => dt
  | .yieldSetSources dt _ => dt
  | .yieldClearGrid dt _ => dt
  | .yieldGetTotals dt _ => dt
  | .camSetPort dt _ => dt
  | .camSetGeometry dt _ => dt
  | .camSetLinear dt _ => dt
  | .camSetExposure dt _ => dt
  | .camSensorTransfer dt _ => dt
  | .camGetStatus dt _ => dt
  | .camClearCounters dt _ => dt
  | .camSetCfa dt _ => dt
  | .camSetWb dt _ => dt
  | .camSetMatrix dt _ => dt
  | .camSetTone dt _ => dt
  | .camSetStream dt _ => dt
  | .camSetStats dt _ => dt
  | .camGetStreamStatus dt _ => dt
  | .fusionSetSource dt _ => dt
  | .fusionSetRound dt _ => dt
  | .fusionSetCanvas dt _ => dt
  | .fusionResetState dt _ => dt
  | .fusionNetLoadBegin dt _ => dt
  | .fusionNetLoadData dt _ => dt
  | .fusionNetLoadEnd dt _ => dt
  | .fusionGetRoundStatus dt _ => dt
  | .fusionGetSourceStatus dt _ => dt
  | .fusionGetNetStatus dt _ => dt
  | .fusionClearCounters dt _ => dt
  | .gnssSetConfig dt _ => dt
  | .gnssSetTimePulse dt _ => dt
  | .gnssSetWatch dt _ => dt
  | .gnssAid dt _ => dt
  | .gnssResetData dt _ => dt
  | .gnssGetStatus dt _ => dt
  | .gnssClearCounters dt _ => dt
  | .canSetPort dt _ => dt
  | .canSetFilters dt _ => dt
  | .canRecover dt _ => dt
  | .canGetStatus dt _ => dt
  | .canClearCounters dt _ => dt
  | .stayJoin dt _ => dt
  | .stayLeave dt _ => dt
  | .stayGetStatus dt _ => dt
  | .stayGetStation dt _ => dt
  | .ethSetPort dt _ => dt
  | .ethGetStatus dt _ => dt
  | .stayClearCounters dt _ => dt
  | .memSetMode dt _ => dt
  | .memSetPatrol dt _ => dt
  | .memGetStatus dt _ => dt
  | .memClearLog dt _ => dt
  | .memRewrite dt _ => dt
  | .memTestWrite dt _ => dt
  | .memTestRead dt _ => dt
  | .memSetFill dt _ => dt
  | .recRead dt _ => dt
  | .recReadTrouble dt _ => dt
  | .recGetStatus dt _ => dt
  | .recFreeze dt _ => dt
  | .recUnfreeze dt _ => dt
  | .recClear dt _ => dt
  | .recSetRate dt _ => dt
  | .recGetRate dt _ => dt
  | .pwrSetDomain dt _ => dt
  | .pwrGetStatus dt _ => dt
  | .pwrSetConfig dt _ => dt
  | .pwrEnterLow dt _ => dt
  | .pwrReset dt _ => dt
  | .halyardUnitArrival dt _ _ => dt
  | .halyardReplyReceived dt _ _ => dt
  | .slotStart dt _ => dt
  | .majorBoundary dt _ => dt
  | .taskFinish dt _ _ _ => dt
  | .taskCommit dt _ _ => dt
  | .taskBudgetExpiry dt _ _ => dt
  | .taskWindowFault dt _ _ _ _ => dt
  | .transferSend dt _ _ => dt
  | .receiverCopyArrival dt _ _ _ => dt
  | .dedupWindowExpiry dt _ _ => dt
  | .pairLimitExpiry dt _ _ => dt
  | .heartbeatReceived dt _ => dt
  | .heartbeatTimerExpiry dt _ => dt
  | .heartbeatAckReceived dt _ => dt
  | .laneFatalFault dt _ => dt
  | .healthReportReceived dt _ => dt
  | .discrepancyReportReceived dt => dt
  | .scheduleOverrunReceived dt => dt
  | .overrunClassify dt => dt
  | .commitDigestArrival dt => dt
  | .commitDigestCompare dt => dt
  | .burstResultReceived dt _ => dt
  | .burstResultDeadline dt => dt
  | .resetHoldExpiry dt _ => dt
  | .laneReadyReport dt _ => dt
  | .laneReadyTimeout dt _ => dt
  | .resyncCopyComplete dt _ => dt
  | .loopPeriodBoundary dt _ => dt
  | .loopStart dt _ _ => dt
  | .loopResultReady dt _ _ => dt
  | .loopOutputRelease dt _ _ => dt
  | .pwmPeriodStart dt _ => dt
  | .channelSampleEnd dt _ _ => dt
  | .supplySampleEnd dt _ => dt
  | .overcurrentFast dt _ _ => dt
  | .inrushWindowEnd dt _ => dt
  | .retry dt _ => dt
  | .thermalLatch dt _ => dt
  | .freewheelMissing dt _ => dt
  | .freewheelWatchEnd dt _ _ _ => dt
  | .stopAsserted dt => dt
  | .stopDeasserted dt => dt
  | .universalSampleEnd dt _ => dt
  | .shuntOpen dt _ => dt
  | .shuntTrial dt _ _ => dt
  | .lossHitEnd dt _ _ => dt
  | .lossIntervalEnd dt _ _ => dt
  | .capCheckComplete dt _ _ => dt
  | .bridgeSampleEnd dt _ _ => dt
  | .bridgeWireBreak dt _ _ => dt
  | .sensorSupplyTrip dt _ => dt
  | .sensorSupplyRetry dt _ _ => dt
  | .yieldStepProcess dt => dt
  | .yieldCellWrite dt => dt
  | .frameValidRise dt _ => dt
  | .lineEnd dt _ _ => dt
  | .frameValidFall dt _ => dt
  | .frameTimeout dt _ => dt
  | .cameraClockLost dt _ => dt
  | .pclkMeasure dt _ _ => dt
  | .cameraWriteSlot dt _ => dt
  | .linkTransactionEnd dt _ _ => dt
  | .fusionRoundInstant dt _ => dt
  | .pointCloudDatagram dt _ _ => dt
  | .fusionSampleArrival dt _ => dt
  | .roundWaitExpiry dt _ => dt
  | .roundNetworkComplete dt => dt
  | .roundOutputWritten dt => dt
  | .roundRelease dt _ => dt
  | .netSlotCopyComplete dt _ => dt
  | .gnssEpoch dt _ => dt
  | .gnssDelivery dt => dt
  | .exclusionExpiry dt _ => dt
  | .antennaOpen dt _ _ _ => dt
  | .antennaSupplyFault dt _ _ => dt
  | .antennaSupplyRetry dt _ _ => dt
  | .timeStepApplied dt => dt
  | .slewComplete dt => dt
  | .leapSecondEffective dt => dt
  | .timePulseStart dt _ => dt
  | .timePulseEnd dt _ => dt
  | .watchBurst dt _ => dt
  | .gnssDataSave dt => dt
  | .canTxComplete dt _ => dt
  | .canBusError dt _ _ => dt
  | .canFrameReceived dt _ _ => dt
  | .busRecovered dt _ => dt
  | .detectDwellExpiry dt _ => dt
  | .canStatusProduce dt => dt
  | .stayFrameReceived dt _ _ => dt
  | .timeFrameSend dt => dt
  | .timeFrameReceived dt _ _ => dt
  | .listenerTimeStep dt => dt
  | .gridShiftAdopt dt => dt
  | .peerDelayRequest dt _ => dt
  | .masterElectionTimeout dt => dt
  | .masterLost dt => dt
  | .beaconSend dt => dt
  | .controlFrameReceived dt _ => dt
  | .stayLinkChange dt _ _ => dt
  | .ethFrameReceived dt _ _ => dt
  | .gptpSyncSend dt _ => dt
  | .sramPatrol dt _ => dt
  | .memFillDone dt _ => dt
  | .eventRecordArrival dt => dt
  | .recordCommit dt => dt
  | .tokenRefill dt _ => dt
  | .freezeExpired dt => dt
  | .changeLogEntry dt => dt
  | .powerOn dt _ => dt
  | .esupMeasure dt _ => dt
  | .supplyFail dt => dt
  | .wakeChange dt _ => dt
  | .canWakePattern dt _ => dt
  | .rtcAlarm dt => dt
  | .moduleStart dt => dt
  | .startPhaseComplete dt => dt
  | .startupWaitExpiry dt => dt
  | .startupBoundary dt => dt
  | .runOnExpiry dt => dt
  | .moduleResetBegin dt => dt
  | .connectorMated dt _ => dt
  | .connectorUnmated dt _ => dt
  | .thermalWarning dt _ _ => dt
  | .thermalLimit dt _ => dt
  | .laneStopped dt _ => dt
  | .crosstreeStopped dt => dt
  | .crosstreeResumed dt => dt
  | .canIntegrationComplete dt _ => dt
  | .ethLinkChange dt _ _ => dt

/-- The request of an opcode; none for an event. -/
def Instr.request : Instr → Option Request
  | .timeGetStatus _ r => some r
  | .timeSetLeap _ r => some r
  | .timeSetManual _ r => some r
  | .schedLoadBegin _ r => some r
  | .schedLoadData _ r => some r
  | .schedLoadEnd _ r => some r
  | .schedActivate _ r => some r
  | .schedSetStartBank _ r => some r
  | .schedGetStatus _ r => some r
  | .sysGetInfo _ r => some r
  | .sysSetKey _ r => some r
  | .sysClearOrigins _ r => some r
  | .sysGetPacketCounters _ r => some r
  | .laneGetStatus _ r => some r
  | .laneSetPolicy _ r => some r
  | .laneSetDedupWindow _ r => some r
  | .laneGetReceiverCounters _ r => some r
  | .laneRequestBurst _ r => some r
  | .laneRequestSwitch _ r => some r
  | .laneRecover _ r => some r
  | .laneResyncRequest _ r => some r
  | .ctrlSetLoop _ r => some r
  | .ctrlSetCoeffs _ r => some r
  | .ctrlSetClamp _ r => some r
  | .ctrlPresetState _ r => some r
  | .ctrlGetLoop _ r => some r
  | .ctrlGetStatus _ r => some r
  | .ctrlClearCounters _ r => some r
  | .chanSetConfig _ r => some r
  | .chanGetConfig _ r => some r
  | .chanGetStatus _ r => some r
  | .chanGetSupply _ r => some r
  | .chanClearCounters _ r => some r
  | .chanSetProtection _ r => some r
  | .chanGetProtection _ r => some r
  | .chanReleaseLatch _ r => some r
  | .chanRefillRetry _ r => some r
  | .chanStopReset _ r => some r
  | .chanGetGeneration _ r => some r
  | .chanAdopt _ r => some r
  | .senseSetInput _ r => some r
  | .senseSetLoss _ r => some r
  | .senseSetBridge _ r => some r
  | .senseSetSupply _ r => some r
  | .senseGetStatus _ r => some r
  | .yieldSetGrid _ r => some r
  | .yieldSetSources _ r => some r
  | .yieldClearGrid _ r => some r
  | .yieldGetTotals _ r => some r
  | .camSetPort _ r => some r
  | .camSetGeometry _ r => some r
  | .camSetLinear _ r => some r
  | .camSetExposure _ r => some r
  | .camSensorTransfer _ r => some r
  | .camGetStatus _ r => some r
  | .camClearCounters _ r => some r
  | .camSetCfa _ r => some r
  | .camSetWb _ r => some r
  | .camSetMatrix _ r => some r
  | .camSetTone _ r => some r
  | .camSetStream _ r => some r
  | .camSetStats _ r => some r
  | .camGetStreamStatus _ r => some r
  | .fusionSetSource _ r => some r
  | .fusionSetRound _ r => some r
  | .fusionSetCanvas _ r => some r
  | .fusionResetState _ r => some r
  | .fusionNetLoadBegin _ r => some r
  | .fusionNetLoadData _ r => some r
  | .fusionNetLoadEnd _ r => some r
  | .fusionGetRoundStatus _ r => some r
  | .fusionGetSourceStatus _ r => some r
  | .fusionGetNetStatus _ r => some r
  | .fusionClearCounters _ r => some r
  | .gnssSetConfig _ r => some r
  | .gnssSetTimePulse _ r => some r
  | .gnssSetWatch _ r => some r
  | .gnssAid _ r => some r
  | .gnssResetData _ r => some r
  | .gnssGetStatus _ r => some r
  | .gnssClearCounters _ r => some r
  | .canSetPort _ r => some r
  | .canSetFilters _ r => some r
  | .canRecover _ r => some r
  | .canGetStatus _ r => some r
  | .canClearCounters _ r => some r
  | .stayJoin _ r => some r
  | .stayLeave _ r => some r
  | .stayGetStatus _ r => some r
  | .stayGetStation _ r => some r
  | .ethSetPort _ r => some r
  | .ethGetStatus _ r => some r
  | .stayClearCounters _ r => some r
  | .memSetMode _ r => some r
  | .memSetPatrol _ r => some r
  | .memGetStatus _ r => some r
  | .memClearLog _ r => some r
  | .memRewrite _ r => some r
  | .memTestWrite _ r => some r
  | .memTestRead _ r => some r
  | .memSetFill _ r => some r
  | .recRead _ r => some r
  | .recReadTrouble _ r => some r
  | .recGetStatus _ r => some r
  | .recFreeze _ r => some r
  | .recUnfreeze _ r => some r
  | .recClear _ r => some r
  | .recSetRate _ r => some r
  | .recGetRate _ r => some r
  | .pwrSetDomain _ r => some r
  | .pwrGetStatus _ r => some r
  | .pwrSetConfig _ r => some r
  | .pwrEnterLow _ r => some r
  | .pwrReset _ r => some r
  | .halyardUnitArrival _ _ _ => none
  | .halyardReplyReceived _ _ _ => none
  | .slotStart _ _ => none
  | .majorBoundary _ _ => none
  | .taskFinish _ _ _ _ => none
  | .taskCommit _ _ _ => none
  | .taskBudgetExpiry _ _ _ => none
  | .taskWindowFault _ _ _ _ _ => none
  | .transferSend _ _ _ => none
  | .receiverCopyArrival _ _ _ _ => none
  | .dedupWindowExpiry _ _ _ => none
  | .pairLimitExpiry _ _ _ => none
  | .heartbeatReceived _ _ => none
  | .heartbeatTimerExpiry _ _ => none
  | .heartbeatAckReceived _ _ => none
  | .laneFatalFault _ _ => none
  | .healthReportReceived _ _ => none
  | .discrepancyReportReceived _ => none
  | .scheduleOverrunReceived _ => none
  | .overrunClassify _ => none
  | .commitDigestArrival _ => none
  | .commitDigestCompare _ => none
  | .burstResultReceived _ _ => none
  | .burstResultDeadline _ => none
  | .resetHoldExpiry _ _ => none
  | .laneReadyReport _ _ => none
  | .laneReadyTimeout _ _ => none
  | .resyncCopyComplete _ _ => none
  | .loopPeriodBoundary _ _ => none
  | .loopStart _ _ _ => none
  | .loopResultReady _ _ _ => none
  | .loopOutputRelease _ _ _ => none
  | .pwmPeriodStart _ _ => none
  | .channelSampleEnd _ _ _ => none
  | .supplySampleEnd _ _ => none
  | .overcurrentFast _ _ _ => none
  | .inrushWindowEnd _ _ => none
  | .retry _ _ => none
  | .thermalLatch _ _ => none
  | .freewheelMissing _ _ => none
  | .freewheelWatchEnd _ _ _ _ => none
  | .stopAsserted _ => none
  | .stopDeasserted _ => none
  | .universalSampleEnd _ _ => none
  | .shuntOpen _ _ => none
  | .shuntTrial _ _ _ => none
  | .lossHitEnd _ _ _ => none
  | .lossIntervalEnd _ _ _ => none
  | .capCheckComplete _ _ _ => none
  | .bridgeSampleEnd _ _ _ => none
  | .bridgeWireBreak _ _ _ => none
  | .sensorSupplyTrip _ _ => none
  | .sensorSupplyRetry _ _ _ => none
  | .yieldStepProcess _ => none
  | .yieldCellWrite _ => none
  | .frameValidRise _ _ => none
  | .lineEnd _ _ _ => none
  | .frameValidFall _ _ => none
  | .frameTimeout _ _ => none
  | .cameraClockLost _ _ => none
  | .pclkMeasure _ _ _ => none
  | .cameraWriteSlot _ _ => none
  | .linkTransactionEnd _ _ _ => none
  | .fusionRoundInstant _ _ => none
  | .pointCloudDatagram _ _ _ => none
  | .fusionSampleArrival _ _ => none
  | .roundWaitExpiry _ _ => none
  | .roundNetworkComplete _ => none
  | .roundOutputWritten _ => none
  | .roundRelease _ _ => none
  | .netSlotCopyComplete _ _ => none
  | .gnssEpoch _ _ => none
  | .gnssDelivery _ => none
  | .exclusionExpiry _ _ => none
  | .antennaOpen _ _ _ _ => none
  | .antennaSupplyFault _ _ _ => none
  | .antennaSupplyRetry _ _ _ => none
  | .timeStepApplied _ => none
  | .slewComplete _ => none
  | .leapSecondEffective _ => none
  | .timePulseStart _ _ => none
  | .timePulseEnd _ _ => none
  | .watchBurst _ _ => none
  | .gnssDataSave _ => none
  | .canTxComplete _ _ => none
  | .canBusError _ _ _ => none
  | .canFrameReceived _ _ _ => none
  | .busRecovered _ _ => none
  | .detectDwellExpiry _ _ => none
  | .canStatusProduce _ => none
  | .stayFrameReceived _ _ _ => none
  | .timeFrameSend _ => none
  | .timeFrameReceived _ _ _ => none
  | .listenerTimeStep _ => none
  | .gridShiftAdopt _ => none
  | .peerDelayRequest _ _ => none
  | .masterElectionTimeout _ => none
  | .masterLost _ => none
  | .beaconSend _ => none
  | .controlFrameReceived _ _ => none
  | .stayLinkChange _ _ _ => none
  | .ethFrameReceived _ _ _ => none
  | .gptpSyncSend _ _ => none
  | .sramPatrol _ _ => none
  | .memFillDone _ _ => none
  | .eventRecordArrival _ => none
  | .recordCommit _ => none
  | .tokenRefill _ _ => none
  | .freezeExpired _ => none
  | .changeLogEntry _ => none
  | .powerOn _ _ => none
  | .esupMeasure _ _ => none
  | .supplyFail _ => none
  | .wakeChange _ _ => none
  | .canWakePattern _ _ => none
  | .rtcAlarm _ => none
  | .moduleStart _ => none
  | .startPhaseComplete _ => none
  | .startupWaitExpiry _ => none
  | .startupBoundary _ => none
  | .runOnExpiry _ => none
  | .moduleResetBegin _ => none
  | .connectorMated _ _ => none
  | .connectorUnmated _ _ => none
  | .thermalWarning _ _ _ => none
  | .thermalLimit _ _ => none
  | .laneStopped _ _ => none
  | .crosstreeStopped _ => none
  | .crosstreeResumed _ => none
  | .canIntegrationComplete _ _ => none
  | .ethLinkChange _ _ _ => none

/-- A task and a core of the image's ranges (03 Tables 03-4 and 03-6). -/
def TaskOn.fits (x : TaskOn) : Bool := decide (x.task ≤ 4095) && decide (x.core ≤ 11)

/-- The operands of an event lie in their ranges. -/
def Instr.operandsOk : Instr → Bool
  | .timeGetStatus _ _ => true
  | .timeSetLeap _ _ => true
  | .timeSetManual _ _ => true
  | .schedLoadBegin _ _ => true
  | .schedLoadData _ _ => true
  | .schedLoadEnd _ _ => true
  | .schedActivate _ _ => true
  | .schedSetStartBank _ _ => true
  | .schedGetStatus _ _ => true
  | .sysGetInfo _ _ => true
  | .sysSetKey _ _ => true
  | .sysClearOrigins _ _ => true
  | .sysGetPacketCounters _ _ => true
  | .laneGetStatus _ _ => true
  | .laneSetPolicy _ _ => true
  | .laneSetDedupWindow _ _ => true
  | .laneGetReceiverCounters _ _ => true
  | .laneRequestBurst _ _ => true
  | .laneRequestSwitch _ _ => true
  | .laneRecover _ _ => true
  | .laneResyncRequest _ _ => true
  | .ctrlSetLoop _ _ => true
  | .ctrlSetCoeffs _ _ => true
  | .ctrlSetClamp _ _ => true
  | .ctrlPresetState _ _ => true
  | .ctrlGetLoop _ _ => true
  | .ctrlGetStatus _ _ => true
  | .ctrlClearCounters _ _ => true
  | .chanSetConfig _ _ => true
  | .chanGetConfig _ _ => true
  | .chanGetStatus _ _ => true
  | .chanGetSupply _ _ => true
  | .chanClearCounters _ _ => true
  | .chanSetProtection _ _ => true
  | .chanGetProtection _ _ => true
  | .chanReleaseLatch _ _ => true
  | .chanRefillRetry _ _ => true
  | .chanStopReset _ _ => true
  | .chanGetGeneration _ _ => true
  | .chanAdopt _ _ => true
  | .senseSetInput _ _ => true
  | .senseSetLoss _ _ => true
  | .senseSetBridge _ _ => true
  | .senseSetSupply _ _ => true
  | .senseGetStatus _ _ => true
  | .yieldSetGrid _ _ => true
  | .yieldSetSources _ _ => true
  | .yieldClearGrid _ _ => true
  | .yieldGetTotals _ _ => true
  | .camSetPort _ _ => true
  | .camSetGeometry _ _ => true
  | .camSetLinear _ _ => true
  | .camSetExposure _ _ => true
  | .camSensorTransfer _ _ => true
  | .camGetStatus _ _ => true
  | .camClearCounters _ _ => true
  | .camSetCfa _ _ => true
  | .camSetWb _ _ => true
  | .camSetMatrix _ _ => true
  | .camSetTone _ _ => true
  | .camSetStream _ _ => true
  | .camSetStats _ _ => true
  | .camGetStreamStatus _ _ => true
  | .fusionSetSource _ _ => true
  | .fusionSetRound _ _ => true
  | .fusionSetCanvas _ _ => true
  | .fusionResetState _ _ => true
  | .fusionNetLoadBegin _ _ => true
  | .fusionNetLoadData _ _ => true
  | .fusionNetLoadEnd _ _ => true
  | .fusionGetRoundStatus _ _ => true
  | .fusionGetSourceStatus _ _ => true
  | .fusionGetNetStatus _ _ => true
  | .fusionClearCounters _ _ => true
  | .gnssSetConfig _ _ => true
  | .gnssSetTimePulse _ _ => true
  | .gnssSetWatch _ _ => true
  | .gnssAid _ _ => true
  | .gnssResetData _ _ => true
  | .gnssGetStatus _ _ => true
  | .gnssClearCounters _ _ => true
  | .canSetPort _ _ => true
  | .canSetFilters _ _ => true
  | .canRecover _ _ => true
  | .canGetStatus _ _ => true
  | .canClearCounters _ _ => true
  | .stayJoin _ _ => true
  | .stayLeave _ _ => true
  | .stayGetStatus _ _ => true
  | .stayGetStation _ _ => true
  | .ethSetPort _ _ => true
  | .ethGetStatus _ _ => true
  | .stayClearCounters _ _ => true
  | .memSetMode _ _ => true
  | .memSetPatrol _ _ => true
  | .memGetStatus _ _ => true
  | .memClearLog _ _ => true
  | .memRewrite _ _ => true
  | .memTestWrite _ _ => true
  | .memTestRead _ _ => true
  | .memSetFill _ _ => true
  | .recRead _ _ => true
  | .recReadTrouble _ _ => true
  | .recGetStatus _ _ => true
  | .recFreeze _ _ => true
  | .recUnfreeze _ _ => true
  | .recClear _ _ => true
  | .recSetRate _ _ => true
  | .recGetRate _ _ => true
  | .pwrSetDomain _ _ => true
  | .pwrGetStatus _ _ => true
  | .pwrSetConfig _ _ => true
  | .pwrEnterLow _ _ => true
  | .pwrReset _ _ => true
  | .halyardUnitArrival _ path unit => externalPath path && decide (unit.length ≤ 65507)
  | .halyardReplyReceived _ path unit => externalPath path && decide (unit.length ≤ 65507)
  | .slotStart _ faults => faults.coreFail.all (fun x => decide (x.2 ≤ 11))
  | .majorBoundary _ canBusy => decide (canBusy ≤ 4095)
  | .taskFinish _ _ task _ => task.fits
  | .taskCommit _ _ task => task.fits
  | .taskBudgetExpiry _ _ task => task.fits
  | .taskWindowFault _ _ task address _ => task.fits && decide (address < 17179869184)
  | .transferSend _ _ entry => decide (entry ≤ 16777215)
  | .receiverCopyArrival _ _ block resource => decide (1 ≤ block) && decide (block ≤ 11) && decide (resource ≤ 255)
  | .dedupWindowExpiry _ block resource => decide (1 ≤ block) && decide (block ≤ 11) && decide (resource ≤ 255)
  | .pairLimitExpiry _ block resource => decide (1 ≤ block) && decide (block ≤ 11) && decide (resource ≤ 255)
  | .heartbeatReceived _ _ => true
  | .heartbeatTimerExpiry _ _ => true
  | .heartbeatAckReceived _ _ => true
  | .laneFatalFault _ _ => true
  | .healthReportReceived _ _ => true
  | .discrepancyReportReceived _ => true
  | .scheduleOverrunReceived _ => true
  | .overrunClassify _ => true
  | .commitDigestArrival _ => true
  | .commitDigestCompare _ => true
  | .burstResultReceived _ _ => true
  | .burstResultDeadline _ => true
  | .resetHoldExpiry _ _ => true
  | .laneReadyReport _ _ => true
  | .laneReadyTimeout _ _ => true
  | .resyncCopyComplete _ _ => true
  | .loopPeriodBoundary _ loop => decide (loop ≤ 511)
  | .loopStart _ _ x => decide (x.pipeline ≤ 3) && x.found.all (fun b => decide (b.1 < 4194304))
  | .loopResultReady _ _ loop => decide (loop ≤ 511)
  | .loopOutputRelease _ _ loop => decide (loop ≤ 511)
  | .pwmPeriodStart _ chan => decide (chan ≤ 103)
  | .channelSampleEnd _ chan _ => decide (chan ≤ 103)
  | .supplySampleEnd _ sample => decide (sample.volts.length = 4) && decide (sample.currents.length = 4)
  | .overcurrentFast _ chan _ => decide (chan ≤ 103)
  | .inrushWindowEnd _ chan => decide (chan ≤ 103)
  | .retry _ chan => decide (chan ≤ 103)
  | .thermalLatch _ chan => decide (chan ≤ 103)
  | .freewheelMissing _ chan => decide (chan ≤ 103)
  | .freewheelWatchEnd _ chan _ _ => decide (chan ≤ 103)
  | .stopAsserted _ => true
  | .stopDeasserted _ => true
  | .universalSampleEnd _ _ => true
  | .shuntOpen _ input => decide (input ≤ 135)
  | .shuntTrial _ input _ => decide (input ≤ 135)
  | .lossHitEnd _ input _ => decide (input ≤ 135)
  | .lossIntervalEnd _ input peak => decide (input ≤ 135) && decide (peak ≤ 65535)
  | .capCheckComplete _ input _ => decide (input ≤ 135)
  | .bridgeSampleEnd _ input _ => decide (input ≤ 135)
  | .bridgeWireBreak _ input _ => decide (input ≤ 135)
  | .sensorSupplyTrip _ supply => decide (supply ≤ 7)
  | .sensorSupplyRetry _ supply _ => decide (supply ≤ 7)
  | .yieldStepProcess _ => true
  | .yieldCellWrite _ => true
  | .frameValidRise _ port => decide (port ≤ 7)
  | .lineEnd _ port _ => decide (port ≤ 7)
  | .frameValidFall _ port => decide (port ≤ 7)
  | .frameTimeout _ port => decide (port ≤ 7)
  | .cameraClockLost _ port => decide (port ≤ 7)
  | .pclkMeasure _ port _ => decide (port ≤ 7)
  | .cameraWriteSlot _ port => decide (port ≤ 7)
  | .linkTransactionEnd _ port result => decide (port ≤ 7) && decide (result.outcome ≤ 2)
  | .fusionRoundInstant _ round => decide (round ≤ 7)
  | .pointCloudDatagram _ source datagram => decide (source ≤ 15) && decide (datagram.length ≤ 65507)
  | .fusionSampleArrival _ source => decide (source ≤ 15)
  | .roundWaitExpiry _ round => decide (round ≤ 7)
  | .roundNetworkComplete _ => true
  | .roundOutputWritten _ => true
  | .roundRelease _ round => decide (round ≤ 7)
  | .netSlotCopyComplete _ slot => decide (slot ≤ 7)
  | .gnssEpoch _ _ => true
  | .gnssDelivery _ => true
  | .exclusionExpiry _ key => decide (key ≤ 65535)
  | .antennaOpen _ antenna _ _ => decide (antenna ≤ 1)
  | .antennaSupplyFault _ antenna _ => decide (antenna ≤ 1)
  | .antennaSupplyRetry _ antenna _ => decide (antenna ≤ 1)
  | .timeStepApplied _ => true
  | .slewComplete _ => true
  | .leapSecondEffective _ => true
  | .timePulseStart _ tp => decide (tp ≤ 1)
  | .timePulseEnd _ tp => decide (tp ≤ 1)
  | .watchBurst _ _ => true
  | .gnssDataSave _ => true
  | .canTxComplete _ port => decide (port ≤ 11)
  | .canBusError _ port _ => decide (port ≤ 11)
  | .canFrameReceived _ port frame => decide (port ≤ 11) && decide (frame.dlc ≤ 15) && decide (frame.data.length ≤ 64)
  | .busRecovered _ port => decide (port ≤ 11)
  | .detectDwellExpiry _ port => decide (port ≤ 11)
  | .canStatusProduce _ => true
  | .stayFrameReceived _ port frame => decide (port ≤ 3) && decide (frame.payload.length ≤ 9216)
  | .timeFrameSend _ => true
  | .timeFrameReceived _ port frame => decide (port ≤ 3) && decide (frame.hops ≤ 255)
  | .listenerTimeStep _ => true
  | .gridShiftAdopt _ => true
  | .peerDelayRequest _ port => decide (port ≤ 3)
  | .masterElectionTimeout _ => true
  | .masterLost _ => true
  | .beaconSend _ => true
  | .controlFrameReceived _ frame => decide (frame.source ≤ 4095)
  | .stayLinkChange _ port _ => decide (port ≤ 3)
  | .ethFrameReceived _ port _ => decide (port ≤ 3)
  | .gptpSyncSend _ port => decide (port ≤ 3)
  | .sramPatrol _ reads => decide (reads.ctrl ≤ 5)
  | .memFillDone _ ctrl => decide (ctrl ≤ 5)
  | .eventRecordArrival _ => true
  | .recordCommit _ => true
  | .tokenRefill _ code => decide (code ≤ 65535)
  | .freezeExpired _ => true
  | .changeLogEntry _ => true
  | .powerOn _ _ => true
  | .esupMeasure _ sample => decide (sample.temps.length = 6)
  | .supplyFail _ => true
  | .wakeChange _ _ => true
  | .canWakePattern _ port => decide (port ≤ 11)
  | .rtcAlarm _ => true
  | .moduleStart _ => true
  | .startPhaseComplete _ => true
  | .startupWaitExpiry _ => true
  | .startupBoundary _ => true
  | .runOnExpiry _ => true
  | .moduleResetBegin _ => true
  | .connectorMated _ connector => decide (1 ≤ connector) && decide (connector ≤ 8)
  | .connectorUnmated _ connector => decide (1 ≤ connector) && decide (connector ≤ 8)
  | .thermalWarning _ sensor _ => decide (sensor ≤ 5)
  | .thermalLimit _ _ => true
  | .laneStopped _ _ => true
  | .crosstreeStopped _ => true
  | .crosstreeResumed _ => true
  | .canIntegrationComplete _ port => decide (port ≤ 11)
  | .ethLinkChange _ port _ => decide (port ≤ 4)

/-- A well-formed command. -/
def Instr.wellFormed (i : Instr) : Bool :=
  decide (i.dt < 18446744073709551616) && i.operandsOk && match i.request with
    | some r => r.ok
    | none => true

end Sys2Proof
end

