-- ==== Sys2Proof/Safety.lean ====
section
/-!
DEFINITION. The terms the claims are stated in: when a command is in time, when a request is accepted, what an accepted
request leaves, and the invariants of the state.
-/
namespace Sys2Proof.Machine
open Sys2Proof

/-! ### Tables -/

/-- The numbers of a table rise strictly. -/
abbrev Sorted {α : Type} (t : Tbl α) : Prop := t.Pairwise (fun a b => a.1 < b.1)

/-! ### Commands -/

/-- With `dt` more ticks Mast time is still a 64-bit count (02 R33). -/
abbrev State.inTime (s : State) (dt : Nat) : Prop := s.time.mast + dt < mastEnd

/-- The state in which the block of `op` judges the request: its receiver, where it has one, has taken the lanes' copies (03
R502, 05 R132). -/
def OpSpec.noted (op : OpSpec) (s : State) (r : Request) (z : Resolved) : State :=
  if op.block = 0 ∨ op.block = 6 then s else (s.sendCommand op r z).1

/-- Only commands at a receiver can wait, or release others: the lanes' copies let it take this command and no other. -/
def OpSpec.taken (op : OpSpec) (s : State) (r : Request) (z : Resolved) : Prop :=
  op.block = 0 ∨ op.block = 6 ∨
    (s.sendCommand op r z).2.map (fun t => t.copy.cargo) = [Cargo.command op.code r z]

/-- No lane that executes the request stops it on the way: none has lost the Crosstree, and every one is adopted where a
channel command needs it (05 R504, 08 R237). -/
def OpSpec.passes (op : OpSpec) (s : State) (r : Request) : Prop :=
  (op.viaCrosstree = true → s.xt.stopped = false ∧ ∀ l ∈ (s.senders r).lanes, (s.lane l).crosstreeLost = false) ∧
  (changesChannels op.code = true → ∀ l ∈ (s.senders r).lanes, s.adopted l = true)

/-- The request passes steps 9 to 14 of Table 04-3: a lane executes it, its boundary resolves to `z`, its role, target,
lengths and fields are in order, it reaches its block in time, and the block's power and the block's own checks are in
order. -/
structure OpSpec.Accepts (op : OpSpec) (s : State) (r : Request) (z : Resolved) : Prop where
  executes : s.executes r = true
  resolve  : s.resolve op.kind op.block r.boundary = some z
  allows   : op.allows r = true
  target   : op.target r = true
  exceeds  : op.exceeds r = false
  param    : op.param r = none
  passes   : op.passes s r
  taken    : op.taken s r z
  takes    : (op.noted s r z).takes op = true
  inTime   : op.passed (op.noted s r z) z = false
  check    : op.check (op.noted s r z) r z = none

/-- An immediate command that has run: answered `OK`, with its change-log entry (04 R113, R124). -/
def OpSpec.done (op : OpSpec) (r : Request) (z : Resolved) (payload : Bytes) (s : State) : State :=
  (op.reply r z stOk payload s).logChange 4 op.code r stOk z.number

/-- A read that has run: answered `OK`, with no entry (04 R124). -/
def OpSpec.read (op : OpSpec) (r : Request) (z : Resolved) (payload : Bytes) (s : State) : State := op.reply r z stOk payload s

/-- The entry a staged command leaves in its block; one of the control engine is held in the engines of the lanes that execute
it (02 R50, 06 R162). -/
def OpSpec.entry (op : OpSpec) (r : Request) (z : Resolved) (s : State) : Staged :=
  { block := op.block
    opcode := op.code
    target := r.target
    req := s.heldBy op r
    kind := op.kind
    boundary := z.number
    gridAt := z.gridAt
    after := z.after
    initial := r.path == .initial }

/-- A command that its block has staged: the entry waits, `STAGED` is answered, and the change log has an entry of kind
0x01 (02 R50, R52, 04 R124). -/
def OpSpec.held (op : OpSpec) (r : Request) (z : Resolved) (s : State) : State :=
  (({ s with staged := s.staged ++ [op.entry r z s] }).answer op.code r stStaged z.number []).logChange 1 op.code r stStaged
    z.number

/-- Every command that Halyard stages, with its opcode (02 R47, Table 02-3). -/
def stagedCommands : List (OpSpec × (Nat → Request → Instr)) :=
  [(opTimeSetLeap, .timeSetLeap), (opSchedActivate, .schedActivate), (opSchedSetStartBank, .schedSetStartBank),
   (opSysSetKey, .sysSetKey), (opLaneSetPolicy, .laneSetPolicy), (opLaneSetDedupWindow, .laneSetDedupWindow),
   (opLaneRequestBurst, .laneRequestBurst), (opLaneRequestSwitch, .laneRequestSwitch), (opCtrlSetLoop, .ctrlSetLoop),
   (opCtrlSetCoeffs, .ctrlSetCoeffs), (opCtrlSetClamp, .ctrlSetClamp), (opCtrlPresetState, .ctrlPresetState),
   (opChanSetConfig, .chanSetConfig), (opChanSetProtection, .chanSetProtection), (opSenseSetInput, .senseSetInput)] ++
  [(opSenseSetLoss, .senseSetLoss), (opSenseSetBridge, .senseSetBridge), (opSenseSetSupply, .senseSetSupply),
   (opYieldSetGrid, .yieldSetGrid), (opYieldSetSources, .yieldSetSources), (opYieldClearGrid, .yieldClearGrid),
   (opCamSetPort, .camSetPort), (opCamSetGeometry, .camSetGeometry), (opCamSetLinear, .camSetLinear),
   (opCamSetExposure, .camSetExposure), (opCamSetCfa, .camSetCfa), (opCamSetWb, .camSetWb),
   (opCamSetMatrix, .camSetMatrix), (opCamSetTone, .camSetTone), (opCamSetStream, .camSetStream),
   (opCamSetStats, .camSetStats)] ++
  [(opFusionSetSource, .fusionSetSource), (opFusionSetRound, .fusionSetRound), (opFusionSetCanvas, .fusionSetCanvas),
   (opFusionResetState, .fusionResetState), (opGnssSetConfig, .gnssSetConfig),
   (opGnssSetTimePulse, .gnssSetTimePulse), (opGnssSetWatch, .gnssSetWatch), (opCanSetPort, .canSetPort),
   (opCanSetFilters, .canSetFilters), (opStayJoin, .stayJoin), (opStayLeave, .stayLeave), (opEthSetPort, .ethSetPort),
   (opMemSetMode, .memSetMode), (opMemSetPatrol, .memSetPatrol), (opMemSetFill, .memSetFill),
   (opRecSetRate, .recSetRate), (opPwrSetDomain, .pwrSetDomain), (opPwrSetConfig, .pwrSetConfig),
   (opPwrEnterLow, .pwrEnterLow), (opPwrReset, .pwrReset)]

/-! ### Start of the tracker (13 R355) -/

/-- Under open sky this holds in every state: the first valid position comes within the time of Table 13-3. -/
def State.firstFixInTime (s : State) : Prop :=
  match s.gnss.startAt with
  | some t => s.now ≤ t + startLimit s.gnss.startKind
  | none => True

end Sys2Proof.Machine

namespace Sys2Proof
open Machine

/-! ### Several events on one tick (02 R55, R57, R58) -/

/-- The place of an event among those of one tick: the generator's step, then arrivals, expiries, and the boundaries' swaps in
their order, then what starts or is sampled at the instant.
Log 12: DESIGN CHOICE, unsafe. -/
def Instr.stage : Instr → Nat
  | .timeStepApplied .. | .listenerTimeStep .. | .gridShiftAdopt .. => 0
  | .dedupWindowExpiry .. | .pairLimitExpiry .. | .heartbeatTimerExpiry .. | .taskBudgetExpiry .. | .burstResultDeadline .. |
    .overrunClassify .. | .resetHoldExpiry .. | .laneReadyTimeout .. | .inrushWindowEnd .. | .retry .. | .lossIntervalEnd .. |
    .frameTimeout .. | .roundWaitExpiry .. | .exclusionExpiry .. | .antennaSupplyRetry .. | .sensorSupplyRetry .. |
    .detectDwellExpiry .. | .masterElectionTimeout .. | .masterLost .. | .freezeExpired .. | .startupWaitExpiry .. |
    .runOnExpiry .. | .leapSecondEffective .. => 2
  | .majorBoundary .. | .startupBoundary .. => 3
  | .loopPeriodBoundary .. => 4
  | .frameValidRise .. => 5
  | .slotStart .. | .pwmPeriodStart .. | .channelSampleEnd .. | .supplySampleEnd .. | .universalSampleEnd .. |
    .bridgeSampleEnd .. | .lineEnd .. | .frameValidFall .. | .loopStart .. | .fusionRoundInstant .. | .gnssEpoch .. |
    .transferSend .. => 6
  | _ => 1

/-- Events of one kind in one unit take their turn by this number: the active lane's copy first, else ascending resources.
None: the tick has one such event. -/
def Instr.turn (active : Lane) : Instr → Option (Nat × Nat)
  | .receiverCopyArrival _ l b r => some (recvKey b r, if l = active then 0 else 1)
  | .dedupWindowExpiry _ b r => some (100000 + b, r)
  | .pairLimitExpiry _ b r => some (200000 + b, r)
  | .loopPeriodBoundary _ n => some (300000, n)
  | .pwmPeriodStart _ n => some (300001, n)
  | .channelSampleEnd _ n _ => some (300002, n)
  | .inrushWindowEnd _ n => some (300003, n)
  | .retry _ n => some (300004, n)
  | .frameValidRise _ n => some (300005, n)
  | .frameTimeout _ n => some (300006, n)
  | .fusionRoundInstant _ n => some (300007, n)
  | .roundWaitExpiry _ n => some (300008, n)
  | .fusionSampleArrival _ n => some (300009, n)
  | .canFrameReceived _ n _ => some (300010, n)
  | .stayFrameReceived _ n _ => some (300011, n)
  | .ethFrameReceived _ n _ => some (300012, n)
  | .heartbeatTimerExpiry _ l => some (300013, l.code)
  | .exclusionExpiry _ n => some (300014, n)
  | _ => none

/-- On one tick `a` may come before `b`. -/
def Instr.before (active : Lane) (a b : Instr) : Bool :=
  decide (a.stage < b.stage) || (a.stage == b.stage &&
    match a.turn active, b.turn active with
    | some x, some y => x.1 != y.1 || decide (x.2 ≤ y.2)
    | _, _ => true)

/-- The commands that wait come in the order of the tie rules: those with `dt` 0 lie on the tick of the one before.
Log 12: DESIGN CHOICE, unsafe. -/
def inOrder (active : Lane) : List Instr → Bool
  | [] => true
  | a :: r => (r.takeWhile fun b => b.dt == 0).all (a.before active) && inOrder active r

end Sys2Proof
end

