-- ==== Sys2Proof/Laws/Requests.lean ====
section
/-!
SUPPORT. What a Halyard request that its block accepts leaves: one lemma for each way it can end (02 R47 to R52, 04 R109 to
R124).
-/
namespace Sys2Proof.Machine
open Sys2Proof

theorem runCmd_next {dt : Nat} {s : State} (h : s.inTime dt) (f : State → State) :
    runCmd dt s f = .next (f (s.elapse dt)) := if_pos h

theorem runCmd_fault {dt : Nat} {s : State} (h : ¬ s.inTime dt) (f : State → State) :
    runCmd dt s f = .fault .mastWrap := if_neg h

/-! ### Commands that receivers take later -/

/-- With no command waiting for its block, there is nothing to settle. -/
theorem settle_of_nil {s : State} (h : s.taken = []) : s.settle = s := by
  unfold State.settle
  cases s.settleLimit with
  | zero => rfl
  | succ n => rw [State.settleFor, h]

theorem runTaking_next {dt : Nat} {s : State} (h : s.inTime dt) (f : State → State) :
    runTaking dt s f = .next (f (s.elapse dt)).settle := runCmd_next h _

/-- A command in time answers the state its effect gives. -/
theorem runCmd_to {dt : Nat} {s u : State} {f : State → State} (h : s.inTime dt) (e : f (s.elapse dt) = u) :
    runCmd dt s f = .next u := by rw [runCmd_next h, e]

/-- One that may let receivers take commands answers that state with those commands settled. -/
theorem runTaking_to {dt : Nat} {s u : State} {f : State → State} (h : s.inTime dt) (e : f (s.elapse dt) = u) :
    runTaking dt s f = .next u.settle := by rw [runTaking_next h, e]

/-- A request that no lane stops itself is sent on whole. -/
theorem split_none {s : State} {r : Request} {stops : Lane → Bool} (h : ∀ l ∈ (s.senders r).lanes, stops l = false) :
    s.split r stops = (none, some r) := by
  have : (s.senders r).lanes.filter stops = [] := by
    rw [List.filter_eq_nil_iff]; intro l hl; simp [h l hl]
  simp [State.split, this]

/-- A request whose command its receiver takes, and no other, is performed in its block. -/
theorem reach_taken {op : OpSpec} {s : State} {r : Request} {z : Resolved} (h : op.taken s r z) :
    s.reach op r z = (op.noted s r z).perform op r z := by
  unfold State.reach OpSpec.noted
  by_cases hb : op.block = 0 ∨ op.block = 6
  · simp only [hb, if_true]
  · simp only [hb, if_false]
    have hm := (h.resolve_left (fun e => hb (.inl e))).resolve_left (fun e => hb (.inr e))
    obtain ⟨t, ht⟩ : ∃ t, (s.sendCommand op r z).2 = [t] := by
      match hx : (s.sendCommand op r z).2 with
      | [] => simp [hx] at hm
      | [t] => exact ⟨t, rfl⟩
      | _ :: _ :: _ => simp [hx] at hm
    have hc : t.copy.cargo = Cargo.command op.code r z := by simpa [ht] using hm
    simp [ht, State.actOn, hc]

/-- An accepted request reaches its block. -/
theorem runRequest_accepted {op : OpSpec} {s : State} {r : Request} {z : Resolved} (h : op.Accepts s r z) :
    s.runRequest op r = (op.noted s r z).perform op r z := by
  have hp : op.precheck r (some z) = none := by simp [OpSpec.precheck, h.allows, h.target, h.exceeds, h.param]
  rw [← reach_taken h.taken]
  simp only [State.runRequest, h.executes, if_true, h.resolve, State.runResolved, hp, Option.getD_some]
  by_cases hv : op.viaCrosstree = true
  · obtain ⟨hs, hl⟩ := h.passes.1 hv
    simp [hv, State.reachCrosstree, split_none hl, hs]
  · by_cases hc : changesChannels op.code = true
    · have hl : ∀ l ∈ (s.senders r).lanes, (!s.adopted l) = false := fun l hl => by simp [h.passes.2 hc l hl]
      simp [hv, hc, State.reachChannels, split_none hl]
    · simp [hv, hc]

/-- An accepted immediate command that is answered `OK`. -/
theorem runRequest_done {op : OpSpec} {s t : State} {r : Request} {z : Resolved} {p : Bytes}
    (h : op.Accepts s r z) (hk : op.kind = .immediate) (hl : op.logs = true)
    (hr : op.run (op.noted s r z) r = (t, some (stOk, p))) : s.runRequest op r = op.done r z p t := by
  rw [runRequest_accepted h]
  simp only [State.perform, h.takes, h.inTime, h.check, hk, if_true, hr, Bool.not_true, Bool.false_eq_true, if_false, hl,
    and_self, OpSpec.done]

/-- An accepted read. -/
theorem runRequest_read {op : OpSpec} {s t : State} {r : Request} {z : Resolved} {p : Bytes}
    (h : op.Accepts s r z) (hk : op.kind = .immediate) (hl : op.logs = false)
    (hr : op.run (op.noted s r z) r = (t, some (stOk, p))) : s.runRequest op r = op.read r z p t := by
  rw [runRequest_accepted h]
  simp only [State.perform, h.takes, h.inTime, h.check, hk, if_true, hr, Bool.not_true, Bool.false_eq_true, if_false, hl,
    and_false, OpSpec.read]

/-- An accepted immediate command whose answer comes later. -/
theorem runRequest_later {op : OpSpec} {s t : State} {r : Request} {z : Resolved}
    (h : op.Accepts s r z) (hk : op.kind = .immediate) (hr : op.run (op.noted s r z) r = (t, none)) :
    s.runRequest op r = t := by
  rw [runRequest_accepted h]
  simp only [State.perform, h.takes, h.inTime, h.check, hk, if_true, hr, Bool.not_true, Bool.false_eq_true, if_false]

/-- An accepted command of another kind goes to the staging. -/
theorem runRequest_stage {op : OpSpec} {s : State} {r : Request} {z : Resolved}
    (h : op.Accepts s r z) (hk : op.kind ≠ .immediate) :
    s.runRequest op r = (op.preStage (op.noted s r z) r z).stage op r z := by
  rw [runRequest_accepted h]
  simp only [State.perform, h.takes, h.inTime, h.check, hk, Bool.not_true, Bool.false_eq_true, if_false]

/-- Staging with nothing to supersede and room in the block (02 R50, R53). -/
theorem stage_new {op : OpSpec} {s : State} {r : Request} {z : Resolved}
    (ho : s.findStaged op.code r.target = none) (hn : s.stagedCount op.block < 4096) :
    s.stage op r z = op.onStage (op.held r z s) r z := by
  have : ¬ (4096 ≤ s.stagedCount op.block) := by omega
  simp only [State.stage, ho, this, and_false, if_false]; rfl

/-- Staging over an earlier staging of the same opcode and target (02 R51). -/
theorem stage_over {op : OpSpec} {s : State} {r : Request} {z : Resolved} {e : Staged}
    (ho : s.findStaged op.code r.target = some e) :
    s.stage op r z = op.onStage (op.held r z (s.supersede e)) r z := by
  simp only [State.stage, ho, reduceCtorEq, false_and, if_false]; rfl

/-- A full block (02 R53). -/
theorem stage_full {op : OpSpec} {s : State} {r : Request} {z : Resolved}
    (ho : s.findStaged op.code r.target = none) (hn : 4096 ≤ s.stagedCount op.block) :
    s.stage op r z = s.answer op.code r stScheduleConflict z.number [] := by
  simp only [State.stage, ho, hn, and_self, if_true]

end Sys2Proof.Machine
end

