-- ==== Sys2Proof/Laws/Frames.lean ====
section
/-! SUPPORT. One lemma for each operation on the state: it leaves the queue of waiting commands and the ticks as they are,
and memories in canonical form stay so. Each follows the operation's own shape, from the lemmas of the operations it calls. -/

set_option linter.all false

namespace Sys2Proof.Machine
open Sys2Proof

/-- What no operation on the state does but the queue's own and the clock's: the waiting commands and the ticks stay, and
memories in canonical form stay so. -/
structure Kept (s t : State) : Prop where
  pending : t.pending = s.pending
  ticks   : t.time.ticks = s.time.ticks
  mem     : s.mem.wf = true → t.mem.wf = true

theorem Kept.refl (s : State) : Kept s s := ⟨rfl, rfl, id⟩

theorem Kept.trans {s t u : State} (h : Kept s t) (k : Kept t u) : Kept s u :=
  ⟨k.1.trans h.1, k.2.trans h.2, fun w => k.3 (h.3 w)⟩

/-- An update of other fields. -/
theorem Kept.of_eq {s t u : State} (e1 : t.pending = u.pending) (e2 : t.time.ticks = u.time.ticks)
    (e3 : t.mem = u.mem)
    (h : Kept s u) : Kept s t := ⟨e1.trans h.1, e2.trans h.2, fun w => e3 ▸ h.3 w⟩

theorem Kept.ite {s a b : State} {c : Prop} [Decidable c] (h : Kept s a) (k : Kept s b) : Kept s
    (if c then a else b) := by
  split
  · exact h
  · exact k

theorem Kept.ite_fst {α : Type} {s : State} {a b : State × α} {c : Prop} [Decidable c] (h : Kept s a.1)
    (k : Kept s b.1) :
    Kept s (if c then a else b).1 := by
  split
  · exact h
  · exact k

theorem Kept.fold {β : Type} {s u : State} {g : State → β → State} (h : ∀ t x,
    Kept t (g t x)) (l : List β) (k : Kept s u) :
    Kept s (l.foldl g u) := by
  induction l generalizing u with
  | nil => exact k
  | cons x l ih => exact ih (k.trans (h u x))

theorem Kept.fold_fst {α β : Type} {s : State} {u : State × α} {g : State × α → β → State × α}
    (h : ∀ t x, Kept t.1 (g t x).1) (l : List β) (k : Kept s u.1) : Kept s (l.foldl g u).1 := by
  induction l generalizing u with
  | nil => exact k
  | cons x l ih => exact ih (k.trans (h u x))

/-- The first part of a pair that a function answers. -/
theorem Kept.of_pair {α : Type} {s t : State} {p : State × α} {b : α} (h : p = (t,
    b)) (k : Kept s p.1) : Kept s t := by
  subst h; exact k

/-! ### Updates of fields -/

theorem Kept.set_staged {s u : State} {x0} (h : Kept s u) : Kept s { u with staged := x0 } := ⟨h.1, h.2, h.3⟩

theorem Kept.set_sys {s u : State} {x0} (h : Kept s u) : Kept s { u with sys := x0 } := ⟨h.1, h.2, h.3⟩

theorem Kept.set_sched {s u : State} {x0} (h : Kept s u) : Kept s { u with sched := x0 } := ⟨h.1, h.2, h.3⟩

theorem Kept.set_main {s u : State} {x0} (h : Kept s u) : Kept s { u with main := x0 } := ⟨h.1, h.2, h.3⟩

theorem Kept.set_mizzen {s u : State} {x0} (h : Kept s u) : Kept s { u with mizzen := x0 } := ⟨h.1, h.2, h.3⟩

theorem Kept.set_recvs {s u : State} {x0} (h : Kept s u) : Kept s { u with recvs := x0 } := ⟨h.1, h.2, h.3⟩

theorem Kept.set_xt {s u : State} {x0} (h : Kept s u) : Kept s { u with xt := x0 } := ⟨h.1, h.2, h.3⟩

theorem Kept.set_ctrl {s u : State} {x0} (h : Kept s u) : Kept s { u with ctrl := x0 } := ⟨h.1, h.2, h.3⟩

theorem Kept.set_power {s u : State} {x0} (h : Kept s u) : Kept s { u with power := x0 } := ⟨h.1, h.2, h.3⟩

theorem Kept.set_sense {s u : State} {x0} (h : Kept s u) : Kept s { u with sense := x0 } := ⟨h.1, h.2, h.3⟩

theorem Kept.set_gnss {s u : State} {x0} (h : Kept s u) : Kept s { u with gnss := x0 } := ⟨h.1, h.2, h.3⟩

theorem Kept.set_cams {s u : State} {x0} (h : Kept s u) : Kept s { u with cams := x0 } := ⟨h.1, h.2, h.3⟩

theorem Kept.set_fus {s u : State} {x0} (h : Kept s u) : Kept s { u with fus := x0 } := ⟨h.1, h.2, h.3⟩

theorem Kept.set_cans {s u : State} {x0} (h : Kept s u) : Kept s { u with cans := x0 } := ⟨h.1, h.2, h.3⟩

theorem Kept.set_stay {s u : State} {x0} (h : Kept s u) : Kept s { u with stay := x0 } := ⟨h.1, h.2, h.3⟩

theorem Kept.set_eths {s u : State} {x0} (h : Kept s u) : Kept s { u with eths := x0 } := ⟨h.1, h.2, h.3⟩

theorem Kept.set_rec {s u : State} {x0} (h : Kept s u) : Kept s { u with rec_ := x0 } := ⟨h.1, h.2, h.3⟩

theorem Kept.set_pwr {s u : State} {x0} (h : Kept s u) : Kept s { u with pwr := x0 } := ⟨h.1, h.2, h.3⟩

theorem Kept.set_taken {s u : State} {x0} (h : Kept s u) : Kept s { u with taken := x0 } := ⟨h.1, h.2, h.3⟩

theorem Kept.set_free {s u : State} {x0} (h : Kept s u) : Kept s { u with free := x0 } := ⟨h.1, h.2, h.3⟩

theorem Kept.set_out {s u : State} {x0} (h : Kept s u) : Kept s { u with out := x0 } := ⟨h.1, h.2, h.3⟩

theorem Kept.set_time {s u : State} {x0 : TimeSt} (e : x0.ticks = u.time.ticks) (h : Kept s u) :
    Kept s { u with time := x0 } := ⟨h.1, e.trans h.2, h.3⟩

theorem Kept.set_time_gnss {s u : State} {x0 : TimeSt} {x1} (e : x0.ticks = u.time.ticks) (h : Kept s u) :
    Kept s { u with time := x0, gnss := x1 } := ⟨h.1, e.trans h.2, h.3⟩

theorem Kept.set_time_stay {s u : State} {x0 : TimeSt} {x1} (e : x0.ticks = u.time.ticks) (h : Kept s u) :
    Kept s { u with time := x0, stay := x1 } := ⟨h.1, e.trans h.2, h.3⟩

theorem Kept.set_staged_xt_power {s u : State} {x0} {x1} {x2} (h : Kept s u) :
    Kept s { u with staged := x0, xt := x1, power := x2 } := ⟨h.1, h.2, h.3⟩

/-- Every part of a command specification keeps what `Kept` says. -/
structure OpSpec.Keeps (op : OpSpec) : Prop where
  refused : ∀ s r z, Kept s (op.refused s r z)
  run : ∀ s r, Kept s (op.run s r).1
  preStage : ∀ s r z, Kept s (op.preStage s r z)
  onStage : ∀ s r z, Kept s (op.onStage s r z)

theorem State.emit_kept (a0 : State) (a1 : Out) :
    Kept a0 (@State.emit a0 a1) := ⟨rfl, rfl, id⟩

theorem State.endPulses_kept (a0 : State) :
    Kept a0 (@State.endPulses a0) := by
  unfold State.endPulses
  dsimp only
  refine Kept.ite ?_ ?_
  · refine Kept.trans ?_ (State.emit_kept _ _)
    refine Kept.ite ?_ ?_
    · exact State.emit_kept _ _
    · exact Kept.refl _
  · refine Kept.ite ?_ ?_
    · exact State.emit_kept _ _
    · exact Kept.refl _

theorem opChanGetConfig_kept : opChanGetConfig.Keeps := by
  exact ⟨fun s r z => ⟨rfl, rfl, id⟩, fun s r => ⟨rfl, rfl, id⟩, fun s r z => ⟨rfl, rfl, id⟩, fun s r z => ⟨rfl,
      rfl, id⟩⟩

theorem State.updFus_kept (a0 : State) (a1 : FusSt → FusSt) :
    Kept a0 (@State.updFus a0 a1) := ⟨rfl, rfl, id⟩

theorem State.blockLate_kept (a0 : State) (a1 : Nat) (a2 : Nat) :
    Kept a0 (@State.blockLate a0 a1 a2) := ⟨rfl, rfl, id⟩

theorem State.raiseAt_kept (a0 : State) (a1 : Nat) (a2 : Nat) (a3 : Nat) (a4 : Nat) (a5 : Bytes) :
    Kept a0 (@State.raiseAt a0 a1 a2 a3 a4 a5) := by
  unfold State.raiseAt
  refine Kept.ite ?_ ?_
  · dsimp only
    refine Kept.set_rec ?_
    exact Kept.refl _
  · exact Kept.refl _

theorem State.raise_kept (a0 : State) (a1 : Nat) (a2 : Nat) (a3 : Nat) (a4 : Bytes) :
    Kept a0 (@State.raise a0 a1 a2 a3 a4) := by
  unfold State.raise
  exact State.raiseAt_kept _ _ _ _ _ _

theorem State.raiseFus_kept (a0 : State) (a1 : Nat) (a2 : List Int) :
    Kept a0 (@State.raiseFus a0 a1 a2) := by
  unfold State.raiseFus
  exact State.raise_kept _ _ _ _ _

theorem State.updRound_kept (a0 : State) (a1 : Nat) (a2 : FusRound → FusRound) :
    Kept a0 (@State.updRound a0 a1 a2) := ⟨rfl, rfl, id⟩

theorem State.skipRound_kept (a0 : State) (a1 : Nat) (a2 : Nat) (a3 : Bytes) (a4 : Bool) :
    Kept a0 (@State.skipRound a0 a1 a2 a3 a4) := by
  unfold State.skipRound
  dsimp only
  refine Kept.trans ?_ (State.blockLate_kept _ _ _)
  refine Kept.trans ?_ (State.raiseFus_kept _ _ _)
  refine Kept.trans ?_ (State.updRound_kept _ _ _)
  exact State.updFus_kept _ _

theorem State.updSys_kept (a0 : State) (a1 : SysSt → SysSt) :
    Kept a0 (@State.updSys a0 a1) := ⟨rfl, rfl, id⟩

theorem State.countRunt_kept (a0 : State) :
    Kept a0 (@State.countRunt a0) := ⟨rfl, rfl, id⟩

theorem State.updMem_kept (s : State) (c : Nat) (f : MemCtrl → MemCtrl) (hf : ∀ m : MemCtrl,
    m.wf = true → (f m).wf = true) :
    Kept s (s.updMem c f) := ⟨rfl, rfl, s.updMem_wf c f hf⟩

theorem State.fusionCover_kept (a0 : State) (a1 : List ((Nat × Nat) × Contents)) :
    Kept a0 (@State.fusionCover a0 a1) := by
  unfold State.fusionCover
  refine Kept.ite ?_ ?_
  · refine Kept.trans ?_ (State.updMem_kept _ _ _ fun m hm => ?_)
    · exact Kept.refl _
    · exact MemCtrl.cover_wf _ _ hm
  · exact Kept.refl _

theorem State.updYield_kept (a0 : State) (a1 : YieldSt → YieldSt) :
    Kept a0 (@State.updYield a0 a1) := ⟨rfl, rfl, id⟩

theorem State.startClear_kept (a0 : State) :
    Kept a0 (@State.startClear a0) := by
  unfold State.startClear
  dsimp only
  refine Kept.ite ?_ ?_
  · exact State.updYield_kept _ _
  · refine Kept.ite ?_ ?_
    · exact State.updYield_kept _ _
    · refine Kept.trans ?_ (State.raise_kept _ _ _ _ _)
      exact State.updYield_kept _ _

theorem opPwrGetStatus_kept : opPwrGetStatus.Keeps := by
  exact ⟨fun s r z => ⟨rfl, rfl, id⟩, fun s r => ⟨rfl, rfl, id⟩, fun s r z => ⟨rfl, rfl, id⟩, fun s r z => ⟨rfl,
      rfl, id⟩⟩

theorem State.updEth_kept (a0 : State) (a1 : Nat) (a2 : EthPort → EthPort) :
    Kept a0 (@State.updEth a0 a1 a2) := ⟨rfl, rfl, id⟩

theorem State.ethOut_kept (a0 : State) (a1 : Nat) (a2 : Out) :
    Kept a0 (@State.ethOut a0 a1 a2) := by
  unfold State.ethOut
  refine Kept.ite ?_ ?_
  · exact Kept.refl _
  · refine Kept.trans ?_ (State.emit_kept _ _)
    exact State.updEth_kept _ _ _

theorem State.updStay_kept (a0 : State) (a1 : StaySt → StaySt) :
    Kept a0 (@State.updStay a0 a1) := ⟨rfl, rfl, id⟩

theorem State.stayDiscard_kept (a0 : State) :
    Kept a0 (@State.stayDiscard a0) := ⟨rfl, rfl, id⟩

theorem State.updStayPort_kept (a0 : State) (a1 : Nat) (a2 : StayPort → StayPort) :
    Kept a0 (@State.updStayPort a0 a1 a2) := ⟨rfl, rfl, id⟩

theorem State.stayOut_kept (a0 : State) (a1 : Nat) (a2 : Bool) (a3 : Bytes) :
    Kept a0 (@State.stayOut a0 a1 a2 a3) := by
  unfold State.stayOut
  dsimp only
  refine Kept.ite ?_ ?_
  · exact Kept.refl _
  · refine Kept.ite ?_ ?_
    · exact State.stayDiscard_kept _
    · refine Kept.trans ?_ (State.emit_kept _ _)
      exact State.updStayPort_kept _ _ _

theorem State.stayUnicast_kept (a0 : State) (a1 : Nat) (a2 : Bytes) :
    Kept a0 (@State.stayUnicast a0 a1 a2) := by
  unfold State.stayUnicast
  dsimp only
  refine Kept.ite ?_ ?_
  · exact Kept.refl _
  · refine Kept.ite ?_ ?_
    · exact State.stayDiscard_kept _
    · exact State.stayOut_kept _ _ _ _

theorem State.stayPacket_kept (a0 : State) (a1 : Nat) (a2 : Bytes) :
    Kept a0 (@State.stayPacket a0 a1 a2) := by
  unfold State.stayPacket
  exact State.stayUnicast_kept _ _ _

theorem State.deliverReply_kept (a0 : State) (a1 : Reply) :
    Kept a0 (@State.deliverReply a0 a1) := by
  unfold State.deliverReply
  split
  · exact State.ethOut_kept _ _ _
  · exact State.stayPacket_kept _ _ _
  · exact State.emit_kept _ _
  · exact Kept.refl _
  · exact Kept.refl _
  · exact Kept.refl _

theorem State.ethMail_kept (a0 : State) (a1 : Nat) (a2 : Bytes) :
    Kept a0 (@State.ethMail a0 a1 a2) := by
  unfold State.ethMail
  refine Kept.ite ?_ ?_
  · exact Kept.refl _
  · refine Kept.ite ?_ ?_
    · exact State.updEth_kept _ _ _
    · exact State.ethOut_kept _ _ _

theorem State.deliverMail_kept (a0 : State) (a1 : Nat) (a2 : Nat) (a3 : Bytes) :
    Kept a0 (@State.deliverMail a0 a1 a2 a3) := by
  unfold State.deliverMail
  refine Kept.ite ?_ ?_
  · exact State.stayPacket_kept _ _ _
  · exact State.ethMail_kept _ _ _

theorem State.handOn_kept (a0 : State) (a1 : Taken) :
    Kept a0 (@State.handOn a0 a1) := by
  unfold State.handOn
  split
  · exact Kept.refl _
  · refine Kept.set_taken ?_
    exact Kept.refl _
  · exact State.deliverReply_kept _ _
  · exact State.deliverMail_kept _ _ _ _
  · refine Kept.set_rec ?_
    exact Kept.refl _
  · refine Kept.set_rec ?_
    exact Kept.refl _

theorem State.handAll_kept (a0 : State × List Taken) :
    Kept a0.1 (@State.handAll a0) := by
  unfold State.handAll
  refine Kept.fold (fun _ _ => ?_) _ ?_
  · exact State.handOn_kept _ _
  · exact Kept.refl _

theorem State.updRecv_kept (a0 : State) (a1 : Nat) (a2 : Receiver → Receiver) :
    Kept a0 (@State.updRecv a0 a1 a2) := ⟨rfl, rfl, id⟩

theorem State.sendSingle_kept (a0 : State) (a1 : Bool) (a2 : Nat) (a3 : Nat) (a4 : Nat) (a5 : Lane) (a6 : Cargo) :
    Kept a0 ((@State.sendSingle a0 a1 a2 a3 a4 a5 a6).1) := by
  unfold State.sendSingle
  refine Kept.ite_fst ?_ ?_
  · dsimp only
    exact Kept.refl _
  · dsimp only
    exact State.updRecv_kept _ _ _

theorem State.updLane_kept (s : State) (l : Lane) (f : LaneSt → LaneSt) : Kept s (s.updLane l f) := by
  cases l <;> exact ⟨rfl, rfl, id⟩

theorem State.judging_kept (a0 : State) (a1 : Nat) (a2 : RecvView → Judging → Judging) :
    Kept a0 ((@State.judging a0 a1 a2).1) := ⟨rfl, rfl, id⟩

theorem State.sendCopy_kept (a0 : State) (a1 : Bool) (a2 : Nat) (a3 : Nat) (a4 : Nat) (a5 : Lane) (a6 : Cargo) :
    Kept a0 ((@State.sendCopy a0 a1 a2 a3 a4 a5 a6).1) := by
  unfold State.sendCopy
  dsimp only
  refine Kept.ite_fst ?_ ?_
  · dsimp only
    exact State.updLane_kept _ _ _
  · refine Kept.trans ?_ (State.judging_kept _ _ _)
    exact State.updLane_kept _ _ _

theorem State.offer_kept (a0 : State) (a1 : Senders) (a2 : Bool) (a3 : Nat) (a4 : Nat) (a5 : Nat)
    (a6 : Lane → Cargo) :
    Kept a0 ((@State.offer a0 a1 a2 a3 a4 a5 a6).1) := by
  unfold State.offer
  refine Kept.fold_fst (fun _ _ => ?_) _ ?_
  · dsimp only
    refine Kept.ite_fst ?_ ?_
    · exact State.sendSingle_kept _ _ _ _ _ _ _
    · exact State.sendCopy_kept _ _ _ _ _ _ _
  · dsimp only
    exact Kept.refl _

theorem State.logChange_kept (a0 : State) (a1 : Nat) (a2 : Nat) (a3 : Request) (a4 : Nat) (a5 : Nat) :
    Kept a0 (@State.logChange a0 a1 a2 a3 a4 a5) := by
  unfold State.logChange
  refine Kept.trans ?_ (State.handAll_kept _)
  exact State.offer_kept _ _ _ _ _ _ _

theorem State.pushMail_kept (a0 : State) (a1 : List Lane) (a2 : Nat) (a3 : Lane → Bytes) :
    Kept a0 (@State.pushMail a0 a1 a2 a3) := by
  unfold State.pushMail
  refine Kept.ite ?_ ?_
  · exact Kept.refl _
  · dsimp only
    refine Kept.ite ?_ ?_
    · refine Kept.set_sched ?_
      refine Kept.fold (fun _ _ => ?_) _ ?_
      · refine Kept.ite ?_ ?_
        · exact Kept.refl _
        · exact State.updLane_kept _ _ _
      · exact Kept.refl _
    · refine Kept.fold (fun _ _ => ?_) _ ?_
      · refine Kept.ite ?_ ?_
        · exact Kept.refl _
        · exact State.updLane_kept _ _ _
      · exact Kept.refl _

theorem State.logTrouble_kept (a0 : State) (a1 : Lane) (a2 : Nat) (a3 : Nat) (a4 : Bytes) :
    Kept a0 (@State.logTrouble a0 a1 a2 a3 a4) := by
  unfold State.logTrouble
  exact State.updLane_kept _ _ _

theorem State.raisePaired_kept (a0 : State) (a1 : Senders) (a2 : Nat) (a3 : Bytes) :
    Kept a0 (@State.raisePaired a0 a1 a2 a3) := by
  unfold State.raisePaired
  dsimp only
  refine Kept.fold (fun _ _ => ?_) _ ?_
  · exact State.logTrouble_kept _ _ _ _ _
  · refine Kept.trans ?_ (State.handAll_kept _)
    exact State.offer_kept _ _ _ _ _ _ _

theorem State.sendReply_kept (a0 : State) (a1 : Senders) (a2 : Lane → Reply) :
    Kept a0 (@State.sendReply a0 a1 a2) := by
  unfold State.sendReply
  split
  · refine Kept.trans ?_ (State.handAll_kept _)
    exact State.offer_kept _ _ _ _ _ _ _
  · refine Kept.trans ?_ (State.handAll_kept _)
    exact State.offer_kept _ _ _ _ _ _ _
  · refine Kept.trans ?_ (State.handAll_kept _)
    exact State.offer_kept _ _ _ _ _ _ _
  · refine Kept.fold (fun _ _ => ?_) _ ?_
    · exact State.emit_kept _ _
    · exact Kept.refl _
  · exact State.pushMail_kept _ _ _ _
  · dsimp only
    refine Kept.ite ?_ ?_
    · refine Kept.fold (fun _ _ => ?_) _ ?_
      · exact State.logTrouble_kept _ _ _ _ _
      · exact Kept.refl _
    · refine Kept.trans ?_ (State.raisePaired_kept _ _ _ _)
      refine Kept.fold (fun _ _ => ?_) _ ?_
      · exact State.logTrouble_kept _ _ _ _ _
      · exact Kept.refl _

theorem State.useFree_kept (a0 : State) :
    Kept a0 (@State.useFree a0) := ⟨rfl, rfl, id⟩

theorem State.answerFrom_kept (a0 : State) (a1 : Senders) (a2 : Reply → Reply) (a3 : Nat) (a4 : Request) (a5 : Nat)
    (a6 : Nat) (a7 : Lane → Bytes) :
    Kept a0 (@State.answerFrom a0 a1 a2 a3 a4 a5 a6 a7) := by
  unfold State.answerFrom
  dsimp only
  refine Kept.ite ?_ ?_
  · refine Kept.trans ?_ (State.useFree_kept _)
    exact State.sendReply_kept _ _ _
  · exact State.sendReply_kept _ _ _

theorem State.answerWith_kept (a0 : State) (a1 : Reply → Reply) (a2 : Nat) (a3 : Request) (a4 : Nat) (a5 : Nat)
    (a6 : Lane → Bytes) :
    Kept a0 (@State.answerWith a0 a1 a2 a3 a4 a5 a6) := by
  unfold State.answerWith
  exact State.answerFrom_kept _ _ _ _ _ _ _ _

theorem State.answerEach_kept (a0 : State) (a1 : Nat) (a2 : Request) (a3 : Nat) (a4 : Nat) (a5 : Lane → Bytes) :
    Kept a0 (@State.answerEach a0 a1 a2 a3 a4 a5) := by
  unfold State.answerEach
  exact State.answerWith_kept _ _ _ _ _ _ _

theorem State.answer_kept (a0 : State) (a1 : Nat) (a2 : Request) (a3 : Nat) (a4 : Nat) (a5 : Bytes) :
    Kept a0 (@State.answer a0 a1 a2 a3 a4 a5) := by
  unfold State.answer
  exact State.answerEach_kept _ _ _ _ _ _

theorem State.swapIn_kept (s : State) (e : Staged) (f : State → Staged → State) (h : ∀ t, Kept t (f t e)) :
    Kept s (s.swapIn e f) := by
  unfold State.swapIn
  refine Kept.trans ?_ (State.logChange_kept _ _ _ _ _ _)
  refine Kept.trans ?_ (State.answer_kept _ _ _ _ _ _)
  exact Kept.trans (Kept.set_staged (Kept.refl s)) (h _)

theorem applySetKey_kept (a0 : State) (a1 : Staged) :
    Kept a0 (@applySetKey a0 a1) := ⟨rfl, rfl, id⟩

theorem State.saveGnss_kept (a0 : State) :
    Kept a0 (@State.saveGnss a0) := ⟨rfl, rfl, id⟩

theorem applySetLeap_kept (a0 : State) (a1 : Staged) :
    Kept a0 (@applySetLeap a0 a1) := by
  unfold applySetLeap
  dsimp only
  refine Kept.ite ?_ ?_
  · exact Kept.refl _
  · refine Kept.trans ?_ (State.saveGnss_kept _)
    refine Kept.set_time ?_ ?_
    · rfl
    · exact Kept.refl _

theorem State.setImage_kept (a0 : State) (a1 : Image) (a2 : Nat) :
    Kept a0 (@State.setImage a0 a1 a2) := ⟨rfl, rfl, id⟩

theorem State.refreshTime_kept (a0 : State) :
    Kept a0 (@State.refreshTime a0) := by
  unfold State.refreshTime
  refine Kept.ite ?_ ?_
  · exact Kept.refl _
  · refine Kept.set_time ?_ ?_
    · rfl
    · exact Kept.refl _

theorem State.raiseStay_kept (a0 : State) (a1 : Nat) (a2 : Nat) (a3 : List Int) :
    Kept a0 (@State.raiseStay a0 a1 a2 a3) := by
  unfold State.raiseStay
  exact State.raise_kept _ _ _ _ _

theorem State.linksDown_kept (a0 : State) (a1 : Nat → Bool) :
    Kept a0 (@State.linksDown a0 a1) := by
  unfold State.linksDown
  refine Kept.fold (fun _ _ => ?_) _ ?_
  · exact State.raiseStay_kept _ _ _ _
  · exact Kept.refl _

theorem State.cascadeChanged_kept (s : State) : Kept s s.cascadeChanged := by
  unfold State.cascadeChanged
  split
  · have h := State.linksDown_kept s fun _ => false
    refine Kept.trans ?_ (State.refreshTime_kept _)
    exact ⟨h.pending, rfl, h.mem⟩
  · exact (State.linksDown_kept _ _).trans (State.updStay_kept _ _)

theorem State.restartStreams_kept (a0 : State) :
    Kept a0 (@State.restartStreams a0) := ⟨rfl, rfl, id⟩

theorem applyActivate_kept (a0 : State) (a1 : Staged) :
    Kept a0 (@applyActivate a0 a1) := by
  unfold applyActivate
  dsimp only
  refine Kept.trans ?_ (State.cascadeChanged_kept _)
  refine Kept.trans ?_ (State.restartStreams_kept _)
  refine Kept.trans ?_ (State.updLane_kept _ _ _)
  refine Kept.trans ?_ (State.updLane_kept _ _ _)
  exact State.setImage_kept _ _ _

theorem applyStartBank_kept (a0 : State) (a1 : Staged) :
    Kept a0 (@applyStartBank a0 a1) := ⟨rfl, rfl, id⟩

theorem applyLanePolicy_kept (a0 : State) (a1 : Staged) :
    Kept a0 (@applyLanePolicy a0 a1) := ⟨rfl, rfl, id⟩

theorem applyDedupWindow_kept (a0 : State) (a1 : Staged) :
    Kept a0 (@applyDedupWindow a0 a1) := by
  unfold applyDedupWindow
  refine Kept.fold (fun _ _ => ?_) _ ?_
  · exact State.updRecv_kept _ _ _
  · exact Kept.refl _

theorem applyRequestBurst_kept (a0 : State) (a1 : Staged) :
    Kept a0 (@applyRequestBurst a0 a1) := by
  unfold applyRequestBurst
  refine Kept.ite ?_ ?_
  · exact Kept.refl _
  · refine Kept.set_xt ?_
    exact Kept.refl _

theorem State.updChan_kept (a0 : State) (a1 : Nat) (a2 : Chan → Chan) :
    Kept a0 (@State.updChan a0 a1 a2) := ⟨rfl, rfl, id⟩

theorem takeDuty_kept (a0 : Nat) (a1 : Nat) (a2 : Int) (a3 : State) :
    Kept a3 (@takeDuty a0 a1 a2 a3) := by
  unfold takeDuty
  dsimp only
  refine Kept.ite ?_ ?_
  · exact State.updChan_kept _ _ _
  · exact State.updChan_kept _ _ _

theorem takeSwath_kept (a0 : Int) (a1 : State) :
    Kept a1 (@takeSwath a0 a1) := ⟨rfl, rfl, id⟩

theorem State.updSource_kept (a0 : State) (a1 : Nat) (a2 : FusSource → FusSource) :
    Kept a0 (@State.updSource a0 a1 a2) := ⟨rfl, rfl, id⟩

theorem State.unusedSample_kept (a0 : State) (a1 : Nat) :
    Kept a0 (@State.unusedSample a0 a1) := ⟨rfl, rfl, id⟩

theorem State.rejectSample_kept (a0 : State) (a1 : Nat) (a2 : Nat) :
    Kept a0 (@State.rejectSample a0 a1 a2) := by
  unfold State.rejectSample
  refine Kept.trans ?_ (State.raiseFus_kept _ _ _)
  exact State.updSource_kept _ _ _

theorem State.offerOpen_kept (a0 : State) (a1 : Sample) (a2 : OpenRound) :
    Kept a0 (@State.offerOpen a0 a1 a2) := by
  unfold State.offerOpen
  refine Kept.ite ?_ ?_
  · exact State.updSource_kept _ _ _
  · dsimp only
    refine Kept.ite ?_ ?_
    · exact State.updFus_kept _ _
    · refine Kept.trans ?_ (State.rejectSample_kept _ _ _)
      exact State.updFus_kept _ _

theorem State.applyReset_kept (a0 : State) :
    Kept a0 (@State.applyReset a0) := by
  unfold State.applyReset
  split
  · exact Kept.refl _
  · refine Kept.trans ?_ (State.raiseFus_kept _ _ _)
    exact State.updFus_kept _ _

theorem State.moveState_kept (a0 : State) (a1 : Nat) :
    Kept a0 ((@State.moveState a0 a1).1) := ⟨rfl, rfl, id⟩

theorem State.fusionWrite_kept (a0 : State) (a1 : List (Nat × Bytes)) :
    Kept a0 (@State.fusionWrite a0 a1) := by
  unfold State.fusionWrite
  refine Kept.ite ?_ ?_
  · refine Kept.trans ?_ (State.updMem_kept _ _ _ fun m hm => ?_)
    · exact Kept.refl _
    · exact MemCtrl.writes_wf _ _ hm
  · exact Kept.refl _

theorem State.workRound_kept (a0 : State) (a1 : OpenRound) (a2 : Bytes) (a3 : Nat → Option Sample) :
    Kept a0 (@State.workRound a0 a1 a2 a3) := by
  unfold State.workRound
  dsimp only
  refine Kept.trans ?_ (State.useFree_kept _)
  refine Kept.trans ?_ (State.fusionWrite_kept _ _)
  exact State.fusionCover_kept _ _

theorem State.issueRound_kept (a0 : State) (a1 : OpenRound) (a2 : Bool) :
    Kept a0 (@State.issueRound a0 a1 a2) := by
  unfold State.issueRound
  dsimp only
  refine Kept.fold (fun _ _ => ?_) _ ?_
  · refine Kept.ite ?_ ?_
    · exact State.updSource_kept _ _ _
    · exact Kept.refl _
  · refine Kept.trans ?_ (State.updRound_kept _ _ _)
    refine Kept.trans ?_ (State.updFus_kept _ _)
    refine Kept.trans ?_ (State.workRound_kept _ _ _ _)
    refine Kept.ite_fst ?_ ?_
    · refine Kept.trans ?_ (State.moveState_kept _ _)
      refine Kept.ite ?_ ?_
      · exact State.applyReset_kept _
      · exact Kept.refl _
    · dsimp only
      refine Kept.ite ?_ ?_
      · exact State.applyReset_kept _
      · exact Kept.refl _

theorem State.issueComplete_kept (a0 : State) :
    Kept a0 (@State.issueComplete a0) := by
  unfold State.issueComplete
  refine Kept.ite ?_ ?_
  · exact Kept.refl _
  · split
    · exact State.issueRound_kept _ _ _
    · exact Kept.refl _

theorem State.offerPast_kept (a0 : State) (a1 : Sample) (a2 : PastRound) :
    Kept a0 (@State.offerPast a0 a1 a2) := by
  unfold State.offerPast
  split
  · exact State.unusedSample_kept _ _
  · refine Kept.ite ?_ ?_
    · exact State.updSource_kept _ _ _
    · dsimp only
      refine Kept.trans ?_ (State.raiseFus_kept _ _ _)
      refine Kept.trans ?_ (State.updSource_kept _ _ _)
      exact State.updFus_kept _ _

theorem State.sampleArrives_kept (a0 : State) (a1 : Sample) :
    Kept a0 (@State.sampleArrives a0 a1) := by
  unfold State.sampleArrives
  dsimp only
  refine Kept.trans ?_ (State.issueComplete_kept _)
  refine Kept.fold (fun _ _ => ?_) _ ?_
  · exact State.offerPast_kept _ _ _
  · refine Kept.fold (fun _ _ => ?_) _ ?_
    · exact State.offerOpen_kept _ _ _
    · refine Kept.ite ?_ ?_
      · refine Kept.trans ?_ (State.unusedSample_kept _ _)
        exact State.updSource_kept _ _ _
      · exact State.updSource_kept _ _ _

theorem State.takeScalar_kept (a0 : State) (a1 : Nat) (a2 : Nat) (a3 : Copy) :
    Kept a0 (@State.takeScalar a0 a1 a2 a3) := by
  unfold State.takeScalar
  dsimp only
  refine Kept.ite ?_ ?_
  · exact Kept.refl _
  · refine Kept.ite ?_ ?_
    · exact State.updSource_kept _ _ _
    · refine Kept.trans ?_ (State.sampleArrives_kept _ _)
      refine Kept.trans ?_ (State.updSource_kept _ _ _)
      exact State.updSource_kept _ _ _

theorem State.stayBroadcast_kept (a0 : State) (a1 : Option Nat) (a2 : Bool) (a3 : State → Nat → Bytes) :
    Kept a0 (@State.stayBroadcast a0 a1 a2 a3) := by
  unfold State.stayBroadcast
  refine Kept.fold (fun _ _ => ?_) _ ?_
  · exact State.stayOut_kept _ _ _ _
  · exact Kept.refl _

theorem State.takeExport_kept (a0 : State) (a1 : Nat) (a2 : Nat) (a3 : Copy) :
    Kept a0 (@State.takeExport a0 a1 a2 a3) := by
  unfold State.takeExport
  dsimp only
  split
  · refine Kept.ite ?_ ?_
    · exact State.updStay_kept _ _
    · exact State.stayBroadcast_kept _ _ _ _
  · exact Kept.refl _

theorem State.updCan_kept (a0 : State) (a1 : Nat) (a2 : CanPort → CanPort) :
    Kept a0 (@State.updCan a0 a1 a2) := ⟨rfl, rfl, id⟩

theorem State.raiseCan_kept (a0 : State) (a1 : Nat) (a2 : Nat) (a3 : List Int) :
    Kept a0 (@State.raiseCan a0 a1 a2 a3) := by
  unfold State.raiseCan
  exact State.raise_kept _ _ _ _ _

theorem State.takeCan_kept (a0 : State) (a1 : Nat) (a2 : Nat) (a3 : Copy) :
    Kept a0 (@State.takeCan a0 a1 a2 a3) := by
  unfold State.takeCan
  dsimp only
  refine Kept.ite ?_ ?_
  · exact Kept.refl _
  · refine Kept.ite ?_ ?_
    · exact State.updCan_kept _ _ _
    · split
      · refine Kept.trans ?_ (State.raiseCan_kept _ _ _ _)
        exact State.updCan_kept _ _ _
      · refine Kept.ite ?_ ?_
        · refine Kept.trans ?_ (State.raiseCan_kept _ _ _ _)
          exact State.updCan_kept _ _ _
        · exact State.updCan_kept _ _ _

theorem State.takeItem_kept (a0 : State) (a1 : Nat) (a2 : Nat) (a3 : Nat) (a4 : Nat) (a5 : Copy) :
    Kept a0 (@State.takeItem a0 a1 a2 a3 a4 a5) := by
  unfold State.takeItem
  refine Kept.ite ?_ ?_
  · exact takeDuty_kept _ _ _ _
  · refine Kept.ite ?_ ?_
    · exact takeSwath_kept _ _
    · refine Kept.ite ?_ ?_
      · exact State.takeScalar_kept _ _ _ _
      · refine Kept.ite ?_ ?_
        · exact State.takeExport_kept _ _ _ _
        · refine Kept.ite ?_ ?_
          · exact State.takeCan_kept _ _ _ _
          · exact Kept.refl _

theorem State.act_kept (a0 : State) (a1 : Taken) :
    Kept a0 (@State.act a0 a1) := by
  unfold State.act
  split
  · exact State.takeItem_kept _ _ _ _ _ _
  · exact State.handOn_kept _ _

theorem State.actAll_kept (a0 : State × List Taken) :
    Kept a0.1 (@State.actAll a0) := by
  unfold State.actAll
  refine Kept.fold (fun _ _ => ?_) _ ?_
  · exact State.act_kept _ _
  · exact Kept.refl _

theorem State.judgeAll_kept (a0 : State) (a1 : RecvView → Judging → Judging) :
    Kept a0 (@State.judgeAll a0 a1) := by
  unfold State.judgeAll
  refine Kept.fold (fun _ _ => ?_) _ ?_
  · refine Kept.trans ?_ (State.actAll_kept _)
    exact State.judging_kept _ _ _
  · exact Kept.refl _

theorem State.finishAll_kept (a0 : State) :
    Kept a0 (@State.finishAll a0) := by
  unfold State.finishAll
  exact State.judgeAll_kept _ _

theorem State.takeOpen_kept (a0 : State) (a1 : Lane) :
    Kept a0 (@State.takeOpen a0 a1) := by
  unfold State.takeOpen
  exact State.judgeAll_kept _ _

theorem State.updXt_kept (s : State) (l : Lane) (f : XtLane → XtLane) : Kept s (s.updXt l f) := by
  cases l <;> exact ⟨rfl, rfl, id⟩

theorem State.setLaneState_kept (a0 : State) (a1 : Lane) (a2 : LaneState) :
    Kept a0 (@State.setLaneState a0 a1 a2) := by
  unfold State.setLaneState
  exact State.updXt_kept _ _ _

theorem State.designate_kept (a0 : State) (a1 : Lane) (a2 : Nat) :
    Kept a0 (@State.designate a0 a1 a2) := by
  unfold State.designate
  dsimp only
  refine Kept.trans ?_ (State.raise_kept _ _ _ _ _)
  refine Kept.trans ?_ (State.finishAll_kept _)
  refine Kept.trans ?_ (State.takeOpen_kept _ _)
  refine Kept.trans ?_ (State.setLaneState_kept _ _ _)
  refine Kept.set_xt ?_
  exact Kept.refl _

theorem applyRequestSwitch_kept (a0 : State) (a1 : Staged) :
    Kept a0 (@applyRequestSwitch a0 a1) := by
  unfold applyRequestSwitch
  dsimp only
  refine Kept.ite ?_ ?_
  · exact Kept.refl _
  · refine Kept.ite ?_ ?_
    · refine Kept.trans ?_ (State.designate_kept _ _ _)
      exact State.setLaneState_kept _ _ _
    · exact State.raise_kept _ _ _ _ _

theorem State.updEngine_kept (s : State) (l : Lane) (f : Engine → Engine) : Kept s (s.updEngine l f) := by
  cases l <;> exact ⟨rfl, rfl, id⟩

theorem State.updLoop_kept (a0 : State) (a1 : Lane) (a2 : Nat) (a3 : Loop → Loop) :
    Kept a0 (@State.updLoop a0 a1 a2 a3) := by
  unfold State.updLoop
  exact State.updEngine_kept _ _ _

theorem State.updLoops_kept (a0 : State) (a1 : List Lane) (a2 : Nat) (a3 : Loop → Loop) :
    Kept a0 (@State.updLoops a0 a1 a2 a3) := by
  unfold State.updLoops
  refine Kept.fold (fun _ _ => ?_) _ ?_
  · exact State.updLoop_kept _ _ _ _
  · exact Kept.refl _

theorem applyCtrl_kept (a0 : State) (a1 : Staged) :
    Kept a0 (@applyCtrl a0 a1) := by
  unfold applyCtrl
  exact State.updLoops_kept _ _ _ _

theorem State.bumpGen_kept (a0 : State) (a1 : Nat) :
    Kept a0 (@State.bumpGen a0 a1) := ⟨rfl, rfl, id⟩

theorem applyChanConfig_kept (a0 : State) (a1 : Staged) :
    Kept a0 (@applyChanConfig a0 a1) := by
  unfold applyChanConfig
  dsimp only
  refine Kept.ite ?_ ?_
  · exact State.bumpGen_kept _ _
  · refine Kept.trans ?_ (State.updChan_kept _ _ _)
    refine Kept.ite ?_ ?_
    · refine Kept.trans ?_ (State.updChan_kept _ _ _)
      exact State.bumpGen_kept _ _
    · exact State.bumpGen_kept _ _

theorem applyChanProtection_kept (a0 : State) (a1 : Staged) :
    Kept a0 (@applyChanProtection a0 a1) := ⟨rfl, rfl, id⟩

theorem State.setInput_kept (a0 : State) (a1 : Nat) (a2 : SenseInput) :
    Kept a0 (@State.setInput a0 a1 a2) := ⟨rfl, rfl, id⟩

theorem State.updInput_kept (a0 : State) (a1 : Nat) (a2 : InputState → InputState) :
    Kept a0 (@State.updInput a0 a1 a2) := ⟨rfl, rfl, id⟩

theorem State.judgeFault_kept (a0 : State) (a1 : Nat) (a2 : Bool) (a3 : Int) (a4 : Nat) :
    Kept a0 (@State.judgeFault a0 a1 a2 a3 a4) := by
  unfold State.judgeFault
  dsimp only
  refine Kept.ite ?_ ?_
  · refine Kept.trans ?_ (State.raise_kept _ _ _ _ _)
    exact State.updInput_kept _ _ _
  · refine Kept.ite ?_ ?_
    · refine Kept.trans ?_ (State.raise_kept _ _ _ _ _)
      exact State.updInput_kept _ _ _
    · exact Kept.refl _

theorem State.restartInput_kept (a0 : State) (a1 : Nat) :
    Kept a0 (@State.restartInput a0 a1) := by
  unfold State.restartInput
  dsimp only
  refine Kept.trans ?_ (State.updInput_kept _ _ _)
  exact State.judgeFault_kept _ _ _ _ _

theorem applySense_kept (a0 : State) (a1 : Staged) :
    Kept a0 (@applySense a0 a1) := by
  unfold applySense
  dsimp only
  refine Kept.ite ?_ ?_
  · exact State.setInput_kept _ _ _
  · refine Kept.trans ?_ (State.restartInput_kept _ _)
    exact State.setInput_kept _ _ _

theorem applyYieldGrid_kept (a0 : State) (a1 : Staged) :
    Kept a0 (@applyYieldGrid a0 a1) := by
  unfold applyYieldGrid
  dsimp only
  refine Kept.ite ?_ ?_
  · exact State.updYield_kept _ _
  · refine Kept.trans ?_ (State.startClear_kept _)
    exact State.updYield_kept _ _

theorem applyYieldSources_kept (a0 : State) (a1 : Staged) :
    Kept a0 (@applyYieldSources a0 a1) := by
  unfold applyYieldSources
  dsimp only
  refine Kept.ite ?_ ?_
  · refine Kept.trans ?_ (State.updYield_kept _ _)
    exact State.updYield_kept _ _
  · refine Kept.ite ?_ ?_
    · refine Kept.trans ?_ (State.updYield_kept _ _)
      exact State.updYield_kept _ _
    · exact State.updYield_kept _ _

theorem applyYieldClear_kept (a0 : State) (a1 : Staged) :
    Kept a0 (@applyYieldClear a0 a1) := by
  unfold applyYieldClear
  dsimp only
  refine Kept.trans ?_ (State.startClear_kept _)
  refine Kept.trans ?_ (State.updYield_kept _ _)
  refine Kept.ite ?_ ?_
  · exact State.updYield_kept _ _
  · exact Kept.refl _

theorem applyFusSource_kept (a0 : State) (a1 : Staged) :
    Kept a0 (@applyFusSource a0 a1) := ⟨rfl, rfl, id⟩

theorem applyFusRound_kept (a0 : State) (a1 : Staged) :
    Kept a0 (@applyFusRound a0 a1) := by
  unfold applyFusRound
  dsimp only
  refine Kept.ite ?_ ?_
  · refine Kept.trans ?_ (State.updFus_kept _ _)
    refine Kept.ite ?_ ?_
    · refine Kept.trans ?_ (State.updFus_kept _ _)
      exact State.updRound_kept _ _ _
    · exact State.updRound_kept _ _ _
  · refine Kept.ite ?_ ?_
    · refine Kept.trans ?_ (State.updFus_kept _ _)
      exact State.updRound_kept _ _ _
    · exact State.updRound_kept _ _ _

theorem applyFusCanvas_kept (a0 : State) (a1 : Staged) :
    Kept a0 (@applyFusCanvas a0 a1) := ⟨rfl, rfl, id⟩

theorem applyFusReset_kept (a0 : State) (a1 : Staged) :
    Kept a0 (@applyFusReset a0 a1) := ⟨rfl, rfl, id⟩

theorem State.updGnss_kept (a0 : State) (a1 : GnssSt → GnssSt) :
    Kept a0 (@State.updGnss a0 a1) := ⟨rfl, rfl, id⟩

theorem applyGnssConfig_kept (a0 : State) (a1 : Staged) :
    Kept a0 (@applyGnssConfig a0 a1) := ⟨rfl, rfl, id⟩

theorem State.updPulse_kept (a0 : State) (a1 : Nat) (a2 : Pulse → Pulse) :
    Kept a0 (@State.updPulse a0 a1 a2) := ⟨rfl, rfl, id⟩

theorem applyTimePulse_kept (a0 : State) (a1 : Staged) :
    Kept a0 (@applyTimePulse a0 a1) := ⟨rfl, rfl, id⟩

theorem applyGnssWatch_kept (a0 : State) (a1 : Staged) :
    Kept a0 (@applyGnssWatch a0 a1) := ⟨rfl, rfl, id⟩

theorem applyCanPort_kept (a0 : Nat) (a1 : State) (a2 : Staged) :
    Kept a1 (@applyCanPort a0 a1 a2) := ⟨rfl, rfl, id⟩

theorem applyCanFilters_kept (a0 : State) (a1 : Staged) :
    Kept a0 (@applyCanFilters a0 a1) := ⟨rfl, rfl, id⟩

theorem State.raiseEth_kept (a0 : State) (a1 : Nat) (a2 : Nat) (a3 : List Int) :
    Kept a0 (@State.raiseEth a0 a1 a2 a3) := by
  unfold State.raiseEth
  exact State.raise_kept _ _ _ _ _

theorem applyEthPort_kept (a0 : State) (a1 : Staged) :
    Kept a0 (@applyEthPort a0 a1) := by
  unfold applyEthPort
  dsimp only
  refine Kept.ite ?_ ?_
  · refine Kept.trans ?_ (State.raiseEth_kept _ _ _ _)
    refine Kept.trans ?_ (State.updEth_kept _ _ _)
    exact State.updEth_kept _ _ _
  · exact State.updEth_kept _ _ _

theorem applyMemMode_kept (a0 : State) (a1 : Staged) :
    Kept a0 (@applyMemMode a0 a1) := by
  unfold applyMemMode
  dsimp only
  refine Kept.trans ?_ (State.updMem_kept _ _ _ fun m hm => ?_)
  · exact Kept.refl _
  · exact hm

theorem applyMemPatrol_kept (a0 : State) (a1 : Staged) :
    Kept a0 (@applyMemPatrol a0 a1) := by
  unfold applyMemPatrol
  dsimp only
  refine Kept.trans ?_ (State.updMem_kept _ _ _ fun m hm => ?_)
  · exact Kept.refl _
  · exact hm

theorem applyMemFill_kept (a0 : State) (a1 : Staged) :
    Kept a0 (@applyMemFill a0 a1) := ⟨rfl, rfl, id⟩

theorem State.updRec_kept (a0 : State) (a1 : RecSt → RecSt) :
    Kept a0 (@State.updRec a0 a1) := ⟨rfl, rfl, id⟩

theorem applySetRate_kept (a0 : State) (a1 : Staged) :
    Kept a0 (@applySetRate a0 a1) := by
  unfold applySetRate
  dsimp only
  refine Kept.fold (fun _ _ => ?_) _ ?_
  · exact State.updRec_kept _ _
  · exact Kept.refl _

theorem State.updPwr_kept (a0 : State) (a1 : PwrSt → PwrSt) :
    Kept a0 (@State.updPwr a0 a1) := ⟨rfl, rfl, id⟩

theorem State.setDomain_kept (a0 : State) (a1 : Nat) (a2 : Bool) :
    Kept a0 (@State.setDomain a0 a1 a2) := ⟨rfl, rfl, id⟩

theorem State.discardUntaken_kept (a0 : State) (a1 : Lane) :
    Kept a0 (@State.discardUntaken a0 a1) := ⟨rfl, rfl, id⟩

theorem State.coresOff_kept (a0 : State) (a1 : Lane) :
    Kept a0 (@State.coresOff a0 a1) := by
  unfold State.coresOff
  dsimp only
  refine Kept.ite ?_ ?_
  · refine Kept.trans ?_ (State.designate_kept _ _ _)
    refine Kept.trans ?_ (State.finishAll_kept _)
    refine Kept.trans ?_ (State.discardUntaken_kept _ _)
    refine Kept.trans ?_ (State.updXt_kept _ _ _)
    exact State.updLane_kept _ _ _
  · refine Kept.trans ?_ (State.finishAll_kept _)
    refine Kept.trans ?_ (State.discardUntaken_kept _ _)
    refine Kept.trans ?_ (State.updXt_kept _ _ _)
    exact State.updLane_kept _ _ _

theorem State.laneMemOff_kept (a0 : State) (a1 : Lane) :
    Kept a0 (@State.laneMemOff a0 a1) := by
  unfold State.laneMemOff
  exact State.updLane_kept _ _ _

theorem State.fusionDown_kept (a0 : State) :
    Kept a0 (@State.fusionDown a0) := ⟨rfl, rfl, id⟩

theorem State.withdraw_kept (a0 : State) (a1 : Staged) :
    Kept a0 (@State.withdraw a0 a1) := by
  unfold State.withdraw
  dsimp only
  refine Kept.trans ?_ (State.logChange_kept _ _ _ _ _ _)
  refine Kept.trans ?_ (State.answer_kept _ _ _ _ _ _)
  refine Kept.set_staged ?_
  exact Kept.refl _

theorem State.dropStaged_kept (a0 : State) (a1 : Nat) :
    Kept a0 (@State.dropStaged a0 a1) := by
  unfold State.dropStaged
  refine Kept.fold (fun _ _ => ?_) _ ?_
  · exact State.withdraw_kept _ _
  · exact Kept.refl _

theorem State.raiseGnss_kept (a0 : State) (a1 : Nat) (a2 : List Int) :
    Kept a0 (@State.raiseGnss a0 a1 a2) := by
  unfold State.raiseGnss
  exact State.raise_kept _ _ _ _ _

theorem State.loseTime_kept (a0 : State) :
    Kept a0 (@State.loseTime a0) := by
  unfold State.loseTime
  dsimp only
  refine Kept.ite ?_ ?_
  · exact State.updGnss_kept _ _
  · refine Kept.ite ?_ ?_
    · refine Kept.trans ?_ (State.raiseGnss_kept _ _ _)
      refine Kept.trans ?_ (State.updGnss_kept _ _)
      exact State.updGnss_kept _ _
    · refine Kept.trans ?_ (State.updGnss_kept _ _)
      exact State.updGnss_kept _ _

theorem State.gnssDark_kept (a0 : State) :
    Kept a0 (@State.gnssDark a0) := by
  unfold State.gnssDark
  refine Kept.ite ?_ ?_
  · exact Kept.refl _
  · refine Kept.trans ?_ (State.refreshTime_kept _)
    exact State.loseTime_kept _

theorem State.portsDown_kept (a0 : State) :
    Kept a0 (@State.portsDown a0) := ⟨rfl, rfl, id⟩

theorem State.clearOdd_kept (a0 : State) (a1 : Nat) :
    Kept a0 (@State.clearOdd a0 a1) := by
  unfold State.clearOdd
  refine Kept.ite ?_ ?_
  · exact State.updChan_kept _ _ _
  · exact Kept.refl _

theorem State.gateHold_kept (a0 : State) (a1 : Nat) :
    Kept a0 (@State.gateHold a0 a1) := by
  unfold State.gateHold
  dsimp only
  refine Kept.ite ?_ ?_
  · refine Kept.trans ?_ (State.raise_kept _ _ _ _ _)
    refine Kept.trans ?_ (State.updChan_kept _ _ _)
    exact State.clearOdd_kept _ _
  · refine Kept.trans ?_ (State.updChan_kept _ _ _)
    exact State.clearOdd_kept _ _

theorem State.gateDown_kept (a0 : State) :
    Kept a0 (@State.gateDown a0) := by
  unfold State.gateDown
  dsimp only
  refine Kept.trans ?_ (State.bumpGen_kept _ _)
  refine Kept.trans ?_ (State.setDomain_kept _ _ _)
  refine Kept.fold (fun _ _ => ?_) _ ?_
  · exact State.gateHold_kept _ _
  · exact Kept.refl _

theorem State.domainOff_kept (a0 : State) (a1 : Nat) :
    Kept a0 (@State.domainOff a0 a1) := by
  unfold State.domainOff
  dsimp only
  split
  · refine Kept.trans ?_ (State.coresOff_kept _ _)
    exact State.setDomain_kept _ _ _
  · refine Kept.trans ?_ (State.coresOff_kept _ _)
    exact State.setDomain_kept _ _ _
  · refine Kept.trans ?_ (State.laneMemOff_kept _ _)
    exact State.setDomain_kept _ _ _
  · refine Kept.trans ?_ (State.laneMemOff_kept _ _)
    exact State.setDomain_kept _ _ _
  · refine Kept.trans ?_ (State.fusionDown_kept _)
    refine Kept.trans ?_ (State.dropStaged_kept _ _)
    exact State.setDomain_kept _ _ _
  · refine Kept.trans ?_ (State.fusionDown_kept _)
    exact State.setDomain_kept _ _ _
  · refine Kept.set_cams ?_
    refine Kept.trans ?_ (State.dropStaged_kept _ _)
    exact State.setDomain_kept _ _ _
  · refine Kept.trans ?_ (State.gnssDark_kept _)
    refine Kept.trans ?_ (State.updGnss_kept _ _)
    exact State.setDomain_kept _ _ _
  · refine Kept.trans ?_ (State.gnssDark_kept _)
    refine Kept.trans ?_ (State.updGnss_kept _ _)
    refine Kept.trans ?_ (State.dropStaged_kept _ _)
    exact State.setDomain_kept _ _ _
  · refine Kept.set_sense ?_
    refine Kept.trans ?_ (State.dropStaged_kept _ _)
    exact State.setDomain_kept _ _ _
  · refine Kept.set_cans ?_
    refine Kept.trans ?_ (State.dropStaged_kept _ _)
    exact State.setDomain_kept _ _ _
  · refine Kept.trans ?_ (State.portsDown_kept _)
    refine Kept.trans ?_ (State.dropStaged_kept _ _)
    refine Kept.trans ?_ (State.dropStaged_kept _ _)
    exact State.setDomain_kept _ _ _
  · refine Kept.trans ?_ (State.updRec_kept _ _)
    refine Kept.trans ?_ (State.dropStaged_kept _ _)
    exact State.setDomain_kept _ _ _
  · exact State.gateDown_kept _
  · exact State.setDomain_kept _ _ _

theorem State.setAdopted_kept (a0 : State) (a1 : Lane) (a2 : Bool) :
    Kept a0 (@State.setAdopted a0 a1 a2) := by
  unfold State.setAdopted
  split
  · refine Kept.set_power ?_
    exact Kept.refl _
  · refine Kept.set_power ?_
    exact Kept.refl _

theorem State.coresOn_kept (a0 : State) (a1 : Lane) :
    Kept a0 (@State.coresOn a0 a1) := by
  unfold State.coresOn
  refine Kept.ite ?_ ?_
  · refine Kept.trans ?_ (State.setAdopted_kept _ _ _)
    exact State.updXt_kept _ _ _
  · exact Kept.refl _

theorem State.memOn_kept (s : State) (c : Nat) : Kept s (s.memOn c) :=
  s.updMem_kept _ _ fun m hm => (MemCtrl.wf_iff _).2 ⟨rfl, rfl, fun _ hx => by cases hx⟩

theorem State.laneMemOn_kept (a0 : State) (a1 : Lane) :
    Kept a0 (@State.laneMemOn a0 a1) := by
  unfold State.laneMemOn
  refine Kept.trans ?_ (State.memOn_kept _ _)
  exact State.memOn_kept _ _

theorem State.fusionUp_kept (a0 : State) :
    Kept a0 (@State.fusionUp a0) := by
  unfold State.fusionUp
  refine Kept.ite ?_ ?_
  · exact State.updFus_kept _ _
  · exact Kept.refl _

theorem State.startFill_kept (a0 : State) (a1 : Nat) :
    Kept a0 (@State.startFill a0 a1) := by
  unfold State.startFill
  refine Kept.ite ?_ ?_
  · refine Kept.trans ?_ (State.updMem_kept _ _ _ fun m hm => ?_)
    · exact Kept.refl _
    · exact hm
  · exact Kept.refl _

theorem State.trackerUp_kept (a0 : State) :
    Kept a0 (@State.trackerUp a0) := ⟨rfl, rfl, id⟩

theorem State.gateFree_kept (a0 : State) (a1 : Nat) :
    Kept a0 (@State.gateFree a0 a1) := ⟨rfl, rfl, id⟩

theorem State.gateUp_kept (a0 : State) :
    Kept a0 (@State.gateUp a0) := by
  unfold State.gateUp
  dsimp only
  refine Kept.trans ?_ (State.bumpGen_kept _ _)
  refine Kept.fold (fun _ _ => ?_) _ ?_
  · exact State.gateFree_kept _ _
  · refine Kept.set_power ?_
    refine Kept.trans ?_ (State.updPwr_kept _ _)
    exact State.setDomain_kept _ _ _

theorem State.domainOn_kept (a0 : State) (a1 : Nat) :
    Kept a0 (@State.domainOn a0 a1) := by
  unfold State.domainOn
  dsimp only
  split
  · refine Kept.trans ?_ (State.coresOn_kept _ _)
    exact State.setDomain_kept _ _ _
  · refine Kept.trans ?_ (State.coresOn_kept _ _)
    exact State.setDomain_kept _ _ _
  · refine Kept.trans ?_ (State.laneMemOn_kept _ _)
    exact State.setDomain_kept _ _ _
  · refine Kept.trans ?_ (State.laneMemOn_kept _ _)
    exact State.setDomain_kept _ _ _
  · refine Kept.trans ?_ (State.fusionUp_kept _)
    exact State.setDomain_kept _ _ _
  · refine Kept.trans ?_ (State.fusionUp_kept _)
    refine Kept.set_cams ?_
    refine Kept.trans ?_ (State.startFill_kept _ _)
    refine Kept.trans ?_ (State.memOn_kept _ _)
    exact State.setDomain_kept _ _ _
  · refine Kept.trans ?_ (State.trackerUp_kept _)
    exact State.setDomain_kept _ _ _
  · refine Kept.trans ?_ (State.updGnss_kept _ _)
    exact State.setDomain_kept _ _ _
  · refine Kept.trans ?_ (State.updPwr_kept _ _)
    exact State.setDomain_kept _ _ _
  · exact State.gateUp_kept _
  · exact State.setDomain_kept _ _ _

theorem State.raisePwr_kept (a0 : State) (a1 : Nat) (a2 : List Int) :
    Kept a0 (@State.raisePwr a0 a1 a2) := by
  unfold State.raisePwr
  exact State.raise_kept _ _ _ _ _

theorem applySetDomain_kept (a0 : State) (a1 : Staged) :
    Kept a0 (@applySetDomain a0 a1) := by
  unfold applySetDomain
  dsimp only
  refine Kept.trans ?_ (State.raisePwr_kept _ _ _)
  refine Kept.fold (fun _ _ => ?_) _ ?_
  · refine Kept.ite ?_ ?_
    · exact State.domainOn_kept _ _
    · exact Kept.refl _
  · refine Kept.fold (fun _ _ => ?_) _ ?_
    · refine Kept.ite ?_ ?_
      · exact State.domainOff_kept _ _
      · exact Kept.refl _
    · exact Kept.refl _

theorem State.judgeWarning_kept (a0 : State) (a1 : Nat) :
    Kept a0 (@State.judgeWarning a0 a1) := by
  unfold State.judgeWarning
  dsimp only
  split
  · exact Kept.refl _
  · refine Kept.ite ?_ ?_
    · refine Kept.trans ?_ (State.raisePwr_kept _ _ _)
      exact State.updPwr_kept _ _
    · refine Kept.ite ?_ ?_
      · exact State.updPwr_kept _ _
      · exact Kept.refl _

theorem applyPwrConfig_kept (a0 : State) (a1 : Staged) :
    Kept a0 (@applyPwrConfig a0 a1) := by
  unfold applyPwrConfig
  refine Kept.fold (fun _ _ => ?_) _ ?_
  · exact State.judgeWarning_kept _ _
  · exact State.updPwr_kept _ _

theorem applyEnterLow_kept (a0 : State) (a1 : Staged) :
    Kept a0 (@applyEnterLow a0 a1) := by
  unfold applyEnterLow
  refine Kept.ite ?_ ?_
  · exact Kept.refl _
  · exact State.updPwr_kept _ _

theorem applyPwrReset_kept (a0 : State) (a1 : Staged) :
    Kept a0 (@applyPwrReset a0 a1) := ⟨rfl, rfl, id⟩

theorem applyMajor_kept (a0 : Nat) (a1 : State) (a2 : Staged) :
    Kept a1 (@applyMajor a0 a1 a2) := by
  unfold applyMajor
  split
  · exact applySetKey_kept _ _
  · exact applySetLeap_kept _ _
  · exact applyActivate_kept _ _
  · exact applyStartBank_kept _ _
  · exact applyLanePolicy_kept _ _
  · exact applyDedupWindow_kept _ _
  · exact applyRequestBurst_kept _ _
  · exact applyRequestSwitch_kept _ _
  · exact applyCtrl_kept _ _
  · exact applyChanConfig_kept _ _
  · exact applyChanProtection_kept _ _
  · exact applySense_kept _ _
  · exact applySense_kept _ _
  · exact applySense_kept _ _
  · exact applySense_kept _ _
  · exact applyYieldGrid_kept _ _
  · exact applyYieldSources_kept _ _
  · exact applyYieldClear_kept _ _
  · exact applyFusSource_kept _ _
  · exact applyFusRound_kept _ _
  · exact applyFusCanvas_kept _ _
  · exact applyFusReset_kept _ _
  · exact applyGnssConfig_kept _ _
  · exact applyTimePulse_kept _ _
  · exact applyGnssWatch_kept _ _
  · exact applyCanPort_kept _ _ _
  · exact applyCanFilters_kept _ _
  · exact applyEthPort_kept _ _
  · exact applyMemMode_kept _ _
  · exact applyMemPatrol_kept _ _
  · exact applyMemFill_kept _ _
  · exact applySetRate_kept _ _
  · exact applySetDomain_kept _ _
  · exact applyPwrConfig_kept _ _
  · exact applyEnterLow_kept _ _
  · exact applyPwrReset_kept _ _
  · exact Kept.refl _

theorem State.swapMajor_kept (a0 : State) (a1 : Nat) :
    Kept a0 (@State.swapMajor a0 a1) := by
  unfold State.swapMajor
  refine Kept.fold (fun _ _ => ?_) _ ?_
  · refine Kept.trans ?_ (State.swapIn_kept _ _ _ ?_)
    · exact Kept.refl _
    · intro _
      exact applyMajor_kept _ _ _
  · exact Kept.refl _

theorem State.raiseLane_kept (a0 : State) (a1 : Lane) (a2 : Nat) (a3 : Bytes) :
    Kept a0 (@State.raiseLane a0 a1 a2 a3) := by
  unfold State.raiseLane
  refine Kept.ite ?_ ?_
  · refine Kept.trans ?_ (State.logTrouble_kept _ _ _ _ _)
    exact State.raise_kept _ _ _ _ _
  · exact Kept.refl _

theorem healthReportReceived_kept (a0 : Lane) (a1 : State) :
    Kept a1 (@healthReportReceived a0 a1) := by
  unfold healthReportReceived
  split
  · exact Kept.refl _
  · dsimp only
    refine Kept.ite ?_ ?_
    · exact State.updLane_kept _ _ _
    · refine Kept.trans ?_ (State.updXt_kept _ _ _)
      exact State.updLane_kept _ _ _

theorem State.breakScan_kept (a0 : State) (a1 : Nat) :
    Kept a0 (@State.breakScan a0 a1) := by
  unfold State.breakScan
  refine Kept.ite ?_ ?_
  · refine Kept.trans ?_ (State.rejectSample_kept _ _ _)
    exact State.updSource_kept _ _ _
  · exact Kept.refl _

theorem gridShiftAdopt_kept (a0 : State) :
    Kept a0 (@gridShiftAdopt a0) := by
  unfold gridShiftAdopt
  split
  · exact Kept.refl _
  · refine Kept.ite ?_ ?_
    · exact Kept.refl _
    · dsimp only
      refine Kept.trans ?_ (State.raise_kept _ _ _ _ _)
      refine Kept.set_time ?_ ?_
      · rfl
      · exact State.updStay_kept _ _

theorem opSenseSetLoss_kept : opSenseSetLoss.Keeps := by
  exact ⟨fun s r z => ⟨rfl, rfl, id⟩, fun s r => ⟨rfl, rfl, id⟩, fun s r z => ⟨rfl, rfl, id⟩, fun s r z => ⟨rfl,
      rfl, id⟩⟩

theorem State.updLanes_kept (a0 : State) (a1 : LaneSt → LaneSt) :
    Kept a0 (@State.updLanes a0 a1) := ⟨rfl, rfl, id⟩

theorem State.takeSignal_kept (a0 : State) (a1 : Nat) (a2 : Bytes) :
    Kept a0 (@State.takeSignal a0 a1 a2) := by
  unfold State.takeSignal
  dsimp only
  refine Kept.ite ?_ ?_
  · exact Kept.refl _
  · refine Kept.ite ?_ ?_
    · exact State.updStay_kept _ _
    · refine Kept.trans ?_ (State.updLanes_kept _ _)
      exact State.updStay_kept _ _

theorem State.holdLane_kept (a0 : State) (a1 : Lane) :
    Kept a0 (@State.holdLane a0 a1) := by
  unfold State.holdLane
  dsimp only
  split
  · refine Kept.set_staged_xt_power ?_
    refine Kept.trans ?_ (State.updXt_kept _ _ _)
    exact State.updLane_kept _ _ _
  · refine Kept.set_staged_xt_power ?_
    refine Kept.trans ?_ (State.updXt_kept _ _ _)
    exact State.updLane_kept _ _ _

theorem opMemSetPatrol_kept : opMemSetPatrol.Keeps := by
  exact ⟨fun s r z => ⟨rfl, rfl, id⟩, fun s r => ⟨rfl, rfl, id⟩, fun s r z => ⟨rfl, rfl, id⟩, fun s r z => ⟨rfl,
      rfl, id⟩⟩

theorem State.deliverLaneStatus_kept (a0 : State) (a1 : Nat) :
    Kept a0 (@State.deliverLaneStatus a0 a1) := ⟨rfl, rfl, id⟩

theorem State.recordOverrun_kept (a0 : State) (a1 : Overrun) (a2 : Nat) :
    Kept a0 (@State.recordOverrun a0 a1 a2) := by
  unfold State.recordOverrun
  exact State.raise_kept _ _ _ _ _

theorem State.countScheduleOverrun_kept (a0 : State) :
    Kept a0 (@State.countScheduleOverrun a0) := ⟨rfl, rfl, id⟩

theorem State.countDiscrepancy_kept (a0 : State) (a1 : Option Lane) :
    Kept a0 (@State.countDiscrepancy a0 a1) := by
  unfold State.countDiscrepancy
  dsimp only
  refine Kept.ite ?_ ?_
  · refine Kept.set_xt ?_
    split
    · exact State.updXt_kept _ _ _
    · exact Kept.refl _
  · refine Kept.ite ?_ ?_
    · refine Kept.set_xt ?_
      split
      · exact State.updXt_kept _ _ _
      · exact Kept.refl _
    · refine Kept.trans ?_ (State.raise_kept _ _ _ _ _)
      refine Kept.set_xt ?_
      split
      · exact State.updXt_kept _ _ _
      · exact Kept.refl _

theorem State.failLane_kept (a0 : State) (a1 : Lane) (a2 : Nat) :
    Kept a0 (@State.failLane a0 a1 a2) := by
  unfold State.failLane
  dsimp only
  refine Kept.trans ?_ (State.raise_kept _ _ _ _ _)
  refine Kept.trans ?_ (State.finishAll_kept _)
  refine Kept.trans ?_ (State.discardUntaken_kept _ _)
  refine Kept.trans ?_ (State.updXt_kept _ _ _)
  exact State.holdLane_kept _ _

theorem State.laneRestart_kept (a0 : State) (a1 : Lane) :
    Kept a0 (@State.laneRestart a0 a1) := by
  unfold State.laneRestart
  dsimp only
  refine Kept.trans ?_ (State.raise_kept _ _ _ _ _)
  refine Kept.trans ?_ (State.discardUntaken_kept _ _)
  refine Kept.trans ?_ (State.discardUntaken_kept _ _)
  refine Kept.set_xt ?_
  refine Kept.trans ?_ (State.updXt_kept _ _ _)
  refine Kept.trans ?_ (State.updXt_kept _ _ _)
  refine Kept.trans ?_ (State.holdLane_kept _ _)
  exact State.holdLane_kept _ _

theorem State.laneFailure_kept (a0 : State) (a1 : Lane) (a2 : Nat) :
    Kept a0 (@State.laneFailure a0 a1 a2) := by
  unfold State.laneFailure
  refine Kept.ite ?_ ?_
  · exact Kept.refl _
  · refine Kept.ite ?_ ?_
    · refine Kept.ite ?_ ?_
      · refine Kept.trans ?_ (State.designate_kept _ _ _)
        exact State.failLane_kept _ _ _
      · exact State.laneRestart_kept _ _
    · exact State.failLane_kept _ _ _

theorem State.classify_kept (a0 : State) (a1 : Overrun) (a2 : Bool) :
    Kept a0 (@State.classify a0 a1 a2) := by
  unfold State.classify
  refine Kept.ite ?_ ?_
  · refine Kept.trans ?_ (State.recordOverrun_kept _ _ _)
    exact State.countScheduleOverrun_kept _
  · dsimp only
    refine Kept.ite ?_ ?_
    · refine Kept.trans ?_ (State.laneFailure_kept _ _ _)
      refine Kept.trans ?_ (State.countDiscrepancy_kept _ _)
      refine Kept.trans ?_ (State.recordOverrun_kept _ _ _)
      refine Kept.set_sched ?_
      exact Kept.refl _
    · refine Kept.trans ?_ (State.countDiscrepancy_kept _ _)
      refine Kept.trans ?_ (State.recordOverrun_kept _ _ _)
      refine Kept.set_sched ?_
      exact Kept.refl _

theorem overrunClassify_kept (a0 : State) :
    Kept a0 (@overrunClassify a0) := by
  unfold overrunClassify
  refine Kept.ite ?_ ?_
  · exact Kept.refl _
  · dsimp only
    refine Kept.fold (fun _ _ => ?_) _ ?_
    · exact State.classify_kept _ _ _
    · refine Kept.set_xt ?_
      exact Kept.refl _

theorem State.dropManual_kept (a0 : State) :
    Kept a0 (@State.dropManual a0) := by
  unfold State.dropManual
  split
  · split
    · refine Kept.trans ?_ (State.logChange_kept _ _ _ _ _ _)
      exact State.answer_kept _ _ _ _ _ _
    · exact Kept.refl _
  · exact Kept.refl _

theorem State.lockTime_kept (a0 : State) (a1 : Nat) :
    Kept a0 (@State.lockTime a0 a1) := ⟨rfl, rfl, id⟩

theorem State.acceptOffset_kept (a0 : State) (a1 : Int) (a2 : Int) (a3 : Nat) :
    Kept a0 (@State.acceptOffset a0 a1 a2 a3) := by
  unfold State.acceptOffset
  dsimp only
  refine Kept.ite ?_ ?_
  · refine Kept.trans ?_ (State.lockTime_kept _ _)
    refine Kept.ite ?_ ?_
    · refine Kept.set_time_gnss ?_ ?_
      · rfl
      · refine Kept.trans ?_ (State.dropManual_kept _)
        exact State.updGnss_kept _ _
    · refine Kept.set_time_gnss ?_ ?_
      · rfl
      · exact State.updGnss_kept _ _
  · refine Kept.trans ?_ (State.raiseGnss_kept _ _ _)
    refine Kept.trans ?_ (State.lockTime_kept _ _)
    refine Kept.ite ?_ ?_
    · refine Kept.set_time_gnss ?_ ?_
      · rfl
      · refine Kept.trans ?_ (State.dropManual_kept _)
        exact State.updGnss_kept _ _
    · refine Kept.set_time_gnss ?_ ?_
      · rfl
      · exact State.updGnss_kept _ _

theorem State.wakeEvent_kept (a0 : State) :
    Kept a0 (@State.wakeEvent a0) := by
  unfold State.wakeEvent
  refine Kept.ite ?_ ?_
  · exact State.updPwr_kept _ _
  · exact Kept.refl _

theorem canWakePattern_kept (a0 : Nat) (a1 : State) :
    Kept a1 (@canWakePattern a0 a1) := by
  unfold canWakePattern
  refine Kept.ite ?_ ?_
  · exact State.wakeEvent_kept _
  · exact Kept.refl _

theorem State.report_kept (a0 : State) (a1 : Discrepancy) :
    Kept a0 (@State.report a0 a1) := ⟨rfl, rfl, id⟩

theorem State.nextDwell_kept (a0 : State) (a1 : Nat) :
    Kept a0 (@State.nextDwell a0 a1) := ⟨rfl, rfl, id⟩

theorem State.canFrameEnd_kept (a0 : State) (a1 : Nat) :
    Kept a0 (@State.canFrameEnd a0 a1) := by
  unfold State.canFrameEnd
  split
  · exact State.updCan_kept _ _ _
  · exact Kept.refl _

theorem State.canConfine_kept (a0 : State) (a1 : Nat) :
    Kept a0 (@State.canConfine a0 a1) := by
  unfold State.canConfine
  dsimp only
  refine Kept.ite ?_ ?_
  · refine Kept.trans ?_ (State.raiseCan_kept _ _ _ _)
    exact State.updCan_kept _ _ _
  · refine Kept.ite ?_ ?_
    · exact State.updCan_kept _ _ _
    · exact Kept.refl _

theorem State.canBusOff_kept (a0 : State) (a1 : Nat) :
    Kept a0 (@State.canBusOff a0 a1) := by
  unfold State.canBusOff
  dsimp only
  refine Kept.ite ?_ ?_
  · exact Kept.refl _
  · refine Kept.trans ?_ (State.raiseCan_kept _ _ _ _)
    exact State.updCan_kept _ _ _

theorem canBusError_kept (a0 : Nat) (a1 : BusError) (a2 : State) :
    Kept a2 (@canBusError a0 a1 a2) := by
  unfold canBusError
  dsimp only
  refine Kept.ite ?_ ?_
  · exact Kept.refl _
  · refine Kept.ite ?_ ?_
    · refine Kept.ite ?_ ?_
      · exact State.updCan_kept _ _ _
      · refine Kept.trans ?_ (State.nextDwell_kept _ _)
        exact State.updCan_kept _ _ _
    · refine Kept.ite ?_ ?_
      · refine Kept.trans ?_ (State.canFrameEnd_kept _ _)
        exact State.updCan_kept _ _ _
      · refine Kept.ite ?_ ?_
        · refine Kept.trans ?_ (State.canBusOff_kept _ _)
          refine Kept.trans ?_ (State.canConfine_kept _ _)
          refine Kept.trans ?_ (State.updCan_kept _ _ _)
          exact State.updCan_kept _ _ _
        · refine Kept.trans ?_ (State.canFrameEnd_kept _ _)
          refine Kept.trans ?_ (State.canBusOff_kept _ _)
          refine Kept.trans ?_ (State.canConfine_kept _ _)
          refine Kept.trans ?_ (State.updCan_kept _ _ _)
          exact State.updCan_kept _ _ _

theorem memFillDone_kept (a0 : Nat) (a1 : State) :
    Kept a1 (@memFillDone a0 a1) := by
  unfold memFillDone
  split
  · exact Kept.refl _
  · refine Kept.ite ?_ ?_
    · exact Kept.refl _
    · dsimp only
      refine Kept.ite ?_ ?_
      · refine Kept.trans ?_ (State.updMem_kept _ _ _ fun m hm => ?_)
        · exact Kept.refl _
        · exact (MemCtrl.fill_wf m hm :)
      · refine Kept.trans ?_ (State.raise_kept _ _ _ _ _)
        refine Kept.trans ?_ (State.updMem_kept _ _ _ fun m hm => ?_)
        · exact Kept.refl _
        · exact (MemCtrl.fill_wf m hm :)

theorem opYieldSetGrid_kept : opYieldSetGrid.Keeps := by
  exact ⟨fun s r z => ⟨rfl, rfl, id⟩, fun s r => ⟨rfl, rfl, id⟩, fun s r z => ⟨rfl, rfl, id⟩, fun s r z => ⟨rfl,
      rfl, id⟩⟩

theorem opYieldGetTotals_kept : opYieldGetTotals.Keeps := by
  exact ⟨fun s r z => ⟨rfl, rfl, id⟩, fun s r => ⟨rfl, rfl, id⟩, fun s r z => ⟨rfl, rfl, id⟩, fun s r z => ⟨rfl,
      rfl, id⟩⟩

theorem State.clockFails_kept (a0 : State) (a1 : Int) :
    Kept a0 (@State.clockFails a0 a1) := by
  unfold State.clockFails
  dsimp only
  refine Kept.ite ?_ ?_
  · exact State.updGnss_kept _ _
  · refine Kept.trans ?_ (State.raiseGnss_kept _ _ _)
    refine Kept.trans ?_ (State.updGnss_kept _ _)
    exact State.updGnss_kept _ _

theorem opTimeGetStatus_kept : opTimeGetStatus.Keeps := by
  exact ⟨fun s r z => ⟨rfl, rfl, id⟩, fun s r => ⟨rfl, rfl, id⟩, fun s r z => ⟨rfl, rfl, id⟩, fun s r z => ⟨rfl,
      rfl, id⟩⟩

theorem opTimeSetLeap_kept : opTimeSetLeap.Keeps := by
  exact ⟨fun s r z => ⟨rfl, rfl, id⟩, fun s r => ⟨rfl, rfl, id⟩, fun s r z => ⟨rfl, rfl, id⟩, fun s r z => ⟨rfl,
      rfl, id⟩⟩

theorem opTimeSetManual_kept : opTimeSetManual.Keeps := by
  exact ⟨fun s r z => ⟨rfl, rfl, id⟩,
    fun s r => by
    dsimp only [opTimeSetManual]
    refine Kept.set_time ?_ ?_
    · rfl
    · refine Kept.trans ?_ (State.dropManual_kept _)
      exact Kept.refl _,
    fun s r z => ⟨rfl, rfl, id⟩,
    fun s r z => ⟨rfl, rfl, id⟩⟩

theorem opSysGetInfo_kept : opSysGetInfo.Keeps := by
  exact ⟨fun s r z => ⟨rfl, rfl, id⟩, fun s r => ⟨rfl, rfl, id⟩, fun s r z => ⟨rfl, rfl, id⟩, fun s r z => ⟨rfl,
      rfl, id⟩⟩

theorem opSysSetKey_kept : opSysSetKey.Keeps := by
  exact ⟨fun s r z => ⟨rfl, rfl, id⟩, fun s r => ⟨rfl, rfl, id⟩, fun s r z => ⟨rfl, rfl, id⟩, fun s r z => ⟨rfl,
      rfl, id⟩⟩

theorem opSysClearOrigins_kept : opSysClearOrigins.Keeps := by
  exact ⟨fun s r z => ⟨rfl, rfl, id⟩, fun s r => ⟨rfl, rfl, id⟩, fun s r z => ⟨rfl, rfl, id⟩, fun s r z => ⟨rfl,
      rfl, id⟩⟩

theorem opSysGetPacketCounters_kept : opSysGetPacketCounters.Keeps := by
  exact ⟨fun s r z => ⟨rfl, rfl, id⟩, fun s r => ⟨rfl, rfl, id⟩, fun s r z => ⟨rfl, rfl, id⟩, fun s r z => ⟨rfl,
      rfl, id⟩⟩

theorem State.updBank_kept (a0 : State) (a1 : Nat) (a2 : Bank → Bank) :
    Kept a0 (@State.updBank a0 a1 a2) := by
  unfold State.updBank
  refine Kept.ite ?_ ?_
  · refine Kept.set_sched ?_
    exact Kept.refl _
  · refine Kept.set_sched ?_
    exact Kept.refl _

theorem opSchedLoadBegin_kept : opSchedLoadBegin.Keeps := by
  exact ⟨fun s r z => ⟨rfl, rfl, id⟩,
    fun s r => by
    dsimp only [opSchedLoadBegin]
    refine Kept.trans ?_ (State.updBank_kept _ _ _)
    exact Kept.refl _,
    fun s r z => ⟨rfl, rfl, id⟩,
    fun s r z => ⟨rfl, rfl, id⟩⟩

theorem opSchedLoadData_kept : opSchedLoadData.Keeps := by
  exact ⟨fun s r z => ⟨rfl, rfl, id⟩,
    fun s r => by
    dsimp only [opSchedLoadData]
    refine Kept.trans ?_ (State.updBank_kept _ _ _)
    exact Kept.refl _,
    fun s r z => ⟨rfl, rfl, id⟩,
    fun s r z => ⟨rfl, rfl, id⟩⟩

theorem opSchedSetStartBank_kept : opSchedSetStartBank.Keeps := by
  exact ⟨fun s r z => ⟨rfl, rfl, id⟩, fun s r => ⟨rfl, rfl, id⟩, fun s r z => ⟨rfl, rfl, id⟩, fun s r z => ⟨rfl,
      rfl, id⟩⟩

theorem opSchedGetStatus_kept : opSchedGetStatus.Keeps := by
  exact ⟨fun s r z => ⟨rfl, rfl, id⟩, fun s r => ⟨rfl, rfl, id⟩, fun s r z => ⟨rfl, rfl, id⟩, fun s r z => ⟨rfl,
      rfl, id⟩⟩

theorem opLaneGetStatus_kept : opLaneGetStatus.Keeps := by
  exact ⟨fun s r z => ⟨rfl, rfl, id⟩, fun s r => ⟨rfl, rfl, id⟩, fun s r z => ⟨rfl, rfl, id⟩, fun s r z => ⟨rfl,
      rfl, id⟩⟩

theorem opLaneSetPolicy_kept : opLaneSetPolicy.Keeps := by
  exact ⟨fun s r z => ⟨rfl, rfl, id⟩, fun s r => ⟨rfl, rfl, id⟩, fun s r z => ⟨rfl, rfl, id⟩, fun s r z => ⟨rfl,
      rfl, id⟩⟩

theorem opLaneSetDedupWindow_kept : opLaneSetDedupWindow.Keeps := by
  exact ⟨fun s r z => ⟨rfl, rfl, id⟩, fun s r => ⟨rfl, rfl, id⟩, fun s r z => ⟨rfl, rfl, id⟩, fun s r z => ⟨rfl,
      rfl, id⟩⟩

theorem opLaneGetReceiverCounters_kept : opLaneGetReceiverCounters.Keeps := by
  exact ⟨fun s r z => ⟨rfl, rfl, id⟩, fun s r => ⟨rfl, rfl, id⟩, fun s r z => ⟨rfl, rfl, id⟩, fun s r z => ⟨rfl,
      rfl, id⟩⟩

theorem opLaneRequestBurst_kept : opLaneRequestBurst.Keeps := by
  exact ⟨fun s r z => ⟨rfl, rfl, id⟩, fun s r => ⟨rfl, rfl, id⟩, fun s r z => ⟨rfl, rfl, id⟩, fun s r z => ⟨rfl,
      rfl, id⟩⟩

theorem opLaneRequestSwitch_kept : opLaneRequestSwitch.Keeps := by
  exact ⟨fun s r z => ⟨rfl, rfl, id⟩, fun s r => ⟨rfl, rfl, id⟩, fun s r z => ⟨rfl, rfl, id⟩, fun s r z => ⟨rfl,
      rfl, id⟩⟩

theorem opLaneRecover_kept : opLaneRecover.Keeps := by
  exact ⟨fun s r z => ⟨rfl, rfl, id⟩,
    fun s r => by
    dsimp only [opLaneRecover]
    refine Kept.trans ?_ (State.updXt_kept _ _ _)
    refine Kept.trans ?_ (State.holdLane_kept _ _)
    exact Kept.refl _,
    fun s r z => ⟨rfl, rfl, id⟩,
    fun s r z => ⟨rfl, rfl, id⟩⟩

theorem opLaneResyncRequest_kept : opLaneResyncRequest.Keeps := by
  exact ⟨fun s r z => ⟨rfl, rfl, id⟩,
    fun s r => by
    dsimp only [opLaneResyncRequest]
    split
    · refine Kept.ite_fst ?_ ?_
      · dsimp only
        exact State.updXt_kept _ _ _
      · dsimp only
        exact State.updLane_kept _ _ _
    · dsimp only
      exact Kept.refl _,
    fun s r z => ⟨rfl, rfl, id⟩,
    fun s r z => ⟨rfl, rfl, id⟩⟩

theorem opCtrlSetLoop_kept : opCtrlSetLoop.Keeps := by
  exact ⟨fun s r z => ⟨rfl, rfl, id⟩, fun s r => ⟨rfl, rfl, id⟩, fun s r z => ⟨rfl, rfl, id⟩, fun s r z => ⟨rfl,
      rfl, id⟩⟩

theorem opCtrlSetCoeffs_kept : opCtrlSetCoeffs.Keeps := by
  exact ⟨fun s r z => ⟨rfl, rfl, id⟩, fun s r => ⟨rfl, rfl, id⟩, fun s r z => ⟨rfl, rfl, id⟩, fun s r z => ⟨rfl,
      rfl, id⟩⟩

theorem opCtrlSetClamp_kept : opCtrlSetClamp.Keeps := by
  exact ⟨fun s r z => ⟨rfl, rfl, id⟩, fun s r => ⟨rfl, rfl, id⟩, fun s r z => ⟨rfl, rfl, id⟩, fun s r z => ⟨rfl,
      rfl, id⟩⟩

theorem opCtrlPresetState_kept : opCtrlPresetState.Keeps := by
  exact ⟨fun s r z => ⟨rfl, rfl, id⟩, fun s r => ⟨rfl, rfl, id⟩, fun s r z => ⟨rfl, rfl, id⟩, fun s r z => ⟨rfl,
      rfl, id⟩⟩

theorem opCtrlGetLoop_kept : opCtrlGetLoop.Keeps := by
  exact ⟨fun s r z => ⟨rfl, rfl, id⟩, fun s r => ⟨rfl, rfl, id⟩, fun s r z => ⟨rfl, rfl, id⟩, fun s r z => ⟨rfl,
      rfl, id⟩⟩

theorem opCtrlGetStatus_kept : opCtrlGetStatus.Keeps := by
  exact ⟨fun s r z => ⟨rfl, rfl, id⟩, fun s r => ⟨rfl, rfl, id⟩, fun s r z => ⟨rfl, rfl, id⟩, fun s r z => ⟨rfl,
      rfl, id⟩⟩

theorem opCtrlClearCounters_kept : opCtrlClearCounters.Keeps := by
  exact ⟨fun s r z => ⟨rfl, rfl, id⟩,
    fun s r => by
    dsimp only [opCtrlClearCounters]
    refine Kept.trans ?_ (State.updLoops_kept _ _ _ _)
    exact Kept.refl _,
    fun s r z => ⟨rfl, rfl, id⟩,
    fun s r z => ⟨rfl, rfl, id⟩⟩

theorem opChanSetConfig_kept : opChanSetConfig.Keeps := by
  exact ⟨fun s r z => ⟨rfl, rfl, id⟩, fun s r => ⟨rfl, rfl, id⟩, fun s r z => ⟨rfl, rfl, id⟩, fun s r z => ⟨rfl,
      rfl, id⟩⟩

theorem opChanSetProtection_kept : opChanSetProtection.Keeps := by
  exact ⟨fun s r z => ⟨rfl, rfl, id⟩, fun s r => ⟨rfl, rfl, id⟩, fun s r z => ⟨rfl, rfl, id⟩, fun s r z => ⟨rfl,
      rfl, id⟩⟩

theorem opChanGetStatus_kept : opChanGetStatus.Keeps := by
  exact ⟨fun s r z => ⟨rfl, rfl, id⟩, fun s r => ⟨rfl, rfl, id⟩, fun s r z => ⟨rfl, rfl, id⟩, fun s r z => ⟨rfl,
      rfl, id⟩⟩

theorem opChanGetSupply_kept : opChanGetSupply.Keeps := by
  exact ⟨fun s r z => ⟨rfl, rfl, id⟩, fun s r => ⟨rfl, rfl, id⟩, fun s r z => ⟨rfl, rfl, id⟩, fun s r z => ⟨rfl,
      rfl, id⟩⟩

theorem opChanClearCounters_kept : opChanClearCounters.Keeps := by
  exact ⟨fun s r z => ⟨rfl, rfl, id⟩,
    fun s r => by
    dsimp only [opChanClearCounters]
    refine Kept.ite_fst ?_ ?_
    · dsimp only
      refine Kept.set_power ?_
      exact Kept.refl _
    · dsimp only
      refine Kept.trans ?_ (State.updChan_kept _ _ _)
      exact Kept.refl _,
    fun s r z => ⟨rfl, rfl, id⟩,
    fun s r z => ⟨rfl, rfl, id⟩⟩

theorem opChanGetProtection_kept : opChanGetProtection.Keeps := by
  exact ⟨fun s r z => ⟨rfl, rfl, id⟩, fun s r => ⟨rfl, rfl, id⟩, fun s r z => ⟨rfl, rfl, id⟩, fun s r z => ⟨rfl,
      rfl, id⟩⟩

theorem opChanGetGeneration_kept : opChanGetGeneration.Keeps := by
  exact ⟨fun s r z => ⟨rfl, rfl, id⟩, fun s r => ⟨rfl, rfl, id⟩, fun s r z => ⟨rfl, rfl, id⟩, fun s r z => ⟨rfl,
      rfl, id⟩⟩

theorem State.changeChan_kept (a0 : State) (a1 : Nat) (a2 : Chan → Chan) :
    Kept a0 (@State.changeChan a0 a1 a2) := by
  unfold State.changeChan
  dsimp only
  refine Kept.ite ?_ ?_
  · refine Kept.trans ?_ (State.bumpGen_kept _ _)
    exact State.updChan_kept _ _ _
  · exact State.updChan_kept _ _ _

theorem State.clearHold_kept (a0 : State) (a1 : Nat) (a2 : Chan → Chan) :
    Kept a0 (@State.clearHold a0 a1 a2) := by
  unfold State.clearHold
  exact State.changeChan_kept _ _ _

theorem opChanReleaseLatch_kept : opChanReleaseLatch.Keeps := by
  exact ⟨fun s r z => ⟨rfl, rfl, id⟩,
    fun s r => by
    dsimp only [opChanReleaseLatch]
    refine Kept.ite_fst ?_ ?_
    · dsimp only
      exact Kept.refl _
    · dsimp only
      refine Kept.trans ?_ (State.raise_kept _ _ _ _ _)
      refine Kept.trans ?_ (State.clearHold_kept _ _ _)
      refine Kept.trans ?_ (State.bumpGen_kept _ _)
      exact Kept.refl _,
    fun s r z => ⟨rfl, rfl, id⟩,
    fun s r z => ⟨rfl, rfl, id⟩⟩

theorem opChanRefillRetry_kept : opChanRefillRetry.Keeps := by
  exact ⟨fun s r z => ⟨rfl, rfl, id⟩,
    fun s r => by
    dsimp only [opChanRefillRetry]
    refine Kept.trans ?_ (State.raise_kept _ _ _ _ _)
    refine Kept.trans ?_ (State.changeChan_kept _ _ _)
    refine Kept.trans ?_ (State.bumpGen_kept _ _)
    exact Kept.refl _,
    fun s r z => ⟨rfl, rfl, id⟩,
    fun s r z => ⟨rfl, rfl, id⟩⟩

theorem opChanStopReset_kept : opChanStopReset.Keeps := by
  exact ⟨fun s r z => ⟨rfl, rfl, id⟩,
    fun s r => by
    dsimp only [opChanStopReset]
    refine Kept.ite_fst ?_ ?_
    · dsimp only
      exact Kept.refl _
    · dsimp only
      refine Kept.trans ?_ (State.raise_kept _ _ _ _ _)
      refine Kept.fold (fun _ _ => ?_) _ ?_
      · exact State.clearHold_kept _ _ _
      · refine Kept.trans ?_ (State.bumpGen_kept _ _)
        exact Kept.refl _,
    fun s r z => ⟨rfl, rfl, id⟩,
    fun s r z => ⟨rfl, rfl, id⟩⟩

theorem opChanAdopt_kept : opChanAdopt.Keeps := by
  exact ⟨fun s r z => ⟨rfl, rfl, id⟩,
    fun s r => by
    dsimp only [opChanAdopt]
    split
    · refine Kept.ite_fst ?_ ?_
      · dsimp only
        exact Kept.refl _
      · refine Kept.ite_fst ?_ ?_
        · dsimp only
          exact State.updXt_kept _ _ _
        · dsimp only
          refine Kept.trans ?_ (State.raise_kept _ _ _ _ _)
          refine Kept.trans ?_ (State.bumpGen_kept _ _)
          refine Kept.trans ?_ (State.setAdopted_kept _ _ _)
          exact State.updXt_kept _ _ _
    · dsimp only
      exact Kept.refl _,
    fun s r z => ⟨rfl, rfl, id⟩,
    fun s r z => ⟨rfl, rfl, id⟩⟩

theorem opSenseSetInput_kept : opSenseSetInput.Keeps := by
  exact ⟨fun s r z => ⟨rfl, rfl, id⟩, fun s r => ⟨rfl, rfl, id⟩, fun s r z => ⟨rfl, rfl, id⟩, fun s r z => ⟨rfl,
      rfl, id⟩⟩

theorem opSenseSetBridge_kept : opSenseSetBridge.Keeps := by
  exact ⟨fun s r z => ⟨rfl, rfl, id⟩, fun s r => ⟨rfl, rfl, id⟩, fun s r z => ⟨rfl, rfl, id⟩, fun s r z => ⟨rfl,
      rfl, id⟩⟩

theorem opSenseSetSupply_kept : opSenseSetSupply.Keeps := by
  exact ⟨fun s r z => ⟨rfl, rfl, id⟩, fun s r => ⟨rfl, rfl, id⟩, fun s r z => ⟨rfl, rfl, id⟩, fun s r z => ⟨rfl,
      rfl, id⟩⟩

theorem opSenseGetStatus_kept : opSenseGetStatus.Keeps := by
  exact ⟨fun s r z => ⟨rfl, rfl, id⟩, fun s r => ⟨rfl, rfl, id⟩, fun s r z => ⟨rfl, rfl, id⟩, fun s r z => ⟨rfl,
      rfl, id⟩⟩

theorem opYieldSetSources_kept : opYieldSetSources.Keeps := by
  exact ⟨fun s r z => ⟨rfl, rfl, id⟩, fun s r => ⟨rfl, rfl, id⟩, fun s r z => ⟨rfl, rfl, id⟩, fun s r z => ⟨rfl,
      rfl, id⟩⟩

theorem opYieldClearGrid_kept : opYieldClearGrid.Keeps := by
  exact ⟨fun s r z => ⟨rfl, rfl, id⟩, fun s r => ⟨rfl, rfl, id⟩, fun s r z => ⟨rfl, rfl, id⟩, fun s r z => ⟨rfl,
      rfl, id⟩⟩

theorem opCamSetPort_kept : opCamSetPort.Keeps := by
  exact ⟨fun s r z => ⟨rfl, rfl, id⟩, fun s r => ⟨rfl, rfl, id⟩, fun s r z => ⟨rfl, rfl, id⟩, fun s r z => ⟨rfl,
      rfl, id⟩⟩

theorem opCamSetGeometry_kept : opCamSetGeometry.Keeps := by
  exact ⟨fun s r z => ⟨rfl, rfl, id⟩, fun s r => ⟨rfl, rfl, id⟩, fun s r z => ⟨rfl, rfl, id⟩, fun s r z => ⟨rfl,
      rfl, id⟩⟩

theorem opCamSetLinear_kept : opCamSetLinear.Keeps := by
  exact ⟨fun s r z => ⟨rfl, rfl, id⟩, fun s r => ⟨rfl, rfl, id⟩, fun s r z => ⟨rfl, rfl, id⟩, fun s r z => ⟨rfl,
      rfl, id⟩⟩

theorem opCamSetExposure_kept : opCamSetExposure.Keeps := by
  exact ⟨fun s r z => ⟨rfl, rfl, id⟩, fun s r => ⟨rfl, rfl, id⟩, fun s r z => ⟨rfl, rfl, id⟩, fun s r z => ⟨rfl,
      rfl, id⟩⟩

theorem State.updCam_kept (a0 : State) (a1 : Nat) (a2 : CamPort → CamPort) :
    Kept a0 (@State.updCam a0 a1 a2) := ⟨rfl, rfl, id⟩

theorem opCamSensorTransfer_kept : opCamSensorTransfer.Keeps := by
  exact ⟨fun s r z => ⟨rfl, rfl, id⟩, fun s r => ⟨rfl, rfl, id⟩, fun s r z => ⟨rfl, rfl, id⟩, fun s r z => ⟨rfl,
      rfl, id⟩⟩

theorem opCamGetStatus_kept : opCamGetStatus.Keeps := by
  exact ⟨fun s r z => ⟨rfl, rfl, id⟩, fun s r => ⟨rfl, rfl, id⟩, fun s r z => ⟨rfl, rfl, id⟩, fun s r z => ⟨rfl,
      rfl, id⟩⟩

theorem opCamClearCounters_kept : opCamClearCounters.Keeps := by
  exact ⟨fun s r z => ⟨rfl, rfl, id⟩, fun s r => ⟨rfl, rfl, id⟩, fun s r z => ⟨rfl, rfl, id⟩, fun s r z => ⟨rfl,
      rfl, id⟩⟩

theorem opCamSetCfa_kept : opCamSetCfa.Keeps := by
  exact ⟨fun s r z => ⟨rfl, rfl, id⟩, fun s r => ⟨rfl, rfl, id⟩, fun s r z => ⟨rfl, rfl, id⟩, fun s r z => ⟨rfl,
      rfl, id⟩⟩

theorem opCamSetWb_kept : opCamSetWb.Keeps := by
  exact ⟨fun s r z => ⟨rfl, rfl, id⟩, fun s r => ⟨rfl, rfl, id⟩, fun s r z => ⟨rfl, rfl, id⟩, fun s r z => ⟨rfl,
      rfl, id⟩⟩

theorem opCamSetMatrix_kept : opCamSetMatrix.Keeps := by
  exact ⟨fun s r z => ⟨rfl, rfl, id⟩, fun s r => ⟨rfl, rfl, id⟩, fun s r z => ⟨rfl, rfl, id⟩, fun s r z => ⟨rfl,
      rfl, id⟩⟩

theorem opCamSetTone_kept : opCamSetTone.Keeps := by
  exact ⟨fun s r z => ⟨rfl, rfl, id⟩, fun s r => ⟨rfl, rfl, id⟩, fun s r z => ⟨rfl, rfl, id⟩, fun s r z => ⟨rfl,
      rfl, id⟩⟩

theorem opCamSetStream_kept : opCamSetStream.Keeps := by
  exact ⟨fun s r z => ⟨rfl, rfl, id⟩, fun s r => ⟨rfl, rfl, id⟩, fun s r z => ⟨rfl, rfl, id⟩, fun s r z => ⟨rfl,
      rfl, id⟩⟩

theorem opCamSetStats_kept : opCamSetStats.Keeps := by
  exact ⟨fun s r z => ⟨rfl, rfl, id⟩, fun s r => ⟨rfl, rfl, id⟩, fun s r z => ⟨rfl, rfl, id⟩, fun s r z => ⟨rfl,
      rfl, id⟩⟩

theorem opCamGetStreamStatus_kept : opCamGetStreamStatus.Keeps := by
  exact ⟨fun s r z => ⟨rfl, rfl, id⟩, fun s r => ⟨rfl, rfl, id⟩, fun s r z => ⟨rfl, rfl, id⟩, fun s r z => ⟨rfl,
      rfl, id⟩⟩

theorem opFusionSetSource_kept : opFusionSetSource.Keeps := by
  exact ⟨fun s r z => ⟨rfl, rfl, id⟩, fun s r => ⟨rfl, rfl, id⟩, fun s r z => ⟨rfl, rfl, id⟩, fun s r z => ⟨rfl,
      rfl, id⟩⟩

theorem opFusionSetRound_kept : opFusionSetRound.Keeps := by
  exact ⟨fun s r z => ⟨rfl, rfl, id⟩, fun s r => ⟨rfl, rfl, id⟩, fun s r z => ⟨rfl, rfl, id⟩, fun s r z => ⟨rfl,
      rfl, id⟩⟩

theorem opFusionSetCanvas_kept : opFusionSetCanvas.Keeps := by
  exact ⟨fun s r z => ⟨rfl, rfl, id⟩, fun s r => ⟨rfl, rfl, id⟩, fun s r z => ⟨rfl, rfl, id⟩, fun s r z => ⟨rfl,
      rfl, id⟩⟩

theorem opFusionResetState_kept : opFusionResetState.Keeps := by
  exact ⟨fun s r z => ⟨rfl, rfl, id⟩, fun s r => ⟨rfl, rfl, id⟩, fun s r z => ⟨rfl, rfl, id⟩, fun s r z => ⟨rfl,
      rfl, id⟩⟩

theorem State.updSlot_kept (a0 : State) (a1 : Nat) (a2 : NetSlot → NetSlot) :
    Kept a0 (@State.updSlot a0 a1 a2) := ⟨rfl, rfl, id⟩

theorem opFusionNetLoadBegin_kept : opFusionNetLoadBegin.Keeps := by
  exact ⟨fun s r z => ⟨rfl, rfl, id⟩, fun s r => ⟨rfl, rfl, id⟩, fun s r z => ⟨rfl, rfl, id⟩, fun s r z => ⟨rfl,
      rfl, id⟩⟩

theorem opFusionNetLoadData_kept : opFusionNetLoadData.Keeps := by
  exact ⟨fun s r z => ⟨rfl, rfl, id⟩, fun s r => ⟨rfl, rfl, id⟩, fun s r z => ⟨rfl, rfl, id⟩, fun s r z => ⟨rfl,
      rfl, id⟩⟩

theorem opFusionNetLoadEnd_kept : opFusionNetLoadEnd.Keeps := by
  exact ⟨fun s r z => ⟨rfl, rfl, id⟩,
    fun s r => by
    dsimp only [opFusionNetLoadEnd]
    split
    · dsimp only
      exact State.updSlot_kept _ _ _
    · dsimp only
      refine Kept.trans ?_ (State.updSlot_kept _ _ _)
      exact Kept.refl _,
    fun s r z => ⟨rfl, rfl, id⟩,
    fun s r z => ⟨rfl, rfl, id⟩⟩

theorem opFusionGetRoundStatus_kept : opFusionGetRoundStatus.Keeps := by
  exact ⟨fun s r z => ⟨rfl, rfl, id⟩, fun s r => ⟨rfl, rfl, id⟩, fun s r z => ⟨rfl, rfl, id⟩, fun s r z => ⟨rfl,
      rfl, id⟩⟩

theorem opFusionGetSourceStatus_kept : opFusionGetSourceStatus.Keeps := by
  exact ⟨fun s r z => ⟨rfl, rfl, id⟩, fun s r => ⟨rfl, rfl, id⟩, fun s r z => ⟨rfl, rfl, id⟩, fun s r z => ⟨rfl,
      rfl, id⟩⟩

theorem opFusionGetNetStatus_kept : opFusionGetNetStatus.Keeps := by
  exact ⟨fun s r z => ⟨rfl, rfl, id⟩, fun s r => ⟨rfl, rfl, id⟩, fun s r z => ⟨rfl, rfl, id⟩, fun s r z => ⟨rfl,
      rfl, id⟩⟩

theorem opFusionClearCounters_kept : opFusionClearCounters.Keeps := by
  exact ⟨fun s r z => ⟨rfl, rfl, id⟩,
    fun s r => by
    dsimp only [opFusionClearCounters]
    refine Kept.fold (fun _ _ => ?_) _ ?_
    · exact State.updSource_kept _ _ _
    · refine Kept.fold (fun _ _ => ?_) _ ?_
      · exact State.updRound_kept _ _ _
      · exact Kept.refl _,
    fun s r z => ⟨rfl, rfl, id⟩,
    fun s r z => ⟨rfl, rfl, id⟩⟩

theorem opGnssSetConfig_kept : opGnssSetConfig.Keeps := by
  exact ⟨fun s r z => ⟨rfl, rfl, id⟩, fun s r => ⟨rfl, rfl, id⟩, fun s r z => ⟨rfl, rfl, id⟩, fun s r z => ⟨rfl,
      rfl, id⟩⟩

theorem opGnssSetTimePulse_kept : opGnssSetTimePulse.Keeps := by
  exact ⟨fun s r z => ⟨rfl, rfl, id⟩, fun s r => ⟨rfl, rfl, id⟩, fun s r z => ⟨rfl, rfl, id⟩, fun s r z => ⟨rfl,
      rfl, id⟩⟩

theorem opGnssSetWatch_kept : opGnssSetWatch.Keeps := by
  exact ⟨fun s r z => ⟨rfl, rfl, id⟩, fun s r => ⟨rfl, rfl, id⟩, fun s r z => ⟨rfl, rfl, id⟩, fun s r z => ⟨rfl,
      rfl, id⟩⟩

theorem takeAid_kept (a0 : State) (a1 : Bytes) :
    Kept a0 (@takeAid a0 a1) := by
  unfold takeAid
  dsimp only
  split
  · refine Kept.ite ?_ ?_
    · exact State.updGnss_kept _ _
    · refine Kept.trans ?_ (State.updGnss_kept _ _)
      exact State.updGnss_kept _ _
  · refine Kept.trans ?_ (State.updGnss_kept _ _)
    exact State.updGnss_kept _ _
  · refine Kept.ite ?_ ?_
    · exact State.updGnss_kept _ _
    · split
      · refine Kept.ite ?_ ?_
        · exact State.updGnss_kept _ _
        · refine Kept.trans ?_ (State.raiseGnss_kept _ _ _)
          refine Kept.trans ?_ (State.updGnss_kept _ _)
          exact State.updGnss_kept _ _
      · refine Kept.trans ?_ (State.updGnss_kept _ _)
        exact State.updGnss_kept _ _

theorem opGnssAid_kept : opGnssAid.Keeps := by
  exact ⟨fun s r z => ⟨rfl, rfl, id⟩,
    fun s r => by
    dsimp only [opGnssAid]
    refine Kept.trans ?_ (State.updGnss_kept _ _)
    refine Kept.fold (fun _ _ => ?_) _ ?_
    · exact takeAid_kept _ _
    · refine Kept.trans ?_ (State.updGnss_kept _ _)
      exact Kept.refl _,
    fun s r z => ⟨rfl, rfl, id⟩,
    fun s r z => ⟨rfl, rfl, id⟩⟩

theorem opGnssResetData_kept : opGnssResetData.Keeps := by
  exact ⟨fun s r z => ⟨rfl, rfl, id⟩, fun s r => ⟨rfl, rfl, id⟩, fun s r z => ⟨rfl, rfl, id⟩, fun s r z => ⟨rfl,
      rfl, id⟩⟩

theorem opGnssGetStatus_kept : opGnssGetStatus.Keeps := by
  exact ⟨fun s r z => ⟨rfl, rfl, id⟩, fun s r => ⟨rfl, rfl, id⟩, fun s r z => ⟨rfl, rfl, id⟩, fun s r z => ⟨rfl,
      rfl, id⟩⟩

theorem opGnssClearCounters_kept : opGnssClearCounters.Keeps := by
  exact ⟨fun s r z => ⟨rfl, rfl, id⟩, fun s r => ⟨rfl, rfl, id⟩, fun s r z => ⟨rfl, rfl, id⟩, fun s r z => ⟨rfl,
      rfl, id⟩⟩

theorem opCanSetPort_kept : opCanSetPort.Keeps := by
  exact ⟨fun s r z => ⟨rfl, rfl, id⟩, fun s r => ⟨rfl, rfl, id⟩, fun s r z => ⟨rfl, rfl, id⟩, fun s r z => ⟨rfl,
      rfl, id⟩⟩

theorem opCanSetFilters_kept : opCanSetFilters.Keeps := by
  exact ⟨fun s r z => ⟨rfl, rfl, id⟩, fun s r => ⟨rfl, rfl, id⟩, fun s r z => ⟨rfl, rfl, id⟩, fun s r z => ⟨rfl,
      rfl, id⟩⟩

theorem opCanRecover_kept : opCanRecover.Keeps := by
  exact ⟨fun s r z => ⟨rfl, rfl, id⟩, fun s r => ⟨rfl, rfl, id⟩, fun s r z => ⟨rfl, rfl, id⟩, fun s r z => ⟨rfl,
      rfl, id⟩⟩

theorem opCanGetStatus_kept : opCanGetStatus.Keeps := by
  exact ⟨fun s r z => ⟨rfl, rfl, id⟩, fun s r => ⟨rfl, rfl, id⟩, fun s r z => ⟨rfl, rfl, id⟩, fun s r z => ⟨rfl,
      rfl, id⟩⟩

theorem opCanClearCounters_kept : opCanClearCounters.Keeps := by
  exact ⟨fun s r z => ⟨rfl, rfl, id⟩, fun s r => ⟨rfl, rfl, id⟩, fun s r z => ⟨rfl, rfl, id⟩, fun s r z => ⟨rfl,
      rfl, id⟩⟩

theorem State.issueChange_kept (a0 : State) (a1 : Bool) (a2 : Nat) (a3 : Nat) (a4 : Nat) :
    Kept a0 (@State.issueChange a0 a1 a2 a3 a4) := by
  unfold State.issueChange
  dsimp only
  refine Kept.trans ?_ (State.updStay_kept _ _)
  exact State.stayBroadcast_kept _ _ _ _

theorem opStayJoin_kept : opStayJoin.Keeps := by
  exact ⟨fun s r z => ⟨rfl, rfl, id⟩,
    fun s r => ⟨rfl, rfl, id⟩,
    fun s r z => ⟨rfl, rfl, id⟩,
    fun s r z => by
    dsimp only [opStayJoin]
    refine Kept.trans ?_ (State.issueChange_kept _ _ _ _ _)
    exact Kept.refl _⟩

theorem opStayLeave_kept : opStayLeave.Keeps := by
  exact ⟨fun s r z => ⟨rfl, rfl, id⟩,
    fun s r => ⟨rfl, rfl, id⟩,
    fun s r z => ⟨rfl, rfl, id⟩,
    fun s r z => by
    dsimp only [opStayLeave]
    refine Kept.trans ?_ (State.issueChange_kept _ _ _ _ _)
    exact Kept.refl _⟩

theorem opStayGetStatus_kept : opStayGetStatus.Keeps := by
  exact ⟨fun s r z => ⟨rfl, rfl, id⟩, fun s r => ⟨rfl, rfl, id⟩, fun s r z => ⟨rfl, rfl, id⟩, fun s r z => ⟨rfl,
      rfl, id⟩⟩

theorem opStayGetStation_kept : opStayGetStation.Keeps := by
  exact ⟨fun s r z => ⟨rfl, rfl, id⟩, fun s r => ⟨rfl, rfl, id⟩, fun s r z => ⟨rfl, rfl, id⟩, fun s r z => ⟨rfl,
      rfl, id⟩⟩

theorem opEthSetPort_kept : opEthSetPort.Keeps := by
  exact ⟨fun s r z => ⟨rfl, rfl, id⟩, fun s r => ⟨rfl, rfl, id⟩, fun s r z => ⟨rfl, rfl, id⟩, fun s r z => ⟨rfl,
      rfl, id⟩⟩

theorem opEthGetStatus_kept : opEthGetStatus.Keeps := by
  exact ⟨fun s r z => ⟨rfl, rfl, id⟩, fun s r => ⟨rfl, rfl, id⟩, fun s r z => ⟨rfl, rfl, id⟩, fun s r z => ⟨rfl,
      rfl, id⟩⟩

theorem opStayClearCounters_kept : opStayClearCounters.Keeps := by
  exact ⟨fun s r z => ⟨rfl, rfl, id⟩, fun s r => ⟨rfl, rfl, id⟩, fun s r z => ⟨rfl, rfl, id⟩, fun s r z => ⟨rfl,
      rfl, id⟩⟩

theorem opMemSetMode_kept : opMemSetMode.Keeps := by
  exact ⟨fun s r z => ⟨rfl, rfl, id⟩, fun s r => ⟨rfl, rfl, id⟩, fun s r z => ⟨rfl, rfl, id⟩, fun s r z => ⟨rfl,
      rfl, id⟩⟩

theorem opMemGetStatus_kept : opMemGetStatus.Keeps := by
  exact ⟨fun s r z => ⟨rfl, rfl, id⟩, fun s r => ⟨rfl, rfl, id⟩, fun s r z => ⟨rfl, rfl, id⟩, fun s r z => ⟨rfl,
      rfl, id⟩⟩

theorem opMemClearLog_kept : opMemClearLog.Keeps := by
  exact ⟨fun s r z => ⟨rfl, rfl, id⟩,
    fun s r => by
    dsimp only [opMemClearLog]
    refine Kept.trans ?_ (State.updMem_kept _ _ _ fun m hm => ?_)
    · exact Kept.refl _
    · exact hm,
    fun s r z => ⟨rfl, rfl, id⟩,
    fun s r z => ⟨rfl, rfl, id⟩⟩

theorem State.sendHeartbeat_kept (a0 : State) (a1 : Lane) :
    Kept a0 (@State.sendHeartbeat a0 a1) := by
  unfold State.sendHeartbeat
  exact State.updLane_kept _ _ _

theorem State.fatalFault_kept (a0 : State) (a1 : Lane) :
    Kept a0 (@State.fatalFault a0 a1) := by
  unfold State.fatalFault
  refine Kept.ite ?_ ?_
  · refine Kept.trans ?_ (State.sendHeartbeat_kept _ _)
    exact State.updLane_kept _ _ _
  · exact Kept.refl _

theorem State.noteUncorrectable_kept (a0 : State) (a1 : Nat) (a2 : Nat) (a3 : Nat) :
    Kept a0 (@State.noteUncorrectable a0 a1 a2 a3) := by
  unfold State.noteUncorrectable
  dsimp only
  split
  · refine Kept.trans ?_ (State.fatalFault_kept _ _)
    refine Kept.ite ?_ ?_
    · exact Kept.refl _
    · refine Kept.trans ?_ (State.raise_kept _ _ _ _ _)
      refine Kept.trans ?_ (State.updMem_kept _ _ _ fun m hm => ?_)
      · exact Kept.refl _
      · exact hm
  · refine Kept.ite ?_ ?_
    · exact Kept.refl _
    · refine Kept.trans ?_ (State.raise_kept _ _ _ _ _)
      refine Kept.trans ?_ (State.updMem_kept _ _ _ fun m hm => ?_)
      · exact Kept.refl _
      · exact hm

theorem opMemRewrite_kept : opMemRewrite.Keeps := by
  exact ⟨fun s r z => ⟨rfl, rfl, id⟩,
    fun s r => by
    dsimp only [opMemRewrite]
    refine Kept.ite_fst ?_ ?_
    · dsimp only
      refine Kept.trans ?_ (State.updMem_kept _ _ _ fun m hm => ?_)
      · exact Kept.refl _
      · exact MemCtrl.fold_wf (fun m x hm => m.store_wf _ _ hm) _ hm
    · dsimp only
      refine Kept.fold (fun _ _ => ?_) _ ?_
      · exact State.noteUncorrectable_kept _ _ _ _
      · exact Kept.refl _,
    fun s r z => ⟨rfl, rfl, id⟩,
    fun s r z => ⟨rfl, rfl, id⟩⟩

theorem opMemTestWrite_kept : opMemTestWrite.Keeps := by
  refine ⟨fun s r z => ⟨rfl, rfl, id⟩, fun s r => ?_, fun s r z => ⟨rfl, rfl, id⟩, fun s r z => ⟨rfl, rfl, id⟩⟩
  refine s.updMem_kept _ _ fun m hm => MemCtrl.fold_wf (fun m i hm => ?_) _ hm
  split
  · exact m.store_wf _ _ hm
  · rw [MemCtrl.wf_iff] at hm ⊢
    exact ⟨hm.1, by rw [Cells.put_eq]; exact Tbl.rising_put _ _ _ _ (Nat.zero_le _) hm.2.1, hm.2.2⟩

theorem opMemTestRead_kept : opMemTestRead.Keeps := by
  exact ⟨fun s r z => ⟨rfl, rfl, id⟩, fun s r => ⟨rfl, rfl, id⟩, fun s r z => ⟨rfl, rfl, id⟩, fun s r z => ⟨rfl,
      rfl, id⟩⟩

theorem opMemSetFill_kept : opMemSetFill.Keeps := by
  exact ⟨fun s r z => ⟨rfl, rfl, id⟩, fun s r => ⟨rfl, rfl, id⟩, fun s r z => ⟨rfl, rfl, id⟩, fun s r z => ⟨rfl,
      rfl, id⟩⟩

theorem opRecRead_kept : opRecRead.Keeps := by
  exact ⟨fun s r z => ⟨rfl, rfl, id⟩, fun s r => ⟨rfl, rfl, id⟩, fun s r z => ⟨rfl, rfl, id⟩, fun s r z => ⟨rfl,
      rfl, id⟩⟩

theorem opRecReadTrouble_kept : opRecReadTrouble.Keeps := by
  exact ⟨fun s r z => ⟨rfl, rfl, id⟩,
    fun s r => by
    dsimp only [opRecReadTrouble]
    refine Kept.ite_fst ?_ ?_
    · dsimp only
      exact Kept.refl _
    · dsimp only
      exact Kept.refl _,
    fun s r z => ⟨rfl, rfl, id⟩,
    fun s r z => ⟨rfl, rfl, id⟩⟩

theorem opRecGetStatus_kept : opRecGetStatus.Keeps := by
  exact ⟨fun s r z => ⟨rfl, rfl, id⟩, fun s r => ⟨rfl, rfl, id⟩, fun s r z => ⟨rfl, rfl, id⟩, fun s r z => ⟨rfl,
      rfl, id⟩⟩

theorem opRecFreeze_kept : opRecFreeze.Keeps := by
  exact ⟨fun s r z => ⟨rfl, rfl, id⟩, fun s r => ⟨rfl, rfl, id⟩, fun s r z => ⟨rfl, rfl, id⟩, fun s r z => ⟨rfl,
      rfl, id⟩⟩

theorem State.formOwed_kept (a0 : State) :
    Kept a0 (@State.formOwed a0) := by
  unfold State.formOwed
  dsimp only
  refine Kept.ite ?_ ?_
  · refine Kept.trans ?_ (State.updRec_kept _ _)
    split
    · refine Kept.ite ?_ ?_
      · refine Kept.trans ?_ (State.updRec_kept _ _)
        refine Kept.ite ?_ ?_
        · exact State.updRec_kept _ _
        · exact Kept.refl _
      · refine Kept.ite ?_ ?_
        · exact State.updRec_kept _ _
        · exact Kept.refl _
    · refine Kept.ite ?_ ?_
      · exact State.updRec_kept _ _
      · exact Kept.refl _
  · split
    · refine Kept.ite ?_ ?_
      · refine Kept.trans ?_ (State.updRec_kept _ _)
        refine Kept.ite ?_ ?_
        · exact State.updRec_kept _ _
        · exact Kept.refl _
      · refine Kept.ite ?_ ?_
        · exact State.updRec_kept _ _
        · exact Kept.refl _
    · refine Kept.ite ?_ ?_
      · exact State.updRec_kept _ _
      · exact Kept.refl _

theorem State.endFreeze_kept (a0 : State) (a1 : Bool) :
    Kept a0 (@State.endFreeze a0 a1) := by
  unfold State.endFreeze
  dsimp only
  refine Kept.trans ?_ (State.formOwed_kept _)
  exact State.updRec_kept _ _

theorem opRecUnfreeze_kept : opRecUnfreeze.Keeps := by
  exact ⟨fun s r z => ⟨rfl, rfl, id⟩,
    fun s r => by
    dsimp only [opRecUnfreeze]
    refine Kept.ite_fst ?_ ?_
    · dsimp only
      exact State.endFreeze_kept _ _
    · dsimp only
      exact Kept.refl _,
    fun s r z => ⟨rfl, rfl, id⟩,
    fun s r z => ⟨rfl, rfl, id⟩⟩

theorem State.commit_kept (a0 : State) (a1 : Event) (a2 : Bool) (a3 : Bool) :
    Kept a0 (@State.commit a0 a1 a2 a3) := ⟨rfl, rfl, id⟩

theorem opRecClear_kept : opRecClear.Keeps := by
  exact ⟨fun s r z => ⟨rfl, rfl, id⟩,
    fun s r => by
    dsimp only [opRecClear]
    refine Kept.ite_fst ?_ ?_
    · dsimp only
      exact Kept.refl _
    · dsimp only
      refine Kept.trans ?_ (State.updRec_kept _ _)
      refine Kept.trans ?_ (State.commit_kept _ _ _ _)
      refine Kept.trans ?_ (State.updRec_kept _ _)
      exact Kept.refl _,
    fun s r z => ⟨rfl, rfl, id⟩,
    fun s r z => ⟨rfl, rfl, id⟩⟩

theorem opRecSetRate_kept : opRecSetRate.Keeps := by
  exact ⟨fun s r z => ⟨rfl, rfl, id⟩, fun s r => ⟨rfl, rfl, id⟩, fun s r z => ⟨rfl, rfl, id⟩, fun s r z => ⟨rfl,
      rfl, id⟩⟩

theorem opRecGetRate_kept : opRecGetRate.Keeps := by
  exact ⟨fun s r z => ⟨rfl, rfl, id⟩, fun s r => ⟨rfl, rfl, id⟩, fun s r z => ⟨rfl, rfl, id⟩, fun s r z => ⟨rfl,
      rfl, id⟩⟩

theorem opPwrSetDomain_kept : opPwrSetDomain.Keeps := by
  exact ⟨fun s r z => ⟨rfl, rfl, id⟩, fun s r => ⟨rfl, rfl, id⟩, fun s r z => ⟨rfl, rfl, id⟩, fun s r z => ⟨rfl,
      rfl, id⟩⟩

theorem opPwrSetConfig_kept : opPwrSetConfig.Keeps := by
  exact ⟨fun s r z => ⟨rfl, rfl, id⟩, fun s r => ⟨rfl, rfl, id⟩, fun s r z => ⟨rfl, rfl, id⟩, fun s r z => ⟨rfl,
      rfl, id⟩⟩

theorem opPwrEnterLow_kept : opPwrEnterLow.Keeps := by
  exact ⟨fun s r z => ⟨rfl, rfl, id⟩, fun s r => ⟨rfl, rfl, id⟩, fun s r z => ⟨rfl, rfl, id⟩, fun s r z => ⟨rfl,
      rfl, id⟩⟩

theorem opPwrReset_kept : opPwrReset.Keeps := by
  exact ⟨fun s r z => ⟨rfl, rfl, id⟩, fun s r => ⟨rfl, rfl, id⟩, fun s r z => ⟨rfl, rfl, id⟩, fun s r z => ⟨rfl,
      rfl, id⟩⟩

theorem opSchedLoadEnd_kept : opSchedLoadEnd.Keeps := by
  exact ⟨fun s r z => ⟨rfl, rfl, id⟩,
    fun s r => by
    dsimp only [opSchedLoadEnd]
    split
    · dsimp only
      exact State.updBank_kept _ _ _
    · dsimp only
      refine Kept.trans ?_ (State.updBank_kept _ _ _)
      exact Kept.refl _,
    fun s r z => ⟨rfl, rfl, id⟩,
    fun s r z => ⟨rfl, rfl, id⟩⟩

theorem opSchedActivateInit_kept : opSchedActivateInit.Keeps := by
  exact ⟨fun s r z => ⟨rfl, rfl, id⟩, fun s r => ⟨rfl, rfl, id⟩, fun s r z => ⟨rfl, rfl, id⟩, fun s r z => ⟨rfl,
      rfl, id⟩⟩

theorem State.refuseAuth_kept (a0 : State) (a1 : Nat) (a2 : Request) :
    Kept a0 (@State.refuseAuth a0 a1 a2) := by
  unfold State.refuseAuth
  dsimp only
  refine Kept.trans ?_ (State.raisePaired_kept _ _ _ _)
  refine Kept.trans ?_ (State.answer_kept _ _ _ _ _ _)
  refine Kept.set_sys ?_
  exact Kept.refl _

theorem OpSpec.reply_kept (a0 : OpSpec) (ha0 : a0.Keeps) (a1 : Request) (a2 : Resolved) (a3 : Nat) (a4 : Bytes)
    (a5 : State) :
    Kept a5 (@OpSpec.reply a0 a1 a2 a3 a4 a5) := by
  unfold OpSpec.reply
  split
  · exact State.answerEach_kept _ _ _ _ _ _
  · exact State.answerFrom_kept _ _ _ _ _ _ _ _
  · exact State.answer_kept _ _ _ _ _ _

theorem State.supersede_kept (a0 : State) (a1 : Staged) :
    Kept a0 (@State.supersede a0 a1) := by
  unfold State.supersede
  dsimp only
  refine Kept.ite ?_ ?_
  · refine Kept.fold (fun _ _ => ?_) _ ?_
    · exact State.withdraw_kept _ _
    · exact State.withdraw_kept _ _
  · exact State.withdraw_kept _ _

theorem State.stage_kept (a0 : State) (a1 : OpSpec) (ha1 : a1.Keeps) (a2 : Request) (a3 : Resolved) :
    Kept a0 (@State.stage a0 a1 a2 a3) := by
  unfold State.stage
  dsimp only
  refine Kept.ite ?_ ?_
  · exact State.answer_kept _ _ _ _ _ _
  · refine Kept.trans ?_ (OpSpec.Keeps.onStage ‹_› _ _ _)
    refine Kept.trans ?_ (State.logChange_kept _ _ _ _ _ _)
    refine Kept.trans ?_ (State.answer_kept _ _ _ _ _ _)
    refine Kept.set_staged ?_
    split
    · exact State.supersede_kept _ _
    · exact Kept.refl _

theorem State.perform_kept (a0 : State) (a1 : OpSpec) (ha1 : a1.Keeps) (a2 : Request) (a3 : Resolved) :
    Kept a0 (@State.perform a0 a1 a2 a3) := by
  unfold State.perform
  refine Kept.ite ?_ ?_
  · exact Kept.refl _
  · refine Kept.ite ?_ ?_
    · exact State.answer_kept _ _ _ _ _ _
    · split
      · dsimp only
        refine Kept.ite ?_ ?_
        · refine Kept.trans ?_ (State.refuseAuth_kept _ _ _)
          exact OpSpec.Keeps.refused ‹_› _ _ _
        · refine Kept.trans ?_ (State.answer_kept _ _ _ _ _ _)
          exact OpSpec.Keeps.refused ‹_› _ _ _
      · refine Kept.ite ?_ ?_
        · split
          · dsimp only
            refine Kept.ite ?_ ?_
            · refine Kept.trans ?_ (State.logChange_kept _ _ _ _ _ _)
              refine Kept.trans ?_ (OpSpec.reply_kept _ ?_ _ _ _ _ _)
              · refine Kept.of_pair (by assumption) ?_
                exact OpSpec.Keeps.run ‹_› _ _
              · assumption
            · refine Kept.trans ?_ (OpSpec.reply_kept _ ?_ _ _ _ _ _)
              · refine Kept.of_pair (by assumption) ?_
                exact OpSpec.Keeps.run ‹_› _ _
              · assumption
          · refine Kept.of_pair (by assumption) ?_
            exact OpSpec.Keeps.run ‹_› _ _
        · refine Kept.trans ?_ (State.stage_kept _ _ ?_ _ _)
          · exact OpSpec.Keeps.preStage ‹_› _ _ _
          · assumption

theorem State.sendCommand_kept (a0 : State) (a1 : OpSpec) (ha1 : a1.Keeps) (a2 : Request) (a3 : Resolved) :
    Kept a0 ((@State.sendCommand a0 a1 a2 a3).1) := by
  unfold State.sendCommand
  exact State.offer_kept _ _ _ _ _ _ _

theorem State.actOn_kept (a0 : OpSpec) (ha0 : a0.Keeps) (a1 : State) (a2 : Taken) :
    Kept a1 (@State.actOn a0 a1 a2) := by
  unfold State.actOn
  split
  · refine Kept.ite ?_ ?_
    · refine Kept.trans ?_ (State.perform_kept _ _ ?_ _ _)
      · exact Kept.refl _
      · assumption
    · exact State.handOn_kept _ _
  · exact State.handOn_kept _ _

theorem State.reach_kept (a0 : State) (a1 : OpSpec) (ha1 : a1.Keeps) (a2 : Request) (a3 : Resolved) :
    Kept a0 (@State.reach a0 a1 a2 a3) := by
  unfold State.reach
  refine Kept.ite ?_ ?_
  · refine Kept.trans ?_ (State.perform_kept _ _ ?_ _ _)
    · exact Kept.refl _
    · assumption
  · dsimp only
    refine Kept.fold (fun _ _ => ?_) _ ?_
    · refine Kept.trans ?_ (State.actOn_kept _ ?_ _ _)
      · exact Kept.refl _
      · assumption
    · refine Kept.trans ?_ (State.sendCommand_kept _ _ ?_ _ _)
      · exact Kept.refl _
      · assumption

theorem State.reachCrosstree_kept (a0 : State) (a1 : OpSpec) (ha1 : a1.Keeps) (a2 : Request) (a3 : Resolved) :
    Kept a0 (@State.reachCrosstree a0 a1 a2 a3) := by
  unfold State.reachCrosstree
  dsimp only
  split
  · split
    · exact State.answer_kept _ _ _ _ _ _
    · exact Kept.refl _
  · refine Kept.ite ?_ ?_
    · refine Kept.fold (fun _ _ => ?_) _ ?_
      · exact State.updLane_kept _ _ _
      · split
        · exact State.answer_kept _ _ _ _ _ _
        · exact Kept.refl _
    · refine Kept.trans ?_ (State.reach_kept _ _ ?_ _ _)
      · split
        · exact State.answer_kept _ _ _ _ _ _
        · exact Kept.refl _
      · assumption

theorem State.noteRefused_kept (a0 : State) (a1 : Lane) (a2 : Nat) :
    Kept a0 (@State.noteRefused a0 a1 a2) := by
  unfold State.noteRefused
  dsimp only
  refine Kept.ite ?_ ?_
  · exact Kept.refl _
  · refine Kept.trans ?_ (State.raise_kept _ _ _ _ _)
    split
    · refine Kept.set_power ?_
      exact Kept.refl _
    · refine Kept.set_power ?_
      exact Kept.refl _

theorem State.reachChannels_kept (a0 : State) (a1 : OpSpec) (ha1 : a1.Keeps) (a2 : Request) (a3 : Resolved) :
    Kept a0 (@State.reachChannels a0 a1 a2 a3) := by
  unfold State.reachChannels
  dsimp only
  split
  · split
    · refine Kept.trans ?_ (State.answer_kept _ _ _ _ _ _)
      refine Kept.fold (fun _ _ => ?_) _ ?_
      · exact State.noteRefused_kept _ _ _
      · exact Kept.refl _
    · exact Kept.refl _
  · refine Kept.trans ?_ (State.reach_kept _ _ ?_ _ _)
    · split
      · refine Kept.trans ?_ (State.answer_kept _ _ _ _ _ _)
        refine Kept.fold (fun _ _ => ?_) _ ?_
        · exact State.noteRefused_kept _ _ _
        · exact Kept.refl _
      · exact Kept.refl _
    · assumption

theorem State.runResolved_kept (a0 : State) (a1 : OpSpec) (ha1 : a1.Keeps) (a2 : Request) (a3 : Option Resolved) :
    Kept a0 (@State.runResolved a0 a1 a2 a3) := by
  unfold State.runResolved
  split
  · refine Kept.ite ?_ ?_
    · exact State.refuseAuth_kept _ _ _
    · dsimp only
      refine Kept.trans ?_ (State.answer_kept _ _ _ _ _ _)
      refine Kept.ite ?_ ?_
      · refine Kept.set_sys ?_
        exact Kept.refl _
      · exact Kept.refl _
  · dsimp only
    refine Kept.ite ?_ ?_
    · refine Kept.trans ?_ (State.reachCrosstree_kept _ _ ?_ _ _)
      · exact Kept.refl _
      · assumption
    · refine Kept.ite ?_ ?_
      · refine Kept.trans ?_ (State.reachChannels_kept _ _ ?_ _ _)
        · exact Kept.refl _
        · assumption
      · refine Kept.trans ?_ (State.reach_kept _ _ ?_ _ _)
        · exact Kept.refl _
        · assumption

theorem findIn_mem {l : List OpSpec} {code : Nat} {op : OpSpec} (h : findIn l code = some op) : op ∈ l :=
  List.mem_of_find?_eq_some h

theorem State.runInit_kept (s : State) (l : List OpSpec) (i : Image) (role : Nat) (only : Option Lane) (z : Resolved)
    (h : ∀ op ∈ l, op.Keeps) : Kept s (s.runInit l i role only z) := by
  unfold State.runInit
  refine Kept.fold (fun t c => ?_) _ (Kept.refl s)
  split
  · exact State.runResolved_kept _ _ (h _ (findIn_mem (by assumption))) _ _
  · exact State.answer_kept _ _ _ _ _ _

theorem ops_group0_kept : ∀ op ∈ ([opTimeGetStatus, opTimeSetLeap, opTimeSetManual] : List OpSpec), op.Keeps := by
  simp only [List.forall_mem_cons]
  exact ⟨opTimeGetStatus_kept, opTimeSetLeap_kept, opTimeSetManual_kept, fun _ h => absurd h List.not_mem_nil⟩

theorem ops_group1_kept : ∀ op ∈ ([opSysGetInfo, opSysSetKey, opSysClearOrigins,
    opSysGetPacketCounters] : List OpSpec), op.Keeps := by
  simp only [List.forall_mem_cons]
  exact ⟨opSysGetInfo_kept, opSysSetKey_kept, opSysClearOrigins_kept, opSysGetPacketCounters_kept,
      fun _ h => absurd h List.not_mem_nil⟩

theorem ops_group2_kept : ∀ op ∈ ([opSchedLoadBegin, opSchedLoadData, opSchedSetStartBank,
    opSchedGetStatus] : List OpSpec), op.Keeps := by
  simp only [List.forall_mem_cons]
  exact ⟨opSchedLoadBegin_kept, opSchedLoadData_kept, opSchedSetStartBank_kept, opSchedGetStatus_kept,
      fun _ h => absurd h List.not_mem_nil⟩

theorem ops_group3_kept : ∀ op ∈ ([opLaneGetStatus, opLaneSetPolicy, opLaneSetDedupWindow,
    opLaneGetReceiverCounters, opLaneRequestBurst, opLaneRequestSwitch, opLaneRecover,
    opLaneResyncRequest] : List OpSpec), op.Keeps := by
  simp only [List.forall_mem_cons]
  exact ⟨opLaneGetStatus_kept, opLaneSetPolicy_kept, opLaneSetDedupWindow_kept, opLaneGetReceiverCounters_kept,
      opLaneRequestBurst_kept, opLaneRequestSwitch_kept, opLaneRecover_kept, opLaneResyncRequest_kept,
      fun _ h => absurd h List.not_mem_nil⟩

theorem ops_group4_kept : ∀ op ∈ ([opCtrlSetLoop, opCtrlSetCoeffs, opCtrlSetClamp, opCtrlPresetState, opCtrlGetLoop,
    opCtrlGetStatus, opCtrlClearCounters] : List OpSpec), op.Keeps := by
  simp only [List.forall_mem_cons]
  exact ⟨opCtrlSetLoop_kept, opCtrlSetCoeffs_kept, opCtrlSetClamp_kept, opCtrlPresetState_kept, opCtrlGetLoop_kept,
      opCtrlGetStatus_kept, opCtrlClearCounters_kept, fun _ h => absurd h List.not_mem_nil⟩

theorem ops_group5_kept : ∀ op ∈ ([opChanSetConfig, opChanSetProtection, opChanGetConfig, opChanGetStatus,
    opChanGetSupply, opChanClearCounters, opChanGetProtection, opChanGetGeneration, opChanReleaseLatch,
    opChanRefillRetry, opChanStopReset, opChanAdopt] : List OpSpec), op.Keeps := by
  simp only [List.forall_mem_cons]
  exact ⟨opChanSetConfig_kept, opChanSetProtection_kept, opChanGetConfig_kept, opChanGetStatus_kept,
      opChanGetSupply_kept, opChanClearCounters_kept, opChanGetProtection_kept, opChanGetGeneration_kept,
      opChanReleaseLatch_kept, opChanRefillRetry_kept, opChanStopReset_kept, opChanAdopt_kept,
      fun _ h => absurd h List.not_mem_nil⟩

theorem ops_group6_kept : ∀ op ∈ ([opSenseSetInput, opSenseSetLoss, opSenseSetBridge, opSenseSetSupply,
    opSenseGetStatus] : List OpSpec), op.Keeps := by
  simp only [List.forall_mem_cons]
  exact ⟨opSenseSetInput_kept, opSenseSetLoss_kept, opSenseSetBridge_kept, opSenseSetSupply_kept,
      opSenseGetStatus_kept, fun _ h => absurd h List.not_mem_nil⟩

theorem ops_group7_kept : ∀ op ∈ ([opYieldSetGrid, opYieldSetSources, opYieldClearGrid,
    opYieldGetTotals] : List OpSpec), op.Keeps := by
  simp only [List.forall_mem_cons]
  exact ⟨opYieldSetGrid_kept, opYieldSetSources_kept, opYieldClearGrid_kept, opYieldGetTotals_kept,
      fun _ h => absurd h List.not_mem_nil⟩

theorem ops_group8_kept : ∀ op ∈ ([opCamSetPort, opCamSetGeometry, opCamSetLinear, opCamSetExposure,
    opCamSensorTransfer, opCamGetStatus, opCamClearCounters, opCamSetCfa, opCamSetWb, opCamSetMatrix, opCamSetTone,
    opCamSetStream, opCamSetStats, opCamGetStreamStatus] : List OpSpec), op.Keeps := by
  simp only [List.forall_mem_cons]
  exact ⟨opCamSetPort_kept, opCamSetGeometry_kept, opCamSetLinear_kept, opCamSetExposure_kept,
      opCamSensorTransfer_kept, opCamGetStatus_kept, opCamClearCounters_kept, opCamSetCfa_kept, opCamSetWb_kept,
      opCamSetMatrix_kept, opCamSetTone_kept, opCamSetStream_kept, opCamSetStats_kept, opCamGetStreamStatus_kept,
      fun _ h => absurd h List.not_mem_nil⟩

theorem ops_group9_kept : ∀ op ∈ ([opFusionSetSource, opFusionSetRound, opFusionSetCanvas, opFusionResetState,
    opFusionNetLoadBegin, opFusionNetLoadData, opFusionNetLoadEnd, opFusionGetRoundStatus, opFusionGetSourceStatus,
    opFusionGetNetStatus, opFusionClearCounters] : List OpSpec), op.Keeps := by
  simp only [List.forall_mem_cons]
  exact ⟨opFusionSetSource_kept, opFusionSetRound_kept, opFusionSetCanvas_kept, opFusionResetState_kept,
      opFusionNetLoadBegin_kept, opFusionNetLoadData_kept, opFusionNetLoadEnd_kept, opFusionGetRoundStatus_kept,
      opFusionGetSourceStatus_kept, opFusionGetNetStatus_kept, opFusionClearCounters_kept,
      fun _ h => absurd h List.not_mem_nil⟩

theorem ops_group10_kept : ∀ op ∈ ([opGnssSetConfig, opGnssSetTimePulse, opGnssSetWatch, opGnssAid, opGnssResetData,
    opGnssGetStatus, opGnssClearCounters] : List OpSpec), op.Keeps := by
  simp only [List.forall_mem_cons]
  exact ⟨opGnssSetConfig_kept, opGnssSetTimePulse_kept, opGnssSetWatch_kept, opGnssAid_kept, opGnssResetData_kept,
      opGnssGetStatus_kept, opGnssClearCounters_kept, fun _ h => absurd h List.not_mem_nil⟩

theorem ops_group11_kept : ∀ op ∈ ([opCanSetPort, opCanSetFilters, opCanRecover, opCanGetStatus,
    opCanClearCounters] : List OpSpec), op.Keeps := by
  simp only [List.forall_mem_cons]
  exact ⟨opCanSetPort_kept, opCanSetFilters_kept, opCanRecover_kept, opCanGetStatus_kept, opCanClearCounters_kept,
      fun _ h => absurd h List.not_mem_nil⟩

theorem ops_group12_kept : ∀ op ∈ ([opStayJoin, opStayLeave, opStayGetStatus, opStayGetStation, opEthSetPort,
    opEthGetStatus, opStayClearCounters] : List OpSpec), op.Keeps := by
  simp only [List.forall_mem_cons]
  exact ⟨opStayJoin_kept, opStayLeave_kept, opStayGetStatus_kept, opStayGetStation_kept, opEthSetPort_kept,
      opEthGetStatus_kept, opStayClearCounters_kept, fun _ h => absurd h List.not_mem_nil⟩

theorem ops_group13_kept : ∀ op ∈ ([opMemSetMode, opMemSetPatrol, opMemGetStatus, opMemClearLog, opMemRewrite,
    opMemTestWrite, opMemTestRead, opMemSetFill] : List OpSpec), op.Keeps := by
  simp only [List.forall_mem_cons]
  exact ⟨opMemSetMode_kept, opMemSetPatrol_kept, opMemGetStatus_kept, opMemClearLog_kept, opMemRewrite_kept,
      opMemTestWrite_kept, opMemTestRead_kept, opMemSetFill_kept, fun _ h => absurd h List.not_mem_nil⟩

theorem ops_group14_kept : ∀ op ∈ ([opRecRead, opRecReadTrouble, opRecGetStatus, opRecFreeze, opRecUnfreeze,
    opRecClear, opRecSetRate, opRecGetRate] : List OpSpec), op.Keeps := by
  simp only [List.forall_mem_cons]
  exact ⟨opRecRead_kept, opRecReadTrouble_kept, opRecGetStatus_kept, opRecFreeze_kept, opRecUnfreeze_kept,
      opRecClear_kept, opRecSetRate_kept, opRecGetRate_kept, fun _ h => absurd h List.not_mem_nil⟩

theorem ops_group15_kept : ∀ op ∈ ([opPwrSetDomain, opPwrGetStatus, opPwrSetConfig, opPwrEnterLow,
    opPwrReset] : List OpSpec), op.Keeps := by
  simp only [List.forall_mem_cons]
  exact ⟨opPwrSetDomain_kept, opPwrGetStatus_kept, opPwrSetConfig_kept, opPwrEnterLow_kept, opPwrReset_kept,
      fun _ h => absurd h List.not_mem_nil⟩

theorem ops0_kept : ∀ op ∈ ops0, op.Keeps := by
  intro op h
  simp only [ops0, List.append_assoc, List.mem_append] at h
  rcases h with h | h | h | h | h | h | h | h | h | h | h | h | h | h | h | h
  · exact ops_group0_kept op h
  · exact ops_group1_kept op h
  · exact ops_group2_kept op h
  · exact ops_group3_kept op h
  · exact ops_group4_kept op h
  · exact ops_group5_kept op h
  · exact ops_group6_kept op h
  · exact ops_group7_kept op h
  · exact ops_group8_kept op h
  · exact ops_group9_kept op h
  · exact ops_group10_kept op h
  · exact ops_group11_kept op h
  · exact ops_group12_kept op h
  · exact ops_group13_kept op h
  · exact ops_group14_kept op h
  · exact ops_group15_kept op h

theorem opsInit_kept : ∀ op ∈ opsInit, op.Keeps := by
  intro op h
  rcases List.mem_cons.1 h with rfl | h
  · exact opSchedLoadEnd_kept
  · rcases List.mem_cons.1 h with rfl | h
    · exact opSchedActivateInit_kept
    · exact ops0_kept op h

theorem State.activateTrial_kept (s : State) (r : Request) (z : Resolved) : Kept s (s.activateTrial r z) :=
  Kept.set_staged ((Kept.set_staged (Kept.refl s)).trans (State.runInit_kept _ _ _ _ _ _ opsInit_kept))

theorem State.dropActivation_kept (a0 : State) :
    Kept a0 (@State.dropActivation a0) := by
  unfold State.dropActivation
  split
  · exact State.supersede_kept _ _
  · exact Kept.refl _

theorem opSchedActivate_kept : opSchedActivate.Keeps := by
  exact ⟨fun s r z => by
    dsimp only [opSchedActivate]
    split
    · exact Kept.refl _
    · refine Kept.fold (fun _ _ => ?_) _ ?_
      · exact State.withdraw_kept _ _
      · refine Kept.trans ?_ (State.activateTrial_kept _ _ _)
        exact Kept.refl _,
    fun s r => ⟨rfl, rfl, id⟩,
    fun s r z => by
    dsimp only [opSchedActivate]
    refine Kept.trans ?_ (State.activateTrial_kept _ _ _)
    refine Kept.trans ?_ (State.dropActivation_kept _)
    exact Kept.refl _,
    fun s r z => ⟨rfl, rfl, id⟩⟩

theorem State.runRequest_kept (a0 : State) (a1 : OpSpec) (ha1 : a1.Keeps) (a2 : Request) :
    Kept a0 (@State.runRequest a0 a1 a2) := by
  unfold State.runRequest
  refine Kept.ite ?_ ?_
  · refine Kept.trans ?_ (State.runResolved_kept _ _ ?_ _ _)
    · exact Kept.refl _
    · assumption
  · exact Kept.refl _

theorem ops_kept : ∀ op ∈ ops, op.Keeps := by
  intro op h
  rcases List.mem_cons.1 h with rfl | h
  · exact opSchedLoadEnd_kept
  · rcases List.mem_cons.1 h with rfl | h
    · exact opSchedActivate_kept
    · exact ops0_kept op h

theorem State.execute_kept (s : State) (code : Nat) (r : Request) : Kept s (s.execute code r) := by
  unfold State.execute
  split
  · exact State.runRequest_kept _ _ (ops_kept _ (findIn_mem (by assumption))) _
  · exact State.answer_kept _ _ _ _ _ _

theorem State.afterSequence_kept (a0 : State) (a1 : Nat) (a2 : Request) (a3 : Nat) :
    Kept a0 (@State.afterSequence a0 a1 a2 a3) := by
  unfold State.afterSequence
  refine Kept.ite ?_ ?_
  · exact State.execute_kept _ _ _
  · dsimp only
    refine Kept.trans ?_ (State.answer_kept _ _ _ _ _ _)
    exact State.updSys_kept _ _

theorem antennaSupplyRetry_kept (a0 : Nat) (a1 : Bool) (a2 : State) :
    Kept a2 (@antennaSupplyRetry a0 a1 a2) := by
  unfold antennaSupplyRetry
  split
  · exact Kept.refl _
  · refine Kept.ite ?_ ?_
    · exact Kept.refl _
    · exact State.updGnss_kept _ _

theorem State.raiseCam_kept (a0 : State) (a1 : Nat) (a2 : Nat) (a3 : List Int) :
    Kept a0 (@State.raiseCam a0 a1 a2 a3) := by
  unfold State.raiseCam
  exact State.raise_kept _ _ _ _ _

theorem State.queueExposure_kept (a0 : State) (a1 : Nat) (a2 : Bytes) :
    Kept a0 (@State.queueExposure a0 a1 a2) := by
  unfold State.queueExposure
  dsimp only
  split
  · refine Kept.trans ?_ (State.raiseCam_kept _ _ _ _)
    refine Kept.trans ?_ (State.updCam_kept _ _ _)
    exact State.updCam_kept _ _ _
  · exact State.updCam_kept _ _ _

theorem State.deliverSignal_kept (a0 : State) (a1 : Nat) (a2 : Nat) (a3 : Nat) (a4 : Nat) (a5 : Bool) :
    Kept a0 (@State.deliverSignal a0 a1 a2 a3 a4 a5) := ⟨rfl, rfl, id⟩

theorem State.publishMast_kept (a0 : State) (a1 : Nat) (a2 : Nat) (a3 : Nat) (a4 : Nat) (a5 : Bool) :
    Kept a0 (@State.publishMast a0 a1 a2 a3 a4 a5) := by
  unfold State.publishMast
  refine Kept.fold (fun _ _ => ?_) _ ?_
  · exact State.deliverSignal_kept _ _ _ _ _ _
  · exact Kept.refl _

theorem State.dramWrite_kept (a0 : State) (a1 : Lane) (a2 : Nat) (a3 : Bytes) :
    Kept a0 (@State.dramWrite a0 a1 a2 a3) := by
  unfold State.dramWrite
  refine Kept.ite ?_ ?_
  · refine Kept.trans ?_ (State.updMem_kept _ _ _ fun m hm => ?_)
    · exact Kept.refl _
    · exact MemCtrl.write_wf _ _ _ hm
  · exact Kept.refl _

theorem State.fanWrite_kept (a0 : State) (a1 : Nat) (a2 : Bytes) :
    Kept a0 (@State.fanWrite a0 a1 a2) := by
  unfold State.fanWrite
  dsimp only
  refine Kept.ite ?_ ?_
  · refine Kept.trans ?_ (State.dramWrite_kept _ _ _ _)
    refine Kept.ite ?_ ?_
    · exact State.dramWrite_kept _ _ _ _
    · exact Kept.refl _
  · refine Kept.ite ?_ ?_
    · exact State.dramWrite_kept _ _ _ _
    · exact Kept.refl _

theorem State.frameSamples_kept (a0 : State) (a1 : Nat) (a2 : Nat) (a3 : OpenFrame) (a4 : Nat) (a5 : Nat) (a6 : Nat) :
    Kept a0 (@State.frameSamples a0 a1 a2 a3 a4 a5 a6) := by
  unfold State.frameSamples
  dsimp only
  refine Kept.ite ?_ ?_
  · exact Kept.refl _
  · refine Kept.set_fus ?_
    exact Kept.refl _

theorem State.writeStream_kept (a0 : State) (a1 : Nat) (a2 : Nat) (a3 : OpenFrame) (a4 : Nat) (a5 : List
    (List Taps)) :
    Kept a0 (@State.writeStream a0 a1 a2 a3 a4 a5) := by
  unfold State.writeStream
  dsimp only
  refine Kept.ite ?_ ?_
  · exact Kept.refl _
  · refine Kept.trans ?_ (State.publishMast_kept _ _ _ _ _ _)
    refine Kept.trans ?_ (State.frameSamples_kept _ _ _ _ _ _ _)
    refine Kept.ite ?_ ?_
    · refine Kept.trans ?_ (State.raiseCam_kept _ _ _ _)
      refine Kept.trans ?_ (State.updCam_kept _ _ _)
      refine Kept.ite ?_ ?_
      · refine Kept.trans ?_ (State.fusionWrite_kept _ _)
        refine Kept.ite ?_ ?_
        · refine Kept.fold (fun _ _ => ?_) _ ?_
          · exact State.fanWrite_kept _ _ _
          · exact Kept.refl _
        · exact Kept.refl _
      · refine Kept.ite ?_ ?_
        · refine Kept.fold (fun _ _ => ?_) _ ?_
          · exact State.fanWrite_kept _ _ _
          · exact Kept.refl _
        · exact Kept.refl _
    · refine Kept.trans ?_ (State.updCam_kept _ _ _)
      refine Kept.ite ?_ ?_
      · refine Kept.trans ?_ (State.fusionWrite_kept _ _)
        refine Kept.ite ?_ ?_
        · refine Kept.fold (fun _ _ => ?_) _ ?_
          · exact State.fanWrite_kept _ _ _
          · exact Kept.refl _
        · exact Kept.refl _
      · refine Kept.ite ?_ ?_
        · refine Kept.fold (fun _ _ => ?_) _ ?_
          · exact State.fanWrite_kept _ _ _
          · exact Kept.refl _
        · exact Kept.refl _

theorem State.writeStats_kept (a0 : State) (a1 : Nat) (a2 : OpenFrame) (a3 : Nat) (a4 : List (List Taps)) :
    Kept a0 (@State.writeStats a0 a1 a2 a3 a4) := by
  unfold State.writeStats
  dsimp only
  refine Kept.ite ?_ ?_
  · exact Kept.refl _
  · refine Kept.trans ?_ (State.publishMast_kept _ _ _ _ _ _)
    refine Kept.trans ?_ (State.updCam_kept _ _ _)
    exact State.fanWrite_kept _ _ _

theorem State.closeFrame_kept (a0 : State) (a1 : Nat) (a2 : Bool) (a3 : Bool) :
    Kept a0 (@State.closeFrame a0 a1 a2 a3) := by
  unfold State.closeFrame
  split
  · exact Kept.refl _
  · dsimp only
    refine Kept.trans ?_ (State.writeStats_kept _ _ _ _ _)
    refine Kept.fold (fun _ _ => ?_) _ ?_
    · exact State.writeStream_kept _ _ _ _ _ _
    · refine Kept.trans ?_ (State.publishMast_kept _ _ _ _ _ _)
      refine Kept.ite ?_ ?_
      · refine Kept.trans ?_ (State.raiseCam_kept _ _ _ _)
        refine Kept.ite ?_ ?_
        · refine Kept.trans ?_ (State.raiseCam_kept _ _ _ _)
          refine Kept.ite ?_ ?_
          · refine Kept.trans ?_ (State.raiseCam_kept _ _ _ _)
            exact State.updCam_kept _ _ _
          · exact State.updCam_kept _ _ _
        · refine Kept.ite ?_ ?_
          · refine Kept.trans ?_ (State.raiseCam_kept _ _ _ _)
            exact State.updCam_kept _ _ _
          · exact State.updCam_kept _ _ _
      · refine Kept.ite ?_ ?_
        · refine Kept.trans ?_ (State.raiseCam_kept _ _ _ _)
          refine Kept.ite ?_ ?_
          · refine Kept.trans ?_ (State.raiseCam_kept _ _ _ _)
            exact State.updCam_kept _ _ _
          · exact State.updCam_kept _ _ _
        · refine Kept.ite ?_ ?_
          · refine Kept.trans ?_ (State.raiseCam_kept _ _ _ _)
            exact State.updCam_kept _ _ _
          · exact State.updCam_kept _ _ _

theorem applyCamera_kept (a0 : State) (a1 : Staged) :
    Kept a0 (@applyCamera a0 a1) := by
  unfold applyCamera
  dsimp only
  refine Kept.ite ?_ ?_
  · exact State.queueExposure_kept _ _ _
  · refine Kept.ite ?_ ?_
    · refine Kept.trans ?_ (State.updCam_kept _ _ _)
      exact State.updCam_kept _ _ _
    · refine Kept.ite ?_ ?_
      · refine Kept.trans ?_ (State.updCam_kept _ _ _)
        refine Kept.trans ?_ (State.closeFrame_kept _ _ _ _)
        exact State.updCam_kept _ _ _
      · exact State.updCam_kept _ _ _

theorem commitDigestCompare_kept (a0 : State) :
    Kept a0 (@commitDigestCompare a0) := by
  unfold commitDigestCompare
  split
  · exact Kept.refl _
  · split
    · exact Kept.refl _
    · refine Kept.ite ?_ ?_
      · exact Kept.refl _
      · dsimp only
        split
        · exact State.updLane_kept _ _ _
        · refine Kept.ite ?_ ?_
          · exact State.updLane_kept _ _ _
          · refine Kept.trans ?_ (State.report_kept _ _)
            refine Kept.trans ?_ (State.updLane_kept _ _ _)
            exact State.updLane_kept _ _ _

theorem State.rollCounts_kept (a0 : State) :
    Kept a0 (@State.rollCounts a0) := ⟨rfl, rfl, id⟩

theorem State.judgePeriod_kept (a0 : State) (a1 : Nat) (a2 : Lane) :
    Kept a0 (@State.judgePeriod a0 a1 a2) := by
  unfold State.judgePeriod
  dsimp only
  refine Kept.ite ?_ ?_
  · refine Kept.ite ?_ ?_
    · refine Kept.ite ?_ ?_
      · split
        · refine Kept.trans ?_ (State.designate_kept _ _ _)
          refine Kept.trans ?_ (State.setLaneState_kept _ _ _)
          refine Kept.trans ?_ (State.updXt_kept _ _ _)
          refine Kept.ite ?_ ?_
          · exact State.raise_kept _ _ _ _ _
          · exact Kept.refl _
        · refine Kept.trans ?_ (State.updXt_kept _ _ _)
          refine Kept.ite ?_ ?_
          · exact State.raise_kept _ _ _ _ _
          · exact Kept.refl _
      · refine Kept.trans ?_ (State.updXt_kept _ _ _)
        refine Kept.ite ?_ ?_
        · exact State.raise_kept _ _ _ _ _
        · exact Kept.refl _
    · refine Kept.trans ?_ (State.updXt_kept _ _ _)
      refine Kept.ite ?_ ?_
      · exact State.raise_kept _ _ _ _ _
      · exact Kept.refl _
  · refine Kept.ite ?_ ?_
    · exact State.raise_kept _ _ _ _ _
    · exact Kept.refl _

theorem State.enterProbation_kept (a0 : State) (a1 : Lane) :
    Kept a0 (@State.enterProbation a0 a1) := by
  unfold State.enterProbation
  dsimp only
  refine Kept.trans ?_ (State.updXt_kept _ _ _)
  refine Kept.set_staged ?_
  split
  · refine Kept.set_ctrl ?_
    exact State.updLane_kept _ _ _
  · refine Kept.set_ctrl ?_
    exact State.updLane_kept _ _ _

theorem State.enterResync_kept (a0 : State) (a1 : Lane) :
    Kept a0 (@State.enterResync a0 a1) := by
  unfold State.enterResync
  dsimp only
  refine Kept.set_xt ?_
  exact State.updXt_kept _ _ _

theorem State.moveRecovering_kept (a0 : State) (a1 : Lane) :
    Kept a0 (@State.moveRecovering a0 a1) := by
  unfold State.moveRecovering
  dsimp only
  refine Kept.ite ?_ ?_
  · exact State.enterProbation_kept _ _
  · refine Kept.ite ?_ ?_
    · exact State.enterResync_kept _ _
    · exact Kept.refl _

theorem State.crosstreeBoundary_kept (a0 : State) (a1 : Nat) :
    Kept a0 (@State.crosstreeBoundary a0 a1) := by
  unfold State.crosstreeBoundary
  refine Kept.ite ?_ ?_
  · exact State.rollCounts_kept _
  · dsimp only
    refine Kept.trans ?_ (State.rollCounts_kept _)
    refine Kept.trans ?_ (State.moveRecovering_kept _ _)
    refine Kept.trans ?_ (State.moveRecovering_kept _ _)
    refine Kept.trans ?_ (State.judgePeriod_kept _ _ _)
    exact State.judgePeriod_kept _ _ _

theorem State.copyDram_kept (a0 : State) (a1 : Lane) :
    Kept a0 (@State.copyDram a0 a1) := by
  unfold State.copyDram
  refine Kept.trans ?_ (State.updMem_kept _ _ _ fun m hm => ?_)
  · exact Kept.refl _
  · exact MemCtrl.copyFrom_wf _ _ _ _ hm

theorem State.lanesBoundary_kept (a0 : State) (a1 : Nat) :
    Kept a0 (@State.lanesBoundary a0 a1) := by
  unfold State.lanesBoundary
  dsimp only
  refine Kept.ite ?_ ?_
  · refine Kept.trans ?_ (State.copyDram_kept _ _)
    refine Kept.ite ?_ ?_
    · refine Kept.trans ?_ (State.copyDram_kept _ _)
      exact State.crosstreeBoundary_kept _ _
    · exact State.crosstreeBoundary_kept _ _
  · refine Kept.ite ?_ ?_
    · refine Kept.trans ?_ (State.copyDram_kept _ _)
      exact State.crosstreeBoundary_kept _ _
    · exact State.crosstreeBoundary_kept _ _

theorem refuseDuty_kept (a0 : Lane) (a1 : Nat) (a2 : Nat) (a3 : State) :
    Kept a3 (@refuseDuty a0 a1 a2 a3) := by
  unfold refuseDuty
  refine Kept.trans ?_ (State.noteRefused_kept _ _ _)
  exact State.updChan_kept _ _ _

theorem State.judgeCopy_kept (a0 : State) (a1 : Lane) (a2 : Item) :
    Kept a0 (@State.judgeCopy a0 a1 a2) := by
  unfold State.judgeCopy
  refine Kept.trans ?_ (State.actAll_kept _)
  exact State.judging_kept _ _ _

theorem receiverCopyArrival_kept (a0 : Lane) (a1 : Nat) (a2 : Nat) (a3 : State) :
    Kept a3 (@receiverCopyArrival a0 a1 a2 a3) := by
  unfold receiverCopyArrival
  split
  · exact Kept.refl _
  · dsimp only
    refine Kept.ite ?_ ?_
    · exact State.updLane_kept _ _ _
    · refine Kept.ite ?_ ?_
      · refine Kept.trans ?_ (refuseDuty_kept _ _ _ _)
        exact State.updLane_kept _ _ _
      · refine Kept.trans ?_ (State.judgeCopy_kept _ _ _)
        exact State.updLane_kept _ _ _

theorem State.newHealth_kept (a0 : State) (a1 : Lane) :
    Kept a0 (@State.newHealth a0 a1) := by
  unfold State.newHealth
  dsimp only
  exact State.updLane_kept _ _ _

theorem State.deliverTimeStatus_kept (a0 : State) :
    Kept a0 (@State.deliverTimeStatus a0) := by
  unfold State.deliverTimeStatus
  dsimp only
  refine Kept.set_time ?_ ?_
  · rfl
  · refine Kept.trans ?_ (State.updLanes_kept _ _)
    exact State.refreshTime_kept _

theorem State.tellLanes_kept (a0 : State) :
    Kept a0 (@State.tellLanes a0) := by
  unfold State.tellLanes
  refine Kept.trans ?_ (State.newHealth_kept _ _)
  refine Kept.trans ?_ (State.newHealth_kept _ _)
  refine Kept.trans ?_ (State.deliverLaneStatus_kept _ _)
  exact State.deliverTimeStatus_kept _

theorem peerDelayRequest_kept (a0 : Nat) (a1 : State) :
    Kept a1 (@peerDelayRequest a0 a1) := by
  unfold peerDelayRequest
  dsimp only
  refine Kept.ite ?_ ?_
  · exact Kept.refl _
  · refine Kept.trans ?_ (State.updStayPort_kept _ _ _)
    exact State.stayOut_kept _ _ _ _

theorem State.saveMast_kept (a0 : State) :
    Kept a0 (@State.saveMast a0) := ⟨rfl, rfl, id⟩

theorem State.holdEvent_kept (a0 : State) (a1 : Event) :
    Kept a0 (@State.holdEvent a0 a1) := ⟨rfl, rfl, id⟩

theorem eventRecordArrival_kept (a0 : State) :
    Kept a0 (@eventRecordArrival a0) := by
  unfold eventRecordArrival
  split
  · exact Kept.refl _
  · dsimp only
    refine Kept.ite ?_ ?_
    · exact State.updRec_kept _ _
    · refine Kept.ite ?_ ?_
      · refine Kept.trans ?_ (State.holdEvent_kept _ _)
        exact State.updRec_kept _ _
      · refine Kept.ite ?_ ?_
        · refine Kept.trans ?_ (State.holdEvent_kept _ _)
          refine Kept.trans ?_ (State.updRec_kept _ _)
          exact State.updRec_kept _ _
        · refine Kept.trans ?_ (State.updRec_kept _ _)
          exact State.updRec_kept _ _

theorem changeLogEntry_kept (a0 : State) :
    Kept a0 (@changeLogEntry a0) := by
  unfold changeLogEntry
  split
  · exact Kept.refl _
  · dsimp only
    refine Kept.ite ?_ ?_
    · refine Kept.trans ?_ (State.updRec_kept _ _)
      exact State.updRec_kept _ _
    · exact State.updRec_kept _ _

theorem State.flushRecorder_kept (a0 : State) :
    Kept a0 (@State.flushRecorder a0) := by
  unfold State.flushRecorder
  dsimp only
  refine Kept.trans ?_ (State.updRec_kept _ _)
  refine Kept.fold (fun _ _ => ?_) _ ?_
  · exact changeLogEntry_kept _
  · refine Kept.fold (fun _ _ => ?_) _ ?_
    · exact State.commit_kept _ _ _ _
    · refine Kept.fold (fun _ _ => ?_) _ ?_
      · exact eventRecordArrival_kept _
      · exact Kept.refl _

theorem State.cleared_wf (s : State) (t : TimeSt) (g : GnssSt) (p : PwrSt) (h : s.mem.wf = true) :
    (s.cleared t g p).mem.wf = true := by
  rw [MemSt.wf_iff] at h ⊢
  have hr (c : Tbl MemCtrl) (lo : Nat) (hc : Tbl.rising lo c = true) :
      Tbl.rising lo (c.map (fun x => (x.1, { resetMemCtrl x.1 with powerUps := x.2.powerUps }))) = true := by
    induction c generalizing lo with
    | nil => rfl
    | cons x r ih =>
      obtain ⟨i, b⟩ := x
      simp only [Tbl.rising, List.map_cons, Bool.and_eq_true, decide_eq_true_eq] at hc ⊢
      exact ⟨hc.1, ih _ hc.2⟩
  refine ⟨hr _ _ h.1, ?_⟩
  simp only [State.cleared, List.all_map, List.all_eq_true]
  intro x hx
  exact resetMemCtrl_wf x.1

theorem State.cleared_kept (s : State) (t : TimeSt) (g : GnssSt) (p : PwrSt) (h : t.ticks = s.time.ticks) :
    Kept s (s.cleared t g p) := ⟨rfl, h, s.cleared_wf t g p⟩

theorem State.toSleep_kept (s : State) (cause : Nat) : Kept s (s.toSleep cause) := by
  have h := State.endPulses_kept s
  exact h.trans (State.cleared_kept _ _ _ _ h.2.symm)

theorem State.toWatch_kept (a0 : State) :
    Kept a0 (@State.toWatch a0) := by
  unfold State.toWatch
  dsimp only
  refine Kept.trans ?_ (State.cleared_kept _ _ _ _ ?_)
  · exact Kept.refl _
  · rfl

theorem State.enterLow_kept (a0 : State) (a1 : Nat) (a2 : Bool) (a3 : Nat) :
    Kept a0 (@State.enterLow a0 a1 a2 a3) := by
  unfold State.enterLow
  dsimp only
  refine Kept.ite ?_ ?_
  · refine Kept.trans ?_ (State.toSleep_kept _ _)
    refine Kept.trans ?_ (State.saveMast_kept _)
    refine Kept.trans ?_ (State.flushRecorder_kept _)
    refine Kept.ite ?_ ?_
    · refine Kept.trans ?_ (State.gateDown_kept _)
      exact State.raisePwr_kept _ _ _
    · exact State.raisePwr_kept _ _ _
  · refine Kept.trans ?_ (State.toWatch_kept _)
    refine Kept.trans ?_ (State.saveMast_kept _)
    refine Kept.trans ?_ (State.flushRecorder_kept _)
    refine Kept.ite ?_ ?_
    · refine Kept.trans ?_ (State.gateDown_kept _)
      exact State.raisePwr_kept _ _ _
    · exact State.raisePwr_kept _ _ _

theorem State.lowPowerBoundary_kept (a0 : State) :
    Kept a0 (@State.lowPowerBoundary a0) := by
  unfold State.lowPowerBoundary
  split
  · exact Kept.refl _
  · exact State.enterLow_kept _ _ _ _

theorem State.answerEarly_kept (a0 : State) (a1 : Request) (a2 : Bytes) (a3 : Nat) (a4 : Bytes) :
    Kept a0 (@State.answerEarly a0 a1 a2 a3 a4) := by
  unfold State.answerEarly
  dsimp only
  refine Kept.ite ?_ ?_
  · refine Kept.trans ?_ (State.raisePaired_kept _ _ _ _)
    refine Kept.trans ?_ (State.answerWith_kept _ _ _ _ _ _ _)
    exact State.updSys_kept _ _
  · refine Kept.trans ?_ (State.answerWith_kept _ _ _ _ _ _ _)
    exact State.updSys_kept _ _

theorem crosstreeStopped_kept (a0 : State) :
    Kept a0 (@crosstreeStopped a0) := by
  unfold crosstreeStopped
  refine Kept.ite ?_ ?_
  · exact Kept.refl _
  · dsimp only
    refine Kept.set_xt ?_
    exact State.updLanes_kept _ _

theorem State.dropAct_kept (a0 : State) (a1 : Lane) (a2 : Activation) :
    Kept a0 (@State.dropAct a0 a1 a2) := by
  unfold State.dropAct
  exact State.updLane_kept _ _ _

theorem State.refuseMail_kept (a0 : State) (a1 : Lane) (a2 : Nat) (a3 : Bytes) (a4 : Nat) :
    Kept a0 (@State.refuseMail a0 a1 a2 a3 a4) := by
  unfold State.refuseMail
  dsimp only
  refine Kept.ite ?_ ?_
  · refine Kept.trans ?_ (State.raisePaired_kept _ _ _ _)
    refine Kept.trans ?_ (State.pushMail_kept _ _ _ _)
    refine Kept.set_sys ?_
    exact Kept.refl _
  · exact State.pushMail_kept _ _ _ _

theorem State.interpreterDrop_kept (a0 : State) (a1 : Senders) (a2 : Bytes) :
    Kept a0 (@State.interpreterDrop a0 a1 a2) := by
  unfold State.interpreterDrop
  dsimp only
  refine Kept.trans ?_ (State.raisePaired_kept _ _ _ _)
  refine Kept.set_sched ?_
  exact Kept.refl _

theorem State.queueMail_kept (a0 : State) (a1 : Lane) (a2 : QPacket) :
    Kept a0 (@State.queueMail a0 a1 a2) := by
  unfold State.queueMail
  dsimp only
  refine Kept.ite ?_ ?_
  · exact State.updLane_kept _ _ _
  · refine Kept.trans ?_ (State.interpreterDrop_kept _ _ _)
    exact State.updLane_kept _ _ _

theorem State.sendMail_kept (a0 : Lane) (a1 : TaskDesc) (a2 : Nat) (a3 : State × Nat × Nat) (a4 : Bytes × Bytes) :
    Kept a3.1 ((@State.sendMail a0 a1 a2 a3 a4).1) := by
  unfold State.sendMail
  dsimp only
  refine Kept.ite_fst ?_ ?_
  · dsimp only
    exact State.refuseMail_kept _ _ _ _ _
  · dsimp only
    refine Kept.ite ?_ ?_
    · exact State.queueMail_kept _ _ _
    · refine Kept.ite ?_ ?_
      · exact State.refuseMail_kept _ _ _ _ _
      · refine Kept.ite ?_ ?_
        · refine Kept.trans ?_ (State.handAll_kept _)
          exact State.offer_kept _ _ _ _ _ _ _
        · refine Kept.trans ?_ (State.handAll_kept _)
          exact State.offer_kept _ _ _ _ _ _ _

theorem taskCommit_kept (a0 : Lane) (a1 : Nat) (a2 : Nat) (a3 : State) :
    Kept a3 (@taskCommit a0 a1 a2 a3) := by
  unfold taskCommit
  split
  · split
    · exact Kept.refl _
    · dsimp only
      refine Kept.ite ?_ ?_
      · exact Kept.refl _
      · refine Kept.fold_fst (fun _ _ => ?_) _ ?_
        · exact State.sendMail_kept _ _ _ _ _
        · dsimp only
          refine Kept.ite ?_ ?_
          · refine Kept.trans ?_ (State.updLane_kept _ _ _)
            refine Kept.trans ?_ (State.updLane_kept _ _ _)
            exact State.dropAct_kept _ _ _
          · refine Kept.trans ?_ (State.updLane_kept _ _ _)
            refine Kept.trans ?_ (State.updLane_kept _ _ _)
            exact State.dropAct_kept _ _ _
  · exact Kept.refl _

theorem moduleResetBegin_kept (s : State) : Kept s (moduleResetBegin s) := by
  unfold moduleResetBegin
  split
  · exact Kept.refl s
  · refine Kept.ite (Kept.refl s) ?_
    have h := State.endPulses_kept s
    exact h.trans (State.cleared_kept _ _ _ _ h.2.symm)

theorem State.stepMast_kept (a0 : State) (a1 : Int) :
    Kept a0 (@State.stepMast a0 a1) := by
  unfold State.stepMast
  dsimp only
  refine Kept.trans ?_ (State.raise_kept _ _ _ _ _)
  refine Kept.set_time ?_ ?_
  · rfl
  · exact Kept.refl _

theorem State.ringsUndefined_kept (a0 : State) (a1 : Lane) :
    Kept a0 (@State.ringsUndefined a0 a1) := by
  unfold State.ringsUndefined
  refine Kept.trans ?_ (State.updMem_kept _ _ _ fun m hm => ?_)
  · refine Kept.set_free ?_
    exact Kept.refl _
  · exact MemCtrl.cover_wf _ _ hm

theorem State.boot_kept (a0 : State) (a1 : Lane) :
    Kept a0 (@State.boot a0 a1) := by
  unfold State.boot
  dsimp only
  refine Kept.trans ?_ (State.logTrouble_kept _ _ _ _ _)
  refine Kept.trans ?_ (State.updEngine_kept _ _ _)
  exact State.updLane_kept _ _ _

theorem State.release_kept (a0 : State) (a1 : Lane) :
    Kept a0 (@State.release a0 a1) := by
  unfold State.release
  dsimp only
  refine Kept.trans ?_ (State.updXt_kept _ _ _)
  refine Kept.trans ?_ (State.boot_kept _ _)
  refine Kept.ite ?_ ?_
  · exact State.ringsUndefined_kept _ _
  · exact Kept.refl _

theorem resetHoldExpiry_kept (a0 : Lane) (a1 : State) :
    Kept a1 (@resetHoldExpiry a0 a1) := by
  unfold resetHoldExpiry
  dsimp only
  split
  · exact Kept.refl _
  · refine Kept.ite ?_ ?_
    · exact Kept.refl _
    · refine Kept.ite ?_ ?_
      · refine Kept.trans ?_ (State.updXt_kept _ _ _)
        exact State.startFill_kept _ _
      · refine Kept.ite ?_ ?_
        · exact Kept.refl _
        · exact State.release_kept _ _

theorem frameTimeout_kept (a0 : Nat) (a1 : State) :
    Kept a1 (@frameTimeout a0 a1) := by
  unfold frameTimeout
  split
  · exact Kept.refl _
  · refine Kept.ite ?_ ?_
    · exact Kept.refl _
    · exact State.closeFrame_kept _ _ _ _

theorem pairLimitExpiry_kept (a0 : Nat) (a1 : Nat) (a2 : State) :
    Kept a2 (@pairLimitExpiry a0 a1 a2) := by
  unfold pairLimitExpiry
  refine Kept.trans ?_ (State.actAll_kept _)
  exact State.judging_kept _ _ _

theorem State.publish_kept (a0 : State) (a1 : Nat) (a2 : Nat) (a3 : Nat) (a4 : Nat) (a5 : optParam Bool Bool.true) :
    Kept a0 (@State.publish a0 a1 a2 a3 a4 a5) := by
  unfold State.publish
  exact State.publishMast_kept _ _ _ _ _ _

theorem State.publishStatus_kept (a0 : State) (a1 : Nat) (a2 : Nat) :
    Kept a0 (@State.publishStatus a0 a1 a2) := by
  unfold State.publishStatus
  exact State.publish_kept _ _ _ _ _ _

theorem State.publishSense_kept (a0 : State) (a1 : Nat) (a2 : Nat) (a3 : Nat) (a4 : Nat) :
    Kept a0 (@State.publishSense a0 a1 a2 a3 a4) := by
  unfold State.publishSense
  exact State.publish_kept _ _ _ _ _ _

theorem lossIntervalEnd_kept (a0 : Nat) (a1 : Nat) (a2 : State) :
    Kept a2 (@lossIntervalEnd a0 a1 a2) := by
  unfold lossIntervalEnd
  dsimp only
  refine Kept.ite ?_ ?_
  · exact Kept.refl _
  · refine Kept.trans ?_ (State.publishStatus_kept _ _ _)
    refine Kept.trans ?_ (State.publishSense_kept _ _ _ _ _)
    refine Kept.trans ?_ (State.publishSense_kept _ _ _ _ _)
    refine Kept.trans ?_ (State.publishSense_kept _ _ _ _ _)
    exact State.updInput_kept _ _ _

theorem State.foreignMaster_kept (a0 : State) (a1 : Bytes) :
    Kept a0 (@State.foreignMaster a0 a1) := by
  unfold State.foreignMaster
  dsimp only
  refine Kept.ite ?_ ?_
  · exact State.updStay_kept _ _
  · refine Kept.trans ?_ (State.raiseStay_kept _ _ _ _)
    exact State.updStay_kept _ _

theorem State.judgeOffset_kept (a0 : State) (a1 : Bytes) (a2 : Int) :
    Kept a0 (@State.judgeOffset a0 a1 a2) := by
  unfold State.judgeOffset
  dsimp only
  refine Kept.ite ?_ ?_
  · refine Kept.set_time ?_ ?_
    · rfl
    · refine Kept.trans ?_ (State.updStay_kept _ _)
      exact State.updStay_kept _ _
  · refine Kept.ite ?_ ?_
    · refine Kept.trans ?_ (State.raiseStay_kept _ _ _ _)
      refine Kept.trans ?_ (State.updStay_kept _ _)
      refine Kept.trans ?_ (State.updStay_kept _ _)
      exact State.updStay_kept _ _
    · refine Kept.trans ?_ (State.updStay_kept _ _)
      refine Kept.trans ?_ (State.updStay_kept _ _)
      exact State.updStay_kept _ _

theorem State.acceptTime_kept (a0 : State) (a1 : Nat) (a2 : TimeFrame) :
    Kept a0 (@State.acceptTime a0 a1 a2) := by
  unfold State.acceptTime
  dsimp only
  refine Kept.trans ?_ (State.judgeOffset_kept _ _ _)
  refine Kept.ite ?_ ?_
  · refine Kept.trans ?_ (State.raiseStay_kept _ _ _ _)
    refine Kept.set_time ?_ ?_
    · rfl
    · exact State.updStay_kept _ _
  · refine Kept.set_time ?_ ?_
    · rfl
    · exact State.updStay_kept _ _

theorem State.takeTime_kept (a0 : State) (a1 : Nat) (a2 : TimeFrame) :
    Kept a0 (@State.takeTime a0 a1 a2) := by
  unfold State.takeTime
  dsimp only
  refine Kept.ite ?_ ?_
  · exact Kept.refl _
  · refine Kept.ite ?_ ?_
    · refine Kept.ite ?_ ?_
      · exact Kept.refl _
      · exact State.foreignMaster_kept _ _
    · refine Kept.ite ?_ ?_
      · exact State.foreignMaster_kept _ _
      · refine Kept.ite ?_ ?_
        · exact Kept.refl _
        · exact State.acceptTime_kept _ _ _

theorem fillDone_kept (a0 : Nat) (a1 : State) :
    Kept a1 (@fillDone a0 a1) := by
  unfold fillDone
  dsimp only
  split
  · exact memFillDone_kept _ _
  · refine Kept.ite ?_ ?_
    · refine Kept.trans ?_ (State.release_kept _ _)
      exact memFillDone_kept _ _
    · exact memFillDone_kept _ _

theorem State.initFor_kept (s : State) (g : Nat) : Kept s (s.initFor g) := State.runInit_kept _ _ _ _ _ _ opsInit_kept

theorem State.nameRejoin_kept (a0 : State) :
    Kept a0 (@State.nameRejoin a0) := by
  unfold State.nameRejoin
  dsimp only
  refine Kept.trans ?_ (State.initFor_kept _ _)
  refine Kept.set_xt ?_
  exact Kept.refl _

theorem State.leaveBehind_kept (a0 : State) (a1 : Lane) :
    Kept a0 (@State.leaveBehind a0 a1) := by
  unfold State.leaveBehind
  dsimp only
  refine Kept.ite ?_ ?_
  · refine Kept.trans ?_ (State.designate_kept _ _ _)
    exact State.failLane_kept _ _ _
  · exact State.failLane_kept _ _ _

theorem laneReadyTimeout_kept (a0 : Lane) (a1 : State) :
    Kept a1 (@laneReadyTimeout a0 a1) := by
  unfold laneReadyTimeout
  split
  · exact Kept.refl _
  · refine Kept.ite ?_ ?_
    · exact Kept.refl _
    · refine Kept.ite ?_ ?_
      · refine Kept.trans ?_ (State.nameRejoin_kept _)
        exact State.leaveBehind_kept _ _
      · refine Kept.ite ?_ ?_
        · exact State.leaveBehind_kept _ _
        · exact State.laneRestart_kept _ _

theorem timePulseEnd_kept (a0 : Nat) (a1 : State) :
    Kept a1 (@timePulseEnd a0 a1) := by
  unfold timePulseEnd
  dsimp only
  split
  · exact Kept.refl _
  · refine Kept.ite ?_ ?_
    · exact Kept.refl _
    · refine Kept.trans ?_ (State.emit_kept _ _)
      exact State.updPulse_kept _ _ _

theorem sendLoopSignal_kept (a0 : Lane) (a1 : Bytes) (a2 : Nat) (a3 : Int) (a4 : State) :
    Kept a4 (@sendLoopSignal a0 a1 a2 a3 a4) := by
  unfold sendLoopSignal
  exact State.updLane_kept _ _ _

theorem missRelease_kept (a0 : Lane) (a1 : Nat) (a2 : LoopRun) (a3 : State) :
    Kept a3 (@missRelease a0 a1 a2 a3) := by
  unfold missRelease
  refine Kept.ite ?_ ?_
  · exact Kept.refl _
  · dsimp only
    refine Kept.set_xt ?_
    refine Kept.trans ?_ (State.logTrouble_kept _ _ _ _ _)
    exact State.updLoop_kept _ _ _ _

theorem releaseSignal_kept (a0 : Lane) (a1 : Nat) (a2 : State) :
    Kept a2 (@releaseSignal a0 a1 a2) := by
  unfold releaseSignal
  dsimp only
  split
  · exact Kept.refl _
  · refine Kept.ite ?_ ?_
    · exact Kept.refl _
    · split
      · refine Kept.trans ?_ (State.updLoop_kept _ _ _ _)
        exact sendLoopSignal_kept _ _ _ _ _
      · refine Kept.trans ?_ (State.updLoop_kept _ _ _ _)
        exact missRelease_kept _ _ _ _

theorem sendLoopDuty_kept (a0 : Lane) (a1 : Nat) (a2 : Loop) (a3 : Nat) (a4 : Int) (a5 : State) :
    Kept a5 (@sendLoopDuty a0 a1 a2 a3 a4 a5) := by
  unfold sendLoopDuty
  exact State.updLane_kept _ _ _

theorem releaseDuty_kept (a0 : Lane) (a1 : Nat) (a2 : State) :
    Kept a2 (@releaseDuty a0 a1 a2) := by
  unfold releaseDuty
  dsimp only
  split
  · exact Kept.refl _
  · refine Kept.ite ?_ ?_
    · exact Kept.refl _
    · split
      · refine Kept.trans ?_ (State.updLoop_kept _ _ _ _)
        exact sendLoopDuty_kept _ _ _ _ _ _
      · refine Kept.trans ?_ (State.updLoop_kept _ _ _ _)
        exact missRelease_kept _ _ _ _

theorem loopOutputRelease_kept (a0 : Lane) (a1 : Nat) (a2 : State) :
    Kept a2 (@loopOutputRelease a0 a1 a2) := by
  unfold loopOutputRelease
  refine Kept.trans ?_ (releaseSignal_kept _ _ _)
  exact releaseDuty_kept _ _ _

theorem fusionRoundInstant_kept (a0 : Nat) (a1 : State) :
    Kept a1 (@fusionRoundInstant a0 a1) := by
  unfold fusionRoundInstant
  dsimp only
  refine Kept.ite ?_ ?_
  · exact Kept.refl _
  · refine Kept.ite ?_ ?_
    · refine Kept.trans ?_ (State.skipRound_kept _ _ _ _ _)
      exact State.updRound_kept _ _ _
    · refine Kept.ite ?_ ?_
      · refine Kept.trans ?_ (State.issueRound_kept _ _ _)
        refine Kept.trans ?_ (State.updFus_kept _ _)
        exact State.updRound_kept _ _ _
      · refine Kept.trans ?_ (State.updFus_kept _ _)
        exact State.updRound_kept _ _ _

theorem State.countSync_kept (a0 : State) :
    Kept a0 (@State.countSync a0) := ⟨rfl, rfl, id⟩

theorem State.countReplyDiscard_kept (a0 : State) :
    Kept a0 (@State.countReplyDiscard a0) := ⟨rfl, rfl, id⟩

theorem State.replyUnit_kept (a0 : State) (a1 : List Lane) (a2 : Bytes) :
    Kept a0 (@State.replyUnit a0 a1 a2) := by
  unfold State.replyUnit
  split
  · exact State.countRunt_kept _
  · exact State.countSync_kept _
  · exact State.countReplyDiscard_kept _
  · dsimp only
    refine Kept.ite ?_ ?_
    · exact State.pushMail_kept _ _ _ _
    · exact State.countReplyDiscard_kept _

theorem State.sequenceUnit_kept (a0 : State) (a1 : Nat) (a2 : Request) :
    Kept a0 (@State.sequenceUnit a0 a1 a2) := by
  unfold State.sequenceUnit
  dsimp only
  split
  · refine Kept.trans ?_ (State.afterSequence_kept _ _ _ _)
    refine Kept.ite ?_ ?_
    · refine Kept.trans ?_ (State.updLane_kept _ _ _)
      refine Kept.ite ?_ ?_
      · exact State.updLane_kept _ _ _
      · exact Kept.refl _
    · refine Kept.ite ?_ ?_
      · exact State.updLane_kept _ _ _
      · exact Kept.refl _
  · refine Kept.ite ?_ ?_
    · refine Kept.trans ?_ (State.afterSequence_kept _ _ _ _)
      refine Kept.ite ?_ ?_
      · refine Kept.trans ?_ (State.updLane_kept _ _ _)
        refine Kept.ite ?_ ?_
        · exact State.updLane_kept _ _ _
        · exact Kept.refl _
      · refine Kept.ite ?_ ?_
        · exact State.updLane_kept _ _ _
        · exact Kept.refl _
    · refine Kept.trans ?_ (State.afterSequence_kept _ _ _ _)
      refine Kept.trans ?_ (State.afterSequence_kept _ _ _ _)
      refine Kept.ite ?_ ?_
      · refine Kept.trans ?_ (State.updLane_kept _ _ _)
        refine Kept.ite ?_ ?_
        · exact State.updLane_kept _ _ _
        · exact Kept.refl _
      · refine Kept.ite ?_ ?_
        · exact State.updLane_kept _ _ _
        · exact Kept.refl _

theorem State.takeUnit_kept (a0 : State) (a1 : Option Lane) (a2 : Path) (a3 : Bytes) :
    Kept a0 (@State.takeUnit a0 a1 a2 a3) := by
  unfold State.takeUnit
  dsimp only
  refine Kept.ite ?_ ?_
  · exact State.replyUnit_kept _ _ _
  · split
    · exact State.countRunt_kept _
    · exact State.countSync_kept _
    · exact State.answerEarly_kept _ _ _ _ _
    · refine Kept.ite ?_ ?_
      · exact State.sequenceUnit_kept _ _ _
      · exact State.execute_kept _ _ _

theorem State.runUnit_kept (a0 : List QPacket) (a1 : List QPacket) (a2 : State) (a3 : QPacket) :
    Kept a2 (@State.runUnit a0 a1 a2 a3) := by
  unfold State.runUnit
  dsimp only
  exact State.takeUnit_kept _ _ _ _

theorem heartbeatTimerExpiry_kept (a0 : Lane) (a1 : State) :
    Kept a1 (@heartbeatTimerExpiry a0 a1) := by
  unfold heartbeatTimerExpiry
  split
  · exact Kept.refl _
  · refine Kept.ite ?_ ?_
    · exact Kept.refl _
    · dsimp only
      refine Kept.ite ?_ ?_
      · refine Kept.trans ?_ (State.laneFailure_kept _ _ _)
        exact State.updXt_kept _ _ _
      · exact State.updXt_kept _ _ _

theorem bridgeSampleEnd_kept (a0 : Nat) (a1 : Int) (a2 : State) :
    Kept a2 (@bridgeSampleEnd a0 a1 a2) := by
  unfold bridgeSampleEnd
  dsimp only
  refine Kept.ite ?_ ?_
  · exact Kept.refl _
  · refine Kept.ite ?_ ?_
    · refine Kept.trans ?_ (State.publishStatus_kept _ _ _)
      refine Kept.trans ?_ (State.publishSense_kept _ _ _ _ _)
      refine Kept.ite ?_ ?_
      · refine Kept.set_sense ?_
        refine Kept.trans ?_ (State.judgeFault_kept _ _ _ _ _)
        exact State.updInput_kept _ _ _
      · refine Kept.trans ?_ (State.judgeFault_kept _ _ _ _ _)
        exact State.updInput_kept _ _ _
    · refine Kept.ite ?_ ?_
      · refine Kept.set_sense ?_
        refine Kept.trans ?_ (State.judgeFault_kept _ _ _ _ _)
        exact State.updInput_kept _ _ _
      · refine Kept.trans ?_ (State.judgeFault_kept _ _ _ _ _)
        exact State.updInput_kept _ _ _

theorem State.swapFrames_kept (a0 : State) (a1 : Nat) :
    Kept a0 ((@State.swapFrames a0 a1).1) := by
  unfold State.swapFrames
  dsimp only
  refine Kept.fold (fun _ _ => ?_) _ ?_
  · refine Kept.trans ?_ (State.swapIn_kept _ _ _ ?_)
    · exact Kept.refl _
    · intro _
      exact applyCamera_kept _ _
  · exact Kept.refl _

theorem State.realBoundary_kept (a0 : State) (a1 : Nat) (a2 : Bool) :
    Kept a0 (@State.realBoundary a0 a1 a2) := ⟨rfl, rfl, id⟩

theorem frameValidRise_kept (a0 : Nat) (a1 : State) :
    Kept a1 (@frameValidRise a0 a1) := by
  unfold frameValidRise
  dsimp only
  refine Kept.ite ?_ ?_
  · exact Kept.refl _
  · refine Kept.ite ?_ ?_
    · exact State.updCam_kept _ _ _
    · refine Kept.ite ?_ ?_
      · refine Kept.trans ?_ (State.realBoundary_kept _ _ _)
        refine Kept.trans ?_ (State.swapFrames_kept _ _)
        exact State.updCam_kept _ _ _
      · refine Kept.trans ?_ (State.swapFrames_kept _ _)
        exact State.updCam_kept _ _ _

theorem loopStart_kept (a0 : Lane) (a1 : Nat) (a2 : State) :
    Kept a2 (@loopStart a0 a1 a2) := by
  unfold loopStart
  dsimp only
  split
  · exact Kept.refl _
  · refine Kept.ite ?_ ?_
    · exact Kept.refl _
    · refine Kept.trans ?_ (State.updEngine_kept _ _ _)
      exact State.updLoop_kept _ _ _ _

theorem State.overcurrent_kept (a0 : State) (a1 : Nat) (a2 : Int) :
    Kept a0 (@State.overcurrent a0 a1 a2) := by
  unfold State.overcurrent
  dsimp only
  refine Kept.ite ?_ ?_
  · refine Kept.trans ?_ (State.raise_kept _ _ _ _ _)
    refine Kept.trans ?_ (State.changeChan_kept _ _ _)
    exact State.clearOdd_kept _ _
  · refine Kept.trans ?_ (State.changeChan_kept _ _ _)
    exact State.clearOdd_kept _ _

theorem overcurrentFast_kept (a0 : Nat) (a1 : Bool) (a2 : State) :
    Kept a2 (@overcurrentFast a0 a1 a2) := by
  unfold overcurrentFast
  dsimp only
  refine Kept.ite ?_ ?_
  · exact Kept.refl _
  · refine Kept.trans ?_ (State.overcurrent_kept _ _ _)
    refine Kept.trans ?_ (State.raise_kept _ _ _ _ _)
    exact State.updChan_kept _ _ _

theorem listenerTimeStep_kept (a0 : State) :
    Kept a0 (@listenerTimeStep a0) := by
  unfold listenerTimeStep
  split
  · exact Kept.refl _
  · refine Kept.ite ?_ ?_
    · exact Kept.refl _
    · dsimp only
      refine Kept.trans ?_ (State.raise_kept _ _ _ _ _)
      refine Kept.set_time ?_ ?_
      · rfl
      · exact State.updStay_kept _ _

theorem freezeExpired_kept (a0 : State) :
    Kept a0 (@freezeExpired a0) := by
  unfold freezeExpired
  split
  · refine Kept.ite ?_ ?_
    · exact State.endFreeze_kept _ _
    · exact Kept.refl _
  · exact Kept.refl _

theorem roundRelease_kept (a0 : Nat) (a1 : State) :
    Kept a1 (@roundRelease a0 a1) := by
  unfold roundRelease
  split
  · exact Kept.refl _
  · refine Kept.ite ?_ ?_
    · exact Kept.refl _
    · dsimp only
      refine Kept.ite ?_ ?_
      · exact State.updFus_kept _ _
      · refine Kept.ite ?_ ?_
        · refine Kept.set_xt ?_
          refine Kept.trans ?_ (State.raiseFus_kept _ _ _)
          refine Kept.trans ?_ (State.publishMast_kept _ _ _ _ _ _)
          refine Kept.trans ?_ (State.updRound_kept _ _ _)
          exact State.updFus_kept _ _
        · refine Kept.trans ?_ (State.publishMast_kept _ _ _ _ _ _)
          refine Kept.trans ?_ (State.updRound_kept _ _ _)
          exact State.updFus_kept _ _

theorem wakeChange_kept (a0 : Bool) (a1 : State) :
    Kept a1 (@wakeChange a0 a1) := ⟨rfl, rfl, id⟩

theorem State.dropExclusions_kept (a0 : State) :
    Kept a0 (@State.dropExclusions a0) := ⟨rfl, rfl, id⟩

theorem canIntegrationComplete_kept (a0 : Nat) (a1 : State) :
    Kept a1 (@canIntegrationComplete a0 a1) := by
  unfold canIntegrationComplete
  dsimp only
  refine Kept.ite ?_ ?_
  · exact Kept.refl _
  · exact State.updCan_kept _ _ _

theorem OpSpec.read_kept (a0 : OpSpec) (ha0 : a0.Keeps) (a1 : Request) (a2 : Resolved) (a3 : Bytes) (a4 : State) :
    Kept a4 (@OpSpec.read a0 a1 a2 a3 a4) := by
  unfold OpSpec.read
  refine Kept.trans ?_ (OpSpec.reply_kept _ ?_ _ _ _ _ _)
  · exact Kept.refl _
  · assumption

theorem State.takeBeacon_kept (a0 : State) (a1 : Nat) (a2 : Bytes) :
    Kept a0 (@State.takeBeacon a0 a1 a2) := by
  unfold State.takeBeacon
  refine Kept.ite ?_ ?_
  · exact Kept.refl _
  · dsimp only
    refine Kept.ite ?_ ?_
    · refine Kept.trans ?_ (State.issueChange_kept _ _ _ _ _)
      exact State.updStay_kept _ _
    · refine Kept.ite ?_ ?_
      · refine Kept.trans ?_ (State.issueChange_kept _ _ _ _ _)
        exact State.updStay_kept _ _
      · refine Kept.ite ?_ ?_
        · refine Kept.trans ?_ (State.issueChange_kept _ _ _ _ _)
          exact State.updStay_kept _ _
        · exact State.updStay_kept _ _

theorem State.noteCorrected_kept (a0 : State) (a1 : Nat) (a2 : Nat) (a3 : Nat) (a4 : Bool) :
    Kept a0 (@State.noteCorrected a0 a1 a2 a3 a4) := by
  unfold State.noteCorrected
  dsimp only
  refine Kept.ite ?_ ?_
  · split
    · exact State.updLane_kept _ _ _
    · exact Kept.refl _
  · refine Kept.ite ?_ ?_
    · refine Kept.trans ?_ (State.updMem_kept _ _ _ fun m hm => ?_)
      · split
        · exact State.updLane_kept _ _ _
        · exact Kept.refl _
      · exact hm
    · refine Kept.ite ?_ ?_
      · refine Kept.trans ?_ (State.updMem_kept _ _ _ fun m hm => ?_)
        · refine Kept.trans ?_ (State.updMem_kept _ _ _ fun m hm => ?_)
          · split
            · exact State.updLane_kept _ _ _
            · exact Kept.refl _
          · exact hm
        · exact hm
      · refine Kept.ite ?_ ?_
        · refine Kept.trans ?_ (State.raise_kept _ _ _ _ _)
          refine Kept.trans ?_ (State.updMem_kept _ _ _ fun m hm => ?_)
          · refine Kept.trans ?_ (State.updMem_kept _ _ _ fun m hm => ?_)
            · split
              · exact State.updLane_kept _ _ _
              · exact Kept.refl _
            · exact hm
          · exact hm
        · refine Kept.ite ?_ ?_
          · refine Kept.trans ?_ (State.updMem_kept _ _ _ fun m hm => ?_)
            · refine Kept.trans ?_ (State.updMem_kept _ _ _ fun m hm => ?_)
              · split
                · exact State.updLane_kept _ _ _
                · exact Kept.refl _
              · exact hm
            · exact hm
          · refine Kept.trans ?_ (State.raise_kept _ _ _ _ _)
            refine Kept.trans ?_ (State.updMem_kept _ _ _ fun m hm => ?_)
            · refine Kept.trans ?_ (State.updMem_kept _ _ _ fun m hm => ?_)
              · split
                · exact State.updLane_kept _ _ _
                · exact Kept.refl _
              · exact hm
            · exact hm

theorem State.patrolByte_kept (a0 : State) (a1 : Nat) (a2 : Nat) (a3 : BitVec 13) :
    Kept a0 ((@State.patrolByte a0 a1 a2 a3).1) := by
  unfold State.patrolByte
  split
  · dsimp only
    exact Kept.refl _
  · dsimp only
    refine Kept.trans ?_ (State.updMem_kept _ _ _ fun m hm => ?_)
    · exact State.noteCorrected_kept _ _ _ _ _
    · exact hm
  · dsimp only
    exact State.noteUncorrectable_kept _ _ _ _

theorem State.readByte_kept (a0 : State) (a1 : Nat) (a2 : Nat) (a3 : Nat) (a4 : BitVec 13) :
    Kept a0 ((@State.readByte a0 a1 a2 a3 a4).1) := by
  unfold State.readByte
  split
  · dsimp only
    exact Kept.refl _
  · dsimp only
    exact State.noteCorrected_kept _ _ _ _ _
  · dsimp only
    exact State.noteUncorrectable_kept _ _ _ _

theorem State.dropShared_kept (s : State) (x : SharedItem) : Kept s (s.dropShared x) := by
  cases x <;> unfold State.dropShared <;> dsimp only
  · exact State.updRecv_kept _ _ _
  · exact State.updCan_kept _ _ _
  · exact Kept.ite ⟨rfl, rfl, id⟩ (Kept.refl _)
  · exact ⟨rfl, rfl, id⟩

theorem State.readShared_kept (s : State) (x : Nat × BitVec 13 × SharedItem) : Kept s (s.readShared x) := by
  unfold State.readShared
  have h := State.readByte_kept s 5 4 x.1 x.2.1
  cases hr : s.readByte 5 4 x.1 x.2.1 with
  | mk t ok =>
    rw [hr] at h
    exact Kept.ite h (h.trans (State.dropShared_kept _ _))

theorem State.patrolSram_kept (a0 : PatrolReads) (a1 : State) :
    Kept a1 (@State.patrolSram a0 a1) := by
  unfold State.patrolSram
  refine Kept.ite ?_ ?_
  · refine Kept.fold (fun _ _ => ?_) _ ?_
    · exact State.patrolByte_kept _ _ _ _
    · refine Kept.trans ?_ (State.updMem_kept _ _ _ fun m hm => ?_)
      · exact Kept.refl _
      · exact hm
  · exact Kept.refl _

theorem sramPatrol_kept (a0 : PatrolReads) (a1 : State) :
    Kept a1 (@sramPatrol a0 a1) := by
  unfold sramPatrol
  refine Kept.trans ?_ (State.patrolSram_kept _ _)
  exact Kept.fold (fun _ _ => State.readShared_kept _ _) _ (Kept.refl _)

theorem State.readRun_kept (c reader n a : Nat) (s : State) : Kept s (State.readRun c reader n a s).1 := by
  induction n generalizing a s with
  | zero => exact Kept.refl s
  | succ n ih =>
    unfold State.readRun
    split
    rename_i t ok h
    have ht : Kept s t := Kept.of_pair h (State.readByte_kept _ _ _ _ _)
    exact Kept.ite_fst ht (ht.trans (ih _ _))

theorem State.readRanges_kept (a0 : State) (a1 : Nat) (a2 : Nat) (a3 : List (Nat × Nat)) :
    Kept a0 ((@State.readRanges a0 a1 a2 a3).1) := by
  unfold State.readRanges
  refine Kept.fold_fst (fun _ _ => ?_) _ ?_
  · dsimp only
    exact State.readRun_kept _ _ _ _ _
  · dsimp only
    exact Kept.refl _

theorem State.roundReads_kept (a0 : State) :
    Kept a0 (@State.roundReads a0) := by
  unfold State.roundReads
  split
  · refine Kept.of_pair (by assumption) ?_
    exact State.readRanges_kept _ _ _ _
  · refine Kept.trans ?_ (State.updFus_kept _ _)
    refine Kept.of_pair (by assumption) ?_
    exact State.readRanges_kept _ _ _ _

theorem State.decodeLeap_kept (a0 : State) (a1 : List NavMessage) :
    Kept a0 (@State.decodeLeap a0 a1) := by
  unfold State.decodeLeap
  refine Kept.ite ?_ ?_
  · exact Kept.refl _
  · dsimp only
    split
    · refine Kept.ite ?_ ?_
      · exact State.updGnss_kept _ _
      · refine Kept.trans ?_ (State.raiseGnss_kept _ _ _)
        refine Kept.trans ?_ (State.updGnss_kept _ _)
        exact State.updGnss_kept _ _
    · split
      · exact State.updGnss_kept _ _
      · refine Kept.ite ?_ ?_
        · refine Kept.trans ?_ (State.updGnss_kept _ _)
          refine Kept.set_time ?_ ?_
          · rfl
          · exact State.updGnss_kept _ _
        · refine Kept.trans ?_ (State.saveGnss_kept _)
          refine Kept.trans ?_ (State.updGnss_kept _ _)
          refine Kept.set_time ?_ ?_
          · rfl
          · exact State.updGnss_kept _ _

theorem State.addHold_kept (a0 : State) (a1 : Nat) (a2 : HoldKind) (a3 : Bool) :
    Kept a0 (@State.addHold a0 a1 a2 a3) := by
  unfold State.addHold
  dsimp only
  refine Kept.ite ?_ ?_
  · refine Kept.trans ?_ (State.raise_kept _ _ _ _ _)
    refine Kept.trans ?_ (State.changeChan_kept _ _ _)
    exact State.clearOdd_kept _ _
  · refine Kept.trans ?_ (State.changeChan_kept _ _ _)
    exact State.clearOdd_kept _ _

theorem stopAsserted_kept (a0 : State) :
    Kept a0 (@stopAsserted a0) := by
  unfold stopAsserted
  refine Kept.ite ?_ ?_
  · exact Kept.refl _
  · dsimp only
    refine Kept.trans ?_ (State.raise_kept _ _ _ _ _)
    refine Kept.fold (fun _ _ => ?_) _ ?_
    · exact State.addHold_kept _ _ _ _
    · refine Kept.set_power ?_
      exact Kept.refl _

theorem State.endActivation_kept (a0 : State) (a1 : Lane) (a2 : Activation) (a3 : Nat) :
    Kept a0 (@State.endActivation a0 a1 a2 a3) := by
  unfold State.endActivation
  split
  · exact State.dropAct_kept _ _ _
  · dsimp only
    refine Kept.set_xt ?_
    refine Kept.trans ?_ (State.logTrouble_kept _ _ _ _ _)
    refine Kept.trans ?_ (State.updLane_kept _ _ _)
    exact State.dropAct_kept _ _ _

theorem taskBudgetExpiry_kept (a0 : Lane) (a1 : Nat) (a2 : Nat) (a3 : State) :
    Kept a3 (@taskBudgetExpiry a0 a1 a2 a3) := by
  unfold taskBudgetExpiry
  split
  · exact Kept.refl _
  · refine Kept.ite ?_ ?_
    · exact Kept.refl _
    · exact State.endActivation_kept _ _ _ _

theorem patrolRun_kept (c n a : Nat) (acc : State × List Nat) : Kept acc.1 (patrolRun c n a acc).1 := by
  induction n generalizing a acc with
  | zero => exact Kept.refl _
  | succ n ih =>
    have h := State.patrolByte_kept acc.1 c a ((acc.1.memc c).code c a)
    unfold patrolRun
    exact Kept.ite_fst h (Kept.trans h (ih (a + 1) ((acc.1.patrolByte c a ((acc.1.memc c).code c a)).1, _)))

theorem State.patrolGo_kept (c fuel n : Nat) (acc : State × List Nat) : Kept acc.1
    (State.patrolGo c fuel n acc).1 := by
  induction fuel generalizing n acc with
  | zero => unfold State.patrolGo; exact Kept.refl _
  | succ f ih =>
    cases n with
    | zero => unfold State.patrolGo; exact Kept.refl _
    | succ n =>
      have hp (k a : Nat) (f : MemCtrl → MemCtrl) (hf : ∀ m : MemCtrl, m.wf = true → (f m).wf = true) :
          Kept acc.1 ((patrolRun c k a acc).1.updMem c f) := (patrolRun_kept c k a acc).trans
              (State.updMem_kept _ _ _ hf)
      unfold State.patrolGo
      dsimp only
      split
      · exact Kept.refl _
      · split
        · refine hp _ _ _ ?_; exact fun m hm => hm
        · split
          · refine Kept.trans ?_ (ih _ (_, _))
            refine hp _ _ _ ?_; exact fun m hm => hm
          · refine Kept.trans ?_ (ih _ (_, _))
            refine Kept.ite ?_ (Kept.trans ?_ (State.raise_kept _ _ _ _ _)) <;>
              (refine hp _ _ _ ?_; exact fun m hm => hm)

theorem State.unitArrival_kept (a0 : State) (a1 : Path) (a2 : Bytes) :
    Kept a0 (@State.unitArrival a0 a1 a2) := by
  unfold State.unitArrival
  dsimp only
  refine Kept.ite ?_ ?_
  · exact State.updLanes_kept _ _
  · refine Kept.trans ?_ (State.interpreterDrop_kept _ _ _)
    exact State.updLanes_kept _ _

theorem retry_kept (a0 : Nat) (a1 : State) :
    Kept a1 (@retry a0 a1) := by
  unfold retry
  dsimp only
  split
  · refine Kept.ite ?_ ?_
    · exact Kept.refl _
    · refine Kept.trans ?_ (State.raise_kept _ _ _ _ _)
      exact State.changeChan_kept _ _ _
  · exact Kept.refl _

theorem State.publishI_kept (a0 : State) (a1 : Nat) (a2 : Int) (a3 : Nat) (a4 : Nat) :
    Kept a0 (@State.publishI a0 a1 a2 a3 a4) := by
  unfold State.publishI
  exact State.publish_kept _ _ _ _ _ _

theorem State.takeSupply_kept (a0 : SupplySample) (a1 : State) (a2 : Nat) :
    Kept a1 (@State.takeSupply a0 a1 a2) := by
  unfold State.takeSupply
  dsimp only
  refine Kept.trans ?_ (State.publishI_kept _ _ _ _ _)
  refine Kept.trans ?_ (State.publishI_kept _ _ _ _ _)
  refine Kept.ite ?_ ?_
  · refine Kept.trans ?_ (State.raise_kept _ _ _ _ _)
    refine Kept.set_power ?_
    exact Kept.refl _
  · refine Kept.set_power ?_
    exact Kept.refl _

theorem exclusionExpiry_kept (a0 : Nat) (a1 : State) :
    Kept a1 (@exclusionExpiry a0 a1) := ⟨rfl, rfl, id⟩

theorem State.excludeConst_kept (a0 : State) (a1 : Nat) (a2 : Nat) :
    Kept a0 (@State.excludeConst a0 a1 a2) := by
  unfold State.excludeConst
  dsimp only
  refine Kept.ite ?_ ?_
  · refine Kept.trans ?_ (State.raiseGnss_kept _ _ _)
    exact State.updGnss_kept _ _
  · exact State.updGnss_kept _ _

theorem yieldCellWrite_kept (a0 : State) :
    Kept a0 (@yieldCellWrite a0) := by
  unfold yieldCellWrite
  split
  · exact Kept.refl _
  · refine Kept.ite ?_ ?_
    · exact Kept.refl _
    · dsimp only
      refine Kept.ite ?_ ?_
      · refine Kept.ite ?_ ?_
        · exact State.updYield_kept _ _
        · split
          · exact State.updYield_kept _ _
          · exact State.updYield_kept _ _
          · refine Kept.ite ?_ ?_
            · refine Kept.trans ?_ (State.dramWrite_kept _ _ _ _)
              exact State.updYield_kept _ _
            · exact State.updYield_kept _ _
          · refine Kept.trans ?_ (State.dramWrite_kept _ _ _ _)
            exact State.updYield_kept _ _
          · refine Kept.trans ?_ (State.dramWrite_kept _ _ _ _)
            exact State.updYield_kept _ _
          · refine Kept.trans ?_ (State.dramWrite_kept _ _ _ _)
            exact State.updYield_kept _ _
      · split
        · refine Kept.ite ?_ ?_
          · exact State.updYield_kept _ _
          · split
            · exact State.updYield_kept _ _
            · exact State.updYield_kept _ _
            · refine Kept.ite ?_ ?_
              · refine Kept.trans ?_ (State.dramWrite_kept _ _ _ _)
                exact State.updYield_kept _ _
              · exact State.updYield_kept _ _
            · refine Kept.trans ?_ (State.dramWrite_kept _ _ _ _)
              exact State.updYield_kept _ _
            · refine Kept.trans ?_ (State.dramWrite_kept _ _ _ _)
              exact State.updYield_kept _ _
            · refine Kept.trans ?_ (State.dramWrite_kept _ _ _ _)
              exact State.updYield_kept _ _
        · refine Kept.ite ?_ ?_
          · exact State.updYield_kept _ _
          · split
            · exact State.updYield_kept _ _
            · exact State.updYield_kept _ _
            · refine Kept.ite ?_ ?_
              · refine Kept.trans ?_ (State.dramWrite_kept _ _ _ _)
                exact State.updYield_kept _ _
              · exact State.updYield_kept _ _
            · refine Kept.trans ?_ (State.dramWrite_kept _ _ _ _)
              exact State.updYield_kept _ _
            · refine Kept.trans ?_ (State.dramWrite_kept _ _ _ _)
              exact State.updYield_kept _ _
            · refine Kept.trans ?_ (State.dramWrite_kept _ _ _ _)
              exact State.updYield_kept _ _
        · refine Kept.ite ?_ ?_
          · refine Kept.trans ?_ (State.dramWrite_kept _ _ _ _)
            refine Kept.ite ?_ ?_
            · exact State.updYield_kept _ _
            · split
              · exact State.updYield_kept _ _
              · exact State.updYield_kept _ _
              · refine Kept.ite ?_ ?_
                · refine Kept.trans ?_ (State.dramWrite_kept _ _ _ _)
                  exact State.updYield_kept _ _
                · exact State.updYield_kept _ _
              · refine Kept.trans ?_ (State.dramWrite_kept _ _ _ _)
                exact State.updYield_kept _ _
              · refine Kept.trans ?_ (State.dramWrite_kept _ _ _ _)
                exact State.updYield_kept _ _
              · refine Kept.trans ?_ (State.dramWrite_kept _ _ _ _)
                exact State.updYield_kept _ _
          · refine Kept.ite ?_ ?_
            · exact State.updYield_kept _ _
            · split
              · exact State.updYield_kept _ _
              · exact State.updYield_kept _ _
              · refine Kept.ite ?_ ?_
                · refine Kept.trans ?_ (State.dramWrite_kept _ _ _ _)
                  exact State.updYield_kept _ _
                · exact State.updYield_kept _ _
              · refine Kept.trans ?_ (State.dramWrite_kept _ _ _ _)
                exact State.updYield_kept _ _
              · refine Kept.trans ?_ (State.dramWrite_kept _ _ _ _)
                exact State.updYield_kept _ _
              · refine Kept.trans ?_ (State.dramWrite_kept _ _ _ _)
                exact State.updYield_kept _ _
        · refine Kept.trans ?_ (State.dramWrite_kept _ _ _ _)
          refine Kept.ite ?_ ?_
          · exact State.updYield_kept _ _
          · split
            · exact State.updYield_kept _ _
            · exact State.updYield_kept _ _
            · refine Kept.ite ?_ ?_
              · refine Kept.trans ?_ (State.dramWrite_kept _ _ _ _)
                exact State.updYield_kept _ _
              · exact State.updYield_kept _ _
            · refine Kept.trans ?_ (State.dramWrite_kept _ _ _ _)
              exact State.updYield_kept _ _
            · refine Kept.trans ?_ (State.dramWrite_kept _ _ _ _)
              exact State.updYield_kept _ _
            · refine Kept.trans ?_ (State.dramWrite_kept _ _ _ _)
              exact State.updYield_kept _ _
        · refine Kept.trans ?_ (State.dramWrite_kept _ _ _ _)
          refine Kept.ite ?_ ?_
          · exact State.updYield_kept _ _
          · split
            · exact State.updYield_kept _ _
            · exact State.updYield_kept _ _
            · refine Kept.ite ?_ ?_
              · refine Kept.trans ?_ (State.dramWrite_kept _ _ _ _)
                exact State.updYield_kept _ _
              · exact State.updYield_kept _ _
            · refine Kept.trans ?_ (State.dramWrite_kept _ _ _ _)
              exact State.updYield_kept _ _
            · refine Kept.trans ?_ (State.dramWrite_kept _ _ _ _)
              exact State.updYield_kept _ _
            · refine Kept.trans ?_ (State.dramWrite_kept _ _ _ _)
              exact State.updYield_kept _ _
        · refine Kept.trans ?_ (State.dramWrite_kept _ _ _ _)
          refine Kept.ite ?_ ?_
          · exact State.updYield_kept _ _
          · split
            · exact State.updYield_kept _ _
            · exact State.updYield_kept _ _
            · refine Kept.ite ?_ ?_
              · refine Kept.trans ?_ (State.dramWrite_kept _ _ _ _)
                exact State.updYield_kept _ _
              · exact State.updYield_kept _ _
            · refine Kept.trans ?_ (State.dramWrite_kept _ _ _ _)
              exact State.updYield_kept _ _
            · refine Kept.trans ?_ (State.dramWrite_kept _ _ _ _)
              exact State.updYield_kept _ _
            · refine Kept.trans ?_ (State.dramWrite_kept _ _ _ _)
              exact State.updYield_kept _ _

theorem State.beginBurst_kept (a0 : State) :
    Kept a0 (@State.beginBurst a0) := ⟨rfl, rfl, id⟩

theorem State.trackEpoch_kept (a0 : State) (a1 : Nat) (a2 : List Channel) (a3 : Bool) (a4 : EpochData) :
    Kept a0 ((@State.trackEpoch a0 a1 a2 a3 a4).1) := ⟨rfl, rfl, id⟩

theorem State.excludeSat_kept (a0 : State) (a1 : Nat) (a2 : Nat) :
    Kept a0 (@State.excludeSat a0 a1 a2) := by
  unfold State.excludeSat
  dsimp only
  refine Kept.ite ?_ ?_
  · refine Kept.trans ?_ (State.raiseGnss_kept _ _ _)
    exact State.updGnss_kept _ _
  · exact State.updGnss_kept _ _

theorem State.checkEpoch_kept (a0 : State) (a1 : List Bytes) (a2 : EpochData) :
    Kept a0 ((@State.checkEpoch a0 a1 a2).1) := by
  unfold State.checkEpoch
  dsimp only
  split
  · refine Kept.trans ?_ (State.excludeConst_kept _ _ _)
    refine Kept.fold (fun _ _ => ?_) _ ?_
    · exact State.excludeSat_kept _ _ _
    · refine Kept.fold (fun _ _ => ?_) _ ?_
      · exact State.excludeSat_kept _ _ _
      · exact State.dropExclusions_kept _
  · refine Kept.fold (fun _ _ => ?_) _ ?_
    · exact State.excludeSat_kept _ _ _
    · refine Kept.fold (fun _ _ => ?_) _ ?_
      · exact State.excludeSat_kept _ _ _
      · exact State.dropExclusions_kept _

theorem State.noteJamming_kept (a0 : State) (a1 : Nat) (a2 : EpochData) :
    Kept a0 (@State.noteJamming a0 a1 a2) := by
  unfold State.noteJamming
  dsimp only
  refine Kept.fold (fun _ _ => ?_) _ ?_
  · refine Kept.ite ?_ ?_
    · exact State.raiseGnss_kept _ _ _
    · exact Kept.refl _
  · exact State.updGnss_kept _ _

theorem State.noteSpoof_kept (a0 : State) (a1 : Option Nat) :
    Kept a0 (@State.noteSpoof a0 a1) := by
  unfold State.noteSpoof
  dsimp only
  split
  · refine Kept.ite ?_ ?_
    · exact State.updGnss_kept _ _
    · refine Kept.trans ?_ (State.raiseGnss_kept _ _ _)
      exact State.updGnss_kept _ _
  · exact State.updGnss_kept _ _

theorem State.keepPosition_kept (a0 : State) (a1 : Bool) (a2 : EpochData) :
    Kept a0 (@State.keepPosition a0 a1 a2) := by
  unfold State.keepPosition
  refine Kept.ite ?_ ?_
  · exact State.updGnss_kept _ _
  · exact Kept.refl _

theorem State.judgeTime_kept (a0 : State) (a1 : Nat) (a2 : Bool) (a3 : Int) (a4 : Nat) :
    Kept a0 (@State.judgeTime a0 a1 a2 a3 a4) := by
  unfold State.judgeTime
  dsimp only
  refine Kept.trans ?_ (State.refreshTime_kept _)
  refine Kept.ite ?_ ?_
  · refine Kept.ite ?_ ?_
    · refine Kept.trans ?_ (State.lockTime_kept _ _)
      refine Kept.ite ?_ ?_
      · refine Kept.trans ?_ (State.clockFails_kept _ _)
        refine Kept.ite ?_ ?_
        · exact State.updGnss_kept _ _
        · exact Kept.refl _
      · refine Kept.trans ?_ (State.updGnss_kept _ _)
        refine Kept.ite ?_ ?_
        · exact State.updGnss_kept _ _
        · exact Kept.refl _
    · refine Kept.trans ?_ (State.updGnss_kept _ _)
      refine Kept.trans ?_ (State.loseTime_kept _)
      refine Kept.ite ?_ ?_
      · exact State.updGnss_kept _ _
      · exact Kept.refl _
  · refine Kept.ite ?_ ?_
    · refine Kept.trans ?_ (State.loseTime_kept _)
      refine Kept.ite ?_ ?_
      · exact State.updGnss_kept _ _
      · exact Kept.refl _
    · refine Kept.ite ?_ ?_
      · refine Kept.trans ?_ (State.acceptOffset_kept _ _ _ _)
        refine Kept.ite ?_ ?_
        · exact State.updGnss_kept _ _
        · exact Kept.refl _
      · refine Kept.ite ?_ ?_
        · refine Kept.trans ?_ (State.acceptOffset_kept _ _ _ _)
          refine Kept.trans ?_ (State.updGnss_kept _ _)
          refine Kept.trans ?_ (State.clockFails_kept _ _)
          refine Kept.ite ?_ ?_
          · exact State.updGnss_kept _ _
          · exact Kept.refl _
        · refine Kept.trans ?_ (State.updGnss_kept _ _)
          refine Kept.trans ?_ (State.clockFails_kept _ _)
          refine Kept.ite ?_ ?_
          · exact State.updGnss_kept _ _
          · exact Kept.refl _

theorem watchBurst_kept (a0 : EpochData) (a1 : State) :
    Kept a1 (@watchBurst a0 a1) := by
  unfold watchBurst
  split
  · exact Kept.refl _
  · refine Kept.ite ?_ ?_
    · exact Kept.refl _
    · dsimp only
      refine Kept.trans ?_ (State.keepPosition_kept _ _ _)
      refine Kept.trans ?_ (State.judgeTime_kept _ _ _ _ _)
      refine Kept.ite ?_ ?_
      · refine Kept.trans ?_ (State.decodeLeap_kept _ _)
        refine Kept.trans ?_ (State.noteSpoof_kept _ _)
        refine Kept.trans ?_ (State.checkEpoch_kept _ _ _)
        refine Kept.trans ?_ (State.noteJamming_kept _ _ _)
        refine Kept.trans ?_ (State.trackEpoch_kept _ _ _ _ _)
        exact State.beginBurst_kept _
      · refine Kept.trans ?_ (State.noteSpoof_kept _ _)
        refine Kept.trans ?_ (State.checkEpoch_kept _ _ _)
        refine Kept.trans ?_ (State.noteJamming_kept _ _ _)
        refine Kept.trans ?_ (State.trackEpoch_kept _ _ _ _ _)
        exact State.beginBurst_kept _

theorem State.joinStop_kept (a0 : State) (a1 : Nat) :
    Kept a0 (@State.joinStop a0 a1) := by
  unfold State.joinStop
  dsimp only
  refine Kept.ite ?_ ?_
  · exact State.addHold_kept _ _ _ _
  · exact Kept.refl _

theorem stepApplied_kept (a0 : State) :
    Kept a0 (@stepApplied a0) := by
  unfold stepApplied
  split
  · exact Kept.refl _
  · refine Kept.ite ?_ ?_
    · exact Kept.refl _
    · dsimp only
      split
      · refine Kept.set_time ?_ ?_
        · rfl
        · exact State.stepMast_kept _ _
      · refine Kept.trans ?_ (State.logChange_kept _ _ _ _ _ _)
        refine Kept.trans ?_ (State.answer_kept _ _ _ _ _ _)
        refine Kept.set_time ?_ ?_
        · rfl
        · exact State.stepMast_kept _ _

theorem supplySample_kept (a0 : Nat) (a1 : Int × Int) (a2 : State) :
    Kept a2 (@supplySample a0 a1 a2) := by
  unfold supplySample
  dsimp only
  refine Kept.ite ?_ ?_
  · exact Kept.refl _
  · refine Kept.ite ?_ ?_
    · refine Kept.trans ?_ (State.publishStatus_kept _ _ _)
      refine Kept.trans ?_ (State.publishSense_kept _ _ _ _ _)
      refine Kept.trans ?_ (State.publishSense_kept _ _ _ _ _)
      exact State.updInput_kept _ _ _
    · exact State.updInput_kept _ _ _

theorem uniSample_kept (a0 : Nat) (a1 : Int) (a2 : List Nat) (a3 : State) :
    Kept a3 (@uniSample a0 a1 a2 a3) := by
  unfold uniSample
  dsimp only
  refine Kept.ite ?_ ?_
  · exact Kept.refl _
  · refine Kept.ite ?_ ?_
    · refine Kept.trans ?_ (State.publishStatus_kept _ _ _)
      refine Kept.ite ?_ ?_
      · refine Kept.trans ?_ (State.publishSense_kept _ _ _ _ _)
        refine Kept.trans ?_ (State.publishSense_kept _ _ _ _ _)
        refine Kept.trans ?_ (State.judgeFault_kept _ _ _ _ _)
        exact State.updInput_kept _ _ _
      · refine Kept.trans ?_ (State.publishSense_kept _ _ _ _ _)
        refine Kept.trans ?_ (State.judgeFault_kept _ _ _ _ _)
        exact State.updInput_kept _ _ _
    · refine Kept.trans ?_ (State.judgeFault_kept _ _ _ _ _)
      exact State.updInput_kept _ _ _

theorem State.noteMoisture_kept (a0 : State) :
    Kept a0 (@State.noteMoisture a0) := ⟨rfl, rfl, id⟩

theorem universalSampleEnd_kept (a0 : UniSample) (a1 : State) :
    Kept a1 (@universalSampleEnd a0 a1) := by
  unfold universalSampleEnd
  refine Kept.ite ?_ ?_
  · exact Kept.refl _
  · dsimp only
    refine Kept.trans ?_ (State.noteMoisture_kept _)
    refine Kept.fold (fun _ _ => ?_) _ ?_
    · exact uniSample_kept _ _ _ _
    · refine Kept.fold (fun _ _ => ?_) _ ?_
      · exact supplySample_kept _ _ _
      · exact Kept.refl _

theorem State.setAbsent_kept (a0 : State) (a1 : Nat) (a2 : Bool) :
    Kept a0 (@State.setAbsent a0 a1 a2) := ⟨rfl, rfl, id⟩

theorem State.applyChange_kept (a0 : State) (a1 : Change) :
    Kept a0 (@State.applyChange a0 a1) := by
  unfold State.applyChange
  dsimp only
  refine Kept.trans ?_ (State.raiseStay_kept _ _ _ _)
  refine Kept.ite ?_ ?_
  · exact State.updStay_kept _ _
  · refine Kept.trans ?_ (State.setAbsent_kept _ _ _)
    exact State.updStay_kept _ _

theorem rtcAlarm_kept (a0 : State) :
    Kept a0 (@rtcAlarm a0) := by
  unfold rtcAlarm
  split
  · exact Kept.refl _
  · refine Kept.ite ?_ ?_
    · exact Kept.refl _
    · refine Kept.trans ?_ (State.updPwr_kept _ _)
      exact State.wakeEvent_kept _

theorem thermalLatch_kept (a0 : Nat) (a1 : State) :
    Kept a1 (@thermalLatch a0 a1) := by
  unfold thermalLatch
  dsimp only
  refine Kept.ite ?_ ?_
  · exact Kept.refl _
  · refine Kept.trans ?_ (State.raise_kept _ _ _ _ _)
    exact State.addHold_kept _ _ _ _

theorem State.tallyRecord_kept (a0 : State) (a1 : NavRec) :
    Kept a0 (@State.tallyRecord a0 a1) := by
  unfold State.tallyRecord
  dsimp only
  split
  · exact Kept.refl _
  · refine Kept.ite ?_ ?_
    · exact State.updYield_kept _ _
    · exact State.updYield_kept _ _

theorem bridgeWireBreak_kept (a0 : Nat) (a1 : Bool) (a2 : State) :
    Kept a2 (@bridgeWireBreak a0 a1 a2) := by
  unfold bridgeWireBreak
  refine Kept.ite ?_ ?_
  · exact State.updInput_kept _ _ _
  · exact Kept.refl _

theorem pclkMeasure_kept (a0 : Nat) (a1 : Nat) (a2 : State) :
    Kept a2 (@pclkMeasure a0 a1 a2) := by
  unfold pclkMeasure
  dsimp only
  refine Kept.ite ?_ ?_
  · exact Kept.refl _
  · refine Kept.ite ?_ ?_
    · refine Kept.trans ?_ (State.raiseCam_kept _ _ _ _)
      exact State.updCam_kept _ _ _
    · exact State.updCam_kept _ _ _

theorem State.completeSet_kept (a0 : State) (a1 : Nat) (a2 : Bytes) (a3 : Bool) :
    Kept a0 (@State.completeSet a0 a1 a2 a3) := by
  unfold State.completeSet
  dsimp only
  refine Kept.ite ?_ ?_
  · refine Kept.trans ?_ (State.raiseCam_kept _ _ _ _)
    refine Kept.trans ?_ (State.updCam_kept _ _ _)
    exact State.updCam_kept _ _ _
  · exact State.updCam_kept _ _ _

theorem ethLinkChange_kept (a0 : Nat) (a1 : Bool) (a2 : State) :
    Kept a2 (@ethLinkChange a0 a1 a2) := by
  unfold ethLinkChange
  dsimp only
  refine Kept.ite ?_ ?_
  · exact Kept.refl _
  · refine Kept.ite ?_ ?_
    · refine Kept.trans ?_ (State.raiseEth_kept _ _ _ _)
      exact State.updEth_kept _ _ _
    · refine Kept.trans ?_ (State.raiseEth_kept _ _ _ _)
      exact State.updEth_kept _ _ _

theorem canTxComplete_kept (a0 : Nat) (a1 : State) :
    Kept a1 (@canTxComplete a0 a1) := by
  unfold canTxComplete
  dsimp only
  split
  · exact Kept.refl _
  · refine Kept.ite ?_ ?_
    · exact Kept.refl _
    · refine Kept.trans ?_ (State.canFrameEnd_kept _ _)
      refine Kept.trans ?_ (State.canConfine_kept _ _)
      refine Kept.trans ?_ (State.emit_kept _ _)
      exact State.updCan_kept _ _ _

theorem State.peerDelay_kept (a0 : State) (a1 : Nat) (a2 : Bytes) :
    Kept a0 (@State.peerDelay a0 a1 a2) := by
  unfold State.peerDelay
  refine Kept.ite ?_ ?_
  · exact State.stayOut_kept _ _ _ _
  · refine Kept.ite ?_ ?_
    · exact Kept.refl _
    · split
      · exact Kept.refl _
      · dsimp only
        exact State.updStayPort_kept _ _ _

theorem State.departedDiscard_kept (a0 : State) :
    Kept a0 (@State.departedDiscard a0) := ⟨rfl, rfl, id⟩

theorem State.takeControl_kept (a0 : State) (a1 : Nat) (a2 : Bytes) :
    Kept a0 (@State.takeControl a0 a1 a2) := by
  unfold State.takeControl
  dsimp only
  refine Kept.ite ?_ ?_
  · exact Kept.refl _
  · refine Kept.ite ?_ ?_
    · refine Kept.trans ?_ (State.raiseStay_kept _ _ _ _)
      exact State.updStay_kept _ _
    · exact State.updStay_kept _ _

theorem State.takeStay_kept (a0 : State) (a1 : Nat) (a2 : Bytes) :
    Kept a0 (@State.takeStay a0 a1 a2) := by
  unfold State.takeStay
  dsimp only
  split
  · refine Kept.ite ?_ ?_
    · exact State.departedDiscard_kept _
    · exact State.takeSignal_kept _ _ _
  · refine Kept.ite ?_ ?_
    · exact Kept.refl _
    · refine Kept.ite ?_ ?_
      · exact State.departedDiscard_kept _
      · exact State.unitArrival_kept _ _ _
  · exact State.takeTime_kept _ _ _
  · exact State.takeBeacon_kept _ _ _
  · exact State.takeControl_kept _ _ _
  · exact Kept.refl _

theorem stayFrameReceived_kept (a0 : Nat) (a1 : StayFrame) (a2 : State) :
    Kept a2 (@stayFrameReceived a0 a1 a2) := by
  unfold stayFrameReceived
  dsimp only
  refine Kept.ite ?_ ?_
  · exact Kept.refl _
  · refine Kept.ite ?_ ?_
    · exact State.stayDiscard_kept _
    · refine Kept.ite ?_ ?_
      · refine Kept.trans ?_ (State.peerDelay_kept _ _ _)
        refine Kept.ite ?_ ?_
        · exact State.updStayPort_kept _ _ _
        · exact Kept.refl _
      · refine Kept.ite ?_ ?_
        · refine Kept.ite ?_ ?_
          · refine Kept.ite ?_ ?_
            · exact State.updStayPort_kept _ _ _
            · exact Kept.refl _
          · refine Kept.trans ?_ (State.takeStay_kept _ _ _)
            refine Kept.ite ?_ ?_
            · refine Kept.trans ?_ (State.stayBroadcast_kept _ _ _ _)
              refine Kept.ite ?_ ?_
              · exact State.updStayPort_kept _ _ _
              · exact Kept.refl _
            · refine Kept.ite ?_ ?_
              · refine Kept.trans ?_ (State.stayDiscard_kept _)
                refine Kept.ite ?_ ?_
                · exact State.updStayPort_kept _ _ _
                · exact Kept.refl _
              · refine Kept.ite ?_ ?_
                · exact State.updStayPort_kept _ _ _
                · exact Kept.refl _
        · refine Kept.ite ?_ ?_
          · refine Kept.trans ?_ (State.takeStay_kept _ _ _)
            refine Kept.ite ?_ ?_
            · exact State.updStayPort_kept _ _ _
            · exact Kept.refl _
          · refine Kept.ite ?_ ?_
            · refine Kept.trans ?_ (State.stayDiscard_kept _)
              refine Kept.ite ?_ ?_
              · exact State.updStayPort_kept _ _ _
              · exact Kept.refl _
            · refine Kept.trans ?_ (State.stayUnicast_kept _ _ _)
              refine Kept.ite ?_ ?_
              · exact State.updStayPort_kept _ _ _
              · exact Kept.refl _

theorem State.becomeMaster_kept (a0 : State) (a1 : Nat) :
    Kept a0 (@State.becomeMaster a0 a1) := by
  unfold State.becomeMaster
  dsimp only
  refine Kept.trans ?_ (State.raiseStay_kept _ _ _ _)
  refine Kept.trans ?_ (State.refreshTime_kept _)
  refine Kept.set_time ?_ ?_
  · rfl
  · exact State.updStay_kept _ _

theorem gptpSyncSend_kept (a0 : Nat) (a1 : State) :
    Kept a1 (@gptpSyncSend a0 a1) := by
  unfold gptpSyncSend
  dsimp only
  refine Kept.ite ?_ ?_
  · exact Kept.refl _
  · refine Kept.ite ?_ ?_
    · refine Kept.trans ?_ (State.updEth_kept _ _ _)
      refine Kept.trans ?_ (State.ethOut_kept _ _ _)
      exact State.ethOut_kept _ _ _
    · refine Kept.trans ?_ (State.updEth_kept _ _ _)
      refine Kept.trans ?_ (State.ethOut_kept _ _ _)
      refine Kept.trans ?_ (State.ethOut_kept _ _ _)
      refine Kept.trans ?_ (State.updEth_kept _ _ _)
      refine Kept.trans ?_ (State.ethOut_kept _ _ _)
      exact State.ethOut_kept _ _ _

theorem State.loseCrosstree_kept (a0 : State) (a1 : Lane) :
    Kept a0 (@State.loseCrosstree a0 a1) := by
  unfold State.loseCrosstree
  dsimp only
  refine Kept.fold (fun _ _ => ?_) _ ?_
  · exact State.answer_kept _ _ _ _ _ _
  · refine Kept.trans ?_ (State.raiseLane_kept _ _ _ _)
    exact State.updLane_kept _ _ _

theorem State.scheduledHeartbeat_kept (a0 : State) (a1 : Lane) :
    Kept a0 (@State.scheduledHeartbeat a0 a1) := by
  unfold State.scheduledHeartbeat
  dsimp only
  refine Kept.trans ?_ (State.sendHeartbeat_kept _ _)
  refine Kept.ite ?_ ?_
  · refine Kept.trans ?_ (State.loseCrosstree_kept _ _)
    refine Kept.ite ?_ ?_
    · refine Kept.trans ?_ (State.logTrouble_kept _ _ _ _ _)
      exact State.updLane_kept _ _ _
    · exact State.updLane_kept _ _ _
  · refine Kept.ite ?_ ?_
    · refine Kept.trans ?_ (State.logTrouble_kept _ _ _ _ _)
      exact State.updLane_kept _ _ _
    · exact State.updLane_kept _ _ _

theorem State.sendHealth_kept (a0 : State) (a1 : Lane) :
    Kept a0 (@State.sendHealth a0 a1) := by
  unfold State.sendHealth
  dsimp only
  exact State.updLane_kept _ _ _

theorem transferSend_kept (a0 : Lane) (a1 : Nat) (a2 : State) :
    Kept a2 (@transferSend a0 a1 a2) := by
  unfold transferSend
  split
  · exact Kept.refl _
  · dsimp only
    refine Kept.ite ?_ ?_
    · exact Kept.refl _
    · refine Kept.ite ?_ ?_
      · refine Kept.ite ?_ ?_
        · exact State.scheduledHeartbeat_kept _ _
        · exact Kept.refl _
      · refine Kept.ite ?_ ?_
        · exact Kept.refl _
        · refine Kept.ite ?_ ?_
          · exact State.sendHealth_kept _ _
          · exact State.updLane_kept _ _ _

theorem heartbeatReceived_kept (a0 : Lane) (a1 : State) :
    Kept a1 (@heartbeatReceived a0 a1) := by
  unfold heartbeatReceived
  split
  · exact Kept.refl _
  · dsimp only
    refine Kept.ite ?_ ?_
    · exact State.updLane_kept _ _ _
    · refine Kept.ite ?_ ?_
      · refine Kept.trans ?_ (State.laneFailure_kept _ _ _)
        refine Kept.trans ?_ (State.updLane_kept _ _ _)
        refine Kept.trans ?_ (State.updXt_kept _ _ _)
        exact State.updLane_kept _ _ _
      · refine Kept.trans ?_ (State.updLane_kept _ _ _)
        refine Kept.trans ?_ (State.updXt_kept _ _ _)
        exact State.updLane_kept _ _ _

theorem State.clearSlot_kept (a0 : State) :
    Kept a0 (@State.clearSlot a0) := by
  unfold State.clearSlot
  split
  · exact Kept.refl _
  · refine Kept.ite ?_ ?_
    · refine Kept.trans ?_ (State.raise_kept _ _ _ _ _)
      exact State.updYield_kept _ _
    · dsimp only
      refine Kept.trans ?_ (State.updYield_kept _ _)
      exact State.fanWrite_kept _ _ _

theorem State.finishScan_kept (a0 : State) (a1 : Nat) (a2 : Bytes) (a3 : Scan) :
    Kept a0 (@State.finishScan a0 a1 a2 a3) := by
  unfold State.finishScan
  dsimp only
  refine Kept.ite ?_ ?_
  · refine Kept.trans ?_ (State.rejectSample_kept _ _ _)
    exact State.updSource_kept _ _ _
  · refine Kept.trans ?_ (State.sampleArrives_kept _ _)
    refine Kept.ite ?_ ?_
    · refine Kept.trans ?_ (State.fanWrite_kept _ _ _)
      refine Kept.trans ?_ (State.fusionWrite_kept _ _)
      exact State.updSource_kept _ _ _
    · refine Kept.trans ?_ (State.fusionWrite_kept _ _)
      exact State.updSource_kept _ _ _

theorem pointCloudDatagram_kept (a0 : Nat) (a1 : Bytes) (a2 : State) :
    Kept a2 (@pointCloudDatagram a0 a1 a2) := by
  unfold pointCloudDatagram
  dsimp only
  refine Kept.ite ?_ ?_
  · exact Kept.refl _
  · refine Kept.ite ?_ ?_
    · exact State.rejectSample_kept _ _ _
    · refine Kept.ite ?_ ?_
      · exact State.breakScan_kept _ _
      · split
        · refine Kept.ite ?_ ?_
          · refine Kept.ite ?_ ?_
            · exact State.finishScan_kept _ _ _ _
            · exact State.updSource_kept _ _ _
          · refine Kept.ite ?_ ?_
            · refine Kept.ite ?_ ?_
              · refine Kept.trans ?_ (State.finishScan_kept _ _ _ _)
                exact State.breakScan_kept _ _
              · refine Kept.trans ?_ (State.updSource_kept _ _ _)
                exact State.breakScan_kept _ _
            · exact State.breakScan_kept _ _
        · refine Kept.ite ?_ ?_
          · refine Kept.ite ?_ ?_
            · exact State.finishScan_kept _ _ _ _
            · exact State.updSource_kept _ _ _
          · exact Kept.refl _

theorem State.ethDiscard_kept (a0 : State) (a1 : Nat) :
    Kept a0 (@State.ethDiscard a0 a1) := ⟨rfl, rfl, id⟩

theorem State.takeUdp_kept (a0 : State) (a1 : Nat) (a2 : Nat) (a3 : Nat) (a4 : Nat) (a5 : Bytes) :
    Kept a0 (@State.takeUdp a0 a1 a2 a3 a4 a5) := by
  unfold State.takeUdp
  refine Kept.ite ?_ ?_
  · refine Kept.trans ?_ (State.unitArrival_kept _ _ _)
    exact State.updEth_kept _ _ _
  · dsimp only
    split
    · exact pointCloudDatagram_kept _ _ _
    · exact State.ethDiscard_kept _ _

theorem sampledTrip_kept (a0 : Nat) (a1 : Int) (a2 : State) :
    Kept a2 (@sampledTrip a0 a1 a2) := by
  unfold sampledTrip
  dsimp only
  split
  · exact State.updChan_kept _ _ _
  · refine Kept.ite ?_ ?_
    · exact State.updChan_kept _ _ _
    · refine Kept.ite ?_ ?_
      · exact State.updChan_kept _ _ _
      · refine Kept.trans ?_ (State.overcurrent_kept _ _ _)
        refine Kept.trans ?_ (State.raise_kept _ _ _ _ _)
        refine Kept.trans ?_ (State.updChan_kept _ _ _)
        exact State.updChan_kept _ _ _

theorem State.loseGrid_kept (a0 : State) :
    Kept a0 (@State.loseGrid a0) := by
  unfold State.loseGrid
  dsimp only
  refine Kept.trans ?_ (State.startClear_kept _)
  refine Kept.trans ?_ (State.raise_kept _ _ _ _ _)
  exact State.updYield_kept _ _

theorem lineEnd_kept (a0 : Nat) (a1 : LineData) (a2 : State) :
    Kept a2 (@lineEnd a0 a1 a2) := by
  unfold lineEnd
  dsimp only
  refine Kept.ite ?_ ?_
  · exact Kept.refl _
  · refine Kept.ite ?_ ?_
    · exact State.updCam_kept _ _ _
    · split
      · exact State.updCam_kept _ _ _
      · exact State.updCam_kept _ _ _

theorem freewheelMissing_kept (a0 : Nat) (a1 : State) :
    Kept a1 (@freewheelMissing a0 a1) := by
  unfold freewheelMissing
  dsimp only
  refine Kept.ite ?_ ?_
  · exact Kept.refl _
  · refine Kept.trans ?_ (State.updChan_kept _ _ _)
    exact State.addHold_kept _ _ _ _

theorem powerOn_kept (a0 : Bool) (a1 : State) :
    Kept a1 (@powerOn a0 a1) := by
  unfold powerOn
  refine Kept.ite ?_ ?_
  · exact State.updPwr_kept _ _
  · exact Kept.refl _

theorem State.judgeLimit_kept (a0 : State) (a1 : Nat) :
    Kept a0 (@State.judgeLimit a0 a1) := by
  unfold State.judgeLimit
  dsimp only
  split
  · refine Kept.ite ?_ ?_
    · refine Kept.trans ?_ (State.fatalFault_kept _ _)
      exact State.raisePwr_kept _ _ _
    · exact Kept.refl _
  · refine Kept.ite ?_ ?_
    · refine Kept.trans ?_ (State.raisePwr_kept _ _ _)
      refine Kept.fold (fun _ _ => ?_) _ ?_
      · exact State.domainOff_kept _ _
      · exact Kept.refl _
    · exact Kept.refl _

theorem State.senseTemp_kept (a0 : State) (a1 : Nat) (a2 : Int) :
    Kept a0 (@State.senseTemp a0 a1 a2) := by
  unfold State.senseTemp
  dsimp only
  refine Kept.ite ?_ ?_
  · refine Kept.trans ?_ (State.judgeLimit_kept _ _)
    refine Kept.trans ?_ (State.judgeWarning_kept _ _)
    split
    · refine Kept.trans ?_ (State.updLane_kept _ _ _)
      exact State.updPwr_kept _ _
    · exact State.updPwr_kept _ _
  · split
    · refine Kept.trans ?_ (State.updLane_kept _ _ _)
      exact State.updPwr_kept _ _
    · exact State.updPwr_kept _ _

theorem State.judgeSupply_kept (a0 : State) (a1 : Nat) :
    Kept a0 (@State.judgeSupply a0 a1) := by
  unfold State.judgeSupply
  refine Kept.ite ?_ ?_
  · exact State.updPwr_kept _ _
  · refine Kept.ite ?_ ?_
    · refine Kept.trans ?_ (State.raisePwr_kept _ _ _)
      exact State.updPwr_kept _ _
    · exact Kept.refl _

theorem esupMeasure_kept (a0 : PwrSample) (a1 : State) :
    Kept a1 (@esupMeasure a0 a1) := by
  unfold esupMeasure
  dsimp only
  refine Kept.ite ?_ ?_
  · refine Kept.trans ?_ (State.judgeSupply_kept _ _)
    refine Kept.trans ?_ (State.updPwr_kept _ _)
    refine Kept.fold (fun _ _ => ?_) _ ?_
    · exact State.senseTemp_kept _ _ _
    · exact State.updPwr_kept _ _
  · refine Kept.ite ?_ ?_
    · refine Kept.trans ?_ (State.updPwr_kept _ _)
      refine Kept.fold (fun _ _ => ?_) _ ?_
      · exact State.senseTemp_kept _ _ _
      · exact State.updPwr_kept _ _
    · refine Kept.fold (fun _ _ => ?_) _ ?_
      · exact State.senseTemp_kept _ _ _
      · exact State.updPwr_kept _ _

theorem burstResultDeadline_kept (a0 : State) :
    Kept a0 (@burstResultDeadline a0) := by
  unfold burstResultDeadline
  split
  · exact Kept.refl _
  · refine Kept.ite ?_ ?_
    · exact Kept.refl _
    · dsimp only
      refine Kept.ite ?_ ?_
      · refine Kept.trans ?_ (State.raise_kept _ _ _ _ _)
        refine Kept.set_xt ?_
        exact Kept.refl _
      · refine Kept.ite ?_ ?_
        · refine Kept.trans ?_ (State.laneFailure_kept _ _ _)
          refine Kept.set_xt ?_
          exact Kept.refl _
        · refine Kept.ite ?_ ?_
          · refine Kept.trans ?_ (State.laneFailure_kept _ _ _)
            refine Kept.set_xt ?_
            exact Kept.refl _
          · refine Kept.trans ?_ (State.raise_kept _ _ _ _ _)
            refine Kept.trans ?_ (State.laneFailure_kept _ _ _)
            refine Kept.set_xt ?_
            exact Kept.refl _

theorem State.publishSolution_kept (a0 : State) (a1 : NavDelivery) :
    Kept a0 (@State.publishSolution a0 a1) := by
  unfold State.publishSolution
  dsimp only
  refine Kept.trans ?_ (State.publishMast_kept _ _ _ _ _ _)
  refine Kept.trans ?_ (State.publishMast_kept _ _ _ _ _ _)
  refine Kept.trans ?_ (State.publishMast_kept _ _ _ _ _ _)
  refine Kept.trans ?_ (State.publishMast_kept _ _ _ _ _ _)
  exact State.publishMast_kept _ _ _ _ _ _

theorem State.egoRecord_kept (a0 : State) (a1 : NavRec) :
    Kept a0 (@State.egoRecord a0 a1) := by
  unfold State.egoRecord
  refine Kept.ite ?_ ?_
  · refine Kept.set_fus ?_
    exact Kept.refl _
  · exact Kept.refl _

theorem gnssDelivery_kept (a0 : State) :
    Kept a0 (@gnssDelivery a0) := by
  unfold gnssDelivery
  split
  · exact Kept.refl _
  · refine Kept.ite ?_ ?_
    · exact Kept.refl _
    · dsimp only
      refine Kept.trans ?_ (State.publishSolution_kept _ _)
      refine Kept.trans ?_ (State.egoRecord_kept _ _)
      refine Kept.ite ?_ ?_
      · refine Kept.trans ?_ (State.tallyRecord_kept _ _)
        refine Kept.ite ?_ ?_
        · refine Kept.ite ?_ ?_
          · exact State.updGnss_kept _ _
          · refine Kept.trans ?_ (State.fanWrite_kept _ _ _)
            exact State.updGnss_kept _ _
        · refine Kept.trans ?_ (State.fanWrite_kept _ _ _)
          refine Kept.ite ?_ ?_
          · exact State.updGnss_kept _ _
          · refine Kept.trans ?_ (State.fanWrite_kept _ _ _)
            exact State.updGnss_kept _ _
      · refine Kept.ite ?_ ?_
        · refine Kept.ite ?_ ?_
          · exact State.updGnss_kept _ _
          · refine Kept.trans ?_ (State.fanWrite_kept _ _ _)
            exact State.updGnss_kept _ _
        · refine Kept.trans ?_ (State.fanWrite_kept _ _ _)
          refine Kept.ite ?_ ?_
          · exact State.updGnss_kept _ _
          · refine Kept.trans ?_ (State.fanWrite_kept _ _ _)
            exact State.updGnss_kept _ _

theorem State.startBurst_kept (a0 : State) (a1 : Nat) :
    Kept a0 (@State.startBurst a0 a1) := by
  unfold State.startBurst
  refine Kept.ite ?_ ?_
  · dsimp only
    refine Kept.ite ?_ ?_
    · refine Kept.set_xt ?_
      refine Kept.trans ?_ (State.updLanes_kept _ _)
      refine Kept.set_xt ?_
      exact Kept.refl _
    · refine Kept.trans ?_ (State.raise_kept _ _ _ _ _)
      refine Kept.set_xt ?_
      exact Kept.refl _
  · refine Kept.set_xt ?_
    exact Kept.refl _

theorem State.detectFrame_kept (a0 : State) (a1 : Nat) (a2 : CanFrame) :
    Kept a0 (@State.detectFrame a0 a1 a2) := by
  unfold State.detectFrame
  dsimp only
  refine Kept.ite ?_ ?_
  · exact Kept.refl _
  · refine Kept.ite ?_ ?_
    · exact State.updCan_kept _ _ _
    · refine Kept.trans ?_ (State.raiseCan_kept _ _ _ _)
      exact State.updCan_kept _ _ _

theorem State.refreshSignals_kept (a0 : State) (a1 : Lane) :
    Kept a0 (@State.refreshSignals a0 a1) := by
  unfold State.refreshSignals
  refine Kept.ite ?_ ?_
  · exact State.updLane_kept _ _ _
  · exact Kept.refl _

theorem crosstreeResumed_kept (a0 : State) :
    Kept a0 (@crosstreeResumed a0) := by
  unfold crosstreeResumed
  refine Kept.ite ?_ ?_
  · exact Kept.refl _
  · dsimp only
    refine Kept.set_xt ?_
    exact Kept.refl _

theorem freewheelWatchEnd_kept (a0 : Nat) (a1 : Int) (a2 : Nat) (a3 : State) :
    Kept a3 (@freewheelWatchEnd a0 a1 a2 a3) := by
  unfold freewheelWatchEnd
  dsimp only
  refine Kept.ite ?_ ?_
  · refine Kept.trans ?_ (State.raise_kept _ _ _ _ _)
    exact State.updChan_kept _ _ _
  · exact Kept.refl _

theorem masterLost_kept (a0 : State) :
    Kept a0 (@masterLost a0) := by
  unfold masterLost
  dsimp only
  refine Kept.ite ?_ ?_
  · exact Kept.refl _
  · refine Kept.trans ?_ (State.raiseStay_kept _ _ _ _)
    refine Kept.set_time ?_ ?_
    · rfl
    · exact State.updStay_kept _ _

theorem detectDwellExpiry_kept (a0 : Nat) (a1 : State) :
    Kept a1 (@detectDwellExpiry a0 a1) := by
  unfold detectDwellExpiry
  dsimp only
  refine Kept.ite ?_ ?_
  · exact Kept.refl _
  · exact State.nextDwell_kept _ _

theorem State.succession_kept (a0 : State) :
    Kept a0 (@State.succession a0) := by
  unfold State.succession
  refine Kept.ite ?_ ?_
  · exact Kept.refl _
  · dsimp only
    refine Kept.ite ?_ ?_
    · exact State.becomeMaster_kept _ _
    · exact State.updStay_kept _ _

theorem tokenRefill_kept (a0 : Nat) (a1 : State) :
    Kept a1 (@tokenRefill a0 a1) := by
  unfold tokenRefill
  dsimp only
  split
  · exact Kept.refl _
  · refine Kept.ite ?_ ?_
    · exact Kept.refl _
    · refine Kept.ite ?_ ?_
      · exact State.updRec_kept _ _
      · exact State.updRec_kept _ _

theorem State.startJob_kept (a0 : State) (a1 : Nat) (a2 : LinkJob) :
    Kept a0 (@State.startJob a0 a1 a2) := ⟨rfl, rfl, id⟩

theorem State.failSet_kept (a0 : State) (a1 : Nat) (a2 : Bytes) (a3 : Nat) (a4 : Nat) :
    Kept a0 (@State.failSet a0 a1 a2 a3 a4) := by
  unfold State.failSet
  dsimp only
  refine Kept.trans ?_ (State.raiseCam_kept _ _ _ _)
  exact State.updCam_kept _ _ _

theorem State.answerTransfer_kept (a0 : State) (a1 : Request) (a2 : LinkResult) :
    Kept a0 (@State.answerTransfer a0 a1 a2) := by
  unfold State.answerTransfer
  split
  · dsimp only
    refine Kept.trans ?_ (State.logChange_kept _ _ _ _ _ _)
    exact State.answer_kept _ _ _ _ _ _
  · exact State.answer_kept _ _ _ _ _ _
  · exact State.answer_kept _ _ _ _ _ _

theorem State.endTransaction_kept (a0 : State) (a1 : Nat) (a2 : LinkJob) (a3 : LinkResult) :
    Kept a0 (@State.endTransaction a0 a1 a2 a3) := by
  unfold State.endTransaction
  split
  · refine Kept.ite ?_ ?_
    · refine Kept.ite ?_ ?_
      · exact State.startJob_kept _ _ _
      · exact State.completeSet_kept _ _ _ _
    · exact State.failSet_kept _ _ _ _ _
  · refine Kept.trans ?_ (State.answerTransfer_kept _ _ _)
    exact State.updCam_kept _ _ _
  · exact Kept.refl _

theorem yieldStepProcess_kept (a0 : State) :
    Kept a0 (@yieldStepProcess a0) := by
  unfold yieldStepProcess
  dsimp only
  split
  · exact Kept.refl _
  · refine Kept.ite ?_ ?_
    · exact Kept.refl _
    · exact State.updYield_kept _ _

theorem frameValidFall_kept (a0 : Nat) (a1 : State) :
    Kept a1 (@frameValidFall a0 a1) := by
  unfold frameValidFall
  refine Kept.ite ?_ ?_
  · exact Kept.refl _
  · refine Kept.trans ?_ (State.closeFrame_kept _ _ _ _)
    exact State.updCam_kept _ _ _

theorem roundNetworkComplete_kept (a0 : State) :
    Kept a0 (@roundNetworkComplete a0) := by
  unfold roundNetworkComplete
  dsimp only
  split
  · refine Kept.ite ?_ ?_
    · exact State.roundReads_kept _
    · exact Kept.refl _
  · refine Kept.ite ?_ ?_
    · refine Kept.ite ?_ ?_
      · exact State.roundReads_kept _
      · exact Kept.refl _
    · refine Kept.trans ?_ (State.useFree_kept _)
      refine Kept.trans ?_ (State.updFus_kept _ _)
      refine Kept.trans ?_ (State.fusionCover_kept _ _)
      refine Kept.ite ?_ ?_
      · exact State.roundReads_kept _
      · exact Kept.refl _

theorem sensorSupplyTrip_kept (a0 : Nat) (a1 : State) :
    Kept a1 (@sensorSupplyTrip a0 a1) := by
  unfold sensorSupplyTrip
  dsimp only
  refine Kept.ite ?_ ?_
  · refine Kept.fold (fun _ _ => ?_) _ ?_
    · exact State.judgeFault_kept _ _ _ _ _
    · refine Kept.trans ?_ (State.raise_kept _ _ _ _ _)
      exact State.updInput_kept _ _ _
  · exact Kept.refl _

theorem heartbeatAckReceived_kept (a0 : Lane) (a1 : State) :
    Kept a1 (@heartbeatAckReceived a0 a1) := by
  unfold heartbeatAckReceived
  dsimp only
  split
  · exact Kept.refl _
  · refine Kept.ite ?_ ?_
    · exact State.updLane_kept _ _ _
    · refine Kept.ite ?_ ?_
      · refine Kept.trans ?_ (State.raiseLane_kept _ _ _ _)
        refine Kept.trans ?_ (State.updLane_kept _ _ _)
        exact State.updLane_kept _ _ _
      · refine Kept.trans ?_ (State.updLane_kept _ _ _)
        exact State.updLane_kept _ _ _

theorem State.cameraMajorPort_kept (a0 : State) (a1 : Nat) :
    Kept a0 (@State.cameraMajorPort a0 a1) := by
  unfold State.cameraMajorPort
  dsimp only
  refine Kept.ite ?_ ?_
  · refine Kept.trans ?_ (State.updCam_kept _ _ _)
    refine Kept.trans ?_ (State.swapFrames_kept _ _)
    exact State.updCam_kept _ _ _
  · exact State.updCam_kept _ _ _

theorem State.cameraMajor_kept (a0 : State) :
    Kept a0 (@State.cameraMajor a0) := by
  unfold State.cameraMajor
  refine Kept.ite ?_ ?_
  · refine Kept.fold (fun _ _ => ?_) _ ?_
    · exact State.cameraMajorPort_kept _ _
    · exact Kept.refl _
  · exact Kept.refl _

theorem State.dispatch_kept (a0 : State) (a1 : Lane) (a2 : SlotEntry) :
    Kept a0 (@State.dispatch a0 a1 a2) := by
  unfold State.dispatch
  split
  · exact Kept.refl _
  · dsimp only
    exact State.updLane_kept _ _ _

theorem State.dispatchTasks_kept (a0 : State) (a1 : Lane) :
    Kept a0 (@State.dispatchTasks a0 a1) := by
  unfold State.dispatchTasks
  refine Kept.ite ?_ ?_
  · refine Kept.fold (fun _ _ => ?_) _ ?_
    · exact State.dispatch_kept _ _ _
    · exact Kept.refl _
  · exact Kept.refl _

theorem State.resyncSlot_kept (a0 : State) :
    Kept a0 (@State.resyncSlot a0) := by
  unfold State.resyncSlot
  split
  · exact Kept.refl _
  · refine Kept.ite ?_ ?_
    · refine Kept.set_xt ?_
      exact Kept.refl _
    · exact Kept.refl _

theorem State.sendBurst_kept (a0 : State) (a1 : Lane) :
    Kept a0 (@State.sendBurst a0 a1) := by
  unfold State.sendBurst
  refine Kept.ite ?_ ?_
  · exact State.updLane_kept _ _ _
  · exact Kept.refl _

theorem State.burstResults_kept (a0 : State) :
    Kept a0 (@State.burstResults a0) := by
  unfold State.burstResults
  refine Kept.ite ?_ ?_
  · refine Kept.trans ?_ (State.sendBurst_kept _ _)
    exact State.sendBurst_kept _ _
  · exact Kept.refl _

theorem State.engineFails_kept (a0 : State) (a1 : Lane) :
    Kept a0 (@State.engineFails a0 a1) := by
  unfold State.engineFails
  dsimp only
  refine Kept.ite ?_ ?_
  · exact Kept.refl _
  · refine Kept.ite ?_ ?_
    · refine Kept.trans ?_ (State.updLane_kept _ _ _)
      exact State.updLane_kept _ _ _
    · refine Kept.ite ?_ ?_
      · refine Kept.ite ?_ ?_
        · refine Kept.trans ?_ (State.fatalFault_kept _ _)
          exact State.updLane_kept _ _ _
        · exact State.updLane_kept _ _ _
      · exact Kept.refl _

theorem State.coreFails_kept (a0 : State) (a1 : Lane) (a2 : Nat) :
    Kept a0 (@State.coreFails a0 a1 a2) := by
  unfold State.coreFails
  dsimp only
  refine Kept.ite ?_ ?_
  · exact Kept.refl _
  · refine Kept.ite ?_ ?_
    · refine Kept.trans ?_ (State.updLane_kept _ _ _)
      exact State.updLane_kept _ _ _
    · refine Kept.ite ?_ ?_
      · refine Kept.ite ?_ ?_
        · refine Kept.trans ?_ (State.fatalFault_kept _ _)
          exact State.updLane_kept _ _ _
        · exact State.updLane_kept _ _ _
      · exact Kept.refl _

theorem State.nextTest_kept (a0 : State) (a1 : Lane) :
    Kept a0 (@State.nextTest a0 a1) := by
  unfold State.nextTest
  split
  · exact State.updLane_kept _ _ _
  · dsimp only
    exact State.updLane_kept _ _ _

theorem State.slotTests_kept (a0 : State) (a1 : SlotFaults) :
    Kept a0 (@State.slotTests a0 a1) := by
  unfold State.slotTests
  dsimp only
  refine Kept.trans ?_ (State.nextTest_kept _ _)
  refine Kept.trans ?_ (State.nextTest_kept _ _)
  refine Kept.fold (fun _ _ => ?_) _ ?_
  · exact State.engineFails_kept _ _
  · refine Kept.fold (fun _ _ => ?_) _ ?_
    · exact State.coreFails_kept _ _ _
    · exact Kept.refl _

theorem State.runPackets_kept (a0 : State) :
    Kept a0 (@State.runPackets a0) := by
  unfold State.runPackets
  dsimp only
  refine Kept.fold (fun _ _ => ?_) _ ?_
  · exact State.runUnit_kept _ _ _ _
  · exact State.updLanes_kept _ _

theorem State.openRun_kept (a0 : Nat) (a1 : State) (a2 : Lane) :
    Kept a1 (@State.openRun a0 a1 a2) := by
  unfold State.openRun
  dsimp only
  exact State.updLane_kept _ _ _

theorem State.interpreterRuns_kept (a0 : State) :
    Kept a0 (@State.interpreterRuns a0) := by
  unfold State.interpreterRuns
  dsimp only
  refine Kept.trans ?_ (State.runPackets_kept _)
  refine Kept.fold (fun _ _ => ?_) _ ?_
  · refine Kept.trans ?_ (State.openRun_kept _ _ _)
    exact State.openRun_kept _ _ _
  · exact Kept.refl _

theorem State.patrolSlot_kept (a0 : State) (a1 : Nat) :
    Kept a0 ((@State.patrolSlot a0 a1).1) := by
  unfold State.patrolSlot
  refine Kept.trans ?_ (State.patrolGo_kept _ _ _ _)
  dsimp only
  exact Kept.refl _

theorem State.fusionPatrol_kept (a0 : State) :
    Kept a0 (@State.fusionPatrol a0) := by
  unfold State.fusionPatrol
  refine Kept.ite ?_ ?_
  · split
    refine Kept.fold (fun _ _ => ?_) _ ?_
    · dsimp only
      refine Kept.ite ?_ ?_
      · exact State.updSlot_kept _ _ _
      · exact Kept.refl _
    · refine Kept.of_pair (by assumption) ?_
      exact State.patrolSlot_kept _ _
  · exact Kept.refl _

theorem State.lanePatrol_kept (a0 : State) (a1 : Lane) :
    Kept a0 (@State.lanePatrol a0 a1) := by
  unfold State.lanePatrol
  refine Kept.ite ?_ ?_
  · exact State.patrolSlot_kept _ _
  · exact Kept.refl _

theorem slotStart_kept (a0 : SlotFaults) (a1 : State) :
    Kept a1 (@slotStart a0 a1) := by
  unfold slotStart
  refine Kept.ite ?_ ?_
  · exact Kept.refl _
  · dsimp only
    refine Kept.trans ?_ (State.interpreterRuns_kept _)
    refine Kept.trans ?_ (State.fusionPatrol_kept _)
    refine Kept.trans ?_ (State.lanePatrol_kept _ _)
    refine Kept.trans ?_ (State.lanePatrol_kept _ _)
    refine Kept.ite ?_ ?_
    · refine Kept.trans ?_ (State.clearSlot_kept _)
      refine Kept.trans ?_ (State.resyncSlot_kept _)
      refine Kept.trans ?_ (State.burstResults_kept _)
      refine Kept.trans ?_ (State.slotTests_kept _ _)
      refine Kept.trans ?_ (State.dispatchTasks_kept _ _)
      refine Kept.trans ?_ (State.dispatchTasks_kept _ _)
      refine Kept.trans ?_ (State.refreshSignals_kept _ _)
      refine Kept.trans ?_ (State.refreshSignals_kept _ _)
      refine Kept.ite ?_ ?_
      · refine Kept.trans ?_ (State.cameraMajor_kept _)
        refine Kept.set_time ?_ ?_
        · rfl
        · exact Kept.refl _
      · refine Kept.set_time ?_ ?_
        · rfl
        · exact Kept.refl _
    · refine Kept.trans ?_ (State.resyncSlot_kept _)
      refine Kept.trans ?_ (State.burstResults_kept _)
      refine Kept.trans ?_ (State.slotTests_kept _ _)
      refine Kept.trans ?_ (State.dispatchTasks_kept _ _)
      refine Kept.trans ?_ (State.dispatchTasks_kept _ _)
      refine Kept.trans ?_ (State.refreshSignals_kept _ _)
      refine Kept.trans ?_ (State.refreshSignals_kept _ _)
      refine Kept.ite ?_ ?_
      · refine Kept.trans ?_ (State.cameraMajor_kept _)
        refine Kept.set_time ?_ ?_
        · rfl
        · exact Kept.refl _
      · refine Kept.set_time ?_ ?_
        · rfl
        · exact Kept.refl _

theorem OpSpec.noted_kept (a0 : OpSpec) (ha0 : a0.Keeps) (a1 : State) (a2 : Request) (a3 : Resolved) :
    Kept a1 (@OpSpec.noted a0 a1 a2 a3) := by
  unfold OpSpec.noted
  refine Kept.ite ?_ ?_
  · exact Kept.refl _
  · refine Kept.trans ?_ (State.sendCommand_kept _ _ ?_ _ _)
    · exact Kept.refl _
    · assumption

theorem openLoadCheck_kept (a0 : Nat) (a1 : State) :
    Kept a1 (@openLoadCheck a0 a1) := by
  unfold openLoadCheck
  dsimp only
  refine Kept.ite ?_ ?_
  · refine Kept.ite ?_ ?_
    · refine Kept.trans ?_ (State.raise_kept _ _ _ _ _)
      exact State.updChan_kept _ _ _
    · exact State.updChan_kept _ _ _
  · exact Kept.refl _

theorem OpSpec.done_kept (a0 : OpSpec) (ha0 : a0.Keeps) (a1 : Request) (a2 : Resolved) (a3 : Bytes) (a4 : State) :
    Kept a4 (@OpSpec.done a0 a1 a2 a3 a4) := by
  unfold OpSpec.done
  refine Kept.trans ?_ (State.logChange_kept _ _ _ _ _ _)
  refine Kept.trans ?_ (OpSpec.reply_kept _ ?_ _ _ _ _ _)
  · exact Kept.refl _
  · assumption

theorem State.missedBeacons_kept (a0 : State) :
    Kept a0 (@State.missedBeacons a0) := by
  unfold State.missedBeacons
  refine Kept.ite ?_ ?_
  · exact Kept.refl _
  · dsimp only
    refine Kept.fold (fun _ _ => ?_) _ ?_
    · exact State.issueChange_kept _ _ _ _ _
    · exact State.updStay_kept _ _

theorem State.stayBoundary_kept (a0 : State) :
    Kept a0 (@State.stayBoundary a0) := by
  unfold State.stayBoundary
  refine Kept.ite ?_ ?_
  · exact Kept.refl _
  · dsimp only
    refine Kept.trans ?_ (State.missedBeacons_kept _)
    refine Kept.trans ?_ (State.succession_kept _)
    refine Kept.fold (fun _ _ => ?_) _ ?_
    · exact State.applyChange_kept _ _
    · exact State.updStay_kept _ _

theorem linkTransactionEnd_kept (a0 : Nat) (a1 : LinkResult) (a2 : State) :
    Kept a2 (@linkTransactionEnd a0 a1 a2) := by
  unfold linkTransactionEnd
  dsimp only
  split
  · exact Kept.refl _
  · refine Kept.ite ?_ ?_
    · exact Kept.refl _
    · refine Kept.trans ?_ (State.endTransaction_kept _ _ _ _)
      exact State.emit_kept _ _

theorem timePulseStart_kept (a0 : Nat) (a1 : State) :
    Kept a1 (@timePulseStart a0 a1) := by
  unfold timePulseStart
  dsimp only
  refine Kept.ite ?_ ?_
  · exact Kept.refl _
  · split
    · exact Kept.refl _
    · refine Kept.ite ?_ ?_
      · exact Kept.refl _
      · refine Kept.ite ?_ ?_
        · exact State.updPulse_kept _ _ _
        · refine Kept.trans ?_ (State.emit_kept _ _)
          refine Kept.trans ?_ (State.updPulse_kept _ _ _)
          exact State.updPulse_kept _ _ _

theorem cameraClockLost_kept (a0 : Nat) (a1 : State) :
    Kept a1 (@cameraClockLost a0 a1) := by
  unfold cameraClockLost
  split
  · exact Kept.refl _
  · refine Kept.ite ?_ ?_
    · exact Kept.refl _
    · exact State.closeFrame_kept _ _ _ _

theorem State.phase5_kept (a0 : State) :
    Kept a0 (@State.phase5 a0) := by
  unfold State.phase5
  refine Kept.trans ?_ (State.boot_kept _ _)
  refine Kept.trans ?_ (State.boot_kept _ _)
  refine Kept.trans ?_ (State.setDomain_kept _ _ _)
  exact State.setDomain_kept _ _ _

theorem masterElectionTimeout_kept (a0 : State) :
    Kept a0 (@masterElectionTimeout a0) := by
  unfold masterElectionTimeout
  split
  · exact Kept.refl _
  · refine Kept.ite ?_ ?_
    · exact State.becomeMaster_kept _ _
    · exact Kept.refl _

theorem resyncCopyComplete_kept (a0 : Lane) (a1 : State) :
    Kept a1 (@resyncCopyComplete a0 a1) := by
  unfold resyncCopyComplete
  dsimp only
  refine Kept.ite ?_ ?_
  · exact State.updXt_kept _ _ _
  · exact Kept.refl _

theorem capCheckComplete_kept (a0 : Nat) (a1 : Nat) (a2 : State) :
    Kept a2 (@capCheckComplete a0 a1 a2) := by
  unfold capCheckComplete
  dsimp only
  refine Kept.ite ?_ ?_
  · exact Kept.refl _
  · refine Kept.trans ?_ (State.judgeFault_kept _ _ _ _ _)
    exact State.updInput_kept _ _ _

theorem State.joinStops_kept (a0 : State) :
    Kept a0 (@State.joinStops a0) := by
  unfold State.joinStops
  refine Kept.ite ?_ ?_
  · refine Kept.fold (fun _ _ => ?_) _ ?_
    · exact State.joinStop_kept _ _
    · exact Kept.refl _
  · exact Kept.refl _

theorem laneStopped_kept (a0 : Lane) (a1 : State) :
    Kept a1 (@laneStopped a0 a1) := by
  unfold laneStopped
  exact State.updLane_kept _ _ _

theorem OpSpec.held_kept (a0 : OpSpec) (ha0 : a0.Keeps) (a1 : Request) (a2 : Resolved) (a3 : State) :
    Kept a3 (@OpSpec.held a0 a1 a2 a3) := by
  unfold OpSpec.held
  refine Kept.trans ?_ (State.logChange_kept _ _ _ _ _ _)
  refine Kept.trans ?_ (State.answer_kept _ _ _ _ _ _)
  refine Kept.set_staged ?_
  exact Kept.refl _

theorem taskWindowFault_kept (a0 : Lane) (a1 : Nat) (a2 : Nat) (a3 : Nat) (a4 : Access) (a5 : State) :
    Kept a5 (@taskWindowFault a0 a1 a2 a3 a4 a5) := by
  unfold taskWindowFault
  split
  · refine Kept.ite ?_ ?_
    · exact Kept.refl _
    · exact State.endActivation_kept _ _ _ _
  · exact Kept.refl _

theorem antennaSupplyFault_kept (a0 : Nat) (a1 : Nat) (a2 : State) :
    Kept a2 (@antennaSupplyFault a0 a1 a2) := by
  unfold antennaSupplyFault
  dsimp only
  refine Kept.ite ?_ ?_
  · exact Kept.refl _
  · refine Kept.trans ?_ (State.raiseGnss_kept _ _ _)
    exact State.updGnss_kept _ _

theorem State.engineReads_kept (a0 : State) (a1 : Lane) (a2 : List (Nat × BitVec 13)) :
    Kept a0 (@State.engineReads a0 a1 a2) := by
  unfold State.engineReads
  refine Kept.fold (fun _ _ => ?_) _ ?_
  · split
    · exact Kept.refl _
    · exact State.noteCorrected_kept _ _ _ _ _
    · exact State.noteUncorrectable_kept _ _ _ _
  · exact Kept.refl _

theorem loopStartRead_kept (a0 : Lane) (a1 : Nat) (a2 : List (Nat × BitVec 13)) (a3 : State) :
    Kept a3 (@loopStartRead a0 a1 a2 a3) := by
  unfold loopStartRead
  refine Kept.trans ?_ (loopStart_kept _ _ _)
  refine Kept.ite ?_ ?_
  · exact State.engineReads_kept _ _ _
  · exact Kept.refl _

theorem runOnExpiry_kept (a0 : State) :
    Kept a0 (@runOnExpiry a0) := by
  unfold runOnExpiry
  dsimp only
  split
  · exact Kept.refl _
  · refine Kept.ite ?_ ?_
    · exact Kept.refl _
    · exact State.updPwr_kept _ _

theorem State.rejoinBoundary_kept (a0 : State) :
    Kept a0 (@State.rejoinBoundary a0) := by
  unfold State.rejoinBoundary
  split
  · exact Kept.refl _
  · refine Kept.ite ?_ ?_
    · exact Kept.refl _
    · dsimp only
      refine Kept.trans ?_ (State.loseGrid_kept _)
      refine Kept.trans ?_ (State.restartStreams_kept _)
      refine Kept.ite ?_ ?_
      · refine Kept.set_xt ?_
        refine Kept.ite ?_ ?_
        · refine Kept.ite ?_ ?_
          · exact Kept.refl _
          · refine Kept.trans ?_ (State.updXt_kept _ _ _)
            exact State.updLane_kept _ _ _
        · refine Kept.trans ?_ (State.updXt_kept _ _ _)
          refine Kept.trans ?_ (State.updLane_kept _ _ _)
          refine Kept.ite ?_ ?_
          · exact Kept.refl _
          · refine Kept.trans ?_ (State.updXt_kept _ _ _)
            exact State.updLane_kept _ _ _
      · refine Kept.trans ?_ (State.designate_kept _ _ _)
        refine Kept.set_xt ?_
        refine Kept.ite ?_ ?_
        · refine Kept.ite ?_ ?_
          · exact Kept.refl _
          · refine Kept.trans ?_ (State.updXt_kept _ _ _)
            exact State.updLane_kept _ _ _
        · refine Kept.trans ?_ (State.updXt_kept _ _ _)
          refine Kept.trans ?_ (State.updLane_kept _ _ _)
          refine Kept.ite ?_ ?_
          · exact Kept.refl _
          · refine Kept.trans ?_ (State.updXt_kept _ _ _)
            exact State.updLane_kept _ _ _

theorem State.taskRead_kept (a0 : State) (a1 : TaskDesc) (a2 : Lane) (a3 : Access) (a4 : Nat) (a5 : Nat) :
    Kept a0 ((@State.taskRead a0 a1 a2 a3 a4 a5).1) := by
  unfold State.taskRead
  refine Kept.ite_fst ?_ ?_
  · split
    · dsimp only
      refine Kept.of_pair (by assumption) ?_
      exact State.readRun_kept _ _ _ _ _
    · dsimp only
      refine Kept.of_pair (by assumption) ?_
      exact State.readRun_kept _ _ _ _ _
  · dsimp only
    exact Kept.refl _

theorem State.taskAccess_kept (a0 : State) (a1 : TaskDesc) (a2 : Lane) (a3 : TaskAccess) :
    Kept a0 ((@State.taskAccess a0 a1 a2 a3).1) := by
  unfold State.taskAccess
  split
  · exact State.taskRead_kept _ _ _ _ _ _
  · exact State.taskRead_kept _ _ _ _ _ _
  · refine Kept.ite_fst ?_ ?_
    · dsimp only
      exact State.dramWrite_kept _ _ _ _
    · dsimp only
      exact Kept.refl _

theorem State.accessAll_kept (t : TaskDesc) (l : Lane) (x : List TaskAccess) (s : State) :
    Kept s (State.accessAll t l x s).1 := by
  induction x generalizing s with
  | nil => exact Kept.refl s
  | cons a r ih =>
    unfold State.accessAll
    split <;> rename_i v h
    · exact (Kept.of_pair h (State.taskAccess_kept _ _ _ _)).trans (ih v)
    · exact Kept.of_pair h (State.taskAccess_kept _ _ _ _)
    · exact Kept.of_pair h (State.taskAccess_kept _ _ _ _)

theorem taskFinish_kept (a0 : Lane) (a1 : Nat) (a2 : Nat) (a3 : TaskResult) (a4 : State) :
    Kept a4 (@taskFinish a0 a1 a2 a3 a4) := by
  unfold taskFinish
  split
  · refine Kept.ite ?_ ?_
    · exact Kept.refl _
    · split
      · refine Kept.trans ?_ (State.endActivation_kept _ _ _ _)
        refine Kept.of_pair (by assumption) ?_
        exact State.accessAll_kept _ _ _ _
      · refine Kept.of_pair (by assumption) ?_
        exact State.accessAll_kept _ _ _ _
      · refine Kept.trans ?_ (State.updLane_kept _ _ _)
        refine Kept.of_pair (by assumption) ?_
        exact State.accessAll_kept _ _ _ _
  · exact Kept.refl _

theorem stayLinkChange_kept (a0 : Nat) (a1 : Bool) (a2 : State) :
    Kept a2 (@stayLinkChange a0 a1 a2) := by
  unfold stayLinkChange
  refine Kept.ite ?_ ?_
  · exact Kept.refl _
  · refine Kept.ite ?_ ?_
    · dsimp only
      refine Kept.trans ?_ (State.raiseStay_kept _ _ _ _)
      refine Kept.trans ?_ (State.updStay_kept _ _)
      exact State.updStayPort_kept _ _ _
    · refine Kept.trans ?_ (State.raiseStay_kept _ _ _ _)
      exact State.updStayPort_kept _ _ _

theorem lossHitEnd_kept (a0 : Nat) (a1 : HitData) (a2 : State) :
    Kept a2 (@lossHitEnd a0 a1 a2) := by
  unfold lossHitEnd
  dsimp only
  refine Kept.ite ?_ ?_
  · exact Kept.refl _
  · exact State.updInput_kept _ _ _

theorem State.markEdge_kept (a0 : State) (a1 : Bool) (a2 : State) (a3 : Nat) :
    Kept a2 (@State.markEdge a0 a1 a2 a3) := ⟨rfl, rfl, id⟩

theorem pwmPeriodStart_kept (a0 : Nat) (a1 : State) :
    Kept a1 (@pwmPeriodStart a0 a1) := by
  unfold pwmPeriodStart
  refine Kept.ite ?_ ?_
  · exact Kept.refl _
  · refine Kept.ite ?_ ?_
    · exact State.updChan_kept _ _ _
    · dsimp only
      refine Kept.ite ?_ ?_
      · refine Kept.trans ?_ (State.publishI_kept _ _ _ _ _)
        refine Kept.ite ?_ ?_
        · refine Kept.trans ?_ (State.markEdge_kept _ _ _ _)
          refine Kept.trans ?_ (State.markEdge_kept _ _ _ _)
          refine Kept.ite ?_ ?_
          · refine Kept.trans ?_ (State.updChan_kept _ _ _)
            exact openLoadCheck_kept _ _
          · refine Kept.trans ?_ (State.clearOdd_kept _ _)
            refine Kept.trans ?_ (State.updChan_kept _ _ _)
            exact openLoadCheck_kept _ _
        · refine Kept.trans ?_ (State.markEdge_kept _ _ _ _)
          refine Kept.ite ?_ ?_
          · refine Kept.trans ?_ (State.updChan_kept _ _ _)
            exact openLoadCheck_kept _ _
          · refine Kept.trans ?_ (State.clearOdd_kept _ _)
            refine Kept.trans ?_ (State.updChan_kept _ _ _)
            exact openLoadCheck_kept _ _
      · refine Kept.ite ?_ ?_
        · refine Kept.trans ?_ (State.markEdge_kept _ _ _ _)
          refine Kept.trans ?_ (State.markEdge_kept _ _ _ _)
          refine Kept.ite ?_ ?_
          · refine Kept.trans ?_ (State.updChan_kept _ _ _)
            exact openLoadCheck_kept _ _
          · refine Kept.trans ?_ (State.clearOdd_kept _ _)
            refine Kept.trans ?_ (State.updChan_kept _ _ _)
            exact openLoadCheck_kept _ _
        · refine Kept.trans ?_ (State.markEdge_kept _ _ _ _)
          refine Kept.ite ?_ ?_
          · refine Kept.trans ?_ (State.updChan_kept _ _ _)
            exact openLoadCheck_kept _ _
          · refine Kept.trans ?_ (State.clearOdd_kept _ _)
            refine Kept.trans ?_ (State.updChan_kept _ _ _)
            exact openLoadCheck_kept _ _

theorem dedupWindowExpiry_kept (a0 : Nat) (a1 : Nat) (a2 : State) :
    Kept a2 (@dedupWindowExpiry a0 a1 a2) := by
  unfold dedupWindowExpiry
  refine Kept.trans ?_ (State.actAll_kept _)
  exact State.judging_kept _ _ _

theorem State.fileFrame_kept (a0 : State) (a1 : Nat) (a2 : CanFrame) :
    Kept a0 (@State.fileFrame a0 a1 a2) := by
  unfold State.fileFrame
  dsimp only
  refine Kept.ite ?_ ?_
  · exact State.updCan_kept _ _ _
  · refine Kept.trans ?_ (State.publishMast_kept _ _ _ _ _ _)
    refine Kept.trans ?_ (State.fanWrite_kept _ _ _)
    exact State.updCan_kept _ _ _

theorem canFrameReceived_kept (a0 : Nat) (a1 : CanFrame) (a2 : State) :
    Kept a2 (@canFrameReceived a0 a1 a2) := by
  unfold canFrameReceived
  dsimp only
  refine Kept.ite ?_ ?_
  · exact Kept.refl _
  · refine Kept.ite ?_ ?_
    · refine Kept.trans ?_ (State.canFrameEnd_kept _ _)
      exact State.detectFrame_kept _ _ _
    · refine Kept.ite ?_ ?_
      · refine Kept.trans ?_ (State.canFrameEnd_kept _ _)
        exact State.fileFrame_kept _ _ _
      · refine Kept.ite ?_ ?_
        · refine Kept.trans ?_ (State.canFrameEnd_kept _ _)
          refine Kept.trans ?_ (State.fileFrame_kept _ _ _)
          refine Kept.trans ?_ (State.canConfine_kept _ _)
          refine Kept.ite ?_ ?_
          · refine Kept.trans ?_ (State.useFree_kept _)
            exact State.updCan_kept _ _ _
          · exact State.updCan_kept _ _ _
        · exact Kept.refl _

theorem State.performTaken_kept (s : State) (t : Taken) : Kept s (s.performTaken t) := by
  unfold State.performTaken
  split
  · split
    · exact State.perform_kept _ _ (ops_kept _ (findIn_mem (by assumption))) _ _
    · exact Kept.refl s
  · exact Kept.refl s

theorem State.settleFor_kept (n : Nat) (s : State) : Kept s (State.settleFor n s) := by
  induction n generalizing s with
  | zero => exact Kept.refl s
  | succ n ih =>
    unfold State.settleFor
    split
    · exact Kept.refl s
    · exact ((Kept.set_taken (Kept.refl s)).trans (State.performTaken_kept _ _)).trans (ih _)

theorem supplyFail_kept (a0 : State) :
    Kept a0 (@supplyFail a0) := by
  unfold supplyFail
  split
  · exact Kept.refl _
  · refine Kept.ite ?_ ?_
    · exact Kept.refl _
    · dsimp only
      refine Kept.trans ?_ (State.updPwr_kept _ _)
      refine Kept.trans ?_ (State.toSleep_kept _ _)
      refine Kept.ite ?_ ?_
      · refine Kept.trans ?_ (State.saveGnss_kept _)
        refine Kept.trans ?_ (State.saveMast_kept _)
        refine Kept.trans ?_ (State.flushRecorder_kept _)
        refine Kept.trans ?_ (State.commit_kept _ _ _ _)
        refine Kept.ite ?_ ?_
        · exact State.gateDown_kept _
        · exact Kept.refl _
      · refine Kept.trans ?_ (State.saveMast_kept _)
        refine Kept.trans ?_ (State.flushRecorder_kept _)
        refine Kept.trans ?_ (State.commit_kept _ _ _ _)
        refine Kept.ite ?_ ?_
        · exact State.gateDown_kept _
        · exact Kept.refl _

theorem State.phase4_kept (a0 : State) :
    Kept a0 (@State.phase4 a0) := by
  unfold State.phase4
  refine Kept.trans ?_ (State.startFill_kept _ _)
  refine Kept.trans ?_ (State.startFill_kept _ _)
  refine Kept.trans ?_ (State.domainOn_kept _ _)
  exact State.domainOn_kept _ _

theorem leapEffective_kept (a0 : State) :
    Kept a0 (@leapEffective a0) := by
  unfold leapEffective
  dsimp only
  refine Kept.ite ?_ ?_
  · refine Kept.trans ?_ (State.saveGnss_kept _)
    refine Kept.set_time_gnss ?_ ?_
    · rfl
    · exact Kept.refl _
  · exact Kept.refl _

theorem recordCommit_kept (a0 : State) :
    Kept a0 (@recordCommit a0) := by
  unfold recordCommit
  split
  · exact Kept.refl _
  · refine Kept.ite ?_ ?_
    · exact Kept.refl _
    · refine Kept.trans ?_ (State.formOwed_kept _)
      refine Kept.trans ?_ (State.commit_kept _ _ _ _)
      exact State.updRec_kept _ _

theorem gnssDataSave_kept (a0 : State) :
    Kept a0 (@gnssDataSave a0) := by
  unfold gnssDataSave
  refine Kept.ite ?_ ?_
  · refine Kept.trans ?_ (State.updGnss_kept _ _)
    exact State.saveGnss_kept _
  · exact Kept.refl _

theorem stopDeasserted_kept (a0 : State) :
    Kept a0 (@stopDeasserted a0) := by
  unfold stopDeasserted
  refine Kept.ite ?_ ?_
  · refine Kept.trans ?_ (State.raise_kept _ _ _ _ _)
    refine Kept.set_power ?_
    exact Kept.refl _
  · exact Kept.refl _

theorem State.settle_kept (a0 : State) :
    Kept a0 (@State.settle a0) := by
  unfold State.settle
  exact State.settleFor_kept _ _

theorem halyardReplyReceived_kept (a0 : Path) (a1 : Bytes) (a2 : State) :
    Kept a2 (@halyardReplyReceived a0 a1 a2) := by
  unfold halyardReplyReceived
  refine Kept.ite ?_ ?_
  · exact State.replyUnit_kept _ _ _
  · exact Kept.refl _

theorem State.noteHeading_kept (a0 : State) (a1 : List Bytes) (a2 : EpochData) :
    Kept a0 (@State.noteHeading a0 a1 a2) := by
  unfold State.noteHeading
  dsimp only
  refine Kept.ite ?_ ?_
  · refine Kept.trans ?_ (State.raiseGnss_kept _ _ _)
    exact State.updGnss_kept _ _
  · exact State.updGnss_kept _ _

theorem State.lanesStart_kept (a0 : State) :
    Kept a0 (@State.lanesStart a0) := ⟨rfl, rfl, id⟩

theorem State.anchor_kept (a0 : State) :
    Kept a0 (@State.anchor a0) := ⟨rfl, rfl, id⟩

theorem startupBoundary_kept (a0 : State) :
    Kept a0 (@startupBoundary a0) := by
  unfold startupBoundary
  split
  · exact Kept.refl _
  · dsimp only
    refine Kept.ite ?_ ?_
    · exact Kept.refl _
    · refine Kept.trans ?_ (State.tellLanes_kept _)
      refine Kept.trans ?_ (State.raisePwr_kept _ _ _)
      refine Kept.trans ?_ (State.updPwr_kept _ _)
      refine Kept.trans ?_ (State.restartStreams_kept _)
      refine Kept.trans ?_ (State.joinStops_kept _)
      refine Kept.trans ?_ (State.swapMajor_kept _ _)
      refine Kept.trans ?_ (State.cascadeChanged_kept _)
      refine Kept.trans ?_ (State.lanesStart_kept _)
      refine Kept.trans ?_ (State.setImage_kept _ _ _)
      refine Kept.set_time ?_ ?_
      · rfl
      · exact State.anchor_kept _

theorem busRecovered_kept (a0 : Nat) (a1 : State) :
    Kept a1 (@busRecovered a0 a1) := by
  unfold busRecovered
  dsimp only
  refine Kept.ite ?_ ?_
  · exact Kept.refl _
  · refine Kept.trans ?_ (State.raiseCan_kept _ _ _ _)
    exact State.updCan_kept _ _ _

theorem State.openBurst_kept (a0 : State) (a1 : Nat) :
    Kept a0 (@State.openBurst a0 a1) := by
  unfold State.openBurst
  refine Kept.ite ?_ ?_
  · exact Kept.refl _
  · refine Kept.ite ?_ ?_
    · refine Kept.trans ?_ (State.startBurst_kept _ _)
      refine Kept.set_xt ?_
      exact Kept.refl _
    · exact State.startBurst_kept _ _

theorem overrunReceived_kept (a0 : State) :
    Kept a0 (@overrunReceived a0) := by
  unfold overrunReceived
  split
  · exact Kept.refl _
  · dsimp only
    refine Kept.ite ?_ ?_
    · refine Kept.set_xt ?_
      exact Kept.refl _
    · refine Kept.ite ?_ ?_
      · refine Kept.trans ?_ (State.recordOverrun_kept _ _ _)
        refine Kept.trans ?_ (State.countScheduleOverrun_kept _)
        refine Kept.set_xt ?_
        exact Kept.refl _
      · refine Kept.set_xt ?_
        exact Kept.refl _

theorem roundWaitExpiry_kept (a0 : Nat) (a1 : State) :
    Kept a1 (@roundWaitExpiry a0 a1) := by
  unfold roundWaitExpiry
  split
  · exact Kept.refl _
  · dsimp only
    refine Kept.ite ?_ ?_
    · exact Kept.refl _
    · exact State.issueRound_kept _ _ _

theorem channelSampleEnd_kept (a0 : Nat) (a1 : ChanSample) (a2 : State) :
    Kept a2 (@channelSampleEnd a0 a1 a2) := by
  unfold channelSampleEnd
  dsimp only
  refine Kept.ite ?_ ?_
  · exact Kept.refl _
  · refine Kept.ite ?_ ?_
    · refine Kept.ite ?_ ?_
      · exact sampledTrip_kept _ _ _
      · exact Kept.refl _
    · refine Kept.ite ?_ ?_
      · refine Kept.trans ?_ (State.publish_kept _ _ _ _ _ _)
        refine Kept.trans ?_ (State.publishI_kept _ _ _ _ _)
        refine Kept.ite ?_ ?_
        · refine Kept.trans ?_ (State.publishI_kept _ _ _ _ _)
          refine Kept.trans ?_ (State.publishI_kept _ _ _ _ _)
          refine Kept.trans ?_ (sampledTrip_kept _ _ _)
          exact State.updChan_kept _ _ _
        · refine Kept.ite ?_ ?_
          · refine Kept.ite ?_ ?_
            · refine Kept.trans ?_ (State.publish_kept _ _ _ _ _ _)
              refine Kept.trans ?_ (State.publishI_kept _ _ _ _ _)
              refine Kept.trans ?_ (sampledTrip_kept _ _ _)
              exact State.updChan_kept _ _ _
            · refine Kept.trans ?_ (State.publishI_kept _ _ _ _ _)
              refine Kept.trans ?_ (sampledTrip_kept _ _ _)
              exact State.updChan_kept _ _ _
          · refine Kept.trans ?_ (State.publishI_kept _ _ _ _ _)
            refine Kept.trans ?_ (sampledTrip_kept _ _ _)
            exact State.updChan_kept _ _ _
      · refine Kept.trans ?_ (sampledTrip_kept _ _ _)
        exact State.updChan_kept _ _ _

theorem shuntOpen_kept (a0 : Nat) (a1 : State) :
    Kept a1 (@shuntOpen a0 a1) := by
  unfold shuntOpen
  refine Kept.ite ?_ ?_
  · refine Kept.trans ?_ (State.judgeFault_kept _ _ _ _ _)
    exact State.updInput_kept _ _ _
  · exact Kept.refl _

theorem antennaOpen_kept (a0 : Nat) (a1 : Bool) (a2 : Nat) (a3 : State) :
    Kept a3 (@antennaOpen a0 a1 a2 a3) := by
  unfold antennaOpen
  refine Kept.ite ?_ ?_
  · exact Kept.refl _
  · dsimp only
    refine Kept.ite ?_ ?_
    · refine Kept.trans ?_ (State.raiseGnss_kept _ _ _)
      exact State.updGnss_kept _ _
    · exact State.updGnss_kept _ _

theorem burstResultReceived_kept (a0 : Lane) (a1 : State) :
    Kept a1 (@burstResultReceived a0 a1) := by
  unfold burstResultReceived
  split
  · exact Kept.refl _
  · dsimp only
    refine Kept.ite ?_ ?_
    · exact State.updLane_kept _ _ _
    · split
      · refine Kept.set_xt ?_
        exact State.updLane_kept _ _ _
      · refine Kept.set_xt ?_
        exact State.updLane_kept _ _ _

theorem State.tryNameStart_kept (a0 : State) :
    Kept a0 (@State.tryNameStart a0) := by
  unfold State.tryNameStart
  dsimp only
  refine Kept.ite ?_ ?_
  · refine Kept.trans ?_ (State.initFor_kept _ _)
    refine Kept.trans ?_ (State.updPwr_kept _ _)
    refine Kept.set_time ?_ ?_
    · rfl
    · exact Kept.refl _
  · exact Kept.refl _

theorem State.phase3_kept (a0 : State) :
    Kept a0 (@State.phase3 a0) := by
  unfold State.phase3
  split
  dsimp only
  refine Kept.trans ?_ (State.updPwr_kept _ _)
  refine Kept.trans ?_ (State.cascadeChanged_kept _)
  refine Kept.trans ?_ (State.memOn_kept _ _)
  refine Kept.trans ?_ (State.setDomain_kept _ _ _)
  refine Kept.trans ?_ (State.setDomain_kept _ _ _)
  refine Kept.fold (fun _ _ => ?_) _ ?_
  · exact State.domainOn_kept _ _
  · refine Kept.set_sched ?_
    exact Kept.refl _

theorem State.beginPhase_kept (a0 : State) (a1 : Nat) :
    Kept a0 (@State.beginPhase a0 a1) := by
  unfold State.beginPhase
  dsimp only
  split
  · refine Kept.trans ?_ (State.domainOn_kept _ _)
    exact State.updPwr_kept _ _
  · refine Kept.trans ?_ (State.phase3_kept _)
    exact State.updPwr_kept _ _
  · refine Kept.trans ?_ (State.phase4_kept _)
    exact State.updPwr_kept _ _
  · refine Kept.trans ?_ (State.phase5_kept _)
    exact State.updPwr_kept _ _
  · exact State.updPwr_kept _ _

theorem startPhaseComplete_kept (a0 : State) :
    Kept a0 (@startPhaseComplete a0) := by
  unfold startPhaseComplete
  dsimp only
  refine Kept.ite ?_ ?_
  · exact Kept.refl _
  · refine Kept.ite ?_ ?_
    · exact Kept.refl _
    · refine Kept.ite ?_ ?_
      · exact Kept.refl _
      · refine Kept.trans ?_ (State.tryNameStart_kept _)
        exact State.beginPhase_kept _ _

theorem moduleStart_kept (s : State) : Kept s (moduleStart s) := by
  unfold moduleStart
  refine Kept.ite (Kept.refl s) (Kept.ite ?_ ?_)
  · have h := State.endPulses_kept s
    exact h.trans (State.cleared_kept _ _ _ _ h.2.symm)
  · exact State.cleared_kept _ _ _ _ rfl

theorem slewComplete_kept (a0 : State) :
    Kept a0 (@slewComplete a0) := by
  unfold slewComplete
  refine Kept.ite ?_ ?_
  · refine Kept.set_time_gnss ?_ ?_
    · rfl
    · exact Kept.refl _
  · exact Kept.refl _

theorem supplySampleEnd_kept (a0 : SupplySample) (a1 : State) :
    Kept a1 (@supplySampleEnd a0 a1) := by
  unfold supplySampleEnd
  dsimp only
  refine Kept.ite ?_ ?_
  · exact Kept.refl _
  · refine Kept.trans ?_ (State.publish_kept _ _ _ _ _ _)
    refine Kept.trans ?_ (State.publishI_kept _ _ _ _ _)
    refine Kept.set_power ?_
    refine Kept.fold (fun _ _ => ?_) _ ?_
    · exact State.takeSupply_kept _ _ _
    · exact Kept.refl _

theorem connector_kept (a0 : Nat) (a1 : Bool) (a2 : State) :
    Kept a2 (@connector a0 a1 a2) := by
  unfold connector
  refine Kept.ite ?_ ?_
  · exact Kept.refl _
  · refine Kept.trans ?_ (State.raisePwr_kept _ _ _)
    exact State.updPwr_kept _ _

theorem ethFrameReceived_kept (a0 : Nat) (a1 : EthFrame) (a2 : State) :
    Kept a2 (@ethFrameReceived a0 a1 a2) := by
  unfold ethFrameReceived
  dsimp only
  refine Kept.ite ?_ ?_
  · exact Kept.refl _
  · refine Kept.ite ?_ ?_
    · refine Kept.trans ?_ (State.ethDiscard_kept _ _)
      exact State.updEth_kept _ _ _
    · split
      · refine Kept.ite ?_ ?_
        · refine Kept.trans ?_ (State.ethOut_kept _ _ _)
          exact State.updEth_kept _ _ _
        · refine Kept.trans ?_ (State.ethDiscard_kept _ _)
          exact State.updEth_kept _ _ _
      · exact State.updEth_kept _ _ _
      · refine Kept.ite ?_ ?_
        · refine Kept.trans ?_ (State.ethOut_kept _ _ _)
          exact State.updEth_kept _ _ _
        · refine Kept.trans ?_ (State.ethDiscard_kept _ _)
          exact State.updEth_kept _ _ _
      · refine Kept.ite ?_ ?_
        · refine Kept.trans ?_ (State.takeUdp_kept _ _ _ _ _ _)
          exact State.updEth_kept _ _ _
        · refine Kept.trans ?_ (State.ethDiscard_kept _ _)
          exact State.updEth_kept _ _ _
      · refine Kept.ite ?_ ?_
        · refine Kept.trans ?_ (State.ethDiscard_kept _ _)
          exact State.updEth_kept _ _ _
        · refine Kept.ite ?_ ?_
          · refine Kept.trans ?_ (State.updEth_kept _ _ _)
            exact State.updEth_kept _ _ _
          · refine Kept.trans ?_ (State.raiseEth_kept _ _ _ _)
            refine Kept.trans ?_ (State.updEth_kept _ _ _)
            exact State.updEth_kept _ _ _
      · refine Kept.ite ?_ ?_
        · refine Kept.trans ?_ (State.ethOut_kept _ _ _)
          exact State.updEth_kept _ _ _
        · refine Kept.trans ?_ (State.ethDiscard_kept _ _)
          exact State.updEth_kept _ _ _
      · refine Kept.ite ?_ ?_
        · refine Kept.trans ?_ (State.ethDiscard_kept _ _)
          exact State.updEth_kept _ _ _
        · split
          · exact State.updEth_kept _ _ _
          · refine Kept.trans ?_ (State.updEth_kept _ _ _)
            exact State.updEth_kept _ _ _
      · refine Kept.trans ?_ (State.ethDiscard_kept _ _)
        exact State.updEth_kept _ _ _
      · refine Kept.trans ?_ (State.ethDiscard_kept _ _)
        exact State.updEth_kept _ _ _

theorem thermalLimit_kept (a0 : Int) (a1 : State) :
    Kept a1 (@thermalLimit a0 a1) := by
  unfold thermalLimit
  split
  · exact Kept.refl _
  · refine Kept.ite ?_ ?_
    · exact Kept.refl _
    · refine Kept.trans ?_ (State.enterLow_kept _ _ _ _)
      exact State.raisePwr_kept _ _ _

theorem sensorSupplyRetry_kept (a0 : Nat) (a1 : Bool) (a2 : State) :
    Kept a2 (@sensorSupplyRetry a0 a1 a2) := by
  unfold sensorSupplyRetry
  dsimp only
  split
  · exact Kept.refl _
  · refine Kept.ite ?_ ?_
    · exact Kept.refl _
    · refine Kept.ite ?_ ?_
      · exact State.updInput_kept _ _ _
      · exact State.updInput_kept _ _ _

theorem laneReadyReport_kept (a0 : Lane) (a1 : State) :
    Kept a1 (@laneReadyReport a0 a1) := by
  unfold laneReadyReport
  refine Kept.ite ?_ ?_
  · exact Kept.refl _
  · refine Kept.ite ?_ ?_
    · refine Kept.trans ?_ (State.tryNameStart_kept _)
      exact State.updXt_kept _ _ _
    · refine Kept.ite ?_ ?_
      · dsimp only
        refine Kept.ite ?_ ?_
        · exact State.updXt_kept _ _ _
        · refine Kept.trans ?_ (State.nameRejoin_kept _)
          exact State.updXt_kept _ _ _
      · exact Kept.refl _

theorem loopResultReady_kept (a0 : Lane) (a1 : Nat) (a2 : State) :
    Kept a2 (@loopResultReady a0 a1 a2) := by
  unfold loopResultReady
  dsimp only
  split
  · split
    · refine Kept.ite ?_ ?_
      · exact Kept.refl _
      · exact State.updLoop_kept _ _ _ _
    · exact Kept.refl _
  · exact Kept.refl _

theorem discrepancyReceived_kept (a0 : State) :
    Kept a0 (@discrepancyReceived a0) := by
  unfold discrepancyReceived
  split
  · exact Kept.refl _
  · dsimp only
    refine Kept.ite ?_ ?_
    · refine Kept.set_xt ?_
      exact Kept.refl _
    · refine Kept.trans ?_ (State.countDiscrepancy_kept _ _)
      refine Kept.set_xt ?_
      exact Kept.refl _

theorem cameraWriteSlot_kept (a0 : Nat) (a1 : State) :
    Kept a1 (@cameraWriteSlot a0 a1) := by
  unfold cameraWriteSlot
  dsimp only
  refine Kept.ite ?_ ?_
  · exact Kept.refl _
  · refine Kept.ite ?_ ?_
    · refine Kept.ite ?_ ?_
      · exact State.blockLate_kept _ _ _
      · exact Kept.refl _
    · split
      · refine Kept.ite ?_ ?_
        · refine Kept.trans ?_ (State.completeSet_kept _ _ _ _)
          exact State.updCam_kept _ _ _
        · refine Kept.trans ?_ (State.startJob_kept _ _ _)
          exact State.updCam_kept _ _ _
      · split
        · exact Kept.refl _
        · refine Kept.trans ?_ (State.startJob_kept _ _ _)
          exact State.updCam_kept _ _ _

theorem netSlotCopyComplete_kept (a0 : Nat) (a1 : State) :
    Kept a1 (@netSlotCopyComplete a0 a1) := by
  unfold netSlotCopyComplete
  dsimp only
  refine Kept.ite ?_ ?_
  · exact Kept.refl _
  · refine Kept.trans ?_ (State.updSlot_kept _ _ _)
    exact State.fusionWrite_kept _ _

theorem loopPeriodBoundary_kept (a0 : Nat) (a1 : State) :
    Kept a1 (@loopPeriodBoundary a0 a1) := by
  unfold loopPeriodBoundary
  dsimp only
  refine Kept.ite ?_ ?_
  · exact Kept.refl _
  · refine Kept.ite ?_ ?_
    · refine Kept.trans ?_ (State.updEngine_kept _ _ _)
      refine Kept.trans ?_ (State.updLoop_kept _ _ _ _)
      refine Kept.ite ?_ ?_
      · refine Kept.trans ?_ (State.updEngine_kept _ _ _)
        refine Kept.trans ?_ (State.updLoop_kept _ _ _ _)
        refine Kept.fold (fun _ _ => ?_) _ ?_
        · refine Kept.trans ?_ (State.swapIn_kept _ _ _ ?_)
          · exact Kept.refl _
          · intro _
            exact applyCtrl_kept _ _
        · exact State.updLoops_kept _ _ _ _
      · refine Kept.fold (fun _ _ => ?_) _ ?_
        · refine Kept.trans ?_ (State.swapIn_kept _ _ _ ?_)
          · exact Kept.refl _
          · intro _
            exact applyCtrl_kept _ _
        · exact State.updLoops_kept _ _ _ _
    · refine Kept.ite ?_ ?_
      · refine Kept.trans ?_ (State.updEngine_kept _ _ _)
        refine Kept.trans ?_ (State.updLoop_kept _ _ _ _)
        refine Kept.fold (fun _ _ => ?_) _ ?_
        · refine Kept.trans ?_ (State.swapIn_kept _ _ _ ?_)
          · exact Kept.refl _
          · intro _
            exact applyCtrl_kept _ _
        · exact State.updLoops_kept _ _ _ _
      · refine Kept.fold (fun _ _ => ?_) _ ?_
        · refine Kept.trans ?_ (State.swapIn_kept _ _ _ ?_)
          · exact Kept.refl _
          · intro _
            exact applyCtrl_kept _ _
        · exact State.updLoops_kept _ _ _ _

theorem beaconSend_kept (a0 : State) :
    Kept a0 (@beaconSend a0) := by
  unfold beaconSend
  dsimp only
  refine Kept.ite ?_ ?_
  · exact Kept.refl _
  · refine Kept.ite ?_ ?_
    · exact State.takeBeacon_kept _ _ _
    · exact State.stayUnicast_kept _ _ _

theorem gnssEpoch_kept (a0 : EpochData) (a1 : State) :
    Kept a1 (@gnssEpoch a0 a1) := by
  unfold gnssEpoch
  dsimp only
  split
  · exact Kept.refl _
  · refine Kept.ite ?_ ?_
    · exact Kept.refl _
    · refine Kept.trans ?_ (State.updGnss_kept _ _)
      refine Kept.trans ?_ (State.keepPosition_kept _ _ _)
      refine Kept.trans ?_ (State.noteHeading_kept _ _ _)
      refine Kept.trans ?_ (State.judgeTime_kept _ _ _ _ _)
      refine Kept.trans ?_ (State.decodeLeap_kept _ _)
      refine Kept.trans ?_ (State.noteSpoof_kept _ _)
      refine Kept.trans ?_ (State.checkEpoch_kept _ _ _)
      refine Kept.trans ?_ (State.noteJamming_kept _ _ _)
      exact State.trackEpoch_kept _ _ _ _ _

theorem inrushWindowEnd_kept (a0 : Nat) (a1 : State) :
    Kept a1 (@inrushWindowEnd a0 a1) := by
  unfold inrushWindowEnd
  split
  · refine Kept.ite ?_ ?_
    · exact State.updChan_kept _ _ _
    · exact Kept.refl _
  · exact Kept.refl _

theorem fusionSampleArrival_kept (a0 : Nat) (a1 : State) :
    Kept a1 (@fusionSampleArrival a0 a1) := by
  unfold fusionSampleArrival
  split
  · exact Kept.refl _
  · dsimp only
    refine Kept.ite ?_ ?_
    · refine Kept.trans ?_ (State.sampleArrives_kept _ _)
      exact State.updFus_kept _ _
    · exact State.updFus_kept _ _

theorem timeFrameSend_kept (a0 : State) :
    Kept a0 (@timeFrameSend a0) := by
  unfold timeFrameSend
  refine Kept.ite ?_ ?_
  · exact Kept.refl _
  · exact State.stayBroadcast_kept _ _ _ _

theorem shuntTrial_kept (a0 : Nat) (a1 : Bool) (a2 : State) :
    Kept a2 (@shuntTrial a0 a1 a2) := by
  unfold shuntTrial
  split
  · exact Kept.refl _
  · refine Kept.ite ?_ ?_
    · exact Kept.refl _
    · refine Kept.ite ?_ ?_
      · exact State.updInput_kept _ _ _
      · exact State.updInput_kept _ _ _

theorem halyardUnitArrival_kept (a0 : Path) (a1 : Bytes) (a2 : State) :
    Kept a2 (@halyardUnitArrival a0 a1 a2) := by
  unfold halyardUnitArrival
  refine Kept.ite ?_ ?_
  · exact State.unitArrival_kept _ _ _
  · exact Kept.refl _

theorem canStatusProduce_kept (a0 : State) :
    Kept a0 (@canStatusProduce a0) := by
  unfold canStatusProduce
  refine Kept.ite ?_ ?_
  · exact Kept.refl _
  · refine Kept.fold (fun _ _ => ?_) _ ?_
    · dsimp only
      exact State.publish_kept _ _ _ _ _ _
    · exact Kept.refl _

theorem roundOutputWritten_kept (a0 : State) :
    Kept a0 (@roundOutputWritten a0) := by
  unfold roundOutputWritten
  split
  · exact Kept.refl _
  · split
    · exact Kept.refl _
    · refine Kept.ite ?_ ?_
      · exact Kept.refl _
      · dsimp only
        refine Kept.trans ?_ (State.updFus_kept _ _)
        exact State.fanWrite_kept _ _ _

theorem commitDigestArrival_kept (a0 : State) :
    Kept a0 (@commitDigestArrival a0) := by
  unfold commitDigestArrival
  split
  · exact Kept.refl _
  · dsimp only
    split
    · exact State.updLane_kept _ _ _
    · refine Kept.trans ?_ (State.updLane_kept _ _ _)
      exact State.updLane_kept _ _ _

theorem majorBoundary_kept (a0 : Nat) (a1 : State) :
    Kept a1 (@majorBoundary a0 a1) := by
  unfold majorBoundary
  refine Kept.ite ?_ ?_
  · exact Kept.refl _
  · dsimp only
    refine Kept.trans ?_ (State.lowPowerBoundary_kept _)
    refine Kept.trans ?_ (State.tellLanes_kept _)
    refine Kept.trans ?_ (State.openBurst_kept _ _)
    refine Kept.trans ?_ (State.rejoinBoundary_kept _)
    refine Kept.trans ?_ (State.stayBoundary_kept _)
    refine Kept.trans ?_ (State.joinStops_kept _)
    refine Kept.trans ?_ (State.swapMajor_kept _ _)
    refine Kept.trans ?_ (State.lanesBoundary_kept _ _)
    refine Kept.set_time ?_ ?_
    · rfl
    · exact Kept.refl _

/-- A command answers a next state in which its queue is as it was, its time has gone by and the memories keep their
canonical form, if its effect keeps what `Kept` says. -/
theorem runCmd_kept {dt : Nat} {s t : State} {f : State → State} (h : runCmd dt s f = .next t)
    (k : ∀ u, Kept u (f u)) :
    t.pending = s.pending ∧ t.time.ticks = s.time.ticks + dt ∧ (s.mem.wf = true → t.mem.wf = true) := by
  unfold runCmd at h
  split at h
  · cases h
    have e := k (s.elapse dt)
    exact ⟨e.1, e.2, e.3⟩
  · cases h

/-- The same of a command that settles what receivers have taken. -/
theorem runTaking_kept {dt : Nat} {s t : State} {f : State → State} (h : runTaking dt s f = .next t)
    (k : ∀ u, Kept u (f u)) :
    t.pending = s.pending ∧ t.time.ticks = s.time.ticks + dt ∧ (s.mem.wf = true → t.mem.wf = true) :=
  runCmd_kept h fun u => (k u).trans (State.settle_kept _)

end Sys2Proof.Machine
end

