-- ==== Sys2Proof/Certificates/Slice0/Obligations.lean ====
section
/-!
DEFINITION. What is claimed of the module, each claim one proposition. Each docstring names the rules of the spec its claim
comes from; a claim whose values the model chose names the log entry.
-/
open Sys2Proof Sys2Proof.Machine

/-- The model's own rule of the queue (log entry 1): a step takes the command at the front of the queue and runs it with the rest of
the queue; on an empty queue one tick passes and nothing else changes. -/
def Obligations.AStepRunsTheFrontCommand : Prop :=
  (∀ (s : State) c rest, s.pending = c :: rest → step s = exec c { s with pending := rest }) ∧
  (∀ s : State, s.pending = [] → s.inTime 1 →
    step s = .next { s with time := { s.time with mast := s.time.mast + 1, ticks := s.time.ticks + 1 } })

/-- Rules R33, R37 (02): every command that comes while Mast time is a 64-bit count answers a next state, whatever the state and
the operands: none is refused. Its ticks have passed in the count that durations run on, and the queue is as it was. A
command that would carry Mast time past the count stops the model.
Where its terms follow a choice of the model, log entry 19 names it. -/
def Obligations.EveryCommandAnswers : Prop :=
  ∀ (c : Instr) (s : State),
    (s.inTime c.dt → ∃ t, exec c s = .next t ∧ t.pending = s.pending ∧ t.time.ticks = s.time.ticks + c.dt) ∧
    (¬ s.inTime c.dt → exec c s = .fault .mastWrap)

/-- Rules R422, R424, R426 (16): every step keeps the canonical form of all memories: each controller listed once in order,
each stored byte listed once with addresses rising, and in a filled memory no byte listed that the fill holds. -/
def Obligations.EveryStepKeepsTheMemoryForm : Prop :=
  ∀ s t : State, s.mem.wf = true → step s = .next t → t.mem.wf = true

/-- Rules R467, R468, R470 (18), R33 (02): the state right after reset is a module reset by power-on in phase 1: D0 alone on, time free and
without an anchored grid, every channel `UNCONFIGURED` with generation 0 and both lanes' adoption flags set (08 R237, R238), nothing staged, origin tables and trouble logs empty,
both lanes held, no firmware running; and its memories have their canonical form.
Where its terms follow a choice of the model, log entries 3, 4, 5, 6, 8 and 94 name it. -/
def Obligations.ResetBeginsAStart : Prop :=
  let s := State.reset
  s.pending = [] ∧ s.mem.wf = true ∧ s.pwr.module_ = .starting ∧ s.pwr.phase = 1 ∧ s.pwr.resetCause = 0 ∧
  (∀ n, n < 16 → (s.domain n = true ↔ n = 0)) ∧
  s.time.anchored = false ∧ s.time.noTime = true ∧ s.time.uncertainty = 4294967295 ∧ s.time.stepCount = 0 ∧
  s.time.gridShift = 0 ∧ s.staged = [] ∧
  (∀ c, (s.chan c).base = .unconfigured ∧ (s.chan c).dutySet = 0 ∧ s.hasHold (s.chan c) = false) ∧
  s.power.generation = 0 ∧ s.power.adoptedMain = true ∧ s.power.adoptedMizzen = true ∧
  (∀ l, (s.lane l).running = false ∧ (s.lane l).origins = [] ∧ (s.lane l).trouble = [] ∧ (s.lane l).queue = []) ∧
  s.xt.active = .main ∧ (∀ code, s.bucket code = {}) ∧ s.rec_.frozen = none ∧
  (∀ p, (s.canPort p).queue = [] ∧ (s.eth p).up = false ∧ (s.stayPort p).up = false) ∧
  s.stay.membership = 0 ∧ s.stay.rank = 255 ∧ (∀ c, (s.memc c).table = [] ∧ (s.memc c).quiet = 0)

/-- Rules R47, R50, R52 (02): an accepted command of kind major, frame or loop takes effect in nothing but its staging.
With no earlier staging of its opcode and target, and room in its block, it waits in the block, is answered `STAGED`, and
leaves one change-log entry. A `SCHED_ACTIVATE` stages its initial commands first (03 R502); a join or leave starts its
change of the cascade (15 R410).
Where its terms follow a choice of the model, log entry 15 names it. -/
def Obligations.StagedCommandsAreHeld : Prop :=
  ∀ x ∈ stagedCommands, ∀ dt s r z, s.inTime dt → x.1.Accepts (s.elapse dt) r z →
    (x.1.preStage (x.1.noted (s.elapse dt) r z) r z).findStaged x.1.code r.target = none →
    (x.1.preStage (x.1.noted (s.elapse dt) r z) r z).stagedCount x.1.block < 4096 →
    exec (x.2 dt r) s =
      .next (x.1.onStage (x.1.held r z (x.1.preStage (x.1.noted (s.elapse dt) r z) r z)) r z).settle

/-- Rules R51 (02), R502 (03): a second command with the same opcode and target, accepted before the first has swapped, replaces
the first whatever boundary it names; the first is answered `SUPERSEDED` and is no longer staged. A `SCHED_ACTIVATE` takes the
stagings of its predecessor's initial commands with it before its own are staged.
Where its terms follow a choice of the model, log entry 15 names it. -/
def Obligations.SecondStagingSupersedes : Prop :=
  (∀ x ∈ stagedCommands, x.1.code ≠ 0x0304 → ∀ dt s r z e, s.inTime dt → x.1.Accepts (s.elapse dt) r z →
    (x.1.noted (s.elapse dt) r z).findStaged x.1.code r.target = some e →
    exec (x.2 dt r) s = .next (x.1.onStage (x.1.held r z ((x.1.noted (s.elapse dt) r z).supersede e)) r z).settle) ∧
  (∀ dt s r z e, s.inTime dt → opSchedActivate.Accepts (s.elapse dt) r z →
    let u := opSchedActivate.noted (s.elapse dt) r z
    let v := (u.supersede e).activateTrial r z
    u.findStaged 0x0304 0 = some e → v.findStaged 0x0304 0 = none → v.stagedCount 10 < 4096 →
    exec (.schedActivate dt r) s = .next (opSchedActivate.held r z v).settle) ∧
  ∀ (s : State) (e : Staged), e ∉ (s.supersede e).staged ∧ ∀ x ∈ (s.supersede e).staged, x ∈ s.staged

/-- Rules R34 to R38, R60, R63, R501 (02): what the time commands leave.
Where its terms follow a choice of the model, log entries 4, 15, 41 and 122 name it. -/
def Obligations.TimeCommandsComplete : Prop :=
  (∀ dt s r z, s.inTime dt → opTimeGetStatus.Accepts (s.elapse dt) r z →
    exec (.timeGetStatus dt r) s = .next (opTimeGetStatus.read r z s.time.status (s.elapse dt)).settle) ∧
  (∀ dt s r z, s.inTime dt → opTimeSetManual.Accepts (s.elapse dt) r z →
    exec (.timeSetManual dt r) s =
      let u := (opTimeSetManual.noted (s.elapse dt) r z).dropManual
      let second := ((s.time.mast + dt) / 1000000000 + 1) * 1000000000
      .next (State.settle { u with time := { u.time with
        pendingStep := some ⟨(u64 r.payload 0 : Int) - second, second, some r⟩ } }).settle) ∧
  (∀ dt s (d : Int) n, s.inTime dt → s.time.pendingStep = some ⟨d, n, none⟩ → n ≤ s.time.mast + dt →
    exec (.timeStepApplied dt) s =
      let u := s.elapse dt
      .next (({ u with time := { u.time with
          mast := (((s.time.mast + dt : Nat) : Int) + d).toNat
          lastStep := d
          stepCount := (s.time.stepCount + 1) % 256
          timeStep := true
          gridShift := if s.time.anchored then s.time.gridShift + d else s.time.gridShift
          pendingStep := none
          noTime := false } } : State).raise 0x0201 5 255 (putS 8 d ++ putLE 4 ((s.time.stepCount + 1) % 256))).settle) ∧
  (∀ dt s (d : Int) n r, s.inTime dt → s.time.pendingStep = some ⟨d, n, some r⟩ → n ≤ s.time.mast + dt →
    exec (.timeStepApplied dt) s =
      let u := s.elapse dt
      let v := ({ u with time := { u.time with
          mast := (((s.time.mast + dt : Nat) : Int) + d).toNat
          lastStep := d
          stepCount := (s.time.stepCount + 1) % 256
          timeStep := true
          gridShift := if s.time.anchored then s.time.gridShift + d else s.time.gridShift
          pendingStep := none
          uncertainty := 4294967295
          noTime := false } } : State).raise 0x0201 5 255 (putS 8 d ++ putLE 4 ((s.time.stepCount + 1) % 256))
      .next ((v.answer 0x0203 r stOk v.major []).logChange 4 0x0203 r stOk v.major).settle) ∧
  (∀ dt s, s.inTime dt → (s.elapse dt).slewLeft = 0 →
    exec (.slewComplete dt) s =
      let u := s.elapse dt
      .next { u with time := { u.time with slewing := false }, gnss := { u.gnss with slew := 0 } }) ∧
  (∀ dt s, s.inTime dt → s.time.leapPending = true → s.time.leapEffective ≤ (s.time.mast + dt) / 1000000000 →
    exec (.leapSecondEffective dt) s =
      let u := s.elapse dt
      .next ({ u with time := { u.time with
        leapSeconds := if s.time.leapDirection then s.time.leapSeconds - 1 else s.time.leapSeconds + 1
        prevEffective := s.time.leapEffective
        prevLeap := s.time.leapSeconds
        leapPending := false
        leapDirection := false
        leapEffective := 0 }, gnss := { u.gnss with leaps := [] } } : State).saveGnss)

/-- Rule R38 (02): grid time is Mast time with every step since anchoring taken out, so a step on an anchored grid, by a
GNSS offset or by `TIME_SET_MANUAL`, leaves grid time and the count that durations run on where they were.
Where its terms follow a choice of the model, log entry 15 names it. -/
def Obligations.AStepDoesNotMoveTheGrid : Prop :=
  ∀ dt s t (p : PendingStep), s.time.pendingStep = some p → s.time.anchored = true → 0 ≤ ((s.time.mast + dt : Nat) : Int) + p.delta →
    exec (.timeStepApplied dt) s = .next t.settle →
    ∃ u : State, t = u.settle ∧ u.grid = (s.elapse dt).grid ∧ u.now = s.now + dt ∧
    (p.second ≤ s.time.mast + dt →
      u.time.gridShift = s.time.gridShift + p.delta ∧ u.time.mast = (((s.time.mast + dt : Nat) : Int) + p.delta).toNat ∧
      u.time.stepCount = (s.time.stepCount + 1) % 256)

/-- Rules R94, R98 (03): what an accepted load command and a status read leave.
Where its terms follow a choice of the model, log entries 15 and 98 name it. -/
def Obligations.ScheduleCommandsComplete : Prop :=
  (∀ dt s r z, s.inTime dt → opSchedLoadBegin.Accepts (s.elapse dt) r z →
    exec (.schedLoadBegin dt r) s = .next (opSchedLoadBegin.done r z []
      ((opSchedLoadBegin.noted (s.elapse dt) r z).updBank (u8 r.payload 0)
        fun _ => ⟨.loading, u32 r.payload 4, u32 r.payload 8, []⟩)).settle) ∧
  (∀ dt s r z, s.inTime dt → opSchedLoadData.Accepts (s.elapse dt) r z →
    exec (.schedLoadData dt r) s = .next (opSchedLoadData.read r z []
      ((opSchedLoadData.noted (s.elapse dt) r z).updBank (u8 r.payload 0)
        fun b => { b with data := b.data ++ r.payload.drop 8 })).settle) ∧
  (∀ dt s r z, s.inTime dt → opSchedLoadEnd.Accepts (s.elapse dt) r z →
    let u := opSchedLoadEnd.noted (s.elapse dt) r z
    (imageError (u.bank (u8 r.payload 0)) u.sys.station immediateOp = none →
      exec (.schedLoadEnd dt r) s = .next (opSchedLoadEnd.done r z []
        (u.updBank (u8 r.payload 0) fun b => { b with state := .valid })).settle) ∧
    (∀ code off, imageError (u.bank (u8 r.payload 0)) u.sys.station immediateOp = some (code, off) →
      exec (.schedLoadEnd dt r) s = .next
        ((u.updBank (u8 r.payload 0) fun b => { b with state := .invalid }).answer 0x0303 r 0x40 z.number
          (putLE 4 off ++ putLE 2 code ++ zeros 2)).settle)) ∧
  (∀ dt s r z, s.inTime dt → opSchedGetStatus.Accepts (s.elapse dt) r z →
    let u := opSchedGetStatus.noted (s.elapse dt) r z
    exec (.schedGetStatus dt r) s = .next (opSchedGetStatus.read r z (schedStatus u) u).settle)

/-- Rules R71, R74, R75, R78, R90 (03): how an activation finishes, commits or is ended, and what a transfer sends. A task
whose run has ended commits once; an activation past its budget or outside its windows ends without a commit, and one that
meets an uncorrectable byte goes no further (16 R431).
Where its terms follow a choice of the model, log entries 15, 20, 27, 35, 109 and 116 name it. -/
def Obligations.TaskCommandsComplete : Prop :=
  (∀ dt s l task core x t (r : TaskResult), s.inTime dt → (s.elapse dt).activation l task core = some x →
    s.sched.image.task task = some t → x.finished = none → (s.elapse dt).computes l = true → s.now + dt ≤ x.budget →
    let u := State.accessAll t l r.accesses (s.elapse dt)
    (u.2 = .done → exec (.taskFinish dt l ⟨task, core⟩ r) s = .next (u.1.updLane l fun a =>
      { a with acts := a.acts.map (fun y => if y = x then { y with finished := some ⟨r.writes, r.mail⟩ } else y) })) ∧
    (u.2 = .window → exec (.taskFinish dt l ⟨task, core⟩ r) s = .next (u.1.endActivation l x 2)) ∧
    (u.2 = .memory → exec (.taskFinish dt l ⟨task, core⟩ r) s = .next u.1)) ∧
  (∀ dt s l task core x t f, s.inTime dt → (s.elapse dt).activation l task core = some x →
    s.sched.image.task task = some t → x.finished = some f → (x.last + 1) * 10000 ≤ (s.elapse dt).grid →
    (s.elapse dt).computes l = true → f.mail = [] →
    let u := s.elapse dt
    let ids := s.sched.image.writeList t
    let stamp := u.mastOfGrid ((x.last + 1) * 10000)
    let v := (u.dropAct l x).updLane l fun a =>
      { a with
        signals := commitRecords a.signals ids f.writes stamp (u.tickOf stamp)
        inbound := Tbl.put a.inbound task ((Tbl.getD a.inbound task []).drop x.mailSeen) }
    let d : Digest := ⟨task, x.last, digestCrc task x.last (ids.map fun id => ((v.lane l).sig id).value)⟩
    exec (.taskCommit dt l ⟨task, core⟩) s = .next (v.updLane l fun a =>
      if l = s.xt.active then { a with digestsInFlight := a.digestsInFlight ++ [d] }
      else { a with ownDigests := (a.ownDigests ++ [d]).drop (a.ownDigests.length + 1 - 4096) }).settle) ∧
  (∀ dt s l task core x, s.inTime dt → (s.elapse dt).activation l task core = some x → x.finished = none →
    x.budget ≤ s.now + dt → exec (.taskBudgetExpiry dt l ⟨task, core⟩) s = .next ((s.elapse dt).endActivation l x 1)) ∧
  (∀ dt s l task core x t address access, s.inTime dt → (s.elapse dt).activation l task core = some x →
    s.sched.image.task task = some t → x.finished = none → s.sched.image.allows t address access = false →
    exec (.taskWindowFault dt l ⟨task, core⟩ address access) s = .next ((s.elapse dt).endActivation l x 2)) ∧
  (∀ dt s l n t, s.inTime dt → s.sched.image.transfers[n]? = some t → t.holds (s.elapse dt).slotInMajor = true →
    t.offset ≤ (s.elapse dt).grid % 10000 → (s.elapse dt).grid % 10000 ≤ t.offset + 20 →
    let u := s.elapse dt
    (t.receiver = 11 → t.item = 1 → u.beats l = true → exec (.transferSend dt l n) s = .next (u.scheduledHeartbeat l).settle) ∧
    (t.receiver = 11 → t.item = 2 → u.computes l = true → exec (.transferSend dt l n) s = .next (u.sendHealth l).settle) ∧
    (t.receiver ≠ 11 → u.computes l = true → exec (.transferSend dt l n) s = .next (u.updLane l fun a =>
        let k := laneStreamKey t.receiver t.resource t.item
        let seq := Tbl.getD a.streams k 0
        { a with
          streams := Tbl.put a.streams k ((seq + 1) % 4294967296)
          items := a.items ++ [⟨t.receiver, t.resource, t.item, seq, u.transferCopy t a⟩] }).settle) ∧
    ∀ a : LaneSt, let v := a.sig (s.sched.image.localId t.signal)
      let c := u.transferCopy t a
      c.signal = t.signal ∧ c.value = v.value ∧ c.stamp = v.stamp ∧ c.valid = v.valid ∧ c.cargo = .none ∧
      (t.receiver ≠ 7 → t.receiver ≠ 8 → c.more = []))

/-- Rule R90 (03): an activation that is ended changes no value of its lane's signal table; every record of its write list
gets `OVERRUN`, its inbound mailbox keeps every entry, and the activation is gone. -/
def Obligations.EndedActivationKeepsItsSignals : Prop :=
  ∀ (s : State) (l : Lane) (x : Activation) cause t, s.sched.image.task x.task = some t →
    let u := s.endActivation l x cause
    (∀ id, ((u.lane l).sig id).value = ((s.lane l).sig id).value) ∧
    (∀ id, id ∈ s.sched.image.writeList t → Tbl.find (s.lane l).signals id ≠ none → ((u.lane l).sig id).overrun = true) ∧
    (∀ id, id ∉ s.sched.image.writeList t → (u.lane l).sig id = (s.lane l).sig id) ∧
    (u.lane l).inbound = (s.lane l).inbound ∧ (u.lane l).acts = (s.lane l).acts.erase x ∧ u.mem = s.mem ∧ u.lane l.other = s.lane l.other

/-- Rules R101, R119, R126, R128 (04): what an accepted system command leaves, and a unit that arrives at a port: it enters
the queue of each lane that runs, with the slot from which it may be executed; a reply for a task with room in its mailbox
goes there.
Where its terms follow a choice of the model, log entries 6, 13, 15 and 56 name it. -/
def Obligations.SystemCommandsComplete : Prop :=
  (∀ dt s r z, s.inTime dt → opSysGetInfo.Accepts (s.elapse dt) r z →
    exec (.sysGetInfo dt r) s = .next (opSysGetInfo.read r z
      (putLE 2 0x41 ++ putLE 1 1 ++ putLE 1 s.sys.keysSet ++ putLE 2 s.sys.station ++ zeros 2 ++ putLE 8 s.sys.serial ++
        putLE 4 s.sys.firmware ++ putLE 4 0x00010000 ++ zeros 8) (s.elapse dt)).settle) ∧
  (∀ dt s r z, s.inTime dt → opSysGetPacketCounters.Accepts (s.elapse dt) r z →
    exec (.sysGetPacketCounters dt r) s = .next (opSysGetPacketCounters.read r z
      (putLE 4 s.sys.runts ++ putLE 4 s.sys.syncDiscards ++ putLE 4 s.sys.lengthExceeds ++ putLE 4 s.sys.badCrc ++
        putLE 4 s.sys.notAuthorised ++ putLE 4 s.sys.sequenceStale ++ putLE 4 s.sys.originFull ++
        putLE 4 s.sys.replyDiscards) (s.elapse dt)).settle) ∧
  (∀ dt s r z, s.inTime dt → opSysClearOrigins.Accepts (s.elapse dt) r z →
    exec (.sysClearOrigins dt r) s = .next (opSysClearOrigins.done r z []
      ((s.elapse dt).updLanes fun a => { a with origins := [] })).settle) ∧
  (∀ dt (s : State) path unit, s.inTime dt → s.domain 13 = true → external path = true →
    s.main.running = true → s.mizzen.running = true → s.main.queue.length < 256 → s.mizzen.queue.length < 256 →
    exec (.halyardUnitArrival dt path unit) s = .next ((s.elapse dt).updLanes fun a =>
      { a with queue := a.queue ++ [⟨s.time.mast + dt, visibleSlot (s.elapse dt).grid, path, unit⟩] }).settle) ∧
  (∀ dt (s : State) path unit, s.inTime dt → s.domain 13 = true → external path = true → s.taking ≠ none →
    checkForm unit = .passes → s.tagOk unit = true → originKind (unitOrigin unit) = 0 →
    originStation (unitOrigin unit) = s.sys.station → s.mailDepth (originIndex (unitOrigin unit)) ≠ 0 →
    exec (.halyardReplyReceived dt path unit) s =
      .next ((s.elapse dt).pushMail ((s.elapse dt).lanesInOrder.filter (s.elapse dt).computes)
        (originIndex (unitOrigin unit)) fun _ => unit.take (36 + unitLength unit)))

/-- Rule R107 (04): a sequence 1 to 2^20 ahead of the last one accepted, modulo 2^32, is accepted and updates its entry; any
other is stale. A new origin is accepted with any sequence while there is room, and no entry of another origin changes. -/
def Obligations.SequencesAreJudgedByOrigin : Prop :=
  ∀ (t : Tbl Nat) o sequence, Sorted t → t.length ≤ 512 →
    let k := o % 1073741824
    (∀ last, Tbl.find t k = some last →
      (1 ≤ (sequence + 4294967296 - last % 4294967296) % 4294967296 ∧
        (sequence + 4294967296 - last % 4294967296) % 4294967296 ≤ 1048576 →
        judgeSequence t o sequence = (0x00, Tbl.put t k sequence) ∧
        Tbl.find (judgeSequence t o sequence).2 k = some sequence) ∧
      (¬ (1 ≤ (sequence + 4294967296 - last % 4294967296) % 4294967296 ∧
        (sequence + 4294967296 - last % 4294967296) % 4294967296 ≤ 1048576) →
        judgeSequence t o sequence = (0x18, t))) ∧
    (Tbl.find t k = none → t.length < 512 → (judgeSequence t o sequence).1 = 0x00 ∧
      Tbl.find (judgeSequence t o sequence).2 k = some sequence) ∧
    (Tbl.find t k = none → t.length = 512 → judgeSequence t o sequence = (0x19, t)) ∧
    (judgeSequence t o sequence).2.length ≤ 512 ∧ Sorted (judgeSequence t o sequence).2 ∧
    ∀ j, j ≠ k → Tbl.find (judgeSequence t o sequence).2 j = Tbl.find t j

/-- Rule R109 (04): a request that fails a check of steps 9 to 13 is consumed. Nothing is executed or staged: it is answered
once, with the status of the first check that fails, in the order of the table.
Where its terms follow a choice of the model, log entry 112 names it. -/
def Obligations.ChecksComeInOrder : Prop :=
  ∀ (s : State) (op : OpSpec) (r : Request), s.executes r = true →
    let refused (st : Nat) (p : Bytes) := s.answer op.code r st s.major p
    (op.allows r = false → s.runRequest op r = s.refuseAuth op.code r) ∧
    (op.allows r = true → op.target r = false → s.runRequest op r = refused 0x14 []) ∧
    (op.allows r = true → op.target r = true → op.exceeds r = true → s.runRequest op r =
      State.answer { s with sys := { s.sys with lengthExceeds := sat32 s.sys.lengthExceeds 1 } } op.code r 0x11 s.major []) ∧
    (∀ off, op.allows r = true → op.target r = true → op.exceeds r = false → op.param r = some off →
      s.runRequest op r = refused 0x15 (putLE 2 off ++ zeros 2)) ∧
    (op.allows r = true → op.target r = true → op.exceeds r = false → op.param r = none →
      s.resolve op.kind op.block r.boundary = none → s.runRequest op r = refused 0x15 (putLE 2 0x0014 ++ zeros 2))

/-- Rule R17 (01) with R109 (04): below its lowest role every opcode is refused, whatever else the request holds; the refusal
stages nothing and changes no setting, no memory and no key.
Where its terms follow a choice of the model, log entry 112 names it. -/
def Obligations.NoOpcodeBelowItsRole : Prop :=
  ∀ (s : State) (op : OpSpec) (r : Request), op ∈ ops → s.executes r = true → roleOf r < op.role r →
    (∀ l, r.path ≠ .firmware l) →
    let t := s.runRequest op r
    t.staged = s.staged ∧ t.mem = s.mem ∧ t.sys.keys = s.sys.keys ∧ t.power = s.power ∧ t.ctrl = s.ctrl ∧
    t.sense = s.sense ∧ t.gnss = s.gnss ∧ t.cams = s.cams ∧ t.fus = s.fus ∧ t.cans = s.cans ∧ t.pwr = s.pwr ∧
    t.time = s.time ∧ t.sys.notAuthorised = sat32 s.sys.notAuthorised 1

/-- Rules R154, R155, R160, R161 (05): what an accepted lane command leaves.
Where its terms follow a choice of the model, log entries 15, 32, 33 and 116 name it. -/
def Obligations.LaneCommandsComplete : Prop :=
  (∀ dt s r z, s.inTime dt → opLaneGetStatus.Accepts (s.elapse dt) r z →
    exec (.laneGetStatus dt r) s = .next
      ((s.elapse dt).answerEach 0x0401 r stOk z.number fun l => (s.lane l).status).settle) ∧
  (∀ dt s r z, s.inTime dt → opLaneGetReceiverCounters.Accepts (s.elapse dt) r z →
    exec (.laneGetReceiverCounters dt r) s = .next (opLaneGetReceiverCounters.read r z
      (s.recv (recvKey (r.target % 256) (r.target / 256))).bytes (s.elapse dt)).settle) ∧
  (∀ dt s r z, s.inTime dt → opLaneRecover.Accepts (s.elapse dt) r z →
    let u := opLaneRecover.noted (s.elapse dt) r z
    exec (.laneRecover dt r) s = .next (opLaneRecover.done r z []
      ((u.holdLane (if r.target = 0 then .main else .mizzen)).updXt (if r.target = 0 then .main else .mizzen) fun x =>
        { x with state := .recovering, recoveries := 0 })).settle) ∧
  (∀ dt s r z l, s.inTime dt → opLaneResyncRequest.Accepts (s.elapse dt) r z → r.path = .firmware l →
    let u := opLaneResyncRequest.noted (s.elapse dt) r z
    ((u.xtLane l).state = .recovering → (u.xtLane l).booted = true → u.xt.restart = false →
      (u.lane l).loaded = 0 ∨ (u.lane l).loaded = u.sched.activations →
      exec (.laneResyncRequest dt r) s = .next (opLaneResyncRequest.done r z []
        (u.updXt l fun x => { x with resyncNext := true })).settle) ∧
    ((u.xtLane l).state ≠ .recovering →
      exec (.laneResyncRequest dt r) s = .next
        ((u.updLane l fun a => { a with loaded := 0 }).answer 0x0408 r 0x42 z.number []).settle))

/-- Rules R141 to R144 (05): heartbeats, their timers and acknowledgements, and health reports. A heartbeat restarts its
timer with 1.2 ms; an expiry counts one miss and restarts it with 1 ms; the third miss in a row is a heartbeat failure.
Where its terms follow a choice of the model, log entries 13 and 15 name it. -/
def Obligations.HeartbeatsComplete : Prop :=
  (∀ dt s l beat rest, s.inTime dt → (s.lane l).hbInFlight = beat :: rest → s.xt.stopped = false →
    (s.xtLane l).hold = none → (s.xtLane l).state ≠ .failed →
    let u := (((s.elapse dt).updLane l fun a => { a with hbInFlight := rest }).updXt l fun x =>
      { x with timer := some (s.now + dt + 1200000), misses := 0 }).updLane l fun a =>
        { a with acksInFlight := a.acksInFlight ++ [⟨s.xt.main.state.code, s.xt.mizzen.state.code⟩] }
    exec (.heartbeatReceived dt l) s = .next (if beat.fatal then u.laneFailure l 1 else u).settle) ∧
  (∀ dt s l t, s.inTime dt → (s.xtLane l).timer = some t → s.xt.stopped = false → t ≤ s.now + dt →
    ((s.xtLane l).misses < 2 → exec (.heartbeatTimerExpiry dt l) s = .next ((s.elapse dt).updXt l fun x =>
      { x with misses := x.misses + 1, hbMissed := true, timer := some (t + 1000000) }).settle) ∧
    (2 ≤ (s.xtLane l).misses → exec (.heartbeatTimerExpiry dt l) s = .next (((s.elapse dt).updXt l fun x =>
      { x with misses := x.misses + 1, hbMissed := true, timer := none }).laneFailure l 0).settle)) ∧
  (∀ dt s l k rest, s.inTime dt → (s.lane l).acksInFlight = k :: rest → (s.lane l).running = true →
    let u := (s.elapse dt).updLane l fun a =>
      { a with acksInFlight := rest, ackSeen := true, missedAcks := 0, crosstreeLost := false, lastAck := some k }
    exec (.heartbeatAckReceived dt l) s = .next
      (if (s.lane l).crosstreeLost then u.raiseLane l 0x040A (details [(l.code : Int)]) else u)) ∧
  (∀ dt s l, s.inTime dt → (s.lane l).running = true →
    exec (.laneFatalFault dt l) s = .next ((s.elapse dt).updLane l fun a =>
      let n := (a.heartbeats + 1) % 65536;
      { a with
        fatal := true
        hbInFlight := a.hbInFlight ++ [⟨true, n, (s.elapse dt).major, (s.elapse dt).slotInMajor⟩]
        heartbeats := n
        hbSent := true })) ∧
  (∀ dt s l b rest, s.inTime dt → (s.lane l).healthInFlight = b :: rest → s.xt.stopped = false →
    u32 b 4 = (s.elapse dt).major →
    exec (.healthReportReceived dt l) s = .next
      (((s.elapse dt).updLane l fun a => { a with healthInFlight := rest }).updXt l fun x =>
        { x with
          healthSeen := true
          healthBad := x.healthBad || (flagAt b 1 0 || flagAt b 1 1 || u16 b 2 % 4096 != 0) }))

/-- Rules R28 (01), R91 to R93 (03), R146, R147, R149, R150, R152, R154, R156 (05): the reports the Crosstree receives, commit digests and
burst results; the release of lanes, their readiness, and the stopping and resuming of lanes and Crosstree.
Where its terms follow a choice of the model, log entries 5, 13, 15, 26, 32, 34, 64, 65, 66, 111, 112 and 129 name it. -/
def Obligations.CrosstreeEventsComplete : Prop :=
  (∀ dt s d rest, s.inTime dt → s.xt.reportsInFlight = d :: rest → s.xt.stopped = false →
    let u := s.elapse dt
    exec (.discrepancyReportReceived dt) s = .next
      (({ u with xt := { u.xt with reportsInFlight := rest } } : State).countDiscrepancy
        (if d.kind = 2 then some .main else if d.kind = 3 then some .mizzen else s.probationLane))) ∧
  (∀ dt s o rest, s.inTime dt → s.xt.overrunsInFlight = o :: rest → s.xt.stopped = false →
    let u := s.elapse dt
    let v : State := { u with xt := { u.xt with overrunsInFlight := rest } }
    (o.lane ≠ 255 → exec (.scheduleOverrunReceived dt) s =
      .next { v with xt := { v.xt with overruns := v.xt.overruns ++ [o] } }) ∧
    (o.lane = 255 → exec (.scheduleOverrunReceived dt) s = .next (v.countScheduleOverrun.recordOverrun o 0))) ∧
  (∀ dt s o, s.inTime dt → s.xt.overruns = [o] → s.xt.stopped = false → (o.judgeAt + 1) * 10000 ≤ (s.elapse dt).grid →
    let u := s.elapse dt
    exec (.overrunClassify dt) s = .next (({ u with xt := { u.xt with overruns := [] } } : State).classify o false).settle) ∧
  (∀ dt s o p, s.inTime dt → s.xt.overruns = [o, p] ∨ s.xt.overruns = [p, o] → s.xt.stopped = false →
    o.lane = 0 → p.lane = 1 → p.judgeAt = o.judgeAt → (o.judgeAt + 1) * 10000 ≤ (s.elapse dt).grid →
    let u := s.elapse dt
    let v : State := { u with xt := { u.xt with overruns := [] } }
    (p.task = o.task → p.major = o.major → p.slot = o.slot →
      exec (.overrunClassify dt) s = .next (v.countScheduleOverrun.recordOverrun o 0).settle) ∧
    (p.task ≠ o.task → exec (.overrunClassify dt) s = .next ((v.classify o false).classify p false).settle)) ∧
  (∀ dt s d rest, s.inTime dt → (s.lane s.xt.active).digestsInFlight = d :: rest →
    let u := (s.elapse dt).updLane s.xt.active fun a => { a with digestsInFlight := rest }
    (s.xt.crossLane = true → s.computes s.xt.active.other = true → (s.lane s.xt.active.other).digests.length < 4096 →
      exec (.commitDigestArrival dt) s = .next
        (u.updLane s.xt.active.other fun a => { a with digests := a.digests ++ [d] })) ∧
    (s.xt.crossLane = false → exec (.commitDigestArrival dt) s = .next u)) ∧
  (∀ dt s d rest x, s.inTime dt → s.computes s.xt.active.other = true → (s.lane s.xt.active.other).digests = d :: rest →
    (d.slot + 1) * 10000 ≤ (s.elapse dt).grid → (s.elapse dt).selftestFree = true →
    (s.lane s.xt.active.other).ownDigests.find? (fun y => y.task == d.task && y.slot == d.slot) = some x →
    let o := s.xt.active.other
    let u := (s.elapse dt).updLane o fun a =>
      { a with
        digests := rest
        ownDigests := a.ownDigests.filter (fun y => !(y.task == d.task && y.slot == d.slot)) }
    (x.crc = d.crc → exec (.commitDigestCompare dt) s = .next u) ∧
    (x.crc ≠ d.crc → exec (.commitDigestCompare dt) s = .next
      ((u.updLane o fun a => { a with health := { a.health with digestMismatch := sat32 a.health.digestMismatch 1 } }).report
        ⟨0, 0, 4, s.xt.active.code, d.task, d.slot % s.slots, (s.time.mast + dt) % 4294967296⟩))) ∧
  (∀ dt s l b, s.inTime dt → (s.lane l).burstInFlight = some b → s.xt.stopped = false → s.xt.burstJudge ≠ none →
    exec (.burstResultReceived dt l) s =
      let u := (s.elapse dt).updLane l fun a => { a with burstInFlight := none }
      .next (match l with
        | .main => { u with xt := { u.xt with burstMain := some b } }
        | .mizzen => { u with xt := { u.xt with burstMizzen := some b } })) ∧
  (∀ dt s n, s.inTime dt → s.xt.burstJudge = some n → s.xt.stopped = false → (n + 1) * 10000 ≤ (s.elapse dt).grid →
    let u := s.elapse dt
    let v : State := { u with xt := { u.xt with burstJudge := none, burstMain := none, burstMizzen := none } }
    (∀ a b, s.xt.burstMain = some a → s.xt.burstMizzen = some b → a.pass = true → b.pass = true →
      exec (.burstResultDeadline dt) s = .next (v.raise 0x0404 11 255 (putLE 4 a.crc ++ putLE 4 b.crc)).settle) ∧
    (∀ a, s.xt.burstMain = some a → a.pass = true → s.xt.burstMizzen = none →
      exec (.burstResultDeadline dt) s = .next (v.laneFailure .mizzen 2).settle) ∧
    (s.xt.burstMain = none → s.xt.burstMizzen = none →
      exec (.burstResultDeadline dt) s =
        .next ((v.laneFailure s.xt.active.other 2).raise 0x0405 11 255 (putLE 4 (s.elapse dt).major)).settle)) ∧
  (∀ dt s l t, s.inTime dt → (s.xtLane l).hold = some t → t ≤ s.now + dt → s.xt.stopped = false →
    s.domain (coreDomain l) = true → (s.xtLane l).filling = false →
    let u := s.elapse dt
    (s.mem.fillAtPowerOn = true → exec (.resetHoldExpiry dt l) s =
      .next ((u.startFill l.code).updXt l fun x => { x with filling := true }).settle) ∧
    (s.mem.fillAtPowerOn = false → s.xt.restart = false → exec (.resetHoldExpiry dt l) s = .next ((u.boot l).updXt l fun x =>
      { x with hold := none, filling := false, booted := true, recoveries := x.recoveries + 1 }).settle) ∧
    (s.mem.fillAtPowerOn = false → s.xt.restart = true → (s.xtLane l).state ≠ .recovering →
      exec (.resetHoldExpiry dt l) s = .next (((u.ringsUndefined l).boot l).updXt l fun x =>
        { x with hold := none, filling := false, readyDue := some (s.now + dt + 10000000000) }).settle)) ∧
  (∀ dt s l, s.inTime dt → s.xt.stopped = false → (s.lane l).running = true → s.adopted l = true →
    (s.xtLane l).adopted = true → s.pwr.module_ = .starting → 7 ≤ s.pwr.phase →
    exec (.laneReadyReport dt l) s =
      .next (((s.elapse dt).updXt l fun x => { x with ready := true }).tryNameStart).settle) ∧
  (∀ dt s l t, s.inTime dt → s.xt.stopped = false → (s.lane l).running = true → s.adopted l = true →
    (s.xtLane l).adopted = true → s.pwr.module_ = .run → s.xt.restart = true → (s.xtLane l).readyDue = some t →
    let u := (s.elapse dt).updXt l fun x => { x with ready := true, readyDue := none }
    exec (.laneReadyReport dt l) s = .next (if u.laneWaits l.other then u else u.nameRejoin).settle) ∧
  (∀ dt s l t, s.inTime dt → (s.xtLane l).readyDue = some t → t ≤ s.now + dt → s.xt.stopped = false →
    s.xt.restart = true → (s.xtLane l.other).ready = true →
    exec (.laneReadyTimeout dt l) s = .next ((((s.elapse dt).leaveBehind l).nameRejoin).settle) ∧
    (l = s.xt.active → ((s.elapse dt).leaveBehind l).xt.active = l.other) ∧
    ((s.elapse dt).leaveBehind l).computes l = false) ∧
  (∀ dt s l, s.inTime dt → (s.xtLane l).state = .resync → (s.xtLane l).copyDone = false →
    s.xt.resyncBytes = (s.elapse dt).copyTotal →
    exec (.resyncCopyComplete dt l) s = .next ((s.elapse dt).updXt l fun x => { x with copyDone := true })) ∧
  (∀ dt s l, s.inTime dt →
    exec (.laneStopped dt l) s = .next ((s.elapse dt).updLane l fun a => { a with running := false, acts := [] })) ∧
  (∀ dt s, s.inTime dt → s.xt.stopped = false →
    exec (.crosstreeStopped dt) s =
      let u := (s.elapse dt).updLanes fun a => { a with hbInFlight := [], healthInFlight := [], burstInFlight := none }
      .next { u with xt := { u.xt with
        stopped := true
        stoppedAt := s.now + dt
        reportsInFlight := []
        overrunsInFlight := []
        overruns := [] } }) ∧
  (∀ dt s, s.inTime dt → s.xt.stopped = true →
    exec (.crosstreeResumed dt) s =
      let u := s.elapse dt
      let later (t : Option Nat) : Option Nat := t.map fun x => x + (s.now + dt - s.xt.stoppedAt)
      let go (x : XtLane) : XtLane :=
        { x with timer := later x.timer, hold := later x.hold, readyDue := later x.readyDue }
      .next { u with xt := { u.xt with stopped := false, main := go u.xt.main, mizzen := go u.xt.mizzen } })

/-- Rules R129, R131, R132, R134 (05): a copy that reaches a powered receiver is judged by its sequence, and one of a lane in
Ignore mode is dropped and counted nowhere; windows and pair limits that fall due are acted on.
Where its terms follow a choice of the model, log entries 15, 28 and 112 name it. -/
def Obligations.ReceiversComplete : Prop :=
  (∀ dt s l block resource i rest, s.inTime dt → firstItem block resource (s.lane l).items = some (i, rest) →
    i.block = block → i.resource = resource → s.blockOn block = true → block ≠ 11 ∨ s.xt.stopped = false →
    isDutyItem block i.item = false ∨ s.adopted l = true →
    let u := (s.elapse dt).updLane l fun a => { a with items := rest }
    exec (.receiverCopyArrival dt l block resource) s = .next (u.judgeCopy l i).settle ∧
    (i.copy.cargo = .none → s.mode (keyBlock (recvKey block resource)) l = .ignore →
      u.judgeCopy l i = { u with recvs := Tbl.put u.recvs (recvKey block resource) (u.recv (recvKey block resource)) })) ∧
  (∀ dt s block resource q c, s.inTime dt → (s.recv (recvKey block resource)).pairs = [q] → q.resource = resource →
    q.taken = none → q.copy s.xt.active.other = some c → q.copy s.xt.active = none → c.cargo = .none →
    s.mode (keyBlock (recvKey block resource)) s.xt.active ≠ .ignore →
    (∃ w, q.window = some w ∧ w ≤ s.now + dt) →
    ∃ t, exec (.dedupWindowExpiry dt block resource) s = .next (State.settle t) ∧
      (t.recv (recvKey block resource)).lateActive = sat32 (s.recv (recvKey block resource)).lateActive 1 ∧
      (t.recv (recvKey block resource)).pairs = [{ q with taken := some s.xt.active.other, window := none }]) ∧
  (∀ dt s block resource q, s.inTime dt → (s.recv (recvKey block resource)).pairs = [q] → q.resource = resource →
    q.limit ≤ s.now + dt →
    exec (.pairLimitExpiry dt block resource) s =
      .next (State.actAll ((s.elapse dt).judging (recvKey block resource) fun v j => j.limitPair v q)).settle)

/-- Rule R132 (05): a new copy of a signal's value from the active lane is taken on arrival: its stream's N becomes its sequence
number and the receiver counts a take from that lane; a new copy from a `STANDBY` lane is not taken but starts a dedup
window.
Where its terms follow a choice of the model, log entry 112 names it. -/
def Obligations.ActiveCopiesAreTakenOnArrival : Prop :=
  ∀ (s : State) (l : Lane) (i : Item),
    let k := recvKey i.block i.resource
    let stream := streamKey i.resource i.item
    let d := (i.seq + 4294967296 - Tbl.getD (s.recv k).streams stream 4294967295 % 4294967296) % 4294967296
    1 ≤ d → d ≤ 1048576 → (s.recv k).pairs = [] → i.copy.cargo = .none →
    (s.mode (keyBlock k) l = .use →
      Tbl.getD ((s.judgeCopy l i).recv k).streams stream 4294967295 = i.seq ∧
      ((s.judgeCopy l i).recv k).takenMain = sat32 (s.recv k).takenMain (if l = .main then 1 else 0) ∧
      ((s.judgeCopy l i).recv k).takenMizzen = sat32 (s.recv k).takenMizzen (if l = .mizzen then 1 else 0) ∧
      ((s.judgeCopy l i).recv k).lateActive = sat32 (s.recv k).lateActive 0) ∧
    (s.mode (keyBlock k) l = .fallback → ∃ p, ((s.judgeCopy l i).recv k).pairs = [p] ∧ p.taken = none ∧
      p.copy l = some i.copy ∧ p.window = some (s.now + (s.recv k).windowNs) ∧
      p.limit = s.now + 2 * (s.recv k).windowNs ∧ (s.judgeCopy l i).power = s.power)

/-- Rules R148, R153, R154 (05): when the active lane fails and the other is `STANDBY`, the other is designated at once and
the failed lane is held in reset; it is never failed when no other lane can take over, but both lanes restart, with both
recovery counts and the shared blocks as they were.
Where its terms follow a choice of the model, log entries 32 and 112 name it. -/
def Obligations.AFailureNeverLeavesNoLane : Prop :=
  ∀ (s : State) (cause : Nat), s.canFail s.xt.active = true → s.xt.restart = false →
    let l := s.xt.active
    let t := s.laneFailure l cause
    ((s.xtLane l.other).state = .standby →
      t.xt.active = l.other ∧ (t.xtLane l.other).state = .active ∧
      (t.xtLane l).state = (if s.xt.attempts ≤ (s.xtLane l).recoveries then .failed else .recovering) ∧
      t.xt.switchovers = sat32 s.xt.switchovers 1 ∧ (t.lane l).running = false ∧ t.time = s.time) ∧
    ((s.xtLane l.other).state ≠ .standby →
      t.xt.restart = true ∧ t.xt.active = l ∧ t.xt.main.recoveries = s.xt.main.recoveries ∧
      t.xt.mizzen.recoveries = s.xt.mizzen.recoveries ∧ t.main.running = false ∧ t.mizzen.running = false ∧
      t.time = s.time ∧ t.power.chans = s.power.chans ∧ t.sense = s.sense ∧ t.cans = s.cans ∧ t.mem = s.mem)

/-- Rules R167, R176 to R182, R189 (06): what the control-engine reads, the clearing of the counters and a loop's period
leave.
Where its terms follow a choice of the model, log entries 12, 15, 39, 109 and 112 name it. -/
def Obligations.ControlCommandsComplete : Prop :=
  (∀ dt s r z, s.inTime dt → opCtrlGetLoop.Accepts (s.elapse dt) r z →
    exec (.ctrlGetLoop dt r) s = .next ((s.elapse dt).answerEach 0x0505 r stOk z.number fun i =>
      let l := s.loop i r.target
      l.desc ++ putS 4 l.outMin ++ putS 4 l.outMax ++ putLE 1 l.coeffs.length ++ zeros 3 ++ l.coeffs.flatten).settle) ∧
  (∀ dt s r z, s.inTime dt → opCtrlGetStatus.Accepts (s.elapse dt) r z →
    exec (.ctrlGetStatus dt r) s = .next ((s.elapse dt).answerEach 0x0506 r stOk z.number fun i =>
      let l := s.loop i r.target
      putLE 1 (packFlags [descEnable l.desc, l.inputBad, l.clamped, l.saturated, l.late]) ++
        putLE 1 (descSections l.desc) ++ zeros 2 ++ putS 4 l.lastInput ++ putS 4 l.lastSetpoint ++ putS 4 l.lastOutput ++
        putLE 8 l.lastStamp ++ putLE 4 l.itemsSent ++ putLE 4 l.saturations ++ putLE 4 l.clamps ++
        putLE 4 l.inputFaults ++ putLE 4 l.lateOutputs ++ zeros 4).settle) ∧
  (∀ dt s r z, s.inTime dt → opCtrlClearCounters.Accepts (s.elapse dt) r z →
    let u := s.elapse dt
    exec (.ctrlClearCounters dt r) s = .next (opCtrlClearCounters.done r z []
      (u.updLoops (u.senders r).lanes r.target fun l =>
        { l with saturations := 0, clamps := 0, inputFaults := 0, lateOutputs := 0 })).settle) ∧
  (∀ dt s n, s.inTime dt → s.time.anchored = true → (∀ e ∈ s.staged, e.kind = .loop → e.target ≠ n) →
    (s.elapse dt).majorDue = false →
    (s.elapse dt).grid % (max (descPeriod (s.loop s.readLane n).desc) 1 * 10000) = 0 →
    ∃ t, exec (.loopPeriodBoundary dt n) s = .next (State.settle t) ∧ t.staged = s.staged ∧ t.mem = s.mem ∧
      t.time = (s.elapse dt).time ∧
      (∀ l, (t.loop l n).run =
        if s.computes l = true ∧ descEnable (s.loop l n).desc = true
        then some (sampleLoop ((s.elapse dt).refreshSignals l) l (s.loop l n).desc) else none) ∧
      (∀ l v, (s.loop l n).run = some v → (t.loop l n).inputBad = v.bad ∧ (t.loop l n).late = v.late ∧
        (t.loop l n).lastInput = v.input ∧ (t.loop l n).lastSetpoint = v.setpoint ∧
        (t.loop l n).lastStamp = (s.elapse dt).mastOfGrid v.outAt)) ∧
  (∀ dt s l pipe n rest, s.inTime dt → (Tbl.getD (s.engine l).pipes pipe {}).waiting = n :: rest → s.computes l = true →
    (Tbl.getD (s.engine l).pipes pipe {}).lastS = 0 ∨
      (Tbl.getD (s.engine l).pipes pipe {}).lastStart + (4 + 5 * (Tbl.getD (s.engine l).pipes pipe {}).lastS) * 2 ≤
        s.now + dt →
    exec (.loopStart dt l ⟨pipe, []⟩) s = .next
      (((s.elapse dt).updLoop l n fun x =>
        { x with run := x.run.map fun v => { v with started := some (s.now + dt) } }).updEngine l fun e =>
          { e with pipes := Tbl.put e.pipes pipe ⟨rest, s.now + dt, descSections (s.loop l n).desc⟩ })) ∧
  (∀ dt s l pipe found, s.inTime dt → s.computes l = true →
    exec (.loopStart dt l ⟨pipe, found⟩) s = .next (loopStart l pipe ((s.elapse dt).engineReads l found))) ∧
  (∀ dt s l n v at_, s.inTime dt → (s.loop l n).run = some v → v.started = some at_ → v.output = none →
    at_ + (24 + 5 * descSections (s.loop l n).desc) * 2 ≤ s.now + dt →
    exec (.loopResultReady dt l n) s = .next ((s.elapse dt).updLoop l n fun x => loopResult x v)) ∧
  (∀ dt s l n v out, s.inTime dt → (s.loop l n).run = some v → v.output = some out →
    let x := s.loop l n
    let u := s.elapse dt
    (descDestKind x.desc = 1 → v.dutyPast = false → v.outAt ≤ u.grid + 29 →
      descOutSignal x.desc = 65535 ∨ v.sigPast = true ∨ u.grid + 22 < v.outAt →
      exec (.loopOutputRelease dt l n) s = .next ((sendLoopDuty l n x v.outAt out u).updLoop l n fun x =>
        { x with run := some { v with dutyPast := true }, itemsSent := (x.itemsSent + 1) % 4294967296 })) ∧
    (descOutSignal x.desc ≠ 65535 → v.sigPast = false → v.outAt ≤ u.grid + 22 → descDestKind x.desc ≠ 1 ∨ v.dutyPast = true →
      exec (.loopOutputRelease dt l n) s = .next ((sendLoopSignal l x.desc v.outAt out u).updLoop l n fun x =>
        { x with run := some { v with sigPast := true } }))) ∧
  (∀ dt s l n v, s.inTime dt → (s.loop l n).run = some v → v.output = none → v.late = false →
    let d := (s.loop l n).desc
    let g := (s.elapse dt).grid
    (descDestKind d = 1 ∧ v.dutyPast = false ∧ v.outAt ≤ g + 29) ∨
      (descOutSignal d ≠ 65535 ∧ v.sigPast = false ∧ v.outAt ≤ g + 22) →
    ∃ t w, exec (.loopOutputRelease dt l n) s = .next t ∧ (t.loop l n).run = some w ∧ w.late = true ∧
      (t.loop l n).lateOutputs = sat32 (s.loop l n).lateOutputs 1 ∧ (t.loop l n).itemsSent = (s.loop l n).itemsSent ∧
      (t.lane l).items = (s.lane l).items ∧ (t.lane l).deliveries = (s.lane l).deliveries)

/-- Rules R169, R171, R174 (06): whatever the coefficients, states and samples, every section's output is a 32-bit value and its
stored inputs and outputs move on by one, the loop's output is the scaled last output, as a 32-bit value, limited by the clamps,
and `CLAMPED` says whether the limit changed it. On a bad sample with `FAULT_ACTION` 0 the states stay and the output
computed last is sent again; with 2 every state becomes 0 and the output is `FAULT_VALUE` limited by the clamps.
Where its terms follow a choice of the model, log entries 7 and 112 name it. -/
def Obligations.LoopResultsKeepTheirLimits : Prop :=
  (∀ (c : Bytes) (x : Int) (st : SecState),
    let y := runSection c x st;
    -2147483648 ≤ y.1 ∧ y.1 ≤ 2147483647 ∧ y.2.1.y1 = y.1 ∧ y.2.1.y2 = st.y1 ∧ y.2.1.x1 = x ∧ y.2.1.x2 = st.x1) ∧
  (∀ (l : Loop) (input setpoint : Int), l.outMin ≤ l.outMax →
    let u := computeLoop l input setpoint
    let y := (runCascade l.coeffs l.states (loopX l.desc input setpoint)).1
    let sh := descOutShift l.desc
    let r := (if sh = 0 then y else (y + (2 ^ (sh - 1) : Nat)) / (2 ^ sh : Nat)) + descOutOffset l.desc
    l.outMin ≤ u.1 ∧ u.1 ≤ l.outMax ∧ u.1 = clampI l.outMin l.outMax (clampI (-2147483648) 2147483647 r) ∧
    u.2.2.2 = decide (u.1 ≠ clampI (-2147483648) 2147483647 r) ∧
    (u.2.2.2 = false → descClampFeedback l.desc = false →
      u.2.1 = (runCascade l.coeffs l.states (loopX l.desc input setpoint)).2.1)) ∧
  (∀ (l : Loop) (v : LoopRun), l.outMin ≤ l.outMax → (v.bad = true → descFaultAction l.desc ≠ 0) →
    ∃ w out, (loopResult l v).run = some w ∧ w.output = some out ∧ (loopResult l v).held = out ∧ l.outMin ≤ out ∧
      out ≤ l.outMax) ∧
  (∀ (l : Loop) (v : LoopRun), v.bad = true →
      (loopResult l v).inputFaults = sat32 l.inputFaults 1 ∧
      (loopResult l v).desc = l.desc ∧ (loopResult l v).coeffs = l.coeffs ∧
      (descFaultAction l.desc = 0 →
        (loopResult l v).states = l.states ∧
        (loopResult l v).run = some { v with output := some l.held, clamped := false, saturated := false }) ∧
      (descFaultAction l.desc = 2 →
        (∀ st ∈ (loopResult l v).states, st = {}) ∧ (loopResult l v).states.length = l.states.length ∧
        ∃ w, (loopResult l v).run = some w ∧ w.output = some (clampI l.outMin l.outMax (descFaultValue l.desc)) ∧
          w.clamped = decide (clampI l.outMin l.outMax (descFaultValue l.desc) ≠ descFaultValue l.desc)))

/-- Rules R214 (07), R223, R225, R234, R239, R242 (08): what the reads of the power-channel block answer and what its
accepted commands leave.
Where its terms follow a choice of the model, log entries 15, 23, 29 and 50 name it. -/
def Obligations.ChannelCommandsComplete : Prop :=
  (∀ dt s r z, s.inTime dt → opChanGetConfig.Accepts (s.elapse dt) r z →
    let u := opChanGetConfig.noted (s.elapse dt) r z
    exec (.chanGetConfig dt r) s = .next (opChanGetConfig.read r z (u.cfgOf r.target) u).settle) ∧
  (∀ dt s r z, s.inTime dt → opChanGetStatus.Accepts (s.elapse dt) r z →
    let u := opChanGetStatus.noted (s.elapse dt) r z
    let h := u.chan r.target
    exec (.chanGetStatus dt r) s = .next (opChanGetStatus.read r z
      (putLE 1 (u.chanCode r.target) ++ putLE 1 (chanSupply r.target) ++
        putLE 1 (packFlags [h.compLimited, h.openLoad, h.dutyLimited, h.inputState,
          cfgPaired h.cfg || u.isOddOfPair r.target]) ++ zeros 1 ++
        putS 4 h.dutySet ++ putS 4 h.dutyEff ++ putS 4 h.current ++ putS 4 h.voltage ++ putS 2 h.temperature ++
        zeros 2 ++ putLE 8 h.sampleStamp ++ putLE 4 h.itemsTaken ++ putLE 4 h.dutyLimits ++ putLE 4 h.itemsRefused ++
        putLE 4 h.compLimits) u).settle) ∧
  (∀ dt s r z, s.inTime dt → opChanGetSupply.Accepts (s.elapse dt) r z →
    let u := opChanGetSupply.noted (s.elapse dt) r z
    let one (n : Nat) : Bytes :=
      putLE 2 (u.supply n).lastVolt ++ putLE 1 (b2n (u.supply n).overload) ++ zeros 1 ++ putS 4 (u.supply n).mean
    exec (.chanGetSupply dt r) s = .next (opChanGetSupply.read r z
      (one 0 ++ one 1 ++ one 2 ++ one 3 ++
        putS 4 ((u.supply 0).mean + (u.supply 1).mean + (u.supply 2).mean + (u.supply 3).mean) ++
        putLE 2 (sumNat ((upto 104).map (fun c => share (u.chan c).cfg))) ++ zeros 2 ++ putLE 8 u.power.supplyStamp) u).settle) ∧
  (∀ dt s r z, s.inTime dt → opChanGetProtection.Accepts (s.elapse dt) r z →
    let u := opChanGetProtection.noted (s.elapse dt) r z
    ∃ p, exec (.chanGetProtection dt r) s = .next (opChanGetProtection.read r z p u).settle ∧
      p.length = 32 ∧ u8 p 0 = u.chanCode r.target % 256 ∧ u32 p 8 = u.power.generation % 4294967296) ∧
  (∀ dt s r z, s.inTime dt → opChanGetGeneration.Accepts (s.elapse dt) r z →
    let u := opChanGetGeneration.noted (s.elapse dt) r z
    exec (.chanGetGeneration dt r) s = .next (opChanGetGeneration.read r z
      (putLE 4 u.power.generation ++
        putLE 1 (packFlags [u.power.adoptedMain, u.power.adoptedMizzen, u.power.stopAsserted]) ++ zeros 3) u).settle) ∧
  (∀ dt s r z, s.inTime dt → opChanClearCounters.Accepts (s.elapse dt) r z → r.target ≠ 255 →
    let u := opChanClearCounters.noted (s.elapse dt) r z
    exec (.chanClearCounters dt r) s = .next (opChanClearCounters.done r z [] (u.updChan r.target fun h =>
      { h with itemsTaken := 0, dutyLimits := 0, itemsRefused := 0, compLimits := 0 })).settle) ∧
  (∀ dt s r z, s.inTime dt → opChanReleaseLatch.Accepts (s.elapse dt) r z →
    let u := opChanReleaseLatch.noted (s.elapse dt) r z
    let c := u.head r.target
    let h := u.chan c
    let t := flagAt r.payload 0 0 && h.thermalLatch
    let f := flagAt r.payload 0 1 && h.freewheelLatch
    ((t = true → h.temperature < 1400) →
      exec (.chanReleaseLatch dt r) s = .next (opChanReleaseLatch.done r z []
        (((u.bumpGen 1).clearHold c fun h =>
          { h with thermalLatch := h.thermalLatch && !t, freewheelLatch := h.freewheelLatch && !f }).raise 0x0617 1 c
            (details [(packFlags [t, f] : Int), h.temperature]))).settle) ∧
    (t = true → f = false → 1400 ≤ h.temperature →
      exec (.chanReleaseLatch dt r) s = .next (u.answer 0x0608 r 0x42 z.number []).settle)) ∧
  (∀ dt s r z, s.inTime dt → opChanRefillRetry.Accepts (s.elapse dt) r z →
    let u := opChanRefillRetry.noted (s.elapse dt) r z
    let c := u.head r.target
    let n := protRetries (u.chan c).prot
    exec (.chanRefillRetry dt r) s = .next (opChanRefillRetry.done r z []
      (((u.bumpGen 1).changeChan c fun h => { h with retryLeft := n, tripped := false }).raise 0x0618 1 c
        (details [(n : Int)]))).settle) ∧
  (∀ dt s r z, s.inTime dt → opChanStopReset.Accepts (s.elapse dt) r z →
    let u := opChanStopReset.noted (s.elapse dt) r z
    (u.power.stopAsserted = true → exec (.chanStopReset dt r) s = .next (u.answer 0x060A r 0x44 z.number []).settle) ∧
    (u.power.stopAsserted = false → exec (.chanStopReset dt r) s = .next (opChanStopReset.done r z []
      ((u.stopped.foldl (fun t c => t.clearHold c (fun h => { h with stopHold := false })) (u.bumpGen 1)).raise 0x061B 1 255
        (details [(u.stopped.length : Int)]))).settle)) ∧
  (∀ dt s r z l, s.inTime dt → opChanAdopt.Accepts (s.elapse dt) r z → r.path = .firmware l →
    let u := opChanAdopt.noted (s.elapse dt) r z
    (u32 r.payload 0 ≠ u.power.generation →
      exec (.chanAdopt dt r) s = .next (u.answer 0x060C r 0x45 z.number (generationReply u)).settle) ∧
    (u32 r.payload 0 = u.power.generation →
      let v := u.updXt l fun x => { x with adopted := true }
      (u.adopted l = true →
        exec (.chanAdopt dt r) s = .next (opChanAdopt.done r z (generationReply v) v).settle) ∧
      (u.adopted l = false →
        let w := ((v.setAdopted l true).bumpGen 1).raise 0x061C 1 l.code
          (details [(l.code : Int), toSigned 32 ((u.power.generation + 1) % 4294967296)])
        exec (.chanAdopt dt r) s = .next (opChanAdopt.done r z (generationReply w) w).settle)))

/-- Rules R42, R43 (02), R197 to R203, R212, R213 (07), R219, R229 (08): a period start of an output whose check for an open
load is off, once the period before it has ended. The last item taken 200 ns before becomes the set duty; the on-time is that of
the effective duty; a channel without holds, trip or pending retry drives when that duty is not 0, and a bridge that has taken an
item at any duty, and it opens its inrush window as it enters that state; nothing else of the machine changes but the effective
duty's delivery and the odd half of a pair. With D15 off only the set duty goes on.
Where its terms follow a choice of the model, log entries 12 and 109 name it. -/
def Obligations.PeriodStartsComplete : Prop :=
  ∀ dt s c, s.inTime dt →
    let u := s.elapse dt
    let h := s.chan c
    let g := u.grid
    let set := (dutyNow h u.now).1
    let rest := h.pending.filter (fun x => !decide (x.2.1 + 200 ≤ u.now))
    cfgMode h.cfg = 1 → s.isOddOfPair c = false → s.domain 1 = true → u.majorDue = false → 0 < cfgPeriod h.cfg →
    cfgPhase h.cfg ≤ g → (g - cfgPhase h.cfg) % cfgPeriod h.cfg = 0 → h.periodTick + h.periodNs ≤ u.now →
    (s.domain 15 = false → exec (.pwmPeriodStart dt c) s =
      .next (u.updChan c fun h => { h with dutySet := set, pending := rest })) ∧
    (s.domain 15 = true → cfgOpenLoad h.cfg = 0 → cfgComp h.cfg = false →
      ∃ t, exec (.pwmPeriodStart dt c) s = .next t ∧
        (t.chan c).dutySet = set ∧ (t.chan c).dutyEff = set ∧ (t.chan c).periodAt = g ∧ (t.chan c).pending = rest ∧
        (t.chan c).periodTick = u.now ∧ (t.chan c).periodNs = cfgPeriod h.cfg ∧
        (u.mayDrive h = true → (set ≠ 0 ∨ (chanClass c = 2 ∧ h.itemSeen = true)) →
          (t.chan c).base = .driving ∧ (t.chan c).onNs = onTime set.natAbs (cfgPeriod h.cfg) (minPulse c h.cfg) ∧
          ((t.chan c).onAt = if cfgCentre h.cfg then
            g + (cfgPeriod h.cfg - onTime set.natAbs (cfgPeriod h.cfg) (minPulse c h.cfg)) / 2 else g) ∧
          (h.base ≠ .driving → protInrushMs h.prot ≠ 0 →
            (t.chan c).inrushDue = some (u.now + protInrushMs h.prot * 1000000)) ∧
          (h.base = .driving → (t.chan c).inrushDue = h.inrushDue)) ∧
        (u.mayDrive h = true → set = 0 → chanClass c ≠ 2 → (t.chan c).base ≠ .driving ∧ (t.chan c).onNs = 0) ∧
        (u.mayDrive h = false →
          (t.chan c).base ≠ .driving ∧ (t.chan c).onNs = 0 ∧ (t.chan c).inrushDue = h.inrushDue) ∧
        (∀ d, d ≠ c → d ≠ c + 1 ∨ cfgPaired h.cfg = false → t.chan d = s.chan d) ∧
        t.power.generation = s.power.generation ∧ t.mem = s.mem ∧ t.rec_ = s.rec_ ∧ t.time = u.time ∧ t.staged = s.staged)

/-- Rule R197 (07): at each period start of a channel that may drive with an effective duty not 0, the on-time is that of the
duty's magnitude: the rounded share of the period, none where that is shorter than the minimum of the class and the whole period
where what is left is. So it is 0 at duty 0, the whole period at full duty, and otherwise neither it nor the off-time is between
0 and the minimum of the class.
Where its terms follow a choice of the model, log entries 12 and 109 name it. -/
def Obligations.OnTimesKeepTheMinimum : Prop :=
  (∀ dt s c, s.inTime dt →
    let u := s.elapse dt
    let h := s.chan c
    cfgMode h.cfg = 1 → s.isOddOfPair c = false → s.domain 1 = true → s.domain 15 = true → u.majorDue = false →
    0 < cfgPeriod h.cfg → cfgPhase h.cfg ≤ u.grid → (u.grid - cfgPhase h.cfg) % cfgPeriod h.cfg = 0 →
    h.periodTick + h.periodNs ≤ u.now →
    u.mayDrive h = true →
    ∃ t, exec (.pwmPeriodStart dt c) s = .next t ∧
      ((t.chan c).dutyEff ≠ 0 →
        (t.chan c).onNs = onTime (t.chan c).dutyEff.natAbs (cfgPeriod h.cfg) (minPulse c h.cfg)) ∧
      ((t.chan c).dutyEff = 0 → (t.chan c).base = .driving → minPulse c h.cfg ≤ cfgPeriod h.cfg → (t.chan c).onNs = 0)) ∧
  ∀ d period pulse, d ≤ 65535 → 0 < period → period ≤ 100000000 → 2 * pulse ≤ period →
    let on := onTime d period pulse
    let rounded := (d * period + 32767) / 65535
    (0 < rounded → rounded < pulse → on = 0) ∧
    (rounded = 0 ∨ pulse ≤ rounded → 0 < period - rounded → period - rounded < pulse → on = period) ∧
    (rounded = 0 ∨ pulse ≤ rounded → period - rounded = 0 ∨ pulse ≤ period - rounded → on = rounded) ∧
    on ≤ period ∧ (on = 0 ∨ pulse ≤ on) ∧ (on = period ∨ pulse ≤ period - on) ∧
    (d = 0 → 0 < pulse → on = 0) ∧ (d = 65535 → on = period)

/-- Rule R205 (07): at a period start of a channel with `COMP_ENABLE` 1 the effective duty is the set duty times the square of the
reference voltage over the measured voltage, rounded half-up and never above 100%; `COMP_LIMITED` and `COMP_LIMITS` tell where
100% limited it. At duty 0 it is 0, at the reference voltage the duty is unchanged; without compensation it is the set duty.
Where its terms follow a choice of the model, log entries 12, 109 and 112 name it. -/
def Obligations.CompensationHoldsThePower : Prop :=
  (∀ dt s c, s.inTime dt →
    let u := s.elapse dt
    let h := s.chan c
    let set := (dutyNow h u.now).1
    let vref := cfgVref h.cfg
    let v := max (railVoltage (s.supply (chanSupply c)) u.grid vref) 10000
    let raw := (set.natAbs * (vref * vref) + v * v / 2) / (v * v)
    cfgMode h.cfg = 1 → s.isOddOfPair c = false → s.domain 1 = true → s.domain 15 = true → u.majorDue = false →
    0 < cfgPeriod h.cfg → cfgPhase h.cfg ≤ u.grid → (u.grid - cfgPhase h.cfg) % cfgPeriod h.cfg = 0 →
    h.periodTick + h.periodNs ≤ u.now →
    ∃ t, exec (.pwmPeriodStart dt c) s = .next t ∧ (t.chan c).dutySet = set ∧
      (cfgComp h.cfg = true →
        (t.chan c).dutyEff = (if set < 0 then -((min 65535 raw : Nat) : Int) else ((min 65535 raw : Nat) : Int)) ∧
        (t.chan c).compLimited = decide (65535 < raw) ∧
        (t.chan c).compLimits = sat32 h.compLimits (if 65535 < raw then 1 else 0)) ∧
      (cfgComp h.cfg = false → (t.chan c).dutyEff = set)) ∧
  ∀ d vref vmeas, d ≤ 65535 → 20000 ≤ vref → vref ≤ 30000 →
    let v := max vmeas 10000
    let e := compensate d vref vmeas
    e.1 ≤ 65535 ∧ (d = 0 → e.1 = 0) ∧ (vmeas = vref → e.1 = d ∧ e.2 = false) ∧
    (e.2 = true → e.1 = 65535) ∧
    (e.2 = false → 2 * (d * vref ^ 2) ≤ 2 * (e.1 * v ^ 2) + v ^ 2 ∧ 2 * (e.1 * v ^ 2) ≤ 2 * (d * vref ^ 2) + v ^ 2)

/-- Rules R193, R206 to R211, R219, R235 (07, 08): the end of a channel's measurement interval and of a supply interval.
Where its terms follow a choice of the model, log entries 12 and 109 name it. -/
def Obligations.MeasurementsComplete : Prop :=
  (∀ dt s c (x : ChanSample), s.inTime dt → s.domain 15 = true → c ≤ 103 →
    (s.elapse dt).grid % sampleInterval c = 0 → (s.elapse dt).majorDue = false → s.isOddOfPair c = false →
    ∃ t, exec (.channelSampleEnd dt c x) s = .next t ∧
      (t.chan c).voltage = clampI (-10000) 36000 x.voltage ∧
      (t.chan c).temperature = clampI (-550) 2000 x.temperature ∧
      (t.chan c).sampleStamp = (s.elapse dt).time.mast ∧
      ((s.elapse dt).chanCode c = 2 → (t.chan c).current = clampI (currentRange c).1 (currentRange c).2 x.current) ∧
      ((s.elapse dt).chanCode c = 0 → (t.chan c).current = (s.chan c).current) ∧
      ((s.elapse dt).chanCode c = 3 → cfgInputKind (s.chan c).cfg = 0 → (s.chan c).firstSample = true →
        (t.chan c).inputState = decide ((cfgHigh (s.chan c).cfg : Int) ≤ (t.chan c).voltage)) ∧
      (t.chan c).dutySet = (s.chan c).dutySet ∧ (t.chan c).cfg = (s.chan c).cfg ∧ (t.chan c).prot = (s.chan c).prot ∧
      (∀ d, d ≠ c → d ≠ c + 1 ∨ cfgPaired (s.chan c).cfg = false → t.chan d = s.chan d) ∧ t.mem = s.mem ∧ t.time = (s.elapse dt).time) ∧
  (∀ dt s (x : SupplySample), s.inTime dt → s.domain 15 = true → (s.elapse dt).grid % 100000 = 0 →
    (s.elapse dt).majorDue = false → s.pwr.d15At + 100000 ≤ s.now + dt →
    ∃ t, exec (.supplySampleEnd dt x) s = .next t ∧ t.power.chans = s.power.chans ∧
      t.power.supplyStamp = (s.elapse dt).time.mast ∧
      (∀ n, n ≤ 3 →
        (t.supply n).lastVolt = min (x.volts.getD n 0) 40000 ∧
        (t.supply n).currents = (clampI (-10000) 200000 (x.currents.getD n 0) :: (s.supply n).currents).take 10000 ∧
        ((t.supply n).overload = true ↔
          80000 * ((t.supply n).currents.length : Int) < (t.supply n).currents.foldl (fun a b => a + b) 0)) ∧
      t.mem = s.mem ∧ t.time = (s.elapse dt).time)

/-- Rules R218 to R221, R224, R228, R232, R233 (08): the protection events of a channel that is not the odd half of a pair.
Where its terms follow a choice of the model, log entries 23, 29, 49, 52 and 112 name it. -/
def Obligations.ProtectionEventsComplete : Prop :=
  (∀ dt s c low, s.inTime dt → c ≤ 103 → s.isOddOfPair c = false → cfgMode (s.chan c).cfg = 1 → s.domain 1 = true →
    s.hasHold (s.chan c) = false →
    ∃ t, exec (.overcurrentFast dt c low) s = .next t ∧
      (t.chan c).base ≠ .driving ∧ (t.chan c).onNs = 0 ∧ (t.chan c).overCount = 0 ∧
      (t.chan c).fastTrips = sat32 (s.chan c).fastTrips 1 ∧ (t.chan c).retryLeft = (s.chan c).retryLeft ∧
      ((s.chan c).retryLeft = 0 → (t.chan c).tripped = true ∧ t.chanCode c = 5) ∧
      ((s.chan c).retryLeft ≠ 0 → (t.chan c).retryDue = some (s.now + dt + protInterval (s.chan c).prot * 10000000) ∧
        (t.chan c).tripped = (s.chan c).tripped) ∧
      (∀ d, d ≠ c → d ≠ c + 1 ∨ cfgPaired (s.chan c).cfg = false → t.chan d = s.chan d)) ∧
  (∀ dt s c due, s.inTime dt → (s.chan c).inrushDue = some due → due ≤ s.now + dt →
    exec (.inrushWindowEnd dt c) s = .next ((s.elapse dt).updChan c fun h => { h with inrushDue := none })) ∧
  (∀ dt s c due, s.inTime dt → (s.chan c).retryDue = some due → due ≤ s.now + dt →
    exec (.retry dt c) s = .next (((s.elapse dt).changeChan c fun h =>
      { h with
        retryDue := none
        retryLeft := h.retryLeft - 1
        retriesDone := sat32 h.retriesDone 1
        base := if h.base = .driving then .off else h.base }).raise 0x0612 1 c
          (details [(((s.chan c).retryLeft - 1 : Nat) : Int)]))) ∧
  (∀ dt s c, s.inTime dt → c ≤ 103 → s.isOddOfPair c = false → s.domain 15 = true → (s.chan c).thermalLatch = false →
    ∃ t, exec (.thermalLatch dt c) s = .next t ∧
      (t.chan c).thermalLatch = true ∧ (t.chan c).base ≠ .driving ∧ (t.chan c).onNs = 0 ∧
      (s.hasHold (s.chan c) = false → (t.chan c).retryDue = none) ∧ (t.chan c).retryLeft = (s.chan c).retryLeft ∧
      (t.chan c).retriesDone = (s.chan c).retriesDone ∧ (t.chan c).dutySet = (s.chan c).dutySet ∧
      (∀ due, s.hasHold (s.chan c) = false → (s.chan c).retryDue = some due →
        (s.now + dt < due → (t.chan c).retryFrozen = some (due - (s.now + dt))) ∧
        (due ≤ s.now + dt → (t.chan c).retryFrozen = (s.chan c).retryFrozen)) ∧
      (∀ d, d ≠ c → d ≠ c + 1 ∨ cfgPaired (s.chan c).cfg = false → t.chan d = s.chan d)) ∧
  (∀ dt s c, s.inTime dt → c ≤ 103 → s.isOddOfPair c = false → cfgMode (s.chan c).cfg = 1 → cfgLoad (s.chan c).cfg = 2 →
    (s.chan c).freewheelLatch = false →
    ∃ t, exec (.freewheelMissing dt c) s = .next t ∧ (t.chan c).freewheelLatch = true ∧ (t.chan c).base ≠ .driving ∧
      (t.chan c).onNs = 0 ∧ (t.chan c).watchDue ≠ none ∧ (t.chan c).retryLeft = (s.chan c).retryLeft ∧
      (∀ d, d ≠ c → d ≠ c + 1 ∨ cfgPaired (s.chan c).cfg = false → t.chan d = s.chan d)) ∧
  (∀ dt s c mv ns, s.inTime dt → (s.chan c).watchDue ≠ none → s.isOddOfPair c = false →
    exec (.freewheelWatchEnd dt c mv ns) s =
      .next (((s.elapse dt).updChan c fun h => { h with watchDue := none }).raise 0x0616 1 c (details [mv, (ns : Int)]))) ∧
  (∀ dt s, s.inTime dt → s.power.stopAsserted = false → Sorted s.power.chans →
    ∃ t, exec (.stopAsserted dt) s = .next t ∧ t.power.stopAsserted = true ∧
      (∀ c ∈ s.power.chans.map Prod.fst, cfgMode (s.chan c).cfg = 1 → protStopGroup (s.chan c).prot = true →
        s.isOddOfPair c = false → (s.chan c).stopHold = false →
        (t.chan c).stopHold = true ∧ (t.chan c).base ≠ .driving ∧ (t.chan c).dutySet = (s.chan c).dutySet) ∧
      (∀ c, s.isOddOfPair c = false → cfgMode (s.chan c).cfg ≠ 1 ∨ protStopGroup (s.chan c).prot = false →
        t.chan c = s.chan c)) ∧
  (∀ dt s, s.inTime dt → s.power.stopAsserted = true → s.domain 15 = true →
    exec (.stopDeasserted dt) s = .next
      (({ s.elapse dt with power := { s.power with stopAsserted := false } } : State).raise 0x061A 1 255 []))

/-- Rules R196 (07), R222 (08), R265 to R267 (09): what swaps leave. A configuration that leaves `MODE` 1 and the pairing as they were
keeps the set duty; `MODE` 0 or 2 switches the output off with set duty 0; protection settings never raise the retry budget and
leave a pending retry's due time. A changed yield grid starts a clear where there is a grid, the same grid does not; a clear
command clears `GRID_LOST`, and with `CLEAR_TOTALS` the totals and remainders; enabling the tally opens it `DELAY` later with no
step before the first, and disabling it keeps the steps that wait (Log 46).
Where its terms follow a choice of the model, log entry 24 names it. -/
def Obligations.SwapsActAsStated : Prop :=
  (∀ (s : State) (e : Staged), s.isOddOfPair e.target = false →
      let c := e.target
      let new := fitTo 32 e.req.payload
      (cfgPaired new = cfgPaired (s.chan c).cfg →
        ((applyChanConfig s e).chan c).cfg = new ∧
        (∀ d, d ≠ c → (applyChanConfig s e).chan d = s.chan d) ∧
        (cfgMode new = 1 → cfgMode (s.chan c).cfg = 1 →
          ((applyChanConfig s e).chan c).dutySet = (s.chan c).dutySet ∧
          ((applyChanConfig s e).chan c).base = (s.chan c).base) ∧
        (cfgMode new = 1 → cfgMode (s.chan c).cfg ≠ 1 →
          ((applyChanConfig s e).chan c).dutySet = 0 ∧ ((applyChanConfig s e).chan c).base = .off) ∧
        (cfgMode new ≠ 1 → ((applyChanConfig s e).chan c).dutySet = 0 ∧ ((applyChanConfig s e).chan c).onNs = 0 ∧
          ((applyChanConfig s e).chan c).base = (if cfgMode new = 2 then .input else .unconfigured))) ∧
      ((applyChanConfig s e).chan c).retryLeft = (s.chan c).retryLeft ∧
      (applyChanConfig s e).power.generation = (s.power.generation + 1) % 4294967296 ∧
      ((applyChanProtection s e).chan c).prot = fitTo 16 e.req.payload ∧
      ((applyChanProtection s e).chan c).retryLeft = min (s.chan c).retryLeft (protRetries (fitTo 16 e.req.payload)) ∧
      ((applyChanProtection s e).chan c).retryDue = (s.chan c).retryDue ∧
      ((applyChanProtection s e).chan c).cfg = (s.chan c).cfg ∧
      (applyChanProtection s e).power.generation = (s.power.generation + 1) % 4294967296) ∧
  (∀ (s : State) (e : Staged),
      let y := s.sense.yield_
      let p := e.req.payload
      ((applyYieldGrid s e).sense.yield_.grid = p) ∧
      (setBytes p 0x1A (zeros 6) = setBytes y.grid 0x1A (zeros 6) →
        (applyYieldGrid s e).sense.yield_.clearing = y.clearing) ∧
      (setBytes p 0x1A (zeros 6) ≠ setBytes y.grid 0x1A (zeros 6) → gridCells p ≠ 0 →
        (applyYieldGrid s e).sense.yield_.clearing = some ((16 * gridCells p + 16383) / 16384, 0)) ∧
      (applyYieldGrid s e).sense.yield_.totals = y.totals ∧
      (applyYieldClear s e).sense.yield_.gridLost = false ∧
      (flagAt p 0 0 = true → (applyYieldClear s e).sense.yield_.totals = {} ∧ (applyYieldClear s e).sense.yield_.am = 0 ∧
        (applyYieldClear s e).sense.yield_.aw = 0 ∧ (applyYieldClear s e).sense.yield_.aa = 0) ∧
      (flagAt p 0 0 = false → (applyYieldClear s e).sense.yield_.totals = y.totals) ∧
      (applyYieldSources s e).sense.yield_.sources = p ∧
      (applyYieldSources s e).sense.yield_.queue = y.queue ∧ (applyYieldSources s e).sense.yield_.totals = y.totals ∧
      (srcEnable p = true → srcEnable y.sources = false →
        (applyYieldSources s e).sense.yield_.opening = some (s.grid + srcDelay p) ∧
        (applyYieldSources s e).sense.yield_.fresh = true ∧ (applyYieldSources s e).sense.yield_.swath = none) ∧
      (srcEnable p = false → srcEnable y.sources = true →
        (applyYieldSources s e).sense.yield_.closing = some (s.grid, y.sources)))

/-- Rules R245, R250 to R254, R269 (09): the sensing block's read and its protection and loss events. What is protected is
faulted from that moment, with the ratiometric inputs of a supply (Log 38); what counts as a hit is `isHit` (Log 48).
Where its terms follow a choice of the model, log entries 12, 15, 38, 48, 109 and 112 name it. -/
def Obligations.SensingEventsComplete : Prop :=
  (∀ dt s r z, s.inTime dt → opSenseGetStatus.Accepts (s.elapse dt) r z →
    let u := opSenseGetStatus.noted (s.elapse dt) r z
    let x := (u.input r.target).st
    exec (.senseGetStatus dt r) s = .next (opSenseGetStatus.read r z
      (putLE 1 (senseKind r.target) ++
        putLE 1 (packFlags [x.fault, x.below, x.above, x.shut, x.capFail, x.wireFail]) ++ zeros 2 ++ putS 4 x.value ++
        putS 4 x.aux ++ putLE 4 x.faultCount ++ putLE 8 x.stamp) u).settle) ∧
  (∀ dt s i, s.inTime dt → i < 96 → s.domain 11 = true → uniMode (s.input i).cfg = 4 → (s.input i).st.shut = false →
    exec (.shuntOpen dt i) s = .next (((s.elapse dt).updInput i fun x =>
      { x with shut := true, trialDue := some (s.now + dt + 1000000000) }).judgeFault i true 25000000 2)) ∧
  (∀ dt s i t, s.inTime dt → i < 96 → (s.input i).st.shut = true → (s.input i).st.trialDue = some t →
    t + 1000000 ≤ s.now + dt →
    exec (.shuntTrial dt i true) s = .next ((s.elapse dt).updInput i fun x =>
      { x with shut := false, trialDue := none }) ∧
    exec (.shuntTrial dt i false) s = .next ((s.elapse dt).updInput i fun x =>
      { x with trialDue := some (t + 1000000000) })) ∧
  (∀ dt s i (h : HitData), s.inTime dt → senseKind i = 1 → s.domain 11 = true → lossEnable (s.input i).cfg = true →
    let u := s.elapse dt
    let l := h.samples.map lossSample
    let start := u.grid - (l.length - 1) * 1000
    isHit (s.input i).cfg l (lossCapCheck (s.input i).cfg && u.grid % u.majorLen == 0) = true →
    u.hitSeen (s.input i).cfg start = true → (s.input i).st.since ≤ start →
    exec (.lossHitEnd dt i h) s = .next (u.updInput i fun x =>
      { x with
        hits := sat32 x.hits 1
        energy := sat64 x.energy (sumNat (l.map (fun v => v.natAbs * v.natAbs)))
        longHits := x.longHits + (if l.length = lossMaxHit (s.input i).cfg then 1 else 0) })) ∧
  (∀ dt s i cap, s.inTime dt → senseKind i = 1 → s.domain 11 = true → lossEnable (s.input i).cfg = true →
    lossCapCheck (s.input i).cfg = true →
    let u := s.elapse dt
    let boundary := u.grid / u.majorLen * u.majorLen
    let fail := decide (cap < u16 (s.input i).cfg 0x0C) || decide (u16 (s.input i).cfg 0x0E < cap)
    u.majorDue = false → u.grid ≤ boundary + 100000 → (s.input i).st.capAt ≠ some boundary →
    exec (.capCheckComplete dt i cap) s = .next
      ((u.updInput i fun x => { x with capFail := fail, aux := cap, capAt := some boundary }).judgeFault i fail cap 4)) ∧
  (∀ dt s i o, s.inTime dt → senseKind i = 2 → s.domain 11 = true → bridgeEnable (s.input i).cfg = true →
    exec (.bridgeWireBreak dt i o) s = .next ((s.elapse dt).updInput i fun x => { x with wireFail := o })) ∧
  (∀ dt s k, s.inTime dt → k < 8 → s.domain 11 = true → supplyVolts (s.input (128 + k)).cfg ≠ 0 →
    (s.input (128 + k)).st.shut = false →
    exec (.sensorSupplyTrip dt k) s = .next
      (((upto 96).filter fun n => uniMode (s.input n).cfg == 3 && uniRatio (s.input n).cfg == k).foldl
        (fun t n => t.judgeFault n true (t.input n).st.value 3)
        (((s.elapse dt).updInput (128 + k) fun x =>
          { x with shut := true, trialDue := some (s.now + dt + 1000000000) }).raise 0x0703 2 (128 + k)
            (details [(s.input (128 + k)).st.aux])))) ∧
  (∀ dt s k t, s.inTime dt → k < 8 → s.domain 11 = true → (s.input (128 + k)).st.trialDue = some t → t ≤ s.now + dt →
    exec (.sensorSupplyRetry dt k true) s = .next ((s.elapse dt).updInput (128 + k) fun x =>
      { x with trialDue := some (t + 1000000000) }) ∧
    exec (.sensorSupplyRetry dt k false) s = .next ((s.elapse dt).updInput (128 + k) fun x =>
      { x with shut := false, trialDue := none }))

/-- Rules R244, R248 to R256 (09): what the end of a sample or loss interval leaves of an input, and what it leaves alone; and
when an input is faulted: from the sample that completes `FAULT_SAMPLES` in a row beyond the limits, until as many in a row
lie within them with no other condition.
Where its terms follow a choice of the model, log entries 12, 37, 48 and 109 name it. -/
def Obligations.SensingSamplesComplete : Prop :=
  (∀ dt s (x : UniSample), s.inTime dt → s.domain 11 = true → (s.elapse dt).grid % 100000 = 0 →
    (s.elapse dt).majorDue = false →
    ∃ t, exec (.universalSampleEnd dt x) s = .next t ∧ t.mem = s.mem ∧ t.power = s.power ∧ t.time = (s.elapse dt).time ∧
      (∀ i, i < 96 → (s.input i).st.since < (s.elapse dt).grid →
        (∀ m, uniMode (s.input i).cfg = m → m ≠ 0 → m ≠ 4 → m ≠ 6 →
          (t.input i).st.value = clampI (uniRange m).1 (uniRange m).2 (x.values.getD i 0) ∧
          (t.input i).st.stamp = (s.elapse dt).time.mast) ∧
        (uniMode (s.input i).cfg = 4 → (s.input i).st.shut = false →
          (t.input i).st.value = clampI 0 25000000 (x.values.getD i 0))) ∧
      (∀ i, i < 96 → uniMode (s.input i).cfg = 0 → t.input i = s.input i) ∧
      (∀ i, t.input i = s.input i ∨ i < 96 ∨ 128 ≤ i) ∧ (∀ i, (t.input i).cfg = (s.input i).cfg)) ∧
  (∀ dt s i reading, s.inTime dt → senseKind i = 2 → s.domain 11 = true → bridgeEnable (s.input i).cfg = true →
    (s.elapse dt).grid % bridgeTb (s.input i).cfg = 0 → (s.input i).st.since < (s.elapse dt).grid →
    (s.elapse dt).majorDue = false →
    ∃ t, exec (.bridgeSampleEnd dt i reading) s = .next t ∧
      (t.input i).st.value = clampI (-10000000) 10000000 reading ∧ (t.input i).st.stamp = (s.elapse dt).time.mast ∧
      (t.input i).st.fault = (s.input i).st.wireFail ∧ (∀ j, j ≠ i → t.input j = s.input j) ∧ t.mem = s.mem) ∧
  (∀ dt s i peak, s.inTime dt → senseKind i = 1 → s.domain 11 = true → lossEnable (s.input i).cfg = true →
    (s.elapse dt).grid % lossInterval (s.input i).cfg = 0 → (s.input i).st.since < (s.elapse dt).grid →
    (s.elapse dt).majorDue = false →
    ∃ t, exec (.lossIntervalEnd dt i peak) s = .next t ∧
      (t.input i).st.value = toSigned 32 (s.input i).st.hits ∧ (t.input i).st.hits = 0 ∧ (t.input i).st.energy = 0 ∧
      (t.input i).st.fault = (s.input i).st.fault ∧ (∀ j, j ≠ i → t.input j = s.input j) ∧ t.mem = s.mem) ∧
  (∀ (c : Bytes) (x : InputState), 1 ≤ uniSamples c →
      (x.fault = false → (faultAfter c x false = true ↔ uniSamples c ≤ x.bad)) ∧
      (x.fault = true → (faultAfter c x false = false ↔ uniSamples c ≤ x.good)) ∧
      (faultAfter c x true = true))

/-- Rules R257 to R263, R265, R269 (09): the tally's read, the processing of its oldest record and the write of a cell.
Where its terms follow a choice of the model, log entries 15 and 112 name it. -/
def Obligations.YieldCommandsComplete : Prop :=
  (∀ dt s r z, s.inTime dt → opYieldGetTotals.Accepts (s.elapse dt) r z →
    let u := opYieldGetTotals.noted (s.elapse dt) r z
    let y := u.sense.yield_
    let t := y.totals
    exec (.yieldGetTotals dt r) s = .next (opYieldGetTotals.read r z
      (putLE 1 (packFlags [srcEnable y.sources, y.clearing.isSome, y.gridLost]) ++ zeros 3 ++ putLE 4 y.queue.length ++
        ([t.placedMass, t.placedMoist, t.placedArea, t.unplacedMass, t.unplacedMoist, t.unplacedArea].map
          (putLE 8)).flatten ++
        ([t.placedSteps, t.clearingSteps, t.noPosition, t.gapSteps, t.offGrid, t.moistureHeld, t.bridgeFault].map
          (putLE 4)).flatten ++ zeros 4) u).settle) ∧
  (∀ dt s (e : TallyStep) rest, s.inTime dt → s.sense.yield_.queue = e :: rest → s.domain 11 = true →
    let tb := bridgeTb (s.input (srcMass e.sources)).cfg
    (e.record.epoch + srcDelay e.sources) / tb * tb + 300 ≤ (s.elapse dt).grid →
    let u := s.elapse dt
    let y : YieldSt :=
      { s.sense.yield_ with
        queue := rest
        massStart := e.start.getD s.sense.yield_.massStart
        prev := if e.fresh then none else s.sense.yield_.prev }
    exec (.yieldStepProcess dt) s = .next { u with sense := { u.sense with
      yield_ := stepYield u.grid y e.record e.sources } }) ∧
  (∀ dt s w rest, s.inTime dt → s.sense.yield_.writes = w :: rest → w.slot ≤ (s.elapse dt).slot →
    (s.xtLane .main).state = .active → (s.xtLane .mizzen).state = .standby → (s.lane .main).running = true →
    (s.lane .mizzen).running = true →
    let cell (l : Lane) : Bytes :=
      let old := s.dramRead l w.addr 16
      putLE 4 (sat32 (u32 old 0) w.mass) ++ putLE 4 (sat32 (u32 old 4) w.moist) ++ putLE 4 (sat32 (u32 old 8) w.area) ++
        putLE 4 (sat32 (u32 old 12) 1)
    let u := (s.elapse dt).updYield fun y => { y with writes := rest }
    exec (.yieldCellWrite dt) s =
      .next ((u.dramWrite .main w.addr (cell .main)).dramWrite .mizzen w.addr (cell .mizzen)))

/-- Rule R259 (09): every gram measured appears exactly once: the mass of a step, with the remainder it carries on, is the
carried remainder and the flow of its samples; each total grows by the step's share, placed or unplaced, short of
saturation. -/
def Obligations.EveryGramIsCountedOnce : Prop :=
  ∀ now (y : YieldSt) (r : NavRec) (src : Bytes),
    let z := stepYield now y r src
    let mass := y.mass.filter (fun x => x.input == srcMass src &&
      (decide (y.massStart < x.at_) && decide (x.at_ ≤ r.epoch + srcDelay src)))
    let sum := sumNat (mass.map (fun x => flowOf src x * x.tb))
    y.totals.placedMass + y.totals.unplacedMass + (y.am + sum) / 1000000000000 < 18446744073709551616 →
    (z.totals.placedMass + z.totals.unplacedMass) * 1000000000000 + z.am =
      (y.totals.placedMass + y.totals.unplacedMass) * 1000000000000 + y.am + sum ∧
    z.am < 1000000000000 ∧ z.aw < 1000000000000 ∧ z.aa < 100 ∧ y.massStart ≤ z.massStart ∧
    (∀ x ∈ z.mass, z.massStart < x.at_)

/-- Rules R273, R274, R277, R278, R287, R289, R295 (10), R320 (11): what the camera's immediate commands and its events
leave.
Where its terms follow a choice of the model, log entries 15, 77, 78 and 112 name it. -/
def Obligations.CameraCommandsComplete : Prop :=
  (∀ dt s r z, s.inTime dt → opCamSensorTransfer.Accepts (s.elapse dt) r z →
    exec (.camSensorTransfer dt r) s = .next ((opCamSensorTransfer.noted (s.elapse dt) r z).updCam r.target fun c =>
      { c with queue := c.queue ++ [r] }).settle) ∧
  (∀ dt s r z, s.inTime dt → opCamGetStatus.Accepts (s.elapse dt) r z →
    let u := opCamGetStatus.noted (s.elapse dt) r z
    exec (.camGetStatus dt r) s = .next (opCamGetStatus.read r z (u.camPort r.target).status u).settle) ∧
  (∀ dt s r z, s.inTime dt → opCamClearCounters.Accepts (s.elapse dt) r z →
    exec (.camClearCounters dt r) s = .next (opCamClearCounters.done r z []
      ((opCamClearCounters.noted (s.elapse dt) r z).updCam r.target fun c =>
        { c with
          shortFrames := 0
          longFrames := 0
          discarded := 0
          stray := 0
          clockFaults := 0
          dropped := 0
          failures := 0
          uncertain := 0
          streams := (c.streams.take 4).map (fun x => { x with written := 0, drops := 0 }) ++ c.streams.drop 4 })).settle) ∧
  (∀ dt s r z, s.inTime dt → opCamGetStreamStatus.Accepts (s.elapse dt) r z →
    let u := opCamGetStreamStatus.noted (s.elapse dt) r z
    exec (.camGetStreamStatus dt r) s =
      .next (opCamGetStreamStatus.read r z ((u.camPort (r.target % 256)).streamStatus (r.target / 256)) u).settle) ∧
  (∀ dt s p, s.inTime dt → s.domain 8 = true → p ≤ 7 → (s.camPort p).fv = true →
    exec (.frameValidFall dt p) s =
      .next (((s.elapse dt).updCam p fun c => { c with fv := false }).closeFrame p false false)) ∧
  (∀ dt s p f, s.inTime dt → s.domain 8 = true → (s.camPort p).frame = some f →
    (f.openedAt + pTimeout f.set.port ≤ s.now + dt →
      exec (.frameTimeout dt p) s = .next ((s.elapse dt).closeFrame p true false)) ∧
    (f.openedAt + 10000 ≤ s.now + dt →
      exec (.cameraClockLost dt p) s = .next ((s.elapse dt).closeFrame p false true))) ∧
  (∀ dt s p (line : LineData), s.inTime dt → s.domain 8 = true → p ≤ 7 → pEnable (s.camPort p).set.port = true →
    ((s.camPort p).fv = false →
      exec (.lineEnd dt p line) s = .next ((s.elapse dt).updCam p fun c => { c with stray := sat32 c.stray 1 })) ∧
    ((s.camPort p).fv = true → (s.camPort p).frame = none →
      exec (.lineEnd dt p line) s =
        .next ((s.elapse dt).updCam p fun c => { c with discarded := sat32 c.discarded 1 })) ∧
    (∀ f, (s.camPort p).fv = true → (s.camPort p).frame = some f → f.received < expectedLines f.set.geom →
      exec (.lineEnd dt p line) s =
        .next ((s.elapse dt).updCam p fun c => { c with frame := some (f.addLine (portSamples f.set.port line)), discarded := sat32 c.discarded 0 })) ∧
    (∀ f, (s.camPort p).fv = true → (s.camPort p).frame = some f → expectedLines f.set.geom ≤ f.received →
      exec (.lineEnd dt p line) s = .next ((s.elapse dt).updCam p fun c =>
        { c with
          frame := some { f with
            received := f.received + 1
            shortLines := f.shortLines ||
              decide ((portSamples f.set.port line).length < gSkipLeft f.set.geom + gWidth f.set.geom)
            longLines := f.longLines ||
              decide (gSkipLeft f.set.geom + gWidth f.set.geom < (portSamples f.set.port line).length)
            discarded := f.discarded + 1 }
          discarded := sat32 c.discarded 1 }))) ∧
  (∀ dt s p edges, s.inTime dt → s.domain 8 = true → p ≤ 7 →
    (s.elapse dt).grid % 1000000 = 0 →
    let want := pPclk (s.camPort p).set.port
    let near := decide (95 * want ≤ 100 * edges) && decide (100 * edges ≤ 105 * want)
    let t := (s.elapse dt).updCam p fun c => { c with measured := min 300000 edges, mismatch := !near }
    (near = true ∨ (s.camPort p).mismatch = true → exec (.pclkMeasure dt p edges) s = .next t) ∧
    (near = false → (s.camPort p).mismatch = false →
      exec (.pclkMeasure dt p edges) s = .next (t.raiseCam 0x0804 p [(edges : Int)])))

/-- Rules R274, R280, R290, R293, R300 (10, 11): the rising edge of frame-valid at an enabled port with nothing to swap
opens one frame, with the next number, the boundary's stamp, the settings in force, the exposure set it carries and its
generation; it writes no memory and leaves every other port as it was.
Where its terms follow a choice of the model, log entries 12, 15, 80 and 109 name it. -/
def Obligations.ARisingEdgeOpensOneFrame : Prop :=
  ∀ dt s p, s.inTime dt → s.domain 8 = true → p ≤ 7 → (s.camPort p).fv = false →
    pEnable (s.camPort p).set.port = true → (s.elapse dt).majorDue = false → (s.elapse dt).frameSwaps p = [] →
    let c := s.camPort p
    let carried := c.carries.filter (fun x => x.1 == 1)
    let new := decide (carried ≠ []) || c.genPending
    ∃ (t : State) (f : OpenFrame), exec (.frameValidRise dt p) s = .next t.settle ∧ (t.camPort p).frame = some f ∧
      f.number = c.next ∧ f.stamp = s.time.mast + dt ∧ f.set = c.set ∧ f.lines = [] ∧ f.received = 0 ∧
      f.mismatch = c.mismatch ∧ f.newGen = new ∧ f.gen = (if new then (c.gen + 1) % 65536 else c.gen) ∧
      (carried = [] → f.exposure = c.exposure) ∧ (∀ b, carried.getLast? = some (1, b) → f.exposure = b) ∧
      (t.camPort p).exposure = f.exposure ∧ (t.camPort p).gen = f.gen ∧ (t.camPort p).last = c.next ∧
      (t.camPort p).next = (c.next + 1) % 4294967296 ∧ (t.camPort p).lastStamp = s.time.mast + dt ∧
      (t.camPort p).set = c.set ∧ (t.camPort p).fv = true ∧ (t.camPort p).idle = false ∧
      (∀ q, q ≠ p → t.camPort q = s.camPort q) ∧ t.mem = s.mem ∧ t.staged = s.staged ∧ t.main = s.main ∧
      t.mizzen = s.mizzen ∧ t.out = s.out

/-- Rules R286, R287, R289, R290, R292, R295 (10): what a write slot starts and what the end of a transaction leaves.
Where its terms follow a choice of the model, log entries 15, 78, 112 and 123 name it. -/
def Obligations.SensorLinkCommandsComplete : Prop :=
  (∀ dt s p b, s.inTime dt → s.domain 8 = true → p ≤ 7 → (s.elapse dt).opSlot 3 (0x10 + p) = true →
    (s.camPort p).job = none → (s.camPort p).fv = false ∨ pEnable (s.camPort p).set.port = false →
    (s.camPort p).waiting = some b → (s.camPort p).setDone = false →
    let t := (s.elapse dt).updCam p fun c => { c with waiting := none }
    (eWrites b = 0 → exec (.cameraWriteSlot dt p) s = .next (t.updCam p fun c =>
      { c with job := none, setDone := true, carries := c.carries ++ [(pLatency (s.camPort p).set.port, b)] })) ∧
    (eWrites b ≠ 0 → exec (.cameraWriteSlot dt p) s = .next (t.updCam p fun c =>
      { c with job := some ⟨some b, none, 0, s.now + dt, false⟩ }))) ∧
  (∀ dt s p r rest, s.inTime dt → s.domain 8 = true → p ≤ 7 → (s.elapse dt).opSlot 3 (0x10 + p) = true →
    (s.camPort p).job = none → (s.camPort p).fv = false ∨ pEnable (s.camPort p).set.port = false →
    (s.camPort p).waiting = none ∨ (s.camPort p).setDone = true → (s.camPort p).queue = r :: rest →
    exec (.cameraWriteSlot dt p) s = .next ((s.elapse dt).updCam p fun c =>
      { c with queue := rest, job := some ⟨none, some r, 0, s.now + dt, false⟩ })) ∧
  (∀ dt s p j, s.inTime dt → s.domain 8 = true → p ≤ 7 → (s.elapse dt).opSlot 3 (0x10 + p) = true →
    (s.camPort p).job = some j → (s.camPort p).fv = false ∨ pEnable (s.camPort p).set.port = false →
    (s.camPort p).queue ≠ [] →
    exec (.cameraWriteSlot dt p) s = .next ((s.elapse dt).blockLate 3 (0x10 + p))) ∧
  (∀ dt s p j b data sent, s.inTime dt → s.domain 8 = true → (s.camPort p).job = some j → j.set = some b →
    let whole := writeEntry b j.entry
    let part := whole.take (max 1 sent)
    let bit := linkBit (pRate (s.camPort p).set.port)
    (j.startAt + (9 * whole.length + 3) * bit ≤ s.now + dt →
      let u := (s.elapse dt).emit (.link p whole)
      (j.entry + 1 < eWrites b → exec (.linkTransactionEnd dt p ⟨0, data, sent⟩) s = .next (u.updCam p fun c =>
        { c with job := some { j with entry := j.entry + 1, startAt := s.now + dt } }).settle) ∧
      (eWrites b ≤ j.entry + 1 → j.crossed = false → exec (.linkTransactionEnd dt p ⟨0, data, sent⟩) s =
        .next (u.updCam p fun c =>
          { c with job := none, setDone := true, carries := c.carries ++ [(pLatency (s.camPort p).set.port, b)] }).settle)) ∧
    (pLatency (s.camPort p).set.port ≠ 0 → j.startAt + (9 * part.length + 3) * bit ≤ s.now + dt →
      exec (.linkTransactionEnd dt p ⟨1, data, sent⟩) s =
        .next ((((s.elapse dt).emit (.link p part)).updCam p fun c =>
          { c with
            marks := c.marks ++ [pLatency (s.camPort p).set.port]
            job := none
            failures := sat16 c.failures 1 }).raiseCam 0x0806 p [(eTag b : Int), (j.entry : Int), 0]).settle)) ∧
  (∀ dt s p j r data sent, s.inTime dt → s.domain 8 = true → (s.camPort p).job = some j → j.set = none → j.req = some r →
    let whole := transferBytes r.payload
    let part := whole.take (max 1 sent)
    let bit := linkBit (pRate (s.camPort p).set.port)
    let t (l : Bytes) := ((s.elapse dt).emit (.link p l)).updCam p fun c => { c with job := none }
    (j.startAt + (9 * part.length + 3) * bit ≤ s.now + dt →
      exec (.linkTransactionEnd dt p ⟨1, data, sent⟩) s = .next ((t part).answer 0x0805 r 0x40 (t part).major []).settle) ∧
    (j.startAt + 1000000 ≤ s.now + dt → exec (.linkTransactionEnd dt p ⟨2, data, sent⟩) s =
      .next ((t (whole.take sent)).answer 0x0805 r 0x41 (t (whole.take sent)).major []).settle) ∧
    (xRead r.payload = false → j.startAt + (9 * whole.length + 3) * bit ≤ s.now + dt →
      exec (.linkTransactionEnd dt p ⟨0, data, sent⟩) s = .next (((t whole).answer 0x0805 r stOk (t whole).major []).logChange
        4 0x0805 r stOk (t whole).major).settle))

/-- Rules R276, R277, R281, R310, R311, R317 (10, 11): the close of a frame ends it, counts it short or long, and writes
nothing to a lane's memory outside the rows of its streams and the entry of its statistics.
Where its terms follow a choice of the model, log entries 77, 78 and 112 name it. -/
def Obligations.AFrameWritesOnlyItsEntries : Prop :=
  ∀ (s : State) p f timeout lost, (s.camPort p).frame = some f →
    let t := s.closeFrame p timeout lost
    let rows := tapRows f.set (gWidth f.set.geom) f.mosaic
    (t.camPort p).frame = none ∧ (t.camPort p).next = (s.camPort p).next ∧ (t.camPort p).gen = (s.camPort p).gen ∧
    (t.camPort p).set = (s.camPort p).set ∧
    (t.camPort p).shortFrames = sat32 (s.camPort p).shortFrames (b2n (decide (f.received < expectedLines f.set.geom))) ∧
    (t.camPort p).longFrames = sat32 (s.camPort p).longFrames (b2n (decide (expectedLines f.set.geom < f.received))) ∧
    (∀ q, q ≠ p → t.camPort q = s.camPort q) ∧
    (∀ l a,
      (∀ k, k < 4 →
        let c := f.set.streams.getD k camStreamReset
        bitOf (stPlace c) 0 = true → f.number % stDiv c = 0 →
        ∀ w ∈ streamWrites c rows (stLane c) (f.number / stDiv c % stRing c), a < w.1 ∨ w.1 + w.2.length ≤ a) →
      (saEnable f.set.stats = true →
        a < saBase f.set.stats + f.number % saRing f.set.stats * 16384 ∨
        saBase f.set.stats + f.number % saRing f.set.stats * 16384 + 10304 ≤ a) →
      t.dramRead l a 1 = s.dramRead l a 1)

/-- Rules R346, R351 (12): what the fusion engine's immediate commands leave.
Where its terms follow a choice of the model, log entry 15 names it. -/
def Obligations.FusionCommandsComplete : Prop :=
  (∀ dt s r z, s.inTime dt → opFusionNetLoadBegin.Accepts (s.elapse dt) r z →
    exec (.fusionNetLoadBegin dt r) s = .next (opFusionNetLoadBegin.done r z []
      ((opFusionNetLoadBegin.noted (s.elapse dt) r z).updSlot (u8 r.payload 0)
        fun _ => ⟨1, u32 r.payload 4, u32 r.payload 8, []⟩)).settle) ∧
  (∀ dt s r z, s.inTime dt → opFusionNetLoadData.Accepts (s.elapse dt) r z →
    exec (.fusionNetLoadData dt r) s = .next (opFusionNetLoadData.read r z []
      ((opFusionNetLoadData.noted (s.elapse dt) r z).updSlot (u8 r.payload 0)
        fun x => { x with data := x.data ++ r.payload.drop 8 })).settle) ∧
  (∀ dt s r z, s.inTime dt → opFusionNetLoadEnd.Accepts (s.elapse dt) r z →
    let u := opFusionNetLoadEnd.noted (s.elapse dt) r z
    (netError (u.netSlot (u8 r.payload 0)) = none →
      exec (.fusionNetLoadEnd dt r) s = .next (opFusionNetLoadEnd.done r z []
        (u.updSlot (u8 r.payload 0) fun x => { x with state := 3 })).settle) ∧
    (∀ off code, netError (u.netSlot (u8 r.payload 0)) = some (off, code) →
      exec (.fusionNetLoadEnd dt r) s = .next
        ((u.updSlot (u8 r.payload 0) fun x => { x with state := 2 }).answer 0x0907 r 0x40 z.number
          (putLE 4 off ++ putLE 2 code ++ zeros 2)).settle)) ∧
  (∀ dt s r z, s.inTime dt → opFusionGetRoundStatus.Accepts (s.elapse dt) r z →
    let u := opFusionGetRoundStatus.noted (s.elapse dt) r z
    let x := u.fusRound r.target
    exec (.fusionGetRoundStatus dt r) s = .next (opFusionGetRoundStatus.read r z
      (putLE 4 x.number ++ putLE 2 x.presence ++ putLE 2 x.flags ++ putLE 4 x.run ++ putLE 4 x.waited ++
        putLE 4 x.late ++ putLE 4 x.skipped ++ putLE 4 x.maxIssue ++ zeros 4) u).settle) ∧
  (∀ dt s r z, s.inTime dt → opFusionGetSourceStatus.Accepts (s.elapse dt) r z →
    let u := opFusionGetSourceStatus.noted (s.elapse dt) r z
    let x := u.fusSource r.target
    exec (.fusionGetSourceStatus dt r) s = .next (opFusionGetSourceStatus.read r z
      (putLE 1 (fKind x.cfg) ++ zeros 3 ++ putLE 4 x.used ++ putLE 4 x.late ++ putLE 4 x.surplus ++
        putLE 4 x.unused ++ putLE 4 x.rejected ++ putLE 4 x.maxLate ++ zeros 4 ++ putLE 8 x.lastStamp) u).settle) ∧
  (∀ dt s r z, s.inTime dt → opFusionGetNetStatus.Accepts (s.elapse dt) r z →
    let u := opFusionGetNetStatus.noted (s.elapse dt) r z
    exec (.fusionGetNetStatus dt r) s = .next (opFusionGetNetStatus.read r z
      ((upto 8).map (fun n =>
        putLE 1 (u.netSlot n).state ++ zeros 3 ++
        putLE 4 (if 3 ≤ (u.netSlot n).state then nCost (u.netSlot n).data else 0) ++
        putLE 8 (if 3 ≤ (u.netSlot n).state then nId (u.netSlot n).data else 0))).flatten u).settle) ∧
  (∀ dt s r z, s.inTime dt → opFusionClearCounters.Accepts (s.elapse dt) r z →
    ∃ t, exec (.fusionClearCounters dt r) s = .next (opFusionClearCounters.done r z [] t).settle ∧
      (∀ k, k < 8 → t.fusRound k = { s.fusRound k with run := 0, waited := 0, late := 0, skipped := 0, maxIssue := 0 }) ∧
      (∀ n, n < 16 → t.fusSource n = { s.fusSource n with
        used := 0, late := 0, surplus := 0, unused := 0, rejected := 0, maxLate := 0 }) ∧
      t.mem = s.mem ∧ t.fus.slots = s.fus.slots ∧ t.fus.open_ = s.fus.open_ ∧ t.fus.canvas = s.fus.canvas) ∧
  (∀ dt s n, s.inTime dt → s.domain 6 = true → s.fusionMem = true → (s.netSlot n).state = 3 →
    exec (.netSlotCopyComplete dt n) s = .next
      (((s.elapse dt).updMem 4 fun m => m.write (n * 0x80000000) (s.netSlot n).data).updSlot n
        fun v => { v with state := 4 }))

/-- Rules R334 to R340, R330, R331, R345 (12): what the events of the rounds and of the samples leave.
Where its terms follow a choice of the model, log entries 83, 84, 112 and 123 name it. -/
def Obligations.FusionEventsComplete : Prop :=
  (∀ dt s k, s.inTime dt → s.domain 6 = true → s.domain 7 = true → k ≤ 7 → rEnable (s.fusRound k).cfg = true →
    (s.elapse dt).opSlot 4 k = true →
    let r := s.fusRound k
    let u := (s.elapse dt).updRound k fun r => { r with next := (r.next + 1) % 4294967296 }
    ((s.netSlot (rSlot r.cfg)).state = 4 → s.fus.running = none → rSources r.cfg ≠ 0 →
      exec (.fusionRoundInstant dt k) s = .next (u.updFus fun v =>
        { v with open_ := v.open_ ++ [⟨k, r.next, r.cfg, s.time.mast + dt, (s.elapse dt).grid, s.now + dt, []⟩] })) ∧
    ((s.netSlot (rSlot r.cfg)).state ≠ 4 →
      exec (.fusionRoundInstant dt k) s = .next (u.skipRound k r.next r.cfg true)) ∧
    ((s.netSlot (rSlot r.cfg)).state = 4 → s.fus.running ≠ none →
      exec (.fusionRoundInstant dt k) s = .next (u.skipRound k r.next r.cfg false))) ∧
  (∀ dt s k o, s.inTime dt → s.domain 6 = true → s.domain 7 = true → s.fus.running = none →
    s.fus.open_.find? (fun o => o.round == k) = some o → o.tick + rWait o.cfg ≤ s.now + dt →
    exec (.roundWaitExpiry dt k) s = .next ((s.elapse dt).issueRound o (!o.complete))) ∧
  (∀ dt s r, s.inTime dt → s.domain 6 = true → s.domain 7 = true → s.fus.running = some r → r.output = none →
    let u := (s.elapse dt).roundReads
    let at_ := workAddr (2 - u.fus.gridAt)
    let left : GridBuf := { base := some u.free }
    let state := if r.useState then [((at_, gridBytes), Contents.grid at_ left)] else []
    exec (.roundNetworkComplete dt) s =
      .next (((u.fusionCover (((workAddr 0, gridBytes), Contents.engine u.free) :: state)).updFus fun v =>
        { v with
          running := v.running.map (fun r => { r with output := some u.free })
          grid := if r.useState then left else v.grid
          spare := if r.useState then v.grid else v.spare
          gridAt := if r.useState then 1 - v.gridAt else v.gridAt }).useFree)) ∧
  (∀ dt s r n, s.inTime dt → s.domain 6 = true → s.domain 7 = true → s.fus.running = some r → r.output = some n →
    let waiting := s.fus.releases.any (fun x => x.round == r.round && x.number == r.number)
    let entry := outputEntry r (r.flags + (if !waiting then 8 else if r.spoiled then 0 else 4)) n
    ∃ t, exec (.roundOutputWritten dt) s = .next t ∧ t.fus.running = none ∧ t.fus.open_ = s.fus.open_ ∧
      t.fus.releases = s.fus.releases.map (fun x =>
        if x.round = r.round ∧ x.number = r.number then { x with written := true } else x) ∧
      t.mem = ((s.elapse dt).fanWrite (rBase r.cfg + r.number % rRing r.cfg * rStride r.cfg) entry).mem ∧
      (∀ l a, a < rBase r.cfg + r.number % rRing r.cfg * rStride r.cfg ∨
          rBase r.cfg + r.number % rRing r.cfg * rStride r.cfg + entry.length ≤ a →
        t.dramRead l a 1 = s.dramRead l a 1) ∧
      t.fus.rounds = s.fus.rounds ∧ t.fus.sources = s.fus.sources) ∧
  (∀ dt s k x, s.inTime dt → s.fus.releases.find? (fun x => x.round == k) = some x →
    x.slot * 10000 ≤ (s.elapse dt).grid + 100 → s.domain 6 = true → s.domain 7 = true → x.written = true → x.spoiled = false →
    let flags := x.flags + 4
    exec (.roundRelease dt k) s = .next
      ((((s.elapse dt).updFus fun u => { u with releases := u.releases.filter (fun y => y != x) }).updRound k fun r =>
        { r with number := x.number, presence := x.presence, flags := flags, late := sat32 r.late 0 }).publishMast
        (0x4100 + k) (leNat (x.record flags)) x.instant (x.slot * 10000 - 100) true)) ∧
  (∀ dt s n f, s.inTime dt → s.domain 6 = true → s.domain 7 = true → fKind (s.fusSource n).cfg = 1 →
    s.fus.frames.find? (fun f => f.sample.source == n && decide (f.due ≤ s.now + dt)) = some f →
    exec (.fusionSampleArrival dt n) s = .next
      (((s.elapse dt).updFus fun u => { u with frames := u.frames.filter (fun g => g != f) }).sampleArrives f.sample)) ∧
  (∀ dt s n d, s.inTime dt → s.domain 6 = true → s.domain 7 = true → s.domain 13 = true → n ≤ 15 →
    fKind (s.fusSource n).cfg = 2 → 32 ≤ d.length → d.length = 32 + 16 * u16 d 0x10 → flagAt d 6 0 = false →
    (u16 d 4 = 0 → (s.fusSource n).scan = none →
      exec (.pointCloudDatagram dt n d) s = .next ((s.elapse dt).updSource n fun v =>
        { v with scan := some ⟨u32 d 0, 1, (d.drop 32).take (16 * fMaxPoints (s.fusSource n).cfg), u16 d 0x10⟩ })) ∧
    (∀ x, (s.fusSource n).scan = some x → x.number = u32 d 0 → x.next = u16 d 4 →
      exec (.pointCloudDatagram dt n d) s = .next ((s.elapse dt).updSource n fun v =>
        { v with scan := some ⟨u32 d 0, u16 d 4 + 1, (x.points ++ d.drop 32).take (16 * fMaxPoints (s.fusSource n).cfg),
          x.total + u16 d 0x10⟩ })) ∧
    (∀ x, (s.fusSource n).scan = some x → x.next ≠ u16 d 4 → u16 d 4 ≠ 0 →
      exec (.pointCloudDatagram dt n d) s = .next
        (((s.elapse dt).updSource n fun v => { v with scan := none }).rejectSample n 0)))

/-- Rules R335, R337 (12): the first sample of a source that belongs to an open round is its candidate and stays it; a
later one changes no round. Whatever samples arrive, no round holds two candidates of one source. -/
def Obligations.ARoundHasOneCandidateOfASource : Prop :=
  ∀ (s : State) (x : Sample),
    (∀ o ∈ s.fus.open_, (o.cands.map (fun y => y.source)).Nodup) →
    (∀ o ∈ (s.sampleArrives x).fus.open_, (o.cands.map (fun y => y.source)).Nodup) ∧
    (∀ o ∈ (s.sampleArrives x).fus.open_, ∃ p ∈ s.fus.open_, p.round = o.round ∧ p.number = o.number ∧
      p.cfg = o.cfg ∧ (o.cands = p.cands ∨
        (o.cands = p.cands ++ [x] ∧ bitOf (rSources p.cfg) x.source = true ∧ p.tick ≤ x.tick ∧
          x.tick ≤ p.tick + rWait p.cfg ∧ ∀ y ∈ p.cands, y.source ≠ x.source)))

/-- Rules R327, R328 (12): the residuals are the motion not yet applied to the state. What the warp moves and what it
leaves make up the motion and the residual before it; the heading residual stays within half a step, and without a turn
the translation residuals within half a cell, and each cell is taken from the one that many rows and columns away. -/
def Obligations.TheWarpLosesNoMotion : Prop :=
  (∀ canvas t p o rx ry rh, p.epoch - o.epoch ≤ 10000000000 →
    let e := egoMotion canvas t (some p) (some o) rx ry rh
    e.applied = true ∧ e.q * 32768 + e.rho = e.dh + rh ∧ -16384 ≤ e.rho ∧ e.rho ≤ 16384 ∧
    (e.q = 0 → 200 * e.nx + e.ex = e.dx + rx ∧ 200 * e.ny + e.ey = e.dy + ry ∧
      -100 ≤ e.ex ∧ e.ex ≤ 100 ∧ -100 ≤ e.ey ∧ e.ey ≤ 100)) ∧
  (∀ canvas t o rx ry rh, egoMotion canvas t none o rx ry rh = { noEgo with ex := rx, ey := ry, rho := rh }) ∧
  (∀ canvas t p rx ry rh, (egoMotion canvas t (some p) none rx ry rh).applied = false ∧
    (egoMotion canvas t (some p) none rx ry rh).ex = 0 ∧ (egoMotion canvas t (some p) none rx ry rh).ey = 0 ∧
    (egoMotion canvas t (some p) none rx ry rh).rho = 0) ∧
  (∀ nx ny row col r c, warpSource (nx, ny, 0, row, col) r c = ((r : Int) - nx, (c : Int) + ny))

/-- Rules R352, R356, R365, R370, R371, R375 (13): what the immediate commands of the GNSS block and the events of its
antennas, exclusions and time pulses leave.
Where its terms follow a choice of the model, log entries 4, 15, 72, 73 and 112 name it. -/
def Obligations.GnssCommandsComplete : Prop :=
  (∀ dt s r z, s.inTime dt → opGnssAid.Accepts (s.elapse dt) r z → (aidsOf r.payload).isSome = true →
    let u := opGnssAid.noted (s.elapse dt) r z
    let l := ((aidsOf r.payload).getD ([], [])).1
    let v := l.foldl (fun t b => takeAid t b.2) (u.updGnss fun g => { g with aidsAccepted := 0, aidsRejected := 0 })
    exec (.gnssAid dt r) s = .next (opGnssAid.done r z (putLE 2 v.gnss.aidsAccepted ++ putLE 2 v.gnss.aidsRejected)
      (v.updGnss fun g =>
        { g with
          aidsAccepted := sat16 u.gnss.aidsAccepted v.gnss.aidsAccepted
          aidsRejected := sat16 u.gnss.aidsRejected v.gnss.aidsRejected })).settle) ∧
  (∀ dt s r z, s.inTime dt → opGnssResetData.Accepts (s.elapse dt) r z →
    let b (i : Nat) : Bool := flagAt r.payload 0 i
    exec (.gnssResetData dt r) s = .next (opGnssResetData.done r z []
      ((opGnssResetData.noted (s.elapse dt) r z).updGnss fun g =>
        { g with
          positionAt := if b 2 then none else g.positionAt
          exclusions := if b 3 then [] else g.exclusions
          data := { g.data with
            messages := if b 0 then [] else g.data.messages
            almanacs := if b 1 then [] else g.data.almanacs
            position := if b 2 then none else g.data.position } })).settle) ∧
  (∀ dt s r z, s.inTime dt → opGnssGetStatus.Accepts (s.elapse dt) r z →
    exec (.gnssGetStatus dt r) s = .next (opGnssGetStatus.read r z (gnssStatus (opGnssGetStatus.noted (s.elapse dt) r z))
      (opGnssGetStatus.noted (s.elapse dt) r z)).settle) ∧
  (∀ dt s r z, s.inTime dt → opGnssClearCounters.Accepts (s.elapse dt) r z →
    exec (.gnssClearCounters dt r) s = .next (opGnssClearCounters.done r z []
      ((opGnssClearCounters.noted (s.elapse dt) r z).updGnss fun g =>
        { g with
          satExclusions := 0
          constExclusions := 0
          clockFails := 0
          aidsAccepted := 0
          aidsRejected := 0
          disagreements := 0 })).settle) ∧
  (∀ dt s key, s.inTime dt →
    exec (.exclusionExpiry dt key) s = .next ((s.elapse dt).updGnss fun g =>
      { g with exclusions := g.exclusions.filter (fun e => e.1 != key || decide (s.now + dt < e.2)) })) ∧
  (∀ dt s, s.inTime dt → s.domain 10 = true → s.gnss.savedAt + 600000000000 ≤ s.now + dt →
    let d := { s.gnss.data with leap := s.time.leapSeconds }
    exec (.gnssDataSave dt) s = .next ((s.elapse dt).updGnss fun g =>
      { g with data := d, saved := d, savedAt := s.now + dt })) ∧
  (∀ dt s current, s.inTime dt → s.domain 10 = true → current < 2000 →
    (s.gnss.a0Open = false → exec (.antennaOpen dt 0 true current) s =
      .next (((s.elapse dt).updGnss fun g => { g with a0Open := true }).raiseGnss 0x0A01 [0, 0, current])) ∧
    (s.gnss.a1Open = false → exec (.antennaOpen dt 1 true current) s =
      .next (((s.elapse dt).updGnss fun g => { g with a1Open := true }).raiseGnss 0x0A01 [1, 0, current])) ∧
    exec (.antennaOpen dt 0 false current) s = .next ((s.elapse dt).updGnss fun g => { g with a0Open := false })) ∧
  (∀ dt s a current, s.inTime dt → s.domain 10 = true → a ≤ 1 → 150000 < current → gSupply s.gnss.config a ≠ 0 →
    (if a = 0 then s.gnss.a0Fault else s.gnss.a1Fault) = false →
    exec (.antennaSupplyFault dt a current) s = .next (((s.elapse dt).updGnss fun g =>
      g.setFault a true (some (s.now + dt + 1000000000))).raiseGnss 0x0A01 [(a : Int), 1, (current : Int)])) ∧
  (∀ dt s a t, s.inTime dt → a ≤ 1 → (if a = 0 then s.gnss.a0Retry else s.gnss.a1Retry) = some t → t ≤ s.now + dt →
    exec (.antennaSupplyRetry dt a true) s =
      .next ((s.elapse dt).updGnss fun g => g.setFault a true (some (s.now + dt + 1000000000))) ∧
    exec (.antennaSupplyRetry dt a false) s = .next ((s.elapse dt).updGnss fun g => g.setFault a false none)) ∧
  (∀ dt s tp i, s.inTime dt → tp ≤ 1 → tpEnable (s.pulse tp).cfg = true →
    pulseInstant (s.pulse tp).cfg (s.time.mast + dt) = some i → (s.pulse tp).bound ≤ i →
    let u := (s.elapse dt).updPulse tp fun p => { p with bound := s.time.mast + dt + 1 }
    (pulseSuppressed s.gnss.timeState (tpGate (s.pulse tp).cfg) = true →
      exec (.timePulseStart dt tp) s = .next u) ∧
    (pulseSuppressed s.gnss.timeState (tpGate (s.pulse tp).cfg) = false →
      exec (.timePulseStart dt tp) s = .next
        ((u.updPulse tp fun q => { q with endAt := some (s.now + dt + tpWidth (s.pulse tp).cfg) }).emit
          (.pulse tp (!tpLow (s.pulse tp).cfg) (s.time.mast + dt))))) ∧
  (∀ dt s tp t, s.inTime dt → tp ≤ 1 → (s.pulse tp).endAt = some t → t ≤ s.now + dt →
    exec (.timePulseEnd dt tp) s = .next (((s.elapse dt).updPulse tp fun q => { q with endAt := none }).emit
      (.pulse tp (tpLow (s.pulse tp).cfg) (s.time.mast + dt))))

/-- Rules R354, R359, R360, R363, R372 (13): every epoch of a module whose D9 is on forms one record and one entry, of the
measurements of its channels, for the delivery stamp `OUTPUT_DELAY_MS` later; a watch burst forms none. At most 768 channels
are in use, in a burst at most `WATCH_CHANNELS`. Neither writes a lane's memory: the delivery with the earliest stamp does,
into its two ring entries alone.
Where its terms follow a choice of the model, log entries 15, 69 and 71 name it. -/
def Obligations.EpochsComplete : Prop :=
  (∀ dt s d e, s.inTime dt → s.domain 9 = true → (s.elapse dt).epochDue (gRate s.gnss.config) = some e →
    ∃ (t : State) (n : NavDelivery), exec (.gnssEpoch dt d) s = .next t.settle ∧ t.gnss.deliveries = s.gnss.deliveries ++ [n] ∧
      n.number = e * gRate s.gnss.config / 1000000000 % 4294967296 ∧
      n.count = (measured (s.elapse dt).allocateFull d.measurements).length ∧ n.entry.take 8 = putLE 8 e ∧
      n.entry.length = 32 + 32 * n.count ∧ t.gnss.channels.length ≤ 768 ∧
      n.mast = e + gDelay s.gnss.config ∧ n.record.bytes = t.gnss.last ∧ t.gnss.epochAt = some (e, s.now + dt) ∧
      t.time.mast = s.time.mast + dt ∧ t.mem = s.mem ∧ t.main.signals = s.main.signals ∧
      t.gnss.config = s.gnss.config) ∧
  (∀ dt s d e, s.inTime dt → s.domain 9 = false → s.domain 10 = true → (s.elapse dt).epochDue 1 = some e →
    ∃ t : State, exec (.watchBurst dt d) s = .next t.settle ∧ t.gnss.deliveries = s.gnss.deliveries ∧
      t.gnss.channels.length ≤ wChannels s.gnss.watch ∧
      t.gnss.epochAt = some (e, s.now + dt) ∧ t.time.mast = s.time.mast + dt ∧ t.mem = s.mem ∧
      t.gnss.config = s.gnss.config) ∧
  (∀ dt s n, s.inTime dt → s.domain 9 = true → firstDelivery s.gnss.deliveries = some n → n.due ≤ s.now + dt →
    let c := s.gnss.config
    let nav := u64 c 0x28 + n.number % u8 c 0x1F * 128
    let meas := u64 c 0x20 + n.number % u8 c 0x1E * 28672
    ∃ t, exec (.gnssDelivery dt) s = .next t ∧ t.gnss.deliveries = s.gnss.deliveries.erase n ∧ t.gnss.last = s.gnss.last ∧
      (s.domain 6 = true → n.record ∈ t.fus.poses) ∧
      (∀ l a, (u8 c 0x1F ≠ 0 → a < nav ∨ nav + n.record.bytes.length ≤ a) →
        (u8 c 0x1E ≠ 0 → a < meas ∨ meas + n.entry.length ≤ a) → t.dramRead l a 1 = s.dramRead l a 1))

/-- Rules R366, R368 (13): an epoch corrects Mast time only where it accepts an offset. A station on its master's time
accepts none; without a time solution none is accepted; and one that fails the clock check is not, until the last of its
consistent epochs. Accepting never moves Mast time on the epoch's own tick.
Where its terms follow a choice of the model, log entries 74 and 75 name it. -/
def Obligations.MastTimeIsCorrectedOnlyOnAcceptance : Prop :=
  ∀ (s : State) rate valid offset bound,
    let t := s.judgeTime rate valid offset bound
    let rem := offset + s.unapplied
    t.time.mast = s.time.mast ∧ t.time.gridShift = s.time.gridShift ∧ t.time.stepCount = s.time.stepCount ∧
    (s.time.timeFromMaster = true ∨ valid = false ∨
      (s.gnss.timeState ≠ 0 ∧ gClockTol s.gnss.config ≤ rem.natAbs ∧
        (s.gnss.countEpoch rem).acceptCount < gAcceptS s.gnss.config * rate) →
      t.time.pendingStep = s.time.pendingStep ∧ t.time.slewing = s.time.slewing ∧ t.gnss.slew = s.gnss.slew ∧
      t.time.noTime = s.time.noTime) ∧
    (s.time.timeFromMaster = false → valid = true → s.gnss.timeState ≠ 0 →
      gClockTol s.gnss.config ≤ rem.natAbs → (s.gnss.countEpoch rem).acceptCount < gAcceptS s.gnss.config * rate →
      t.gnss.timeState = 3 ∧ t.gnss.suspect = true) ∧
    (s.time.timeFromMaster = false → valid = true → s.gnss.timeState = 0 ∨ rem.natAbs < gClockTol s.gnss.config →
      t.gnss.timeState = 1 ∧ t.gnss.suspect = false ∧
      (1000 ≤ rem.natAbs → t.time.pendingStep = some ⟨-offset, s.nextSecond, none⟩))

/-- Rules R384, R386 to R391, R394 (14): what the immediate commands of the CAN ports and their events leave.
Where its terms follow a choice of the model, log entries 12, 15, 87, 109 and 112 name it. -/
def Obligations.CanCommandsComplete : Prop :=
  (∀ dt s r z, s.inTime dt → opCanRecover.Accepts (s.elapse dt) r z →
    let u := opCanRecover.noted (s.elapse dt) r z
    exec (.canRecover dt r) s = .next (opCanRecover.done r z []
      (u.updCan r.target fun c => if c.state = 4 then { c with state := 5, since := u.now } else c)).settle) ∧
  (∀ dt s r z, s.inTime dt → opCanGetStatus.Accepts (s.elapse dt) r z →
    let u := opCanGetStatus.noted (s.elapse dt) r z
    exec (.canGetStatus dt r) s = .next (opCanGetStatus.read r z (u.canPort r.target).status u).settle) ∧
  (∀ dt s r z, s.inTime dt → opCanClearCounters.Accepts (s.elapse dt) r z →
    exec (.canClearCounters dt r) s = .next (opCanClearCounters.done r z []
      ((opCanClearCounters.noted (s.elapse dt) r z).updCan r.target fun c =>
        { c with
          txFrames := 0
          rxFrames := 0
          rejected := 0
          overflow := 0
          refused := 0
          flushed := 0
          busOffs := 0
          errors := 0
          arbLost := 0
          maxLatency := 0 })).settle) ∧
  (∀ dt s p t rest, s.inTime dt → s.domain 12 = true → (s.canPort p).state = 2 → (s.canPort p).next = none →
    (s.canPort p).queue = t :: rest → t.at_ ≤ s.now + dt → (s.canPort p).tec ≤ 128 → (s.canPort p).rec_ ≤ 127 →
    exec (.canTxComplete dt p) s = .next (((s.elapse dt).updCan p fun c =>
      { c with
        queue := rest
        tec := c.tec - 1
        txFrames := sat32 c.txFrames 1
        maxLatency := min max32 (max c.maxLatency (s.now + dt - t.at_)) }).emit
      (.can p (frameBytes { t.frame with esi := false })))) ∧
  (∀ dt s p, s.inTime dt → s.domain 12 = true → p ≤ 11 → (s.canPort p).state = 3 → (s.canPort p).next = none →
    247 < (s.canPort p).tec →
    exec (.canBusError dt p .transmit) s = .next (((s.elapse dt).updCan p fun c =>
      { c with
        errors := sat32 c.errors 1
        arbLost := sat32 c.arbLost 0
        tec := c.tec + 8
        queue := []
        flushed := sat32 c.flushed c.queue.length
        state := 4
        since := s.now + dt
        busOffs := sat32 c.busOffs 1 }).raiseCan 0x0B01 p
      [((s.canPort p).tec + 8 : Int), ((s.canPort p).queue.length : Int)])) ∧
  (∀ dt s p, s.inTime dt → s.domain 12 = true → p ≤ 11 → (s.canPort p).state = 2 → (s.canPort p).tec ≤ 127 →
    (s.canPort p).rec_ ≤ 127 →
    exec (.canBusError dt p .arbitrationLost) s = .next ((s.elapse dt).updCan p fun c =>
      { c with errors := sat32 c.errors 0, arbLost := sat32 c.arbLost 1 })) ∧
  (∀ dt s p f k a, s.inTime dt → s.domain 12 = true → p ≤ 11 → (s.canPort p).state = 6 → (s.canPort p).next = none →
    (s.canPort p).judge f = (k, a) →
    let c := s.canPort p
    let u := s.elapse dt
    (a = 3 → exec (.canFrameReceived dt p f) s = .next (u.updCan p fun c => { c with rejected := sat32 c.rejected 1 })) ∧
    (a = 1 → exec (.canFrameReceived dt p f) s = .next
      (((u.updCan p fun c => { c with rxFrames := sat32 c.rxFrames 1, rx0 := (c.rx0 + 1) % 4294967296 }).fanWrite
        (cRxBase c.cfg + c.rx0 % 128 * 96) (rxEntry f u.time.mast k c.rx0)).publishMast (0x7100 + p)
        ((c.rx0 + 1) % 4294967296) u.time.mast (u.grid + 500) true)) ∧
    (a = 2 → exec (.canFrameReceived dt p f) s = .next
      (((u.updCan p fun c => { c with rxFrames := sat32 c.rxFrames 1, rx1 := (c.rx1 + 1) % 4294967296 }).fanWrite
        (cRxBase c.cfg + 12288 + c.rx1 % 128 * 96) (rxEntry f u.time.mast k c.rx1)).publishMast (0x7200 + p)
        ((c.rx1 + 1) % 4294967296) u.time.mast (u.grid + 500) true))) ∧
  (∀ dt s p, s.inTime dt → s.domain 12 = true → (s.canPort p).state = 5 →
    2 * (s.canPort p).since + 1408 * nomBit2 (s.canPort p).cfg ≤ 2 * (s.now + dt) →
    exec (.busRecovered dt p) s = .next (((s.elapse dt).updCan p fun c =>
      { c with state := 2, tec := 0, rec_ := 0, since := s.now + dt }).raiseCan 0x0B02 p
        [((s.now + dt - (s.canPort p).since) / 1000 : Nat)])) ∧
  (∀ dt s p, s.inTime dt → s.domain 12 = true → (s.canPort p).state = 7 →
    (s.canPort p).since + cDwell (s.canPort p).cfg ≤ s.now + dt →
    exec (.detectDwellExpiry dt p) s = .next ((s.elapse dt).updCan p fun c =>
      { c with candidate := nextCandidate (cCandidates c.cfg) c.candidate, good := 0, since := s.now + dt })) ∧
  (∀ dt s p, s.inTime dt → s.domain 12 = true → (s.canPort p).state = 1 →
    2 * (s.canPort p).since + 11 * nomBit2 (s.canPort p).cfg ≤ 2 * (s.now + dt) →
    exec (.canIntegrationComplete dt p) s =
      .next ((s.elapse dt).updCan p fun c => { c with state := 2, since := s.now + dt })) ∧
  (∀ dt s, s.inTime dt → s.domain 12 = true → (s.elapse dt).grid % 100000 = 0 → (s.elapse dt).majorDue = false →
    exec (.canStatusProduce dt) s = .next ((upto 12).foldl (fun t p =>
      let c := s.canPort p
      t.publish (0x7300 + p) (c.state + 256 * min 255 c.tec + 65536 * c.rec_ + 16777216 * c.queue.length)
        (s.elapse dt).grid ((s.elapse dt).grid + 500)) (s.elapse dt)))

/-- Rule R389 (14): a port that is bus-off leaves it only on an executed `CAN_RECOVER`: nothing on the bus, no timer and no
transmit item leads it back, and nothing enters its transmit queue.
Where its terms follow a choice of the model, log entries 87 and 88 name it. -/
def Obligations.NoEventLeavesBusOff : Prop :=
  ∀ (s : State) p, (s.canPort p).state = 4 → (s.canPort p).next = none →
    (∀ c : Instr, (∃ dt q, c = .canTxComplete dt q) ∨ (∃ dt q e, c = .canBusError dt q e) ∨
        (∃ dt q f, c = .canFrameReceived dt q f) ∨ (∃ dt q, c = .busRecovered dt q) ∨
        (∃ dt q, c = .detectDwellExpiry dt q) ∨ (∃ dt q, c = .canIntegrationComplete dt q) ∨
        (∃ dt, c = .canStatusProduce dt) →
      ∀ t, exec c s = .next t → t.canPort p = s.canPort p) ∧
    (∀ q item c, ((s.takeCan q item c).canPort p).state = 4 ∧ ((s.takeCan q item c).canPort p).queue = (s.canPort p).queue) ∧
    (∀ x busy now, cMode x = 1 → ((s.canPort p).setPort x busy now).state = 4)

/-- Rule R386 (14): the first filter, in ascending order, whose `ACTION` is not 0 and that matches the key of the frame
decides; with none, the frame goes where `DEFAULT_RXQ1` says. -/
def Obligations.TheFirstMatchingFilterDecides : Prop :=
  ∀ (c : CanPort) (f : CanFrame),
    let entry (i : Nat) : Bytes := Tbl.getD c.filters i (zeros 16)
    (∀ i, i < 64 → filterMatches (frameKey f) (entry i) = true →
      (∀ j, j < i → filterMatches (frameKey f) (entry j) = false) → c.judge f = (i, u8 (entry i) 8)) ∧
    ((∀ i, i < 64 → filterMatches (frameKey f) (entry i) = false) →
      c.judge f = (255, if cDefault c.cfg then 2 else 3)) ∧
    ∀ key e, filterMatches key e = true ↔
      u8 e 8 ≠ 0 ∧ ∀ i, i < 31 → (u32 e 4).testBit i = true → key.testBit i = (u32 e 0).testBit i

/-- Rules R404 to R408, R410, R411, R420, R421 (15): what the immediate commands of the Stay block and the events of its
time, its master and its links leave.
Where its terms follow a choice of the model, log entries 12, 15, 21, 89, 91, 92, 94, 97, 109 and 119 name it. -/
def Obligations.StayCommandsComplete : Prop :=
  (∀ dt s r z, s.inTime dt → opStayGetStatus.Accepts (s.elapse dt) r z →
    let u := opStayGetStatus.noted (s.elapse dt) r z
    exec (.stayGetStatus dt r) s = .next (opStayGetStatus.read r z (stayStatus u) u).settle) ∧
  (∀ dt s r z, s.inTime dt → opStayGetStation.Accepts (s.elapse dt) r z →
    let u := opStayGetStation.noted (s.elapse dt) r z
    exec (.stayGetStation dt r) s =
      .next (opStayGetStation.read r z (Tbl.getD u.stay.stations r.target {}).bytes u).settle) ∧
  (∀ dt s r z, s.inTime dt → opStayClearCounters.Accepts (s.elapse dt) r z →
    let u := opStayClearCounters.noted (s.elapse dt) r z
    exec (.stayClearCounters dt r) s = .next (opStayClearCounters.done r z []
      { u with
        stay := { u.stay with exports := 0, departedDiscards := 0, staleDiscards := 0, foreignFrames := 0 }
        eths := u.eths.map fun e => (e.1, { e.2 with
          rxFrames := 0
          txFrames := 0
          rxDiscards := 0
          halyardRx := 0
          noPeer := 0
          announces := 0 }) }).settle) ∧
  (∀ dt s, s.inTime dt → s.domain 13 = true → s.stay.membership = 3 → (s.elapse dt).grid % 1000000 = 0 →
    exec (.timeFrameSend dt) s = .next (((upto 4).filter fun p => treePort s.cascade p).foldl
      (fun t p => t.stayOut p true (stayPayload 3 t.sys.station 0 true 0 0 (timeBody t p))) (s.elapse dt))) ∧
  (∀ dt s x, s.inTime dt → s.stay.step = some x → s.stay.adopt = none → x.due ≤ s.now + dt →
    exec (.listenerTimeStep dt) s = .next
      (({ (s.elapse dt) with
          stay := { s.stay with step := none }
          time := { (s.elapse dt).time with
            mast := (((s.elapse dt).time.mast : Int) + x.delta).toNat
            gridShift := x.shift
            stepCount := x.count
            lastStep := x.delta
            timeStep := true } } : State).raise 0x0201 8 255 (putS 8 x.delta ++ putLE 4 x.count))) ∧
  (∀ dt s x, s.inTime dt → s.stay.adopt = some x → x.due ≤ s.now + dt →
    exec (.gridShiftAdopt dt) s = .next
      (({ (s.elapse dt) with
          stay := { s.stay with adopt := none, stepSkew := false }
          time := { (s.elapse dt).time with
            mast := (((s.elapse dt).time.mast : Int) + x.delta).toNat
            gridShift := s.time.gridShift + x.delta
            stepCount := x.count
            lastStep := x.delta
            timeStep := true } } : State).raise 0x0201 8 255 (putS 8 x.delta ++ putLE 4 x.count))) ∧
  (∀ dt s p, s.inTime dt → s.domain 13 = true → (s.stayPort p).up = true → (s.stayPort p).askAt ≤ s.now + dt →
    let u := s.elapse dt
    exec (.peerDelayRequest dt p) s = .next
      ((u.stayOut p true (stayPayload 6 s.sys.station 0 true 0 0 (zeros 24))).updStayPort p fun x =>
        { x with asked := some (u.time.mast + u.stayWait p true / 10), askAt := u.now + 1000000000 })) ∧
  (∀ dt s tick, s.inTime dt → s.domain 13 = true → s.inCascade = true → s.stay.membership = 1 →
    s.stay.following = false → cascadeMaster s.cascade = s.sys.station → s.stay.linkAt = some tick →
    tick + 10000000 ≤ s.now + dt →
    ∃ t, exec (.masterElectionTimeout dt) s = .next t ∧ t.stay.membership = 3 ∧ t.stay.rank = 0 ∧
      t.stay.master = s.sys.station ∧ t.time.timeFromMaster = false) ∧
  (∀ dt s, s.inTime dt → s.domain 13 = true → s.stay.following = true → s.stay.masterLost = false →
    s.stay.membership ≠ 3 → s.stay.frameAt + 3000000 ≤ s.now + dt →
    exec (.masterLost dt) s = .next
      (({ (s.elapse dt) with
          stay := { s.stay with masterLost := true, lostBounds := 0, synced := false, syncRun := 0 }
          time := { (s.elapse dt).time with holdover := true } } : State).raiseStay 0x0C04 255 [(s.stay.master : Int)])) ∧
  (∀ dt s, s.inTime dt → s.domain 13 = true → s.inCascade = true → (s.elapse dt).grid % s.majorLen = 5000 →
    s.stay.rank ≠ 255 →
    let u := s.elapse dt
    let body := putLE 1 (if s.stay.membership = 1 then 1 else 2) ++
      putLE 1 (packFlags [s.stay.synced, s.lanesDown, cascadeAutoJoin s.cascade]) ++ zeros 2 ++ putLE 4 u.major ++
      putLE 8 (cascadeId s.cascade) ++ putLE 8 s.sched.image.imageId
    exec (.beaconSend dt) s = .next (if s.stay.master = s.sys.station then u.takeBeacon s.sys.station body
      else u.stayUnicast s.stay.master (stayPayload 4 s.sys.station s.stay.master false 0 0 body))) ∧
  (∀ dt s (f : ControlFrame), s.inTime dt → s.domain 13 = true → s.inCascade = true → s.stay.following = true →
    f.source = s.stay.master → f.body.length = 8 → (u8 f.body 0 = 1 ∨ u8 f.body 0 = 2) →
    let u := s.elapse dt
    let first := u.grid / s.majorLen + (if u.majorDue then 0 else 1)
    let d := wrapDiff (u32 f.body 4) (first % 4294967296)
    let change (ahead : Nat) : Change :=
      ⟨u8 f.body 0 == 1, u8 f.body 1, u16 f.body 2 % 4096, u32 f.body 4, (first + ahead) * s.majorLen⟩
    let staged (ahead : Nat) := u.updStay fun x => { x with changes := x.changes ++ [change ahead] }
    exec (.controlFrameReceived dt f) s = .next (if d ≤ 2147483647 then staged d
      else (staged 0).raiseStay 0x0C08 255 [((u16 f.body 2 % 4096 : Nat) : Int), toSigned 32 (u32 f.body 4)])) ∧
  (∀ dt s p, s.inTime dt → s.domain 13 = true → s.inCascade = true → portEnabled s.cascade p = true →
    ((s.stayPort p).up = false → exec (.stayLinkChange dt p true) s = .next
      ((((s.elapse dt).updStayPort p fun _ => { up := true, askAt := s.now + dt }).updStay fun x =>
        { x with linkAt := some (x.linkAt.getD (s.now + dt)) }).raiseStay 0x0C02 p [8, (p : Int), 0])) ∧
    ((s.stayPort p).up = true → exec (.stayLinkChange dt p false) s = .next
      (((s.elapse dt).updStayPort p fun _ => {}).raiseStay 0x0C01 p [8, (p : Int)])))

/-- Rules R397, R398, R402, R405, R408, R413 (15): what a Stay frame leaves: one that is not in order, one of a station that has
left, a signal, a frame on its way to another station, and a time frame of the master followed or of another.
Where its terms follow a choice of the model, log entries 13, 15, 91, 94, 95, 96 and 112 name it. -/
def Obligations.StayFramesComplete : Prop :=
  (∀ dt s p (f : StayFrame), s.inTime dt → s.domain 13 = true → s.inCascade = true → (s.stayPort p).up = true → p ≤ 3 →
    (s.stayPort p).neighbour.isSome = true →
    let u := s.elapse dt
    let q := f.payload
    let dest := u16 q 4 % 4096
    (stayFrameOk f = false → exec (.stayFrameReceived dt p f) s =
      .next (u.updStay fun x => { x with rxDiscards := sat32 x.rxDiscards 1 }).settle) ∧
    (stayFrameOk f = true → u8 q 1 ≠ 6 → flagAt q 5 4 = false → dest = s.sys.station →
      exec (.stayFrameReceived dt p f) s = .next (u.takeStay p q).settle) ∧
    (stayFrameOk f = true → u8 q 1 ≠ 6 → u8 q 1 ≠ 3 → flagAt q 5 4 = false → dest ≠ s.sys.station →
      exec (.stayFrameReceived dt p f) s = .next
        (if 31 ≤ u8 q 6 ∨ 3 < route s.cascade dest then u.updStay fun x => { x with rxDiscards := sat32 x.rxDiscards 1 }
         else u.stayOut (route s.cascade dest) false (setBytes q 6 (putLE 1 (u8 q 6 + 1)))).settle)) ∧
  (∀ (s : State) p (q : Bytes), u8 q 1 = 1 →
    let source := u16 q 2 % 4096
    let body := (q.drop 16).take (u16 q 12)
    let id := u32 body 0 % 33554432
    let d (last : Nat) := wrapDiff (u32 q 8) last
    (∀ b, Tbl.find s.stay.departed source = some b → b + (s.recv (recvKey 8 p)).windowNs < s.grid →
      s.takeStay p q = s.updStay fun x => { x with departedDiscards := sat32 x.departedDiscards 1 }) ∧
    ((∀ b, Tbl.find s.stay.departed source = some b → s.grid ≤ b + (s.recv (recvKey 8 p)).windowNs) →
      (s.sched.image.signals.any (fun x => x.id == id && x.source == 4)) = true →
      (u32 q 8 ≠ 0 → (∃ last, Tbl.find s.stay.importSeq id = some last ∧ ¬(1 ≤ d last ∧ d last ≤ 1048576)) →
        s.takeStay p q = s.updStay fun x => { x with staleDiscards := sat32 x.staleDiscards 1 }) ∧
      (u32 q 8 = 0 ∨ (∀ last, Tbl.find s.stay.importSeq id = some last → 1 ≤ d last ∧ d last ≤ 1048576) →
        s.takeStay p q = (s.updStay fun x => { x with importSeq := Tbl.put x.importSeq id (u32 q 8) }).updLanes fun a =>
          if a.running then { a with
            deliveries := a.deliveries ++ [⟨visibleSlot (s.grid + 200), id, leNat ((body.drop 16).take 16), u64 body 8,
              s.tickOf (u64 body 8), flagAt body 4 0, some (u32 body 0x20, flagAt body 4 3, flagAt body 4 4)⟩] } else a))) ∧
  (∀ dt s p (f : TimeFrame), s.inTime dt → s.domain 13 = true → s.inCascade = true → (s.stayPort p).up = true →
    f.body.length = 40 → (s.stay.membership = 1 ∨ s.stay.membership = 2) → s.stay.following = true →
    s.stay.masterLost = false →
    let b := f.body
    let u := s.elapse dt
    let o := (((u.time.mast : Int) - u64 b 0) * 65536 - s64 b 8) / 65536 - s.linkDelay p
    (tMaster b = s.stay.master → route s.cascade s.stay.master = p → tStep b = s.time.stepCount → o.natAbs < 1000 →
      let run := if o.natAbs < 200 then s.stay.syncRun + 1 else 0
      exec (.timeFrameReceived dt p f) s = .next { u with
        stay := { s.stay with
          lostBounds := 0
          rank := tRank b
          hops := min 31 (f.hops + 1)
          frameAt := s.now + dt
          stepSkew := false
          adopt := none
          offset := satS 32 o
          syncRun := run
          synced := s.stay.synced || decide (10 ≤ run) }
        time := { u.time with
          uncertainty := u32 b 0x18
          leapSeconds := u8 b 0x21
          holdover := flagAt b 0x20 0
          leapValid := flagAt b 0x20 3
          noTime := flagAt b 0x20 7
          timeFromMaster := true
          slewing := o != 0 } }) ∧
    (tMaster b = s.stay.master → route s.cascade s.stay.master = p → tStep b = s.time.stepCount → 1000 ≤ o.natAbs →
      ∃ t, exec (.timeFrameReceived dt p f) s = .next t ∧ t.stay.membership = 1 ∧ t.stay.synced = false ∧
        (s.stay.membership = 1 → t.stay.step = some ⟨-o, tShift b, tStep b, u.now + (u.slotEnd - u.grid)⟩)) ∧
    (tMaster b ≠ s.stay.master → s.stay.foreignSeen = true → exec (.timeFrameReceived dt p f) s =
      .next (u.updStay fun x => { x with foreignFrames := sat32 x.foreignFrames 1 })) ∧
    (tMaster b ≠ s.stay.master → s.stay.foreignSeen = false → exec (.timeFrameReceived dt p f) s =
      .next ((u.updStay fun x => { x with foreignFrames := sat32 x.foreignFrames 1, foreignSeen := true }).raiseStay
        0x0C09 255 [(tMaster b : Int), (tRank b : Int)])))

/-- Rules R405, R407, R411, R413 (15): no Stay frame makes a station a member. An event on the Stay links changes a membership in two
ways only: a member that meets `SYNC_LOST` becomes a listener, and the designated master becomes master. A join that a frame
names waits for its boundary. Of a whole frame this is said before the commands are run that its receivers then take.
Where its terms follow a choice of the model, log entries 15, 21, 89, 91, 94, 96 and 97 name it. -/
def Obligations.NoFrameMakesAMember : Prop :=
  ∀ (s : State),
    let kept (t : State) : Prop :=
      t.stay.membership = s.stay.membership ∨ (s.stay.membership = 2 ∧ t.stay.membership = 1) ∨
        (s.stay.membership = 1 ∧ t.stay.membership = 3 ∧ cascadeMaster s.cascade = s.sys.station)
    (∀ (t : State) (c : Instr),
      ((∃ dt p f, c = .timeFrameReceived dt p f) ∨
        (∃ dt f, c = .controlFrameReceived dt f) ∨ (∃ dt, c = .beaconSend dt) ∨ (∃ dt, c = .timeFrameSend dt) ∨
        (∃ dt p, c = .peerDelayRequest dt p) ∨ (∃ dt, c = .listenerTimeStep dt) ∨ (∃ dt, c = .gridShiftAdopt dt) ∨
        (∃ dt, c = .masterLost dt) ∨ (∃ dt, c = .masterElectionTimeout dt) ∨ (∃ dt p up, c = .stayLinkChange dt p up)) →
      exec c s = .next t → kept t) ∧
    (∀ dt p f, s.inTime dt → ∃ t : State, exec (.stayFrameReceived dt p f) s = .next t.settle ∧ kept t)

/-- Rules R416 to R418, R420, R421 (15): what the commands and events of the Ethernet ports leave.
Where its terms follow a choice of the model, log entries 15, 22, 95, 96, 97 and 112 name it. -/
def Obligations.EthernetCommandsComplete : Prop :=
  (∀ dt s r z, s.inTime dt → opEthGetStatus.Accepts (s.elapse dt) r z →
    let u := opEthGetStatus.noted (s.elapse dt) r z
    exec (.ethGetStatus dt r) s = .next (opEthGetStatus.read r z (u.eth r.target).status u).settle) ∧
  (∀ dt s p (f : EthFrame), s.inTime dt → s.domain 13 = true → (s.eth p).up = true → p ≤ 3 →
    let e := s.eth p
    let u := (s.elapse dt).updEth p fun x => { x with rxFrames := sat32 x.rxFrames 1 }
    let discarded := u.updEth p fun x => { x with rxDiscards := sat32 x.rxDiscards 1 }
    ((f.body = .fragment ∨ f.body = .other ∨ tagFits e.cfg f = false) →
      exec (.ethFrameReceived dt p f) s = .next discarded.settle) ∧
    (tagFits e.cfg f = true →
      (∀ target sender, f.body = .arpRequest target sender → exec (.ethFrameReceived dt p f) s = .next
        (if target = eAddress e.cfg then u.ethOut p (.eth p 0 (putLE 4 (eAddress e.cfg) ++ putLE 4 sender))
         else discarded).settle) ∧
      (∀ dst src data, f.body = .echoRequest dst src data → exec (.ethFrameReceived dt p f) s = .next
        (if dst = eAddress e.cfg then u.ethOut p (.eth p 1 (putLE 4 (eAddress e.cfg) ++ putLE 4 src ++ data))
         else discarded).settle) ∧
      (∀ dst src sport data, f.body = .udp dst 50417 src sport data → exec (.ethFrameReceived dt p f) s = .next
        (if dst = eAddress e.cfg then
          (u.updEth p fun x => { x with halyardRx := sat32 x.halyardRx 1 }).unitArrival (.eth p src sport) data
         else discarded).settle) ∧
      (f.body = .announce → eGptp e.cfg = true → exec (.ethFrameReceived dt p f) s = .next
        (let v := u.updEth p fun x => { x with announces := sat32 x.announces 1, foreignSeen := true };
         if e.foreignSeen then v else v.raiseEth 0x0C0A p [(p : Int)]).settle))) ∧
  (∀ dt s p, s.inTime dt → s.domain 13 = true → p ≤ 3 → (s.eth p).up = true → eGptp (s.eth p).cfg = true →
    (s.eth p).syncAt ≤ s.now + dt → (s.eth p).syncs % 8 ≠ 0 →
    let n := putLE 2 (s.eth p).syncs
    let u := s.elapse dt
    exec (.gptpSyncSend dt p) s = .next
      (((u.ethOut p (.eth p 2 n)).ethOut p (.eth p 3 (n ++ putLE 6 (u.time.mast / 1000000000 + 315964819) ++
        putLE 4 (u.time.mast % 1000000000)))).updEth p fun x =>
          { x with syncs := x.syncs + 1, syncAt := x.syncAt + 125000000 })) ∧
  (∀ dt s p, s.inTime dt → s.domain 13 = true → p ≤ 4 → (p = 4 ∨ eEnable (s.eth p).cfg = true) →
    ((s.eth p).up = false → exec (.ethLinkChange dt p true) s = .next
      (((s.elapse dt).updEth p fun x => { x with up := true, foreignSeen := false, syncAt := s.now + dt }).raiseEth 0x0C02 p
        [9, (p : Int), meanDelay (s.eth p).delays])) ∧
    ((s.eth p).up = true → exec (.ethLinkChange dt p false) s = .next
      (((s.elapse dt).updEth p fun x => { x with up := false, asked := none, delays := [] }).raiseEth 0x0C01 p
        [9, (p : Int)])))

/-- Rules R425 to R429, R431, R433 to R436, R438, R439 (16): what the immediate memory commands leave, a patrol read of the shared
SRAM, and the end of a fill, with the release of a lane that waits for it.
Where its terms follow a choice of the model, log entries 9, 15, 39, 42, 43, 47, 107 and 112 name it. -/
def Obligations.MemoryCommandsComplete : Prop :=
  (∀ dt s r z, s.inTime dt → opMemGetStatus.Accepts (s.elapse dt) r z →
    let u := opMemGetStatus.noted (s.elapse dt) r z
    exec (.memGetStatus dt r) s = .next (opMemGetStatus.read r z (memStatus u r.target) u).settle) ∧
  (∀ dt s r z, s.inTime dt → opMemClearLog.Accepts (s.elapse dt) r z →
    exec (.memClearLog dt r) s = .next (opMemClearLog.done r z []
      ((opMemClearLog.noted (s.elapse dt) r z).updMem r.target fun m =>
        { m with
          table := []
          fullNoted := false
          corrected := 0
          uncorrectable := 0
          overflows := 0
          passes := 0 })).settle) ∧
  (∀ dt s r z, s.inTime dt → opMemRewrite.Accepts (s.elapse dt) r z →
    let u := opMemRewrite.noted (s.elapse dt) r z
    let a := u64 r.payload 0
    let code (i : Nat) := (u.memc r.target).code r.target (a + i)
    ((∀ i, i < 16 → decodeByte (code i) ≠ .uncorrectable) →
      exec (.memRewrite dt r) s = .next (opMemRewrite.done r z []
        (u.updMem r.target fun m =>
          (upto 16).foldl (fun m i => m.store (a + i) (encodeByte (deliveredData (code i)))) m)).settle) ∧
    ((∃ i, i < 16 ∧ decodeByte (code i) = .uncorrectable) → ∃ t, exec (.memRewrite dt r) s = .next
      (t.answer 0x0D05 r 0x40 z.number []).settle ∧
      t = (((upto 16).filter fun i => decodeByte (code i) == .uncorrectable).map (a + ·)).foldl
        (fun t b => t.noteUncorrectable r.target b 2) u)) ∧
  (∀ dt s r z, s.inTime dt → opMemTestWrite.Accepts (s.elapse dt) r z →
    let p := r.payload
    let a := u64 p 8
    let given (i : Nat) := givenCode ((p.drop 16).take 16) ((p.drop 32).take 10) i
    exec (.memTestWrite dt r) s = .next (opMemTestWrite.done r z []
      ((opMemTestWrite.noted (s.elapse dt) r z).updMem r.target fun m =>
        if flagAt p 0 0 then (upto 16).foldl (fun m i => m.store (a + i) (given i)) m
        else (upto 16).foldl (fun m i => { m with test := m.test.put (a + i) (given i) }) m)).settle) ∧
  (∀ dt s r z, s.inTime dt → opMemTestRead.Accepts (s.elapse dt) r z →
    let u := opMemTestRead.noted (s.elapse dt) r z
    exec (.memTestRead dt r) s = .next (opMemTestRead.read r z
      (testReply ((upto 16).map fun i => (u.memc r.target).testCode r.target (u64 r.payload 0 + i))) u).settle) ∧
  (∀ dt s, s.inTime dt → s.domain 0 = true → (s.memc 5).patrolDue ≤ s.now + dt →
    let m := s.memc 5
    let u := (s.elapse dt).updMem 5 fun m => { m with patrolDue := s.now + dt + 1000000000 }
    let found (t : State) : State := t.updMem 5 fun m => { m with found := sat32 m.found 1 }
    exec (.sramPatrol dt ⟨5, [], []⟩) s = .next u ∧
    (s.xt.stopped = false →
      (∀ a code p, decodeByte code = .corrected p →
        let counted := u.updMem 5 fun m => { m with corrected := sat32 m.corrected 1 }
        (m.isQuiet 5 a = true → exec (.sramPatrol dt ⟨5, [(a, code)], []⟩) s = .next (found counted)) ∧
        (m.isQuiet 5 a = false → m.table.any (fun e => e.word == a / 16 * 16 && e.byte == a % 16) = false →
          m.table.length < 32 → exec (.sramPatrol dt ⟨5, [(a, code)], []⟩) s =
            .next (found ((counted.updMem 5 fun m => { m with
              table := m.table ++ [⟨a / 16 * 16, u.time.mast, u.time.mast, 1, a % 16, p, true⟩] }).raise 0x0D01 11 5
                (memDetails 5 (a / 16 * 16) (a % 16) p))))) ∧
      (∀ a code, decodeByte code = .uncorrectable → exec (.sramPatrol dt ⟨5, [(a, code)], []⟩) s = .next
        ((u.updMem 5 fun m => { m with uncorrectable := sat32 m.uncorrectable 1 }).raise 0x0D02 11 5
          (memDetails 5 (a / 16 * 16) (a % 16) 1))) ∧
      (∀ a code x, decodeByte code = .uncorrectable → exec (.sramPatrol dt ⟨5, [], [(a, code, x)]⟩) s = .next
        (((((s.elapse dt).updMem 5 fun m => { m with uncorrectable := sat32 m.uncorrectable 1 }).raise 0x0D02 11 5
          (memDetails 5 (a / 16 * 16) (a % 16) 4)).dropShared x).updMem 5 fun m =>
            { m with patrolDue := s.now + dt + 1000000000 })))) ∧
  (∀ dt s c since, s.inTime dt → (s.memc c).fillFrom = some since → s.domain (memDomainOf c) = true → s.xt.stopped = false →
    let t := ((s.elapse dt).updMem c fun m =>
      { m with cells := [], filled := true, grounds := [], fillFrom := none }).raise 0x0D05 11 c
        (details [(c : Int), ((s.now + dt - since + 999999) / 1000000 : Nat)])
    ((∀ l, memLane c = some l → (s.xtLane l).filling = false) → exec (.memFillDone dt c) s = .next t.settle) ∧
    (∀ l, c < 2 → memLane c = some l → (s.xtLane l).filling = true → (s.xtLane l).hold.isSome = true →
      s.domain (coreDomain l) = true → exec (.memFillDone dt c) s = .next (t.release l).settle))

/-- Rules R424 to R426 (16): a run of bytes written to a memory reads back byte for byte and leaves every other address as it
was; and of every byte so stored, any one of the 13 bits may turn over and the data still comes back, reported as a correction at
the position of that bit, while any two bits that turn over are found uncorrectable. Any 13 stored
bits decode by their syndrome and parity as Table 16-3 gives. -/
def Obligations.TheCodeCorrectsOneBitAndDetectsTwo : Prop :=
  ∀ (m : MemCtrl) (c a : Nat) (data : Bytes),
    let after := m.write a data
    (∀ i, i < data.length → ∀ d, data[i]? = some d →
      let stored := after.code c (a + i)
      let flip (k : Nat) : BitVec 13 := BitVec.ofNat 13 (2 ^ k)
      decodeByte stored = .good ∧ deliveredData stored = d ∧
      (∀ k, k < 13 → deliveredData (stored ^^^ flip k) = d ∧
        ∃ p, decodeByte (stored ^^^ flip k) = .corrected p ∧
          p = ([3, 5, 6, 7, 9, 10, 11, 12, 1, 2, 4, 8, 0][k]?).getD 0) ∧
      (∀ k l, k < 13 → l < 13 → k ≠ l → decodeByte (stored ^^^ flip k ^^^ flip l) = .uncorrectable)) ∧
    (∀ b, b < a ∨ a + data.length ≤ b → after.code c b = m.code c b) ∧
    (∀ stored : BitVec 13,
      let d (i : Nat) := stored.getLsbD i
      let x0 := d 0 ^^ d 1 ^^ d 3 ^^ d 4 ^^ d 6 ^^ d 8
      let x1 := d 0 ^^ d 2 ^^ d 3 ^^ d 5 ^^ d 6 ^^ d 9
      let x2 := d 1 ^^ d 2 ^^ d 3 ^^ d 7 ^^ d 10
      let x3 := d 4 ^^ d 5 ^^ d 6 ^^ d 7 ^^ d 11
      let s := b2n x0 + 2 * b2n x1 + 4 * b2n x2 + 8 * b2n x3
      let odd := d 0 ^^ d 1 ^^ d 2 ^^ d 3 ^^ d 4 ^^ d 5 ^^ d 6 ^^ d 7 ^^ d 8 ^^ d 9 ^^ d 10 ^^ d 11 ^^ d 12
      (s = 0 → odd = false → decodeByte stored = .good) ∧
      (s ≤ 12 → odd = true → decodeByte stored = .corrected s ∧ deliveredData stored = match dataBit s with
        | some i => codeData stored ^^^ BitVec.ofNat 8 (2 ^ i)
        | none => codeData stored) ∧
      (13 ≤ s → odd = true → decodeByte stored = .uncorrectable) ∧
      (1 ≤ s → odd = false → decodeByte stored = .uncorrectable ∧ deliveredData stored = codeData stored))

/-- Rules R445 to R447, R450, R452 to R455, R459, R460 (17): what the immediate commands of the recorder and its events leave.
Where its terms follow a choice of the model, log entries 8, 13, 15, 17, 100 and 112 name it. -/
def Obligations.RecorderCommandsComplete : Prop :=
  (∀ dt s r z, s.inTime dt → opRecRead.Accepts (s.elapse dt) r z →
    let u := opRecRead.noted (s.elapse dt) r z
    let st := u.rec_.storeOf (u8 r.payload 4)
    exec (.recRead dt r) s = .next (opRecRead.read r z
      (readReply st.1 st.2.1 st.2.2 (u32 r.payload 0) (u8 r.payload 5)) u).settle) ∧
  (∀ dt s r z, s.inTime dt → opRecReadTrouble.Accepts (s.elapse dt) r z →
    let u := opRecReadTrouble.noted (s.elapse dt) r z
    let l : Lane := if r.target = 0 then .main else .mizzen
    let a := u.lane l
    exec (.recReadTrouble dt r) s = .next (if u.computes l then
      opRecReadTrouble.read r z (readReply (a.trouble.map fun t => (t.entry, t.bytes))
        (wrapDiff a.troubleNext a.trouble.length) a.troubleNext (u32 r.payload 0) (u8 r.payload 5)) u
      else opRecReadTrouble.reply r z 0x42 [] u).settle) ∧
  (∀ dt s r z, s.inTime dt → opRecGetStatus.Accepts (s.elapse dt) r z →
    let u := opRecGetStatus.noted (s.elapse dt) r z
    let x := u.rec_
    let left := match x.frozen with
      | some due => (due - u.now + 999999) / 1000000
      | none => 0
    exec (.recGetStatus dt r) s = .next (opRecGetStatus.read r z
      (putLE 1 (b2n x.frozen.isSome) ++ zeros 1 ++ putLE 2 x.held ++ putLE 4 left ++ putLE 4 x.eventOldest ++
        putLE 4 x.next ++ putLE 4 (wrapDiff x.changeNext x.change.length) ++ putLE 4 x.changeNext ++
        putLE 4 (min x.clears max32) ++ putLE 4 x.suppressed) u).settle) ∧
  (∀ dt s r z, s.inTime dt → opRecFreeze.Accepts (s.elapse dt) r z →
    let u := opRecFreeze.noted (s.elapse dt) r z
    exec (.recFreeze dt r) s = .next (opRecFreeze.done r z []
      { u with rec_ := { u.rec_ with frozen := some (u.now + u32 r.payload 0 * 1000000) } }).settle) ∧
  (∀ dt s r z, s.inTime dt → opRecUnfreeze.Accepts (s.elapse dt) r z →
    let u := opRecUnfreeze.noted (s.elapse dt) r z
    exec (.recUnfreeze dt r) s = .next (if u.rec_.frozen.isSome then opRecUnfreeze.done r z [] (u.endFreeze false)
      else u.answer 0x0E05 r 0x41 z.number []).settle) ∧
  (∀ dt s r z, s.inTime dt → opRecClear.Accepts (s.elapse dt) r z →
    let u := opRecClear.noted (s.elapse dt) r z
    let x := u.rec_
    let e : Event := ⟨0x0E01, 0x13, u.time.mast, u.time.stepCount, 255,
      fitTo 32 (putLE 4 x.store.length ++ putLE 4 r.origin ++ putLE 4 r.sequence)⟩
    let c : EventRec := ⟨x.next, e, u.time.noTime || !u.time.leapValid, false, true, utcFields u.time u.time.mast⟩
    exec (.recClear dt r) s = .next (if x.frozen.isSome then u.answer 0x0E06 r 0x40 z.number []
      else opRecClear.done r z [] { u with rec_ := { x with
        store := [c]
        next := (x.next + 1) % 4294967296
        history := (x.history ++ [c.bytes]).drop (x.history.length + 1 - 64)
        clears := sat32 x.clears 1 } }).settle) ∧
  (∀ dt s r z, s.inTime dt → opRecGetRate.Accepts (s.elapse dt) r z →
    let u := opRecGetRate.noted (s.elapse dt) r z
    let b := u.bucket (u16 r.payload 0)
    let next := match b.due with
      | some d => u.time.mast + (d - u.now)
      | none => 0
    exec (.recGetRate dt r) s = .next (opRecGetRate.read r z
      (putLE 1 b.capacity ++ putLE 1 b.tokens ++ putLE 2 b.refillMs ++ putLE 4 b.suppressed ++ putLE 8 b.first ++
        putLE 8 b.last ++ putLE 8 next) u).settle) ∧
  (∀ dt s e rest, s.inTime dt → s.rec_.arriving = e :: rest → s.domain 14 = true → isOwnCode e.code = false →
    let u := s.elapse dt
    let b := s.bucket e.code
    (0 < b.tokens → s.rec_.held < 1024 → exec (.eventRecordArrival dt) s = .next { u with rec_ := { s.rec_ with
      arriving := rest
      hold := s.rec_.hold ++ [(e, false)]
      buckets := Tbl.put s.rec_.buckets e.code { b with
        tokens := b.tokens - 1
        due := if b.tokens - 1 < b.capacity then some (b.due.getD (u.now + b.refillMs * 1000000)) else none } } }) ∧
    (b.tokens = 0 → exec (.eventRecordArrival dt) s = .next { u with rec_ := { s.rec_ with
      arriving := rest
      suppressed := sat32 s.rec_.suppressed 1
      buckets := Tbl.put s.rec_.buckets e.code { b with
        suppressed := sat32 b.suppressed 1
        first := if b.suppressed = 0 then e.mast else b.first
        last := e.mast } } })) ∧
  (∀ dt s e h rest, s.inTime dt → s.rec_.hold = (e, h) :: rest → s.rec_.frozen = none → s.domain 14 = true →
    s.rec_.owedFreeze = false → s.rec_.owedExpired = none → s.rec_.lost.count = 0 →
    exec (.recordCommit dt) s = .next { s.elapse dt with rec_ := { s.rec_ with
      hold := rest
      store := addRecord s.rec_.store
        ⟨s.rec_.next, e, s.time.noTime || !s.time.leapValid, h, false, utcFields (s.elapse dt).time e.mast⟩
      next := (s.rec_.next + 1) % 4294967296 } }) ∧
  (∀ dt s code due, s.inTime dt → (s.bucket code).due = some due → due ≤ s.now + dt →
    let u := s.elapse dt
    let b := s.bucket code
    (b.suppressed = 0 → exec (.tokenRefill dt code) s = .next (u.updRec fun x => { x with
      buckets := Tbl.put x.buckets code { b with
        tokens := min (b.tokens + 1) b.capacity
        due := if b.tokens + 1 < b.capacity then some (due + b.refillMs * 1000000) else none } })) ∧
    (0 < b.suppressed → s.rec_.ownHeld < 16 → exec (.tokenRefill dt code) s = .next (u.updRec fun x => { x with
      buckets := Tbl.put x.buckets code { b with
        suppressed := 0
        first := 0
        last := 0
        due := some (due + b.refillMs * 1000000) }
      hold := x.hold ++ [(⟨0x0E02, 0x13, u.time.mast, u.time.stepCount, 255,
        fitTo 32 (details [(code : Int), toSigned 32 b.suppressed] ++ putLE 8 b.first ++ putLE 8 b.last)⟩, false)] }))) ∧
  (∀ dt s due, s.inTime dt → s.rec_.frozen = some due → due ≤ s.now + dt →
    exec (.freezeExpired dt) s = .next ((s.elapse dt).endFreeze true)) ∧
  (∀ dt s e rest, s.inTime dt → s.rec_.changeArriving = e :: rest → s.domain 14 = true →
    exec (.changeLogEntry dt) s = .next { s.elapse dt with rec_ := { s.rec_ with
      changeArriving := rest
      change := (s.rec_.change ++ [e]).drop (s.rec_.change.length + 1 - 253952)
      changeNext := (s.rec_.changeNext + 1) % 4294967296 } })

/-- Rules R445, R450, R453 (17): a frozen store keeps every record and its next number under every command and event of
the recorder but `REC_UNFREEZE` and the expiry of the limit; and no commit drops a pinned record, the newest record or more
than one. -/
def Obligations.AFreezeAndAPinKeepTheirRecords : Prop :=
  (∀ (s t : State) (c : Instr), s.rec_.frozen.isSome = true →
    ((∃ dt r, c = .recRead dt r) ∨ (∃ dt r, c = .recGetStatus dt r) ∨ (∃ dt r, c = .recFreeze dt r) ∨
      (∃ dt r, c = .recClear dt r) ∨ (∃ dt r, c = .recGetRate dt r) ∨ (∃ dt r, c = .recSetRate dt r) ∨
      (∃ dt, c = .eventRecordArrival dt) ∨ (∃ dt, c = .recordCommit dt) ∨ (∃ dt code, c = .tokenRefill dt code) ∨
      (∃ dt, c = .changeLogEntry dt)) →
    exec c s = .next t →
    t.rec_.store = s.rec_.store ∧ t.rec_.next = s.rec_.next ∧ t.rec_.frozen.isSome = true) ∧
  ∀ (store : List EventRec) (r : EventRec),
    (∀ x ∈ store, x.pinned = true → x ∈ addRecord store r) ∧ (addRecord store r).getLast? = some r ∧
    (store.length < 262144 → addRecord store r = store ++ [r]) ∧
    (∀ before x after, store = before ++ x :: after → 262144 ≤ store.length → (∀ y ∈ before, y.pinned = true) →
      x.pinned = false → addRecord store r = before ++ after ++ [r])

/-- Rules R462, R463, R466, R472, R475, R477, R478, R480 (18): what a status read and the events of the power-domain
controller leave.
Where its terms follow a choice of the model, log entries 3, 10, 15, 102, 103, 104, 105, 108, 112 and 115 name it. -/
def Obligations.PowerCommandsComplete : Prop :=
  (∀ dt s r z, s.inTime dt → opPwrGetStatus.Accepts (s.elapse dt) r z →
    let u := opPwrGetStatus.noted (s.elapse dt) r z
    exec (.pwrGetStatus dt r) s = .next (opPwrGetStatus.read r z (powerStatus u) u).settle) ∧
  (∀ dt s held, s.inTime dt → s.pwr.module_ = .unpowered →
    exec (.powerOn dt held) s = .next ((s.elapse dt).updPwr fun p =>
      { p with resetCause := 0, esup := [], rtcLost := p.rtcLost || !held })) ∧
  (∀ dt s mv watts, s.inTime dt → s.domain 0 = true →
    let u := (s.elapse dt).updPwr fun p => { p with esup := (mv :: p.esup).take 10, electronicsW := watts }
    let mean := u.pwr.esup.sum / u.pwr.esup.length
    (14000 ≤ mean → s.pwr.supplyLow = false → exec (.esupMeasure dt ⟨mv, watts, []⟩) s =
      .next (u.updPwr fun p => { p with esupFailAt := none }).settle) ∧
    (14000 ≤ mean → s.pwr.supplyLow = true → exec (.esupMeasure dt ⟨mv, watts, []⟩) s =
      .next ((u.updPwr fun p => { p with esupFailAt := none, supplyLow := false }).raisePwr 0x0F02
        [(s.pwr.lowestEsup : Int)]).settle) ∧
    (mean < 14000 → exec (.esupMeasure dt ⟨mv, watts, []⟩) s = .next (u.updPwr fun p =>
      { p with
        esupFailAt := if mean < 10000 then some (p.esupFailAt.getD (s.now + dt)) else none
        supplyLow := true
        lowestEsup := if p.supplyLow then min p.lowestEsup mean else mean
        supplyLowEvents := sat32 p.supplyLowEvents (if p.supplyLow then 0 else 1) }).settle)) ∧
  (∀ dt s since, s.inTime dt → s.pwr.esupFailAt = some since → s.domain 0 = true → since + 10000000 ≤ s.now + dt →
    ∃ t, exec (.supplyFail dt) s = .next t ∧ t.pwr.module_ = .unpowered ∧ t.pwr.domains = 0 ∧ t.pwr.resetCause = 1 ∧
      t.rec_.hold = [] ∧ t.pwr.savedMast = s.time.mast + dt) ∧
  (∀ dt s, s.inTime dt →
    exec (.wakeChange dt true) s = .next ((s.elapse dt).updPwr fun p => { p with wake := true, runOn := none }) ∧
    (s.pwr.down = false → s.pwr.wake = true → exec (.wakeChange dt false) s =
      .next ((s.elapse dt).updPwr fun p => { p with wake := false, runOn := some (s.now + dt) }))) ∧
  (∀ dt s n, s.inTime dt → (u16 s.pwr.config 2 % 4096).testBit n = true → s.domain 12 = false → s.pwr.down = true →
    16000 ≤ s.pwr.esupMean →
    exec (.canWakePattern dt n) s = .next ((s.elapse dt).updPwr fun p => { p with wakePending := true })) ∧
  (∀ dt s c, s.inTime dt → s.pwr.alarmAt = some c → c ≤ (s.time.mast + dt) / 1000000000 → s.pwr.down = true →
    16000 ≤ s.pwr.esupMean → u32 s.pwr.config 8 ≠ 0 →
    exec (.rtcAlarm dt) s = .next ((s.elapse dt).updPwr fun p =>
      { p with
        wakePending := true
        alarmAt := some (((s.time.mast + dt) / 1000000000 / u32 s.pwr.config 8 + 1) * u32 s.pwr.config 8) })) ∧
  (∀ dt s since, s.inTime dt → s.pwr.runOn = some since → u16 s.pwr.config 4 ≠ 0 → s.pwr.wake = false →
    since + u16 s.pwr.config 4 * 1000000000 ≤ s.now + dt →
    exec (.runOnExpiry dt) s = .next ((s.elapse dt).updPwr fun p =>
      { p with runOn := none, lowEntry := some (u8 p.config 0, false) })) ∧
  (∀ dt s n, s.inTime dt → 1 ≤ n → n ≤ 8 → s.domain 0 = true →
    exec (.connectorMated dt n) s = .next (((s.elapse dt).updPwr fun p =>
      { p with connectors := setBit p.connectors (n - 1) true }).raisePwr 0x0F07 [(n : Int)]) ∧
    exec (.connectorUnmated dt n) s = .next (((s.elapse dt).updPwr fun p =>
      { p with connectors := setBit p.connectors (n - 1) false }).raisePwr 0x0F06 [(n : Int)])) ∧
  (∀ dt s (temp : Int), s.inTime dt → s.domain 0 = true → s.pwr.thermalWarn.testBit 1 = false →
    10 * (u8 s.pwr.config 12 : Int) ≤ temp →
    exec (.thermalWarning dt 1 temp) s = .next (((s.elapse dt).updPwr fun p =>
      { p with
        temps := Tbl.put p.temps 1 temp
        hotSince := if 950 ≤ temp then some (p.hotSince.getD (s.now + dt)) else none
        thermalWarn := setBit p.thermalWarn 1 true }).raisePwr 0x0F08 [1, temp]).settle) ∧
  (∀ dt s since (temp : Int), s.inTime dt → s.pwr.hotSince = some since → s.pwr.down = false →
    since + 10000000000 ≤ s.now + dt →
    ∃ t, exec (.thermalLimit dt temp) s = .next t ∧ t.pwr.module_ = .sleep ∧ t.pwr.domains = 0 ∧ t.pwr.resetCause = 5 ∧
      t.pwr.savedMast = s.time.mast + dt)

/-- Rules R465 to R468, R470, R471 (18): how a module starts: from Sleep, Unpowered or Watch, through its phases, to the start-up
boundary; and how `PWR_RESET` begins it anew.
Where its terms follow a choice of the model, log entries 3, 8, 10, 15, 60, 61, 66, 68, 103, 105, 111, 113 and 116
name it. -/
def Obligations.StartsComplete : Prop :=
  (∀ dt s, s.inTime dt → s.mayStart = true →
    ∃ t, exec (.moduleStart dt) s = .next t ∧ t.pwr.module_ = .starting ∧ t.pwr.resetCause = s.pwr.resetCause ∧
      t.staged = [] ∧ t.power = {} ∧ t.main.origins = [] ∧ t.main.trouble = [] ∧ t.rec_.store = s.rec_.store ∧
      t.rec_.change = s.rec_.change ∧ t.sys.keys = s.sys.keys ∧ t.time.anchored = false ∧
      (s.pwr.module_ = .watch → t.pwr.phase = 2 ∧ t.pwr.domains = 1025 + 16384 ∧ t.time.mast = s.time.mast + dt ∧
        t.time.noTime = s.time.noTime ∧ t.gnss.data = s.gnss.data) ∧
      (s.pwr.module_ ≠ .watch → t.pwr.phase = 1 ∧ t.pwr.domains = 1 ∧ t.time.noTime = true ∧
        t.time.mast = if s.pwr.rtcLost then s.pwr.savedMast
          else (s.time.mast + dt) / 1000000000 * 1000000000)) ∧
  (∀ dt s due, s.inTime dt → s.pwr.resetAt = some due → due ≤ s.now + dt →
    ∃ t, exec (.moduleResetBegin dt) s = .next t ∧ t.pwr.module_ = .starting ∧ t.pwr.resetCause = 4 ∧ t.pwr.phase = 2 ∧
      t.pwr.domains = 1025 + 16384 ∧ t.staged = [] ∧ t.power = {} ∧ t.rec_.store = s.rec_.store ∧
      t.sys.keys = s.sys.keys ∧ t.time.mast = s.time.mast + dt ∧ t.time.noTime = s.time.noTime ∧
      t.gnss.data = if s.domain 10 then s.gnss.data else s.gnss.saved) ∧
  (∀ dt s n, s.inTime dt → s.pwr.module_ = .starting → s.pwr.phase = n → 1 ≤ n → n ≤ 6 →
    (n = 4 → (s.memc 0).fillFrom = none ∧ (s.memc 1).fillFrom = none) →
    exec (.startPhaseComplete dt) s = .next (((s.elapse dt).beginPhase (n + 1)).tryNameStart).settle) ∧
  (∀ s : State,
    (s.beginPhase 2).domain 14 = true ∧
    (s.beginPhase 3).domain 1 = true ∧ (s.beginPhase 3).domain 15 = true ∧
    (∀ n, 6 ≤ n → n ≤ 13 → (s.beginPhase 3).domain n = true) ∧
    (s.beginPhase 4).domain 3 = true ∧ (s.beginPhase 4).domain 5 = true ∧
    (s.beginPhase 5).domain 2 = true ∧ (s.beginPhase 5).domain 4 = true ∧
    (s.beginPhase 5).main.running = true ∧ (s.beginPhase 5).mizzen.running = true) ∧
  (∀ dt s, s.inTime dt → s.pwr.module_ = .starting → s.pwr.startupAt = none → s.xt.stopped = false →
    s.xt.main.ready = true → s.xt.mizzen.ready = true → s.pwr.d15At + 10000000 ≤ s.now + dt →
    (s.elapse dt).timeWaitOver = true → (s.elapse dt).cascadeWaitOver = true →
    let u : State := { s.elapse dt with time := { (s.elapse dt).time with
      gridShift := if s.stay.following then s.time.gridShift else 0 } }
    let g := u.boundaryAhead
    exec (.startupWaitExpiry dt) s = .next ((u.updPwr fun p => { p with startupAt := some g }).initFor g).settle ∧
    g % u.majorLen = 0 ∧ (0 < u.majorLen → u.grid + 1000000 ≤ g ∧ g < u.grid + 1000000 + u.majorLen)) ∧
  (∀ dt s g, s.inTime dt → s.pwr.startupAt = some g → s.pwr.module_ = .starting → s.xt.main.ready = true →
    s.xt.mizzen.ready = true → g ≤ (s.elapse dt).anchor.grid → (s.elapse dt).anchor.grid % s.majorLen = 0 →
    let u := (s.elapse dt).anchor
    let v : State := { u with time := { u.time with anchored := true, lastMajor := some u.grid } }
    let w := ((v.setImage v.sched.image v.sched.activeBank).lanesStart.cascadeChanged.swapMajor 0).joinStops.restartStreams
    let x := w.updPwr fun p => p.enterRun w.now w.major
    exec (.startupBoundary dt) s =
      .next ((x.raisePwr 0x0F01 [(x.pwr.resetCause : Int), toSigned 32 w.major, (x.pwr.startMs : Int)]).tellLanes).settle ∧
    (∀ p : PwrSt, (p.enterRun w.now w.major).module_ = .run ∧ (p.enterRun w.now w.major).startupMajor = w.major ∧
      (p.enterRun w.now w.major).startMs = (w.now - p.phase1At + 999999) / 1000000) ∧
    (∀ y : State, y.lanesStart.xt.active = .main ∧ y.lanesStart.xt.main.state = .active ∧
      y.lanesStart.xt.mizzen.state = .standby))

/-- Rules R40, R54, R62, R73 (02, 03): on an anchored grid the work of a slot and of a major boundary is done once, on its own
tick: the boundary's before its first slot's. A slot shows the deliveries due, dispatches tasks, runs the tests, copies and
patrols of the slot, and lets the interpreter run; a boundary swaps everything staged for it.
Where its terms follow a choice of the model, log entries 15, 40, 54, 57, 60, 61, 62, 63, 64 and 116 name it. -/
def Obligations.BoundariesComplete : Prop :=
  (∀ dt s f, s.inTime dt → s.time.anchored = true → s.domain 0 = true → (s.elapse dt).grid % 10000 = 0 →
    s.time.lastSlot ≠ some (s.elapse dt).slot →
    ((s.elapse dt).grid % s.majorLen ≠ 0 ∨ s.time.lastMajor = some (s.elapse dt).grid) →
    let u := s.elapse dt
    let a := ({ u with time := { u.time with lastSlot := some u.slot } } : State)
    let a1 := if u.grid % s.majorLen = 0 then a.cameraMajor else a
    let b := (((a1.refreshSignals .main).refreshSignals .mizzen).dispatchTasks .main).dispatchTasks .mizzen
    let c := ((b.slotTests f).burstResults).resyncSlot
    let d := if c.domain 11 then c.clearSlot else c
    exec (.slotStart dt f) s =
      .next ((((d.lanePatrol .main).lanePatrol .mizzen).fusionPatrol).interpreterRuns).settle) ∧
  (∀ dt s f, s.inTime dt → (s.time.anchored = false ∨ (s.elapse dt).grid % 10000 ≠ 0 ∨
      s.time.lastSlot = some (s.elapse dt).slot) →
    exec (.slotStart dt f) s = .next (s.elapse dt).settle) ∧
  (∀ (s : State) l, s.computes l = true →
    let a := s.lane l
    let t := (s.refreshSignals l).lane l
    t.deliveries = a.deliveries.filter (fun d => decide (s.slot < d.slot)) ∧
    ∀ id r, Tbl.find ((a.deliveries.filter fun d => decide (d.slot ≤ s.slot)).foldl applyDelivery a.signals) id = some r →
      ∃ v, Tbl.find t.signals id = some { r with stale := v }) ∧
  (∀ dt s busy, s.inTime dt → s.time.anchored = true → s.domain 0 = true → (s.elapse dt).grid % s.majorLen = 0 →
    s.time.lastMajor ≠ some (s.elapse dt).grid →
    let u := s.elapse dt
    let a := ({ u with time := { u.time with lastMajor := some u.grid } } : State).lanesBoundary u.major
    let b := (a.swapMajor busy).joinStops.stayBoundary
    exec (.majorBoundary dt busy) s =
      .next (((b.rejoinBoundary.openBurst u.major).tellLanes).lowPowerBoundary).settle) ∧
  (∀ dt s busy, s.inTime dt → (s.time.anchored = false ∨ (s.elapse dt).grid % s.majorLen ≠ 0 ∨
      s.time.lastMajor = some (s.elapse dt).grid) →
    exec (.majorBoundary dt busy) s = .next (s.elapse dt).settle) ∧
  (∀ (s : State) busy, (∀ e ∈ (s.swapMajor busy).staged, e ∈ s.staged) ∧
    ∀ e ∈ (s.swapMajor busy).staged, e.kind = .major → e.gridAt ≤ s.grid → e.block = 11 ∧ s.xt.stopped = true)

/-- Rules R29, R30, R474 (01, 18): a command that breaks the order, or names a locked domain, is refused. One that swaps in with
neither leaves exactly the domains on that it names. Whatever it names, at its boundary the active lane's domains, D0, D1 and
D14 stay on, and every domain that is on keeps the domains it needs: the swap checks both again, the model's choice of log 120.
Where its terms follow a choice of the model, log entries 101 and 120 name it. -/
def Obligations.SwitchedDomainsKeepTheirNeeds : Prop :=
  ∀ (s : State) (e : Staged),
    let on := u16 e.req.payload 0
    let off := u16 e.req.payload 2
    (orderBroken s.pwr.domains on off = true → ∀ z, opPwrSetDomain.check s e.req z = some (0x40, [])) ∧
    (orderBroken s.pwr.domains on off = true ↔ ∃ n, n < 16 ∧ ((on.testBit n = true ∧ off.testBit n = true) ∨
      ((s.domain n || on.testBit n) && !off.testBit n) = true ∧
        ∃ k ∈ domainNeeds n, ((s.domain k || on.testBit k) && !off.testBit k) = false)) ∧
    (orderBroken s.pwr.domains on off = false → ∀ z n, n ∈ lockedFor (s.activeAt z.gridAt) →
      (on.testBit n = true ∨ off.testBit n = true) → opPwrSetDomain.check s e.req z = some (0x41, [])) ∧
    (orderBroken s.pwr.domains on off = false →
      (∀ n ∈ lockedFor s.xt.active, on.testBit n = false ∧ off.testBit n = false) →
      ∀ n, n < 16 → (applySetDomain s e).domain n = ((s.domain n || on.testBit n) && !off.testBit n)) ∧
    (∀ n ∈ lockedFor s.xt.active, s.domain n = true → (applySetDomain s e).domain n = true) ∧
    ((∀ n, n < 16 → s.domain n = true → ∀ k ∈ domainNeeds n, s.domain k = true) →
      ∀ n, n < 16 → (applySetDomain s e).domain n = true → ∀ k ∈ domainNeeds n, (applySetDomain s e).domain k = true)
end

