-- ==== Sys2Proof/Decode.lean ====
section
/-!
DEFINITION. Words that spell a command. The table of this block gives no row any bits, so there are none; the packets of the
manual are read in Machine/Interp.lean.
-/
namespace Sys2Proof

/-- The command a word spells by the table's bits: none.
Log 1: DESIGN CHOICE, unsafe. -/
def decodeTableWord (_nbits _w : Nat) : Option Instr := none

end Sys2Proof
end

