-- ==== Sys2Proof/Laws/Blocks.lean ====
section
/-!
SUPPORT. What a change of one unit of a block does: the unit reads as changed, every other unit as before, and two changes of
one unit are one.
-/
namespace Sys2Proof.Machine
open Sys2Proof

/-! ### Tables -/

theorem Tbl.put_put {α : Type} (t : Tbl α) (k : Nat) (a b : α) : Tbl.put (Tbl.put t k a) k b = Tbl.put t k b := by
  induction t with
  | nil => simp [Tbl.put]
  | cons x r ih =>
    obtain ⟨i, c⟩ := x
    simp only [Tbl.put]
    split
    · simp [Tbl.put]
    · split
      · simp [Tbl.put]
      · rename_i h1 h2; simp [Tbl.put, h1, h2, ih]

theorem Tbl.upd_upd {α : Type} (t : Tbl α) (k : Nat) (d : α) (f g : α → α) :
    Tbl.upd (Tbl.upd t k d f) k d g = Tbl.upd t k d fun x => g (f x) := by
  simp [Tbl.upd, Tbl.put_put]

/-! ### A power channel -/

@[simp] theorem State.chan_updChan (s : State) (n : Nat) (f : Chan → Chan) : (s.updChan n f).chan n = f (s.chan n) := by
  simp [State.chan, State.updChan]
theorem State.chan_updChan_ne (s : State) {n m : Nat} (h : m ≠ n) (f : Chan → Chan) : (s.updChan n f).chan m = s.chan m := by
  simp [State.chan, State.updChan, Tbl.upd, Tbl.getD_put_ne _ _ _ _ _ h]
theorem State.updChan_updChan (s : State) (n : Nat) (f g : Chan → Chan) : (s.updChan n f).updChan n g = s.updChan n fun x => g (f x) := by
  simp [State.updChan, Tbl.upd_upd]

/-! ### A camera port -/

@[simp] theorem State.camPort_updCam (s : State) (n : Nat) (f : CamPort → CamPort) : (s.updCam n f).camPort n = f (s.camPort n) := by
  simp [State.camPort, State.updCam]
theorem State.camPort_updCam_ne (s : State) {n m : Nat} (h : m ≠ n) (f : CamPort → CamPort) : (s.updCam n f).camPort m = s.camPort m := by
  simp [State.camPort, State.updCam, Tbl.getD_put_ne _ _ _ _ _ h]
theorem State.updCam_updCam (s : State) (n : Nat) (f g : CamPort → CamPort) : (s.updCam n f).updCam n g = s.updCam n fun x => g (f x) := by
  simp [State.updCam, Tbl.put_put, State.camPort]

/-! ### A CAN port -/

@[simp] theorem State.canPort_updCan (s : State) (n : Nat) (f : CanPort → CanPort) : (s.updCan n f).canPort n = f (s.canPort n) := by
  simp [State.canPort, State.updCan]
theorem State.canPort_updCan_ne (s : State) {n m : Nat} (h : m ≠ n) (f : CanPort → CanPort) : (s.updCan n f).canPort m = s.canPort m := by
  simp [State.canPort, State.updCan, Tbl.getD_upd_ne _ _ _ _ _ h]
theorem State.updCan_updCan (s : State) (n : Nat) (f g : CanPort → CanPort) : (s.updCan n f).updCan n g = s.updCan n fun x => g (f x) := by
  simp [State.updCan, Tbl.upd_upd]

/-! ### A receiver -/

@[simp] theorem State.recv_updRecv (s : State) (n : Nat) (f : Receiver → Receiver) : (s.updRecv n f).recv n = f (s.recv n) := by
  simp [State.recv, State.updRecv]
theorem State.recv_updRecv_ne (s : State) {n m : Nat} (h : m ≠ n) (f : Receiver → Receiver) : (s.updRecv n f).recv m = s.recv m := by
  simp [State.recv, State.updRecv, Tbl.getD_upd_ne _ _ _ _ _ h]
theorem State.updRecv_updRecv (s : State) (n : Nat) (f g : Receiver → Receiver) : (s.updRecv n f).updRecv n g = s.updRecv n fun x => g (f x) := by
  simp [State.updRecv, Tbl.upd_upd]

/-! ### A fusion source -/

@[simp] theorem State.fusSource_updSource (s : State) (n : Nat) (f : FusSource → FusSource) : (s.updSource n f).fusSource n = f (s.fusSource n) := by
  simp [State.fusSource, State.updSource]
theorem State.fusSource_updSource_ne (s : State) {n m : Nat} (h : m ≠ n) (f : FusSource → FusSource) : (s.updSource n f).fusSource m = s.fusSource m := by
  simp [State.fusSource, State.updSource, Tbl.getD_upd_ne _ _ _ _ _ h]
theorem State.updSource_updSource (s : State) (n : Nat) (f g : FusSource → FusSource) : (s.updSource n f).updSource n g = s.updSource n fun x => g (f x) := by
  simp [State.updSource, State.updFus, Tbl.upd_upd]

/-! ### A fusion round -/

@[simp] theorem State.fusRound_updRound (s : State) (n : Nat) (f : FusRound → FusRound) : (s.updRound n f).fusRound n = f (s.fusRound n) := by
  simp [State.fusRound, State.updRound]
theorem State.fusRound_updRound_ne (s : State) {n m : Nat} (h : m ≠ n) (f : FusRound → FusRound) : (s.updRound n f).fusRound m = s.fusRound m := by
  simp [State.fusRound, State.updRound, Tbl.getD_upd_ne _ _ _ _ _ h]
theorem State.updRound_updRound (s : State) (n : Nat) (f g : FusRound → FusRound) : (s.updRound n f).updRound n g = s.updRound n fun x => g (f x) := by
  simp [State.updRound, State.updFus, Tbl.upd_upd]

/-! ### A network slot -/

@[simp] theorem State.netSlot_updSlot (s : State) (n : Nat) (f : NetSlot → NetSlot) : (s.updSlot n f).netSlot n = f (s.netSlot n) := by
  simp [State.netSlot, State.updSlot]
theorem State.netSlot_updSlot_ne (s : State) {n m : Nat} (h : m ≠ n) (f : NetSlot → NetSlot) : (s.updSlot n f).netSlot m = s.netSlot m := by
  simp [State.netSlot, State.updSlot, Tbl.getD_upd_ne _ _ _ _ _ h]
theorem State.updSlot_updSlot (s : State) (n : Nat) (f g : NetSlot → NetSlot) : (s.updSlot n f).updSlot n g = s.updSlot n fun x => g (f x) := by
  simp [State.updSlot, State.updFus, Tbl.upd_upd]

/-! ### A Stay port -/

@[simp] theorem State.stayPort_updStayPort (s : State) (n : Nat) (f : StayPort → StayPort) : (s.updStayPort n f).stayPort n = f (s.stayPort n) := by
  simp [State.stayPort, State.updStayPort]
theorem State.stayPort_updStayPort_ne (s : State) {n m : Nat} (h : m ≠ n) (f : StayPort → StayPort) : (s.updStayPort n f).stayPort m = s.stayPort m := by
  simp [State.stayPort, State.updStayPort, Tbl.getD_upd_ne _ _ _ _ _ h]
theorem State.updStayPort_updStayPort (s : State) (n : Nat) (f g : StayPort → StayPort) : (s.updStayPort n f).updStayPort n g = s.updStayPort n fun x => g (f x) := by
  simp [State.updStayPort, State.updStay, Tbl.upd_upd]

/-! ### A Ethernet port -/

@[simp] theorem State.eth_updEth (s : State) (n : Nat) (f : EthPort → EthPort) : (s.updEth n f).eth n = f (s.eth n) := by
  simp [State.eth, State.updEth]
theorem State.eth_updEth_ne (s : State) {n m : Nat} (h : m ≠ n) (f : EthPort → EthPort) : (s.updEth n f).eth m = s.eth m := by
  simp [State.eth, State.updEth, Tbl.getD_upd_ne _ _ _ _ _ h]
theorem State.updEth_updEth (s : State) (n : Nat) (f g : EthPort → EthPort) : (s.updEth n f).updEth n g = s.updEth n fun x => g (f x) := by
  simp [State.updEth, Tbl.upd_upd]

/-! ### A memory controller -/

@[simp] theorem State.memc_updMem (s : State) (n : Nat) (f : MemCtrl → MemCtrl) : (s.updMem n f).memc n = f (s.memc n) := by
  simp [State.memc, State.updMem]
theorem State.memc_updMem_ne (s : State) {n m : Nat} (h : m ≠ n) (f : MemCtrl → MemCtrl) : (s.updMem n f).memc m = s.memc m := by
  simp [State.memc, State.updMem, Tbl.upd, Tbl.getD_put_ne _ _ _ _ _ h]
theorem State.updMem_updMem (s : State) (n : Nat) (f g : MemCtrl → MemCtrl) : (s.updMem n f).updMem n g = s.updMem n fun x => g (f x) := by
  simp [State.updMem, Tbl.upd_upd]

/-! ### A sensing input -/

@[simp] theorem State.input_setInput (s : State) (i : Nat) (x : SenseInput) : (s.setInput i x).input i = x := by
  simp [State.input, State.setInput]
theorem State.input_setInput_ne (s : State) {i j : Nat} (h : j ≠ i) (x : SenseInput) : (s.setInput i x).input j = s.input j := by
  simp [State.input, State.setInput, Tbl.getD_put_ne _ _ _ _ _ h]
@[simp] theorem State.input_updInput (s : State) (i : Nat) (f : InputState → InputState) :
    (s.updInput i f).input i = { s.input i with st := f (s.input i).st } := by simp [State.updInput]
theorem State.input_updInput_ne (s : State) {i j : Nat} (h : j ≠ i) (f : InputState → InputState) :
    (s.updInput i f).input j = s.input j := State.input_setInput_ne s h _

/-! ### A time pulse -/

@[simp] theorem State.pulse_updPulse (s : State) (tp : Nat) (f : Pulse → Pulse) : (s.updPulse tp f).pulse tp = f (s.pulse tp) := by
  unfold State.pulse State.updPulse; split <;> rfl

/-! ### A lane, what the Crosstree holds of it, its engine and a loop -/

@[simp] theorem State.lane_updLane (s : State) (l : Lane) (f : LaneSt → LaneSt) : (s.updLane l f).lane l = f (s.lane l) := by
  cases l <;> rfl
@[simp] theorem State.lane_updLane_other (s : State) (l : Lane) (f : LaneSt → LaneSt) :
    (s.updLane l f).lane l.other = s.lane l.other := by cases l <;> rfl
@[simp] theorem State.xtLane_updXt (s : State) (l : Lane) (f : XtLane → XtLane) : (s.updXt l f).xtLane l = f (s.xtLane l) := by
  cases l <;> rfl
@[simp] theorem State.xtLane_updXt_other (s : State) (l : Lane) (f : XtLane → XtLane) :
    (s.updXt l f).xtLane l.other = s.xtLane l.other := by cases l <;> rfl
@[simp] theorem State.engine_updEngine (s : State) (l : Lane) (f : Engine → Engine) : (s.updEngine l f).engine l = f (s.engine l) := by
  cases l <;> rfl
@[simp] theorem State.engine_updEngine_other (s : State) (l : Lane) (f : Engine → Engine) :
    (s.updEngine l f).engine l.other = s.engine l.other := by cases l <;> rfl
@[simp] theorem State.loop_updLoop (s : State) (l : Lane) (n : Nat) (f : Loop → Loop) : (s.updLoop l n f).loop l n = f (s.loop l n) := by
  simp [State.loop, State.updLoop]
theorem State.loop_updLoop_ne (s : State) (l : Lane) {n m : Nat} (h : m ≠ n) (f : Loop → Loop) :
    (s.updLoop l n f).loop l m = s.loop l m := by simp [State.loop, State.updLoop, Tbl.getD_upd_ne _ _ _ _ _ h]
@[simp] theorem State.loop_updLoop_other (s : State) (l : Lane) (n m : Nat) (f : Loop → Loop) :
    (s.updLoop l n f).loop l.other m = s.loop l.other m := by simp [State.loop, State.updLoop]

end Sys2Proof.Machine
end

