-- ==== Sys2Proof/Laws/PerInstr.lean ====
section
/-!
SUPPORT. Statements made per command.
-/
namespace Sys2Proof.Laws.WellSized
open Sys2Proof

/-- A well-formed command has a duration that fits Mast time, and a request whose header fields fit the packet's. -/
def Statement (i : Instr) : Prop :=
  i.wellFormed = true → i.dt < 18446744073709551616 ∧ ∀ r, i.request = some r → r.Fits

theorem fits_of_ok {r : Request} (h : r.ok = true) : r.Fits := by
  simp only [Request.ok, Request.fits, Bool.and_eq_true, decide_eq_true_eq] at h
  obtain ⟨⟨⟨⟨⟨⟨⟨h1, h2⟩, h3⟩, h4⟩, h5⟩, h6⟩, -⟩, -⟩ := h
  exact ⟨h1, h2, h3, h4, h5, h6⟩

theorem wellSized (i : Instr) : Statement i := by
  intro h
  simp only [Instr.wellFormed, Bool.and_eq_true, decide_eq_true_eq] at h
  obtain ⟨⟨h1, -⟩, h2⟩ := h
  refine ⟨h1, fun r hr => fits_of_ok ?_⟩
  simpa [hr] using h2

theorem timeGetStatus (dt : Nat) (r : Request) :
    Statement (.timeGetStatus dt r) := wellSized _
theorem timeSetLeap (dt : Nat) (r : Request) :
    Statement (.timeSetLeap dt r) := wellSized _
theorem timeSetManual (dt : Nat) (r : Request) :
    Statement (.timeSetManual dt r) := wellSized _
theorem schedLoadBegin (dt : Nat) (r : Request) :
    Statement (.schedLoadBegin dt r) := wellSized _
theorem schedLoadData (dt : Nat) (r : Request) :
    Statement (.schedLoadData dt r) := wellSized _
theorem schedLoadEnd (dt : Nat) (r : Request) :
    Statement (.schedLoadEnd dt r) := wellSized _
theorem schedActivate (dt : Nat) (r : Request) :
    Statement (.schedActivate dt r) := wellSized _
theorem schedSetStartBank (dt : Nat) (r : Request) :
    Statement (.schedSetStartBank dt r) := wellSized _
theorem schedGetStatus (dt : Nat) (r : Request) :
    Statement (.schedGetStatus dt r) := wellSized _
theorem sysGetInfo (dt : Nat) (r : Request) :
    Statement (.sysGetInfo dt r) := wellSized _
theorem sysSetKey (dt : Nat) (r : Request) :
    Statement (.sysSetKey dt r) := wellSized _
theorem sysClearOrigins (dt : Nat) (r : Request) :
    Statement (.sysClearOrigins dt r) := wellSized _
theorem sysGetPacketCounters (dt : Nat) (r : Request) :
    Statement (.sysGetPacketCounters dt r) := wellSized _
theorem laneGetStatus (dt : Nat) (r : Request) :
    Statement (.laneGetStatus dt r) := wellSized _
theorem laneSetPolicy (dt : Nat) (r : Request) :
    Statement (.laneSetPolicy dt r) := wellSized _
theorem laneSetDedupWindow (dt : Nat) (r : Request) :
    Statement (.laneSetDedupWindow dt r) := wellSized _
theorem laneGetReceiverCounters (dt : Nat) (r : Request) :
    Statement (.laneGetReceiverCounters dt r) := wellSized _
theorem laneRequestBurst (dt : Nat) (r : Request) :
    Statement (.laneRequestBurst dt r) := wellSized _
theorem laneRequestSwitch (dt : Nat) (r : Request) :
    Statement (.laneRequestSwitch dt r) := wellSized _
theorem laneRecover (dt : Nat) (r : Request) :
    Statement (.laneRecover dt r) := wellSized _
theorem laneResyncRequest (dt : Nat) (r : Request) :
    Statement (.laneResyncRequest dt r) := wellSized _
theorem ctrlSetLoop (dt : Nat) (r : Request) :
    Statement (.ctrlSetLoop dt r) := wellSized _
theorem ctrlSetCoeffs (dt : Nat) (r : Request) :
    Statement (.ctrlSetCoeffs dt r) := wellSized _
theorem ctrlSetClamp (dt : Nat) (r : Request) :
    Statement (.ctrlSetClamp dt r) := wellSized _
theorem ctrlPresetState (dt : Nat) (r : Request) :
    Statement (.ctrlPresetState dt r) := wellSized _
theorem ctrlGetLoop (dt : Nat) (r : Request) :
    Statement (.ctrlGetLoop dt r) := wellSized _
theorem ctrlGetStatus (dt : Nat) (r : Request) :
    Statement (.ctrlGetStatus dt r) := wellSized _
theorem ctrlClearCounters (dt : Nat) (r : Request) :
    Statement (.ctrlClearCounters dt r) := wellSized _
theorem chanSetConfig (dt : Nat) (r : Request) :
    Statement (.chanSetConfig dt r) := wellSized _
theorem chanGetConfig (dt : Nat) (r : Request) :
    Statement (.chanGetConfig dt r) := wellSized _
theorem chanGetStatus (dt : Nat) (r : Request) :
    Statement (.chanGetStatus dt r) := wellSized _
theorem chanGetSupply (dt : Nat) (r : Request) :
    Statement (.chanGetSupply dt r) := wellSized _
theorem chanClearCounters (dt : Nat) (r : Request) :
    Statement (.chanClearCounters dt r) := wellSized _
theorem chanSetProtection (dt : Nat) (r : Request) :
    Statement (.chanSetProtection dt r) := wellSized _
theorem chanGetProtection (dt : Nat) (r : Request) :
    Statement (.chanGetProtection dt r) := wellSized _
theorem chanReleaseLatch (dt : Nat) (r : Request) :
    Statement (.chanReleaseLatch dt r) := wellSized _
theorem chanRefillRetry (dt : Nat) (r : Request) :
    Statement (.chanRefillRetry dt r) := wellSized _
theorem chanStopReset (dt : Nat) (r : Request) :
    Statement (.chanStopReset dt r) := wellSized _
theorem chanGetGeneration (dt : Nat) (r : Request) :
    Statement (.chanGetGeneration dt r) := wellSized _
theorem chanAdopt (dt : Nat) (r : Request) :
    Statement (.chanAdopt dt r) := wellSized _
theorem senseSetInput (dt : Nat) (r : Request) :
    Statement (.senseSetInput dt r) := wellSized _
theorem senseSetLoss (dt : Nat) (r : Request) :
    Statement (.senseSetLoss dt r) := wellSized _
theorem senseSetBridge (dt : Nat) (r : Request) :
    Statement (.senseSetBridge dt r) := wellSized _
theorem senseSetSupply (dt : Nat) (r : Request) :
    Statement (.senseSetSupply dt r) := wellSized _
theorem senseGetStatus (dt : Nat) (r : Request) :
    Statement (.senseGetStatus dt r) := wellSized _
theorem yieldSetGrid (dt : Nat) (r : Request) :
    Statement (.yieldSetGrid dt r) := wellSized _
theorem yieldSetSources (dt : Nat) (r : Request) :
    Statement (.yieldSetSources dt r) := wellSized _
theorem yieldClearGrid (dt : Nat) (r : Request) :
    Statement (.yieldClearGrid dt r) := wellSized _
theorem yieldGetTotals (dt : Nat) (r : Request) :
    Statement (.yieldGetTotals dt r) := wellSized _
theorem camSetPort (dt : Nat) (r : Request) :
    Statement (.camSetPort dt r) := wellSized _
theorem camSetGeometry (dt : Nat) (r : Request) :
    Statement (.camSetGeometry dt r) := wellSized _
theorem camSetLinear (dt : Nat) (r : Request) :
    Statement (.camSetLinear dt r) := wellSized _
theorem camSetExposure (dt : Nat) (r : Request) :
    Statement (.camSetExposure dt r) := wellSized _
theorem camSensorTransfer (dt : Nat) (r : Request) :
    Statement (.camSensorTransfer dt r) := wellSized _
theorem camGetStatus (dt : Nat) (r : Request) :
    Statement (.camGetStatus dt r) := wellSized _
theorem camClearCounters (dt : Nat) (r : Request) :
    Statement (.camClearCounters dt r) := wellSized _
theorem camSetCfa (dt : Nat) (r : Request) :
    Statement (.camSetCfa dt r) := wellSized _
theorem camSetWb (dt : Nat) (r : Request) :
    Statement (.camSetWb dt r) := wellSized _
theorem camSetMatrix (dt : Nat) (r : Request) :
    Statement (.camSetMatrix dt r) := wellSized _
theorem camSetTone (dt : Nat) (r : Request) :
    Statement (.camSetTone dt r) := wellSized _
theorem camSetStream (dt : Nat) (r : Request) :
    Statement (.camSetStream dt r) := wellSized _
theorem camSetStats (dt : Nat) (r : Request) :
    Statement (.camSetStats dt r) := wellSized _
theorem camGetStreamStatus (dt : Nat) (r : Request) :
    Statement (.camGetStreamStatus dt r) := wellSized _
theorem fusionSetSource (dt : Nat) (r : Request) :
    Statement (.fusionSetSource dt r) := wellSized _
theorem fusionSetRound (dt : Nat) (r : Request) :
    Statement (.fusionSetRound dt r) := wellSized _
theorem fusionSetCanvas (dt : Nat) (r : Request) :
    Statement (.fusionSetCanvas dt r) := wellSized _
theorem fusionResetState (dt : Nat) (r : Request) :
    Statement (.fusionResetState dt r) := wellSized _
theorem fusionNetLoadBegin (dt : Nat) (r : Request) :
    Statement (.fusionNetLoadBegin dt r) := wellSized _
theorem fusionNetLoadData (dt : Nat) (r : Request) :
    Statement (.fusionNetLoadData dt r) := wellSized _
theorem fusionNetLoadEnd (dt : Nat) (r : Request) :
    Statement (.fusionNetLoadEnd dt r) := wellSized _
theorem fusionGetRoundStatus (dt : Nat) (r : Request) :
    Statement (.fusionGetRoundStatus dt r) := wellSized _
theorem fusionGetSourceStatus (dt : Nat) (r : Request) :
    Statement (.fusionGetSourceStatus dt r) := wellSized _
theorem fusionGetNetStatus (dt : Nat) (r : Request) :
    Statement (.fusionGetNetStatus dt r) := wellSized _
theorem fusionClearCounters (dt : Nat) (r : Request) :
    Statement (.fusionClearCounters dt r) := wellSized _
theorem gnssSetConfig (dt : Nat) (r : Request) :
    Statement (.gnssSetConfig dt r) := wellSized _
theorem gnssSetTimePulse (dt : Nat) (r : Request) :
    Statement (.gnssSetTimePulse dt r) := wellSized _
theorem gnssSetWatch (dt : Nat) (r : Request) :
    Statement (.gnssSetWatch dt r) := wellSized _
theorem gnssAid (dt : Nat) (r : Request) :
    Statement (.gnssAid dt r) := wellSized _
theorem gnssResetData (dt : Nat) (r : Request) :
    Statement (.gnssResetData dt r) := wellSized _
theorem gnssGetStatus (dt : Nat) (r : Request) :
    Statement (.gnssGetStatus dt r) := wellSized _
theorem gnssClearCounters (dt : Nat) (r : Request) :
    Statement (.gnssClearCounters dt r) := wellSized _
theorem canSetPort (dt : Nat) (r : Request) :
    Statement (.canSetPort dt r) := wellSized _
theorem canSetFilters (dt : Nat) (r : Request) :
    Statement (.canSetFilters dt r) := wellSized _
theorem canRecover (dt : Nat) (r : Request) :
    Statement (.canRecover dt r) := wellSized _
theorem canGetStatus (dt : Nat) (r : Request) :
    Statement (.canGetStatus dt r) := wellSized _
theorem canClearCounters (dt : Nat) (r : Request) :
    Statement (.canClearCounters dt r) := wellSized _
theorem stayJoin (dt : Nat) (r : Request) :
    Statement (.stayJoin dt r) := wellSized _
theorem stayLeave (dt : Nat) (r : Request) :
    Statement (.stayLeave dt r) := wellSized _
theorem stayGetStatus (dt : Nat) (r : Request) :
    Statement (.stayGetStatus dt r) := wellSized _
theorem stayGetStation (dt : Nat) (r : Request) :
    Statement (.stayGetStation dt r) := wellSized _
theorem ethSetPort (dt : Nat) (r : Request) :
    Statement (.ethSetPort dt r) := wellSized _
theorem ethGetStatus (dt : Nat) (r : Request) :
    Statement (.ethGetStatus dt r) := wellSized _
theorem stayClearCounters (dt : Nat) (r : Request) :
    Statement (.stayClearCounters dt r) := wellSized _
theorem memSetMode (dt : Nat) (r : Request) :
    Statement (.memSetMode dt r) := wellSized _
theorem memSetPatrol (dt : Nat) (r : Request) :
    Statement (.memSetPatrol dt r) := wellSized _
theorem memGetStatus (dt : Nat) (r : Request) :
    Statement (.memGetStatus dt r) := wellSized _
theorem memClearLog (dt : Nat) (r : Request) :
    Statement (.memClearLog dt r) := wellSized _
theorem memRewrite (dt : Nat) (r : Request) :
    Statement (.memRewrite dt r) := wellSized _
theorem memTestWrite (dt : Nat) (r : Request) :
    Statement (.memTestWrite dt r) := wellSized _
theorem memTestRead (dt : Nat) (r : Request) :
    Statement (.memTestRead dt r) := wellSized _
theorem memSetFill (dt : Nat) (r : Request) :
    Statement (.memSetFill dt r) := wellSized _
theorem recRead (dt : Nat) (r : Request) :
    Statement (.recRead dt r) := wellSized _
theorem recReadTrouble (dt : Nat) (r : Request) :
    Statement (.recReadTrouble dt r) := wellSized _
theorem recGetStatus (dt : Nat) (r : Request) :
    Statement (.recGetStatus dt r) := wellSized _
theorem recFreeze (dt : Nat) (r : Request) :
    Statement (.recFreeze dt r) := wellSized _
theorem recUnfreeze (dt : Nat) (r : Request) :
    Statement (.recUnfreeze dt r) := wellSized _
theorem recClear (dt : Nat) (r : Request) :
    Statement (.recClear dt r) := wellSized _
theorem recSetRate (dt : Nat) (r : Request) :
    Statement (.recSetRate dt r) := wellSized _
theorem recGetRate (dt : Nat) (r : Request) :
    Statement (.recGetRate dt r) := wellSized _
theorem pwrSetDomain (dt : Nat) (r : Request) :
    Statement (.pwrSetDomain dt r) := wellSized _
theorem pwrGetStatus (dt : Nat) (r : Request) :
    Statement (.pwrGetStatus dt r) := wellSized _
theorem pwrSetConfig (dt : Nat) (r : Request) :
    Statement (.pwrSetConfig dt r) := wellSized _
theorem pwrEnterLow (dt : Nat) (r : Request) :
    Statement (.pwrEnterLow dt r) := wellSized _
theorem pwrReset (dt : Nat) (r : Request) :
    Statement (.pwrReset dt r) := wellSized _
theorem halyardUnitArrival (dt : Nat) (path : Path) (unit : Bytes) :
    Statement (.halyardUnitArrival dt path unit) := wellSized _
theorem halyardReplyReceived (dt : Nat) (path : Path) (unit : Bytes) :
    Statement (.halyardReplyReceived dt path unit) := wellSized _
theorem slotStart (dt : Nat) (faults : SlotFaults) :
    Statement (.slotStart dt faults) := wellSized _
theorem majorBoundary (dt : Nat) (canBusy : Nat) :
    Statement (.majorBoundary dt canBusy) := wellSized _
theorem taskFinish (dt : Nat) (lane : Lane) (task : TaskOn) (result : TaskResult) :
    Statement (.taskFinish dt lane task result) := wellSized _
theorem taskCommit (dt : Nat) (lane : Lane) (task : TaskOn) :
    Statement (.taskCommit dt lane task) := wellSized _
theorem taskBudgetExpiry (dt : Nat) (lane : Lane) (task : TaskOn) :
    Statement (.taskBudgetExpiry dt lane task) := wellSized _
theorem taskWindowFault (dt : Nat) (lane : Lane) (task : TaskOn) (address : Nat) (access : Access) :
    Statement (.taskWindowFault dt lane task address access) := wellSized _
theorem transferSend (dt : Nat) (lane : Lane) (entry : Nat) :
    Statement (.transferSend dt lane entry) := wellSized _
theorem receiverCopyArrival (dt : Nat) (lane : Lane) (block : Nat) (resource : Nat) :
    Statement (.receiverCopyArrival dt lane block resource) := wellSized _
theorem dedupWindowExpiry (dt : Nat) (block : Nat) (resource : Nat) :
    Statement (.dedupWindowExpiry dt block resource) := wellSized _
theorem pairLimitExpiry (dt : Nat) (block : Nat) (resource : Nat) :
    Statement (.pairLimitExpiry dt block resource) := wellSized _
theorem heartbeatReceived (dt : Nat) (lane : Lane) :
    Statement (.heartbeatReceived dt lane) := wellSized _
theorem heartbeatTimerExpiry (dt : Nat) (lane : Lane) :
    Statement (.heartbeatTimerExpiry dt lane) := wellSized _
theorem heartbeatAckReceived (dt : Nat) (lane : Lane) :
    Statement (.heartbeatAckReceived dt lane) := wellSized _
theorem laneFatalFault (dt : Nat) (lane : Lane) :
    Statement (.laneFatalFault dt lane) := wellSized _
theorem healthReportReceived (dt : Nat) (lane : Lane) :
    Statement (.healthReportReceived dt lane) := wellSized _
theorem discrepancyReportReceived (dt : Nat) :
    Statement (.discrepancyReportReceived dt) := wellSized _
theorem scheduleOverrunReceived (dt : Nat) :
    Statement (.scheduleOverrunReceived dt) := wellSized _
theorem overrunClassify (dt : Nat) :
    Statement (.overrunClassify dt) := wellSized _
theorem commitDigestArrival (dt : Nat) :
    Statement (.commitDigestArrival dt) := wellSized _
theorem commitDigestCompare (dt : Nat) :
    Statement (.commitDigestCompare dt) := wellSized _
theorem burstResultReceived (dt : Nat) (lane : Lane) :
    Statement (.burstResultReceived dt lane) := wellSized _
theorem burstResultDeadline (dt : Nat) :
    Statement (.burstResultDeadline dt) := wellSized _
theorem resetHoldExpiry (dt : Nat) (lane : Lane) :
    Statement (.resetHoldExpiry dt lane) := wellSized _
theorem laneReadyReport (dt : Nat) (lane : Lane) :
    Statement (.laneReadyReport dt lane) := wellSized _
theorem laneReadyTimeout (dt : Nat) (lane : Lane) :
    Statement (.laneReadyTimeout dt lane) := wellSized _
theorem resyncCopyComplete (dt : Nat) (lane : Lane) :
    Statement (.resyncCopyComplete dt lane) := wellSized _
theorem loopPeriodBoundary (dt : Nat) (loop : Nat) :
    Statement (.loopPeriodBoundary dt loop) := wellSized _
theorem loopStart (dt : Nat) (lane : Lane) (pipeline : PipeStart) :
    Statement (.loopStart dt lane pipeline) := wellSized _
theorem loopResultReady (dt : Nat) (lane : Lane) (loop : Nat) :
    Statement (.loopResultReady dt lane loop) := wellSized _
theorem loopOutputRelease (dt : Nat) (lane : Lane) (loop : Nat) :
    Statement (.loopOutputRelease dt lane loop) := wellSized _
theorem pwmPeriodStart (dt : Nat) (chan : Nat) :
    Statement (.pwmPeriodStart dt chan) := wellSized _
theorem channelSampleEnd (dt : Nat) (chan : Nat) (sample : ChanSample) :
    Statement (.channelSampleEnd dt chan sample) := wellSized _
theorem supplySampleEnd (dt : Nat) (sample : SupplySample) :
    Statement (.supplySampleEnd dt sample) := wellSized _
theorem overcurrentFast (dt : Nat) (chan : Nat) (low : Bool) :
    Statement (.overcurrentFast dt chan low) := wellSized _
theorem inrushWindowEnd (dt : Nat) (chan : Nat) :
    Statement (.inrushWindowEnd dt chan) := wellSized _
theorem retry (dt : Nat) (chan : Nat) :
    Statement (.retry dt chan) := wellSized _
theorem thermalLatch (dt : Nat) (chan : Nat) :
    Statement (.thermalLatch dt chan) := wellSized _
theorem freewheelMissing (dt : Nat) (chan : Nat) :
    Statement (.freewheelMissing dt chan) := wellSized _
theorem freewheelWatchEnd (dt : Nat) (chan : Nat) (mv : Int) (ns : Nat) :
    Statement (.freewheelWatchEnd dt chan mv ns) := wellSized _
theorem stopAsserted (dt : Nat) :
    Statement (.stopAsserted dt) := wellSized _
theorem stopDeasserted (dt : Nat) :
    Statement (.stopDeasserted dt) := wellSized _
theorem universalSampleEnd (dt : Nat) (sample : UniSample) :
    Statement (.universalSampleEnd dt sample) := wellSized _
theorem shuntOpen (dt : Nat) (input : Nat) :
    Statement (.shuntOpen dt input) := wellSized _
theorem shuntTrial (dt : Nat) (input : Nat) (inRange : Bool) :
    Statement (.shuntTrial dt input inRange) := wellSized _
theorem lossHitEnd (dt : Nat) (input : Nat) (hit : HitData) :
    Statement (.lossHitEnd dt input hit) := wellSized _
theorem lossIntervalEnd (dt : Nat) (input : Nat) (peak : Nat) :
    Statement (.lossIntervalEnd dt input peak) := wellSized _
theorem capCheckComplete (dt : Nat) (input : Nat) (capacitance : Nat) :
    Statement (.capCheckComplete dt input capacitance) := wellSized _
theorem bridgeSampleEnd (dt : Nat) (input : Nat) (reading : Int) :
    Statement (.bridgeSampleEnd dt input reading) := wellSized _
theorem bridgeWireBreak (dt : Nat) (input : Nat) (open_ : Bool) :
    Statement (.bridgeWireBreak dt input open_) := wellSized _
theorem sensorSupplyTrip (dt : Nat) (supply : Nat) :
    Statement (.sensorSupplyTrip dt supply) := wellSized _
theorem sensorSupplyRetry (dt : Nat) (supply : Nat) (exceeds : Bool) :
    Statement (.sensorSupplyRetry dt supply exceeds) := wellSized _
theorem yieldStepProcess (dt : Nat) :
    Statement (.yieldStepProcess dt) := wellSized _
theorem yieldCellWrite (dt : Nat) :
    Statement (.yieldCellWrite dt) := wellSized _
theorem frameValidRise (dt : Nat) (port : Nat) :
    Statement (.frameValidRise dt port) := wellSized _
theorem lineEnd (dt : Nat) (port : Nat) (line : LineData) :
    Statement (.lineEnd dt port line) := wellSized _
theorem frameValidFall (dt : Nat) (port : Nat) :
    Statement (.frameValidFall dt port) := wellSized _
theorem frameTimeout (dt : Nat) (port : Nat) :
    Statement (.frameTimeout dt port) := wellSized _
theorem cameraClockLost (dt : Nat) (port : Nat) :
    Statement (.cameraClockLost dt port) := wellSized _
theorem pclkMeasure (dt : Nat) (port : Nat) (edges : Nat) :
    Statement (.pclkMeasure dt port edges) := wellSized _
theorem cameraWriteSlot (dt : Nat) (port : Nat) :
    Statement (.cameraWriteSlot dt port) := wellSized _
theorem linkTransactionEnd (dt : Nat) (port : Nat) (result : LinkResult) :
    Statement (.linkTransactionEnd dt port result) := wellSized _
theorem fusionRoundInstant (dt : Nat) (round : Nat) :
    Statement (.fusionRoundInstant dt round) := wellSized _
theorem pointCloudDatagram (dt : Nat) (source : Nat) (datagram : Bytes) :
    Statement (.pointCloudDatagram dt source datagram) := wellSized _
theorem fusionSampleArrival (dt : Nat) (source : Nat) :
    Statement (.fusionSampleArrival dt source) := wellSized _
theorem roundWaitExpiry (dt : Nat) (round : Nat) :
    Statement (.roundWaitExpiry dt round) := wellSized _
theorem roundNetworkComplete (dt : Nat) :
    Statement (.roundNetworkComplete dt) := wellSized _
theorem roundOutputWritten (dt : Nat) :
    Statement (.roundOutputWritten dt) := wellSized _
theorem roundRelease (dt : Nat) (round : Nat) :
    Statement (.roundRelease dt round) := wellSized _
theorem netSlotCopyComplete (dt : Nat) (slot : Nat) :
    Statement (.netSlotCopyComplete dt slot) := wellSized _
theorem gnssEpoch (dt : Nat) (epoch : EpochData) :
    Statement (.gnssEpoch dt epoch) := wellSized _
theorem gnssDelivery (dt : Nat) :
    Statement (.gnssDelivery dt) := wellSized _
theorem exclusionExpiry (dt : Nat) (key : Nat) :
    Statement (.exclusionExpiry dt key) := wellSized _
theorem antennaOpen (dt : Nat) (antenna : Nat) (open_ : Bool) (current : Nat) :
    Statement (.antennaOpen dt antenna open_ current) := wellSized _
theorem antennaSupplyFault (dt : Nat) (antenna : Nat) (current : Nat) :
    Statement (.antennaSupplyFault dt antenna current) := wellSized _
theorem antennaSupplyRetry (dt : Nat) (antenna : Nat) (exceeds : Bool) :
    Statement (.antennaSupplyRetry dt antenna exceeds) := wellSized _
theorem timeStepApplied (dt : Nat) :
    Statement (.timeStepApplied dt) := wellSized _
theorem slewComplete (dt : Nat) :
    Statement (.slewComplete dt) := wellSized _
theorem leapSecondEffective (dt : Nat) :
    Statement (.leapSecondEffective dt) := wellSized _
theorem timePulseStart (dt : Nat) (tp : Nat) :
    Statement (.timePulseStart dt tp) := wellSized _
theorem timePulseEnd (dt : Nat) (tp : Nat) :
    Statement (.timePulseEnd dt tp) := wellSized _
theorem watchBurst (dt : Nat) (epoch : EpochData) :
    Statement (.watchBurst dt epoch) := wellSized _
theorem gnssDataSave (dt : Nat) :
    Statement (.gnssDataSave dt) := wellSized _
theorem canTxComplete (dt : Nat) (port : Nat) :
    Statement (.canTxComplete dt port) := wellSized _
theorem canBusError (dt : Nat) (port : Nat) (error : BusError) :
    Statement (.canBusError dt port error) := wellSized _
theorem canFrameReceived (dt : Nat) (port : Nat) (frame : CanFrame) :
    Statement (.canFrameReceived dt port frame) := wellSized _
theorem busRecovered (dt : Nat) (port : Nat) :
    Statement (.busRecovered dt port) := wellSized _
theorem detectDwellExpiry (dt : Nat) (port : Nat) :
    Statement (.detectDwellExpiry dt port) := wellSized _
theorem canStatusProduce (dt : Nat) :
    Statement (.canStatusProduce dt) := wellSized _
theorem stayFrameReceived (dt : Nat) (port : Nat) (frame : StayFrame) :
    Statement (.stayFrameReceived dt port frame) := wellSized _
theorem timeFrameSend (dt : Nat) :
    Statement (.timeFrameSend dt) := wellSized _
theorem timeFrameReceived (dt : Nat) (port : Nat) (frame : TimeFrame) :
    Statement (.timeFrameReceived dt port frame) := wellSized _
theorem listenerTimeStep (dt : Nat) :
    Statement (.listenerTimeStep dt) := wellSized _
theorem gridShiftAdopt (dt : Nat) :
    Statement (.gridShiftAdopt dt) := wellSized _
theorem peerDelayRequest (dt : Nat) (port : Nat) :
    Statement (.peerDelayRequest dt port) := wellSized _
theorem masterElectionTimeout (dt : Nat) :
    Statement (.masterElectionTimeout dt) := wellSized _
theorem masterLost (dt : Nat) :
    Statement (.masterLost dt) := wellSized _
theorem beaconSend (dt : Nat) :
    Statement (.beaconSend dt) := wellSized _
theorem controlFrameReceived (dt : Nat) (frame : ControlFrame) :
    Statement (.controlFrameReceived dt frame) := wellSized _
theorem stayLinkChange (dt : Nat) (port : Nat) (up : Bool) :
    Statement (.stayLinkChange dt port up) := wellSized _
theorem ethFrameReceived (dt : Nat) (port : Nat) (frame : EthFrame) :
    Statement (.ethFrameReceived dt port frame) := wellSized _
theorem gptpSyncSend (dt : Nat) (port : Nat) :
    Statement (.gptpSyncSend dt port) := wellSized _
theorem sramPatrol (dt : Nat) (reads : PatrolReads) :
    Statement (.sramPatrol dt reads) := wellSized _
theorem memFillDone (dt : Nat) (ctrl : Nat) :
    Statement (.memFillDone dt ctrl) := wellSized _
theorem eventRecordArrival (dt : Nat) :
    Statement (.eventRecordArrival dt) := wellSized _
theorem recordCommit (dt : Nat) :
    Statement (.recordCommit dt) := wellSized _
theorem tokenRefill (dt : Nat) (code : Nat) :
    Statement (.tokenRefill dt code) := wellSized _
theorem freezeExpired (dt : Nat) :
    Statement (.freezeExpired dt) := wellSized _
theorem changeLogEntry (dt : Nat) :
    Statement (.changeLogEntry dt) := wellSized _
theorem powerOn (dt : Nat) (rtcHeld : Bool) :
    Statement (.powerOn dt rtcHeld) := wellSized _
theorem esupMeasure (dt : Nat) (sample : PwrSample) :
    Statement (.esupMeasure dt sample) := wellSized _
theorem supplyFail (dt : Nat) :
    Statement (.supplyFail dt) := wellSized _
theorem wakeChange (dt : Nat) (asserted : Bool) :
    Statement (.wakeChange dt asserted) := wellSized _
theorem canWakePattern (dt : Nat) (port : Nat) :
    Statement (.canWakePattern dt port) := wellSized _
theorem rtcAlarm (dt : Nat) :
    Statement (.rtcAlarm dt) := wellSized _
theorem moduleStart (dt : Nat) :
    Statement (.moduleStart dt) := wellSized _
theorem startPhaseComplete (dt : Nat) :
    Statement (.startPhaseComplete dt) := wellSized _
theorem startupWaitExpiry (dt : Nat) :
    Statement (.startupWaitExpiry dt) := wellSized _
theorem startupBoundary (dt : Nat) :
    Statement (.startupBoundary dt) := wellSized _
theorem runOnExpiry (dt : Nat) :
    Statement (.runOnExpiry dt) := wellSized _
theorem moduleResetBegin (dt : Nat) :
    Statement (.moduleResetBegin dt) := wellSized _
theorem connectorMated (dt : Nat) (connector : Nat) :
    Statement (.connectorMated dt connector) := wellSized _
theorem connectorUnmated (dt : Nat) (connector : Nat) :
    Statement (.connectorUnmated dt connector) := wellSized _
theorem thermalWarning (dt : Nat) (sensor : Nat) (temp : Int) :
    Statement (.thermalWarning dt sensor temp) := wellSized _
theorem thermalLimit (dt : Nat) (temp : Int) :
    Statement (.thermalLimit dt temp) := wellSized _
theorem laneStopped (dt : Nat) (lane : Lane) :
    Statement (.laneStopped dt lane) := wellSized _
theorem crosstreeStopped (dt : Nat) :
    Statement (.crosstreeStopped dt) := wellSized _
theorem crosstreeResumed (dt : Nat) :
    Statement (.crosstreeResumed dt) := wellSized _
theorem canIntegrationComplete (dt : Nat) (port : Nat) :
    Statement (.canIntegrationComplete dt port) := wellSized _
theorem ethLinkChange (dt : Nat) (port : Nat) (up : Bool) :
    Statement (.ethLinkChange dt port up) := wellSized _

end Sys2Proof.Laws.WellSized
end

