-- ==== Sys2Proof/Tests/Slice0.lean ====
section
/-!
SUPPORT. Tests: a witness for the hypotheses of every statement, numbers the manual prints, and terms that well-formedness
refuses.
-/
set_option linter.all false
set_option Elab.async false

namespace Sys2Proof.Tests
open Sys2Proof Sys2Proof.Machine

def running : State :=
  { State.reset with
    time := { State.reset.time with
      mast := 3000000000
      ticks := 3000000000
      anchored := true
      noTime := false
      lastMajor := some 3000000000
      lastSlot := some 300000 }
    main := { State.reset.main with running := true }
    mizzen := { State.reset.mizzen with running := true }
    xt := { State.reset.xt with
      main := { state := .active, adopted := true }
      mizzen := { state := .standby, adopted := true } }
    pwr := { State.reset.pwr with module_ := .run, phase := 0, domains := 65535, d15At := 1000 } }

def ask (target : Nat) (payload : Bytes) : Request :=
  { path := .service, target := target, sequence := 1, origin := 0x30003005, boundary := 0, tag := 0, payload := payload }

/-- `OpSpec.Accepts`, computed. -/
def accepts (op : OpSpec) (s : State) (r : Request) (z : Resolved) : Bool :=
  s.executes r && decide (s.resolve op.kind op.block r.boundary = some z) && op.allows r && op.target r && !op.exceeds r &&
  decide (op.param r = none) &&
  decide ((op.viaCrosstree = true → s.xt.stopped = false ∧ ∀ l ∈ (s.senders r).lanes, (s.lane l).crosstreeLost = false) ∧
    (changesChannels op.code = true → ∀ l ∈ (s.senders r).lanes, s.adopted l = true)) &&
  decide (op.block = 0 ∨ op.block = 6 ∨ (s.sendCommand op r z).2.map (fun t => t.copy.cargo) = [Cargo.command op.code r z]) &&
  (op.noted s r z).takes op && !op.passed (op.noted s r z) z && decide (op.check (op.noted s r z) r z = none)

theorem accepts_iff {op : OpSpec} {s : State} {r : Request} {z : Resolved} (h : accepts op s r z = true) : op.Accepts s r z := by
  simp only [accepts, Bool.and_eq_true, decide_eq_true_eq, Bool.not_eq_true'] at h
  obtain ⟨⟨⟨⟨⟨⟨⟨⟨⟨⟨h1, h2⟩, h3⟩, h4⟩, h5⟩, h6⟩, h7⟩, h8⟩, h9⟩, h10⟩, h11⟩ := h
  exact ⟨h1, h2, h3, h4, h5, h6, h7, h8, h9, h10, h11⟩

def accepted (op : OpSpec) (s : State) (r : Request) : Bool :=
  match s.resolve op.kind op.block r.boundary with
  | some z => accepts op s r z
  | none => false

theorem accepted_iff {op : OpSpec} {s : State} {r : Request} (h : accepted op s r = true) : ∃ z, op.Accepts s r z := by
  unfold accepted at h; split at h
  · exact ⟨_, accepts_iff h⟩
  · cases h

def slotBytes (start repeat_ length owner kind resource : Nat) : Bytes :=
  [putLE 4 start, putLE 4 repeat_, putLE 2 length, putLE 2 owner, putLE 1 kind, putLE 1 resource, zeros 2].flatten

def transferBytes16 (start repeat_ offset receiver resource signal item : Nat) : Bytes :=
  [putLE 4 start, putLE 4 repeat_, putLE 2 offset, putLE 1 receiver, putLE 1 resource, putLE 2 signal, putLE 2 item].flatten

def sectionEntry (type offset length count : Nat) : Bytes :=
  [putLE 2 type, zeros 2, putLE 4 offset, putLE 4 length, putLE 4 count].flatten

/-- The header of a small image, its section table, slot table and transfers (Tables 03-1 to 03-9). -/
def imageHead (crc : Nat) : List Bytes :=
  [putLE 4 0x54533634, putLE 2 1, putLE 2 9, putLE 4 432, putLE 4 100, putLE 4 0x00010000, putLE 2 0x0041,
   putLE 2 0, putLE 8 77, putLE 4 48, putLE 4 crc, zeros 8]

def imageSections : List Bytes :=
  [sectionEntry 1 192 208 13, sectionEntry 2 192 0 0, sectionEntry 3 192 0 0, sectionEntry 4 192 0 0,
   sectionEntry 5 192 0 0, sectionEntry 6 192 0 0, sectionEntry 7 192 0 0, sectionEntry 8 400 32 2,
   sectionEntry 10 432 0 0]

def imageSlots (n : Nat) : List Bytes := (upto 6).map fun c => slotBytes 90 0 10 65535 2 (c + n)

def imageInterpreter : List Bytes := [slotBytes 0 0 50 65535 3 0]

def imageTransfers : List Bytes := [transferBytes16 99 0 9000 0x0B 0 0 1, transferBytes16 98 0 2000 0x0B 0 0 2]

def smallImage (crc : Nat) : Bytes := (imageHead crc ++ imageSections ++ (imageSlots 0 ++ imageSlots 6 ++ imageInterpreter ++ imageTransfers)).flatten

def smallBank : Bank := ⟨.valid, 432, 3810290955, smallImage 3810290955⟩

/-- A station with no key set, so that every `TAG` it writes is 0. -/
def loadedState : State :=
  { running with
    sys := { running.sys with keys := [] }
    sched := { running.sched with bank1 := smallBank } }

def asleepWake : State := { running with pwr := { running.pwr with wake := false } }

def masterState : State := { running with stay := { running.stay with membership := 3, stations := [(5, {state := 2}), (6, {state := 3})] } }

def sampleOf (op : OpSpec) (target : Nat) (payload : Bytes) (s : State := running) (boundary : Nat := 0) :
    OpSpec × State × Request := (op, s, { ask target payload with boundary := boundary })

def stagedSamples : List (OpSpec × State × Request) :=
  [sampleOf opTimeSetLeap 0 (putLE 1 18 ++ zeros 7), sampleOf opSchedActivate 0 ([1#8] ++ zeros 7 ++ putLE 8 77) loadedState,
   sampleOf opSchedSetStartBank 0 ([1#8] ++ zeros 3) loadedState, sampleOf opSysSetKey 0 ([1#8] ++ zeros 3 ++ [1#8] ++ zeros 31),
   sampleOf opLaneSetPolicy 0 ([8#8, 3#8] ++ putLE 2 10 ++ putLE 2 100 ++ zeros 2),
   sampleOf opLaneSetDedupWindow 1 (putLE 4 2000), sampleOf opLaneRequestBurst 0 [], sampleOf opLaneRequestSwitch 0 [],
   sampleOf opCtrlSetLoop 12 loopDescReset, sampleOf opCtrlSetCoeffs 12 ([1#8] ++ zeros 3 ++ identityCoeffs),
   sampleOf opCtrlSetClamp 12 (putS 4 (-5) ++ putS 4 7), sampleOf opCtrlPresetState 12 ([1#8] ++ zeros 19),
   sampleOf opChanSetConfig 3 chanCfgReset, sampleOf opChanSetProtection 3 (chanProtReset 3),
   sampleOf opSenseSetInput 5 uniReset] ++
  [sampleOf opSenseSetLoss 96 lossReset, sampleOf opSenseSetBridge 120 bridgeReset, sampleOf opSenseSetSupply 128 bridgeReset,
   sampleOf opYieldSetGrid 0 resetYield.grid, sampleOf opYieldSetSources 0 resetYield.sources,
   sampleOf opYieldClearGrid 0 (zeros 4), sampleOf opCamSetPort 0 camPortReset, sampleOf opCamSetGeometry 0 camGeomReset,
   sampleOf opCamSetLinear 0 (zeros 4), sampleOf opCamSetExposure 0 camExposureReset, sampleOf opCamSetCfa 0 (zeros 4),
   sampleOf opCamSetWb 0 camWbReset, sampleOf opCamSetMatrix 0 camMatrixReset, sampleOf opCamSetTone 0 camToneReset,
   sampleOf opCamSetStream 0 camStreamReset, sampleOf opCamSetStats 0 camStatsReset] ++
  [sampleOf opFusionSetSource 0 fusSourceReset, sampleOf opFusionSetRound 0 fusRoundReset,
   sampleOf opFusionSetCanvas 0 resetFus.canvas, sampleOf opFusionResetState 0 [], sampleOf opGnssSetConfig 0 gnssReset,
   sampleOf opGnssSetTimePulse 0 pulseReset, sampleOf opGnssSetWatch 0 watchReset, sampleOf opCanSetPort 0 canPortReset,
   sampleOf opCanSetFilters 0 (zeros 4), sampleOf opStayJoin 5 [] masterState 3003, sampleOf opStayLeave 6 [] masterState 3003,
   sampleOf opEthSetPort 0 ethReset, sampleOf opMemSetMode 0 (zeros 4), sampleOf opMemSetPatrol 0 (zeros 8),
   sampleOf opMemSetFill 0 (zeros 4), sampleOf opRecSetRate 0 (putLE 2 0x0100 ++ putLE 2 1 ++ [8#8, 0#8] ++ putLE 2 1000),
   sampleOf opPwrSetDomain 0 (zeros 4), sampleOf opPwrSetConfig 0 pwrConfigFactory, sampleOf opPwrEnterLow 0 (zeros 4) asleepWake,
   sampleOf opPwrReset 0 []]

/-- Hypotheses of `StagedCommandsAreHeld`: accepted, with no earlier staging and room for one more. -/
def firstStaging (op : OpSpec) (s : State) (r : Request) : Bool :=
  match s.resolve op.kind op.block r.boundary with
  | some z => accepts op s r z &&
    decide ((op.preStage (op.noted s r z) r z).findStaged op.code r.target = none) &&
    decide ((op.preStage (op.noted s r z) r z).stagedCount op.block < 4096)
  | none => false

/-- Hypotheses of `SecondStagingSupersedes`: accepted while a staging of the same opcode and target waits. -/
def secondStaging (op : OpSpec) (s : State) (r : Request) : Bool :=
  match s.resolve op.kind op.block r.boundary with
  | some z =>
    let s := { s with staged := [op.entry r z s] }
    accepts op s r z && ((op.noted s r z).findStaged op.code r.target).isSome
  | none => false

theorem sampled_codes : stagedSamples.map (fun x => x.1.code) = stagedCommands.map (fun x => x.1.code) := by decide +kernel

theorem witness_StagedCommandsAreHeld : (stagedSamples.all fun x => firstStaging x.1 x.2.1 x.2.2) = true := by decide +kernel

theorem witness_SecondStagingSupersedes : (stagedSamples.all fun x => secondStaging x.1 x.2.1 x.2.2) = true := by
  decide +kernel

theorem witness_second_activation :
    (match loadedState.resolve .major 10 0 with
    | some z =>
      let r := ask 0 ([1#8] ++ zeros 7 ++ putLE 8 77)
      let e := opSchedActivate.entry r z loadedState
      let s : State := { loadedState with staged := [e] }
      accepts opSchedActivate s r z && decide ((opSchedActivate.noted s r z).findStaged 0x0304 0 = some e) &&
        decide ((((opSchedActivate.noted s r z).supersede e).activateTrial r z).findStaged 0x0304 0 = none) &&
        decide ((((opSchedActivate.noted s r z).supersede e).activateTrial r z).stagedCount 10 < 4096)
    | none => false) = true := by decide +kernel

/-- A request of lane firmware. -/
def fromFirmware (l : Lane) (payload : Bytes) : Request := { ask 0 payload with path := .firmware l }

theorem witness_AStepRunsTheFrontCommand :
    (({ running with pending := [.crosstreeStopped 0] } : State).pending = .crosstreeStopped 0 :: []) ∧
    running.pending = [] ∧ running.inTime 1 := by decide +kernel

theorem witness_EveryCommandAnswers : running.inTime (Instr.chanGetSupply 5 (ask 0 [])).dt ∧
    ¬ running.inTime (Instr.chanGetSupply mastEnd (ask 0 [])).dt := by decide +kernel

def immediateSamples : List (OpSpec × State × Request) :=
  [sampleOf opTimeGetStatus 0 [],
   sampleOf opTimeSetManual 0 (putLE 8 9000000000) { running with time := { running.time with noTime := true } },
   sampleOf opSchedLoadBegin 0 ([1#8] ++ zeros 3 ++ putLE 4 432 ++ putLE 4 0),
   sampleOf opSchedLoadData 0 ([1#8] ++ zeros 3 ++ putLE 4 3 ++ [9#8])
     { running with sched := { running.sched with bank1 := ⟨.loading, 4, 0, zeros 3⟩ } },
   sampleOf opSchedGetStatus 0 [], sampleOf opSysGetInfo 0 [], sampleOf opSysGetPacketCounters 0 [],
   sampleOf opSysClearOrigins 0 [], sampleOf opLaneGetStatus 0 [], sampleOf opLaneGetReceiverCounters 1 [],
   sampleOf opLaneRecover 1 [] { running with xt := { running.xt with mizzen := { state := .failed } } }] ++
  [sampleOf opCtrlGetLoop 0 [], sampleOf opCtrlGetStatus 0 [], sampleOf opCtrlClearCounters 0 [],
   sampleOf opChanGetConfig 3 [], sampleOf opChanGetStatus 3 [], sampleOf opChanGetSupply 0 [],
   sampleOf opChanGetProtection 3 [], sampleOf opChanGetGeneration 255 [], sampleOf opChanClearCounters 103 [],
   sampleOf opChanReleaseLatch 3 ([1#8] ++ zeros 3) (running.updChan 3 fun h => { h with thermalLatch := true }),
   sampleOf opChanReleaseLatch 3 ([1#8] ++ zeros 3)
     (running.updChan 3 fun h => { h with thermalLatch := true, temperature := 1400 }),
   sampleOf opChanRefillRetry 3 [], sampleOf opChanStopReset 255 [],
   sampleOf opChanStopReset 255 [] { running with power := { running.power with stopAsserted := false } }] ++
  [sampleOf opSenseGetStatus 135 [], sampleOf opYieldGetTotals 0 [], sampleOf opCamSensorTransfer 7 ([8#8] ++ zeros 3 ++ putLE 2 1 ++ zeros 3),
   sampleOf opCamGetStatus 7 [], sampleOf opCamClearCounters 7 [], sampleOf opCamGetStreamStatus (256 * 4 + 7) [],
   sampleOf opFusionNetLoadBegin 0 ([7#8] ++ zeros 3 ++ putLE 4 64 ++ putLE 4 0),
   sampleOf opFusionNetLoadData 0 ([7#8] ++ zeros 3 ++ putLE 4 0 ++ [9#8])
     (running.updSlot 7 fun _ => { state := 1, length := 64, crc := 0 }),
   sampleOf opFusionNetLoadEnd 0 ([7#8] ++ zeros 3)
     (running.updSlot 7 fun _ => { state := 1, length := 64, crc := 0, data := zeros 64 }),
   sampleOf opFusionGetRoundStatus 7 [], sampleOf opFusionGetSourceStatus 15 [], sampleOf opFusionGetNetStatus 0 [],
   sampleOf opFusionClearCounters 0 []] ++
  [sampleOf opGnssAid 0 (zeros 4), sampleOf opGnssResetData 0 (zeros 4), sampleOf opGnssGetStatus 0 [],
   sampleOf opGnssClearCounters 0 [], sampleOf opCanRecover 11 [] (running.updCan 11 fun c => { c with state := 4 }),
   sampleOf opCanGetStatus 11 [], sampleOf opCanClearCounters 11 [], sampleOf opStayGetStatus 0 [],
   sampleOf opStayGetStation 4095 [] masterState, sampleOf opStayClearCounters 0 [], sampleOf opEthGetStatus 3 [],
   sampleOf opMemGetStatus 5 [], sampleOf opMemClearLog 5 [], sampleOf opMemRewrite 4 (putLE 8 16),
   sampleOf opMemTestWrite 4 (zeros 48), sampleOf opMemTestWrite 4 ([1#8] ++ zeros 47), sampleOf opMemTestRead 4 (putLE 8 4080)] ++
  [sampleOf opRecRead 0 (zeros 8), sampleOf opRecReadTrouble 1 (zeros 8), sampleOf opRecGetStatus 0 [],
   sampleOf opRecFreeze 0 (putLE 4 100), sampleOf opRecUnfreeze 0 [], sampleOf opRecClear 0 [],
   sampleOf opRecGetRate 0 (putLE 2 0x0201 ++ zeros 2), sampleOf opPwrGetStatus 0 []]

/-- Every command that is not staged is accepted somewhere. -/
theorem witness_immediate_commands : (immediateSamples.all fun x => accepted x.1 x.2.1 x.2.2) = true := by decide +kernel

theorem crc_head : (imageHead 0).flatten.foldl crcByte 0xFFFFFFFF = 30304880 := by decide +kernel

theorem crc_sections : imageSections.flatten.foldl crcByte 30304880 = 3528746652 := by decide +kernel

theorem crc_slots : (imageSlots 0).flatten.foldl crcByte 3528746652 = 3985085942 := by decide +kernel

theorem crc_slots2 : (imageSlots 6).flatten.foldl crcByte 3985085942 = 2153317555 := by decide +kernel

theorem crc_interpreter : imageInterpreter.flatten.foldl crcByte 2153317555 = 2477855622 := by decide +kernel

theorem crc_transfers : imageTransfers.flatten.foldl crcByte 2477855622 = 484676340 := by decide +kernel

theorem small_zero : setBytes smallBank.data 0x24 (zeros 4) = smallImage 0 := by decide +kernel

theorem small_sum : (smallImage 0).foldl crcByte 0xFFFFFFFF = 484676340 := by
  unfold smallImage
  simp only [List.flatten_append, List.foldl_append, crc_head, crc_sections, crc_slots, crc_slots2, crc_interpreter,
    crc_transfers]

theorem small_field : u32 smallBank.data 0x24 = 3810290955 := by decide +kernel

theorem crc_in_order {d : Bytes} {crc : Nat} (h : u32 d 0x24 = crc) (k : crc32c (setBytes d 0x24 (zeros 4)) = crc) :
    crcError d crc = none := by
  unfold crcError; rw [h, k]; simp [failAt]

theorem crc_of_fold {p : Bytes} {n : Nat} (h : p.foldl crcByte 0xFFFFFFFF = n) : crc32c p = n ^^^ 0xFFFFFFFF := by
  unfold crc32c; rw [h]

theorem small_crc0 : crc32c (smallImage 0) = 3810290955 := (crc_of_fold small_sum).trans (by decide +kernel)

theorem small_crc : crcError smallBank.data 3810290955 = none :=
  crc_in_order small_field (small_zero ▸ small_crc0)

theorem small_header : headerError smallBank.data 432 = none := by decide +kernel

theorem small_version : versionError smallBank.data = none := by decide +kernel

theorem small_sections : sectionError smallBank.data = none := by decide +kernel

theorem small_ranges : rangeError smallBank.data running.sys.station = none := by decide +kernel

theorem small_fit : fitError smallBank.data = none := by decide +kernel

theorem small_reservations : reservationError smallBank.data = none := by decide +kernel

theorem small_references : referenceError smallBank.data = none := by decide +kernel

theorem small_costs : costError smallBank.data = none := by decide +kernel

theorem small_image_is_valid : imageError smallBank running.sys.station immediateOp = none := by
  have h : firstAt ((List.zip (initOffsets (sectionAt smallBank.data 9) (readImage smallBank.data).inits)
    (readImage smallBank.data).inits).map (fun x => failAt (!immediateOp x.2.opcode) x.1)) = none := by decide +kernel
  unfold imageError
  simp only [h]
  rw [show smallBank.length = 432 from rfl, show smallBank.crc = 3810290955 from rfl, small_header, small_crc, small_version, small_sections, small_ranges, small_fit, small_reservations, small_references, small_costs]
  decide +kernel

/-- `running` with its time generator changed. -/
def withTime (f : TimeSt → TimeSt) : State := { running with time := f running.time }

/-- Hypotheses of `TimeCommandsComplete`: a step of the GNSS block and one by command at their second, a slew that has ended, and
a leap second on its second. -/
theorem witness_TimeCommandsComplete :
    accepted opTimeGetStatus (running.elapse 0) (ask 0 []) = true ∧
    (let s := withTime fun t => { t with pendingStep := some ⟨-5000, 3000000000, none⟩ }
     s.inTime 0 ∧ s.time.pendingStep = some ⟨-5000, 3000000000, none⟩ ∧ 3000000000 ≤ s.time.mast + 0) ∧
    (let s := withTime fun t => { t with pendingStep := some ⟨7000000000, 3000000000, some (ask 0 [])⟩ }
     s.time.pendingStep = some ⟨7000000000, 3000000000, some (ask 0 [])⟩ ∧ 3000000000 ≤ s.time.mast + 0) ∧
    (running.elapse 0).slewLeft = 0 ∧
    (let s := withTime fun t => { t with leapPending := true, leapEffective := 3 }
     s.time.leapPending = true ∧ s.time.leapEffective ≤ (s.time.mast + 0) / 1000000000) := by decide +kernel

theorem witness_AStepDoesNotMoveTheGrid :
    let s := withTime fun t => { t with pendingStep := some ⟨-5000, 3000000000, none⟩ }
    s.time.anchored = true ∧ (0 : Int) ≤ ((s.time.mast + 0 : Nat) : Int) + (-5000) ∧
    ∃ t, exec (.timeStepApplied 0) s = .next t := by
  refine ⟨by decide +kernel, by decide +kernel, ?_⟩
  exact ⟨_, rfl⟩

/-- A bank that holds the small image and waits for its end, and one whose image has another length. -/
def loadingState (n : Nat) : State :=
  { running with sched := { running.sched with bank1 := { smallBank with state := .loading, length := n } } }

theorem witness_ScheduleCommandsComplete :
    accepted opSchedLoadEnd (loadingState 432) (ask 0 ([1#8] ++ zeros 3)) = true ∧
    imageError smallBank running.sys.station immediateOp = none ∧
    accepted opSchedLoadEnd (loadingState 400) (ask 0 ([1#8] ++ zeros 3)) = true ∧
    headerError ((loadingState 400).bank 1).data ((loadingState 400).bank 1).length = some 8 :=
  ⟨by decide +kernel, small_image_is_valid, by decide +kernel, by decide +kernel⟩

/-- A task with two local signals in its write list, and one running activation of it on Main. -/
def taskState (a : Activation) : State :=
  let i := running.sched.image
  { running with
    sched := { running.sched with image := { i with
      tasks := [⟨4, false, 0, 1, 0, 9000, 5000, 0, 0, 0, 2, 0, 0, 1, 0, 0⟩]
      lists := [1, 2]
      signals := [⟨1, 2, 0, 0, 0, 0⟩, ⟨2, 2, 0, 0, 0, 0⟩] } }
    main := { running.main with acts := [a], signals := [(1, {}), (2, {})] } }

def activation (slot budget : Nat) (f : Option Finished) : Activation := ⟨4, 0, slot, slot, [], 0, budget, f⟩

/-- A state whose image has one window, over the first 4 KiB. -/
def oneWindow (s : State) : State :=
  { s with sched := { s.sched with image := { s.sched.image with windows := [⟨0, 4096, true, true, true⟩] } } }

theorem witness_TaskCommandsComplete :
    (let s := taskState (activation 300000 4000000000 none)
     ((s.elapse 0).activation .main 4 0).isSome = true ∧ (s.sched.image.task 4).isSome = true ∧
     (s.elapse 0).computes .main = true ∧ (((s.elapse 0).activation .main 4 0).map (fun x => x.finished)) = some none) ∧
    (let s := taskState (activation 299999 4000000000 (some ⟨[(1, 5)], []⟩))
     ((s.elapse 0).activation .main 4 0).map (fun x => (x.finished, decide ((x.last + 1) * 10000 ≤ (s.elapse 0).grid))) =
       some (some ⟨[(1, 5)], []⟩, true)) ∧
    (let s := taskState (activation 300000 3000000000 none)
     ((s.elapse 0).activation .main 4 0).map (fun x => (x.finished, decide (x.budget ≤ s.now + 0))) = some (none, true) ∧
     (s.sched.image.task 4).map (fun t => (s.sched.image.allows t 4096 .write,
       (State.accessAll t .main [.store 4096 7#8] s).2)) = some (false, .window) ∧
     (s.sched.image.task 4).map (fun t => (State.accessAll t .main [] s).2) = some .done) ∧
    (let s := (taskState (activation 300000 4000000000 none)).updMem 0 fun m => m.store 17 3#13
     (s.sched.image.task 4).map (fun t => (State.accessAll { t with windowCount := 1 } .main [.fetch 17 1] (oneWindow s)).2) =
       some .memory) ∧
    (let s := { running with sched := { running.sched with image := { running.sched.image with
        transfers := [⟨0, 0, 0, 11, 0, 0, 1⟩, ⟨0, 0, 0, 11, 0, 0, 2⟩, ⟨0, 0, 0, 1, 3, 1, 1⟩] } } }
     ∀ n, n < 3 → (s.sched.image.transfers[n]?).map (fun t => (t.holds (s.elapse 0).slotInMajor,
       decide (t.offset ≤ (s.elapse 0).grid % 10000), decide ((s.elapse 0).grid % 10000 ≤ t.offset + 20))) =
       some (true, true, true)) := by decide +kernel

theorem witness_EndedActivationKeepsItsSignals :
    let s := taskState (activation 300000 4000000000 none)
    (s.sched.image.task 4).map (fun t => s.sched.image.writeList t) = some [1, 2] ∧
    Tbl.find (s.lane .main).signals 1 ≠ none := by decide +kernel

/-- A 36-byte reply packet for task 4 of station 0, tagged with a key of 32 zero bytes. -/
def replyUnit : Bytes := withCrc (header 1 3 0x0101 0 9 0x00040000 0 0 3000 7819303275567086441)

theorem witness_SystemCommandsComplete :
    running.domain 13 = true ∧ external .service = true ∧ running.main.running = true ∧ running.mizzen.running = true ∧
    running.main.queue.length < 256 ∧
    (let s := taskState (activation 300000 4000000000 none)
     let s := { s with sys := { s.sys with station := 0, keys := [(0, zeros 32)] } }
     s.taking ≠ none ∧ checkForm replyUnit = .passes ∧ originKind (unitOrigin replyUnit) = 0 ∧
     originStation (unitOrigin replyUnit) = s.sys.station ∧ s.mailDepth (originIndex (unitOrigin replyUnit)) ≠ 0 ∧
     s.tagOk replyUnit = true) := by decide +kernel

theorem witness_SequencesAreJudgedByOrigin :
    Sorted ([(7, 10), (9, 4294967295)] : Tbl Nat) ∧ Tbl.find ([(7, 10), (9, 4294967295)] : Tbl Nat) 9 = some 4294967295 ∧
    judgeSequence [(7, 10), (9, 4294967295)] 9 0 = (0, [(7, 10), (9, 0)]) ∧
    judgeSequence [(7, 10), (9, 4294967295)] 7 10 = (0x18, [(7, 10), (9, 4294967295)]) ∧
    judgeSequence [(7, 10), (9, 4294967295)] 7 1048586 = (0, [(7, 1048586), (9, 4294967295)]) ∧
    judgeSequence [(7, 10), (9, 4294967295)] 7 1048587 = (0x18, [(7, 10), (9, 4294967295)]) := by decide +kernel

/-- A full table, as the third case of the claim has it. -/
theorem witness_full_origin_table : ((List.range 512).map (fun k => (k, 0)) : Tbl Nat).length = 512 ∧
    Sorted ((List.range 512).map (fun k => (k, 0)) : Tbl Nat) ∧
    Tbl.find ((List.range 512).map (fun k => (k, 0)) : Tbl Nat) 600 = none :=
  ⟨by simp, by simp [Sorted, List.pairwise_map, List.pairwise_lt_range], by decide +kernel⟩

/-- One request for each check of Table 04-3 from step 9 to step 13. -/
theorem witness_ChecksComeInOrder :
    running.executes (ask 0 []) = true ∧
    opSysSetKey.allows { ask 0 [] with origin := 0x00003005 } = false ∧
    (opSysSetKey.allows (ask 1 []) = true ∧ opSysSetKey.target (ask 1 []) = false) ∧
    (opCamSensorTransfer.target (ask 0 (zeros 4 ++ putLE 2 4 ++ zeros 2)) = true ∧
      opCamSensorTransfer.exceeds (ask 0 (zeros 4 ++ putLE 2 4 ++ zeros 2)) = true) ∧
    (opPwrEnterLow.exceeds (ask 0 [2#8, 0#8, 0#8, 0#8]) = false ∧ opPwrEnterLow.param (ask 0 [2#8, 0#8, 0#8, 0#8]) = some 0x20) ∧
    (opPwrReset.param (ask 0 []) = none ∧ running.resolve opPwrReset.kind opPwrReset.block 3000 = none) := by decide +kernel

theorem witness_NoOpcodeBelowItsRole : opSysSetKey ∈ ops ∧ roleOf { ask 0 [] with origin := 0x10003005 } < opSysSetKey.role (ask 0 []) ∧
    (ask 0 []).path ≠ .firmware .main := by
  refine ⟨?_, by decide +kernel, by decide⟩
  simp [ops, ops0]

/-- A copy of an item on its way from a lane to a power channel. -/
def dutyItem (seq : Nat) : Item := ⟨1, 3, 1, seq, ⟨1, 500, 2999999000, true, [], .none⟩⟩

theorem witness_LaneCommandsComplete :
    accepted opLaneRecover { running with xt := { running.xt with mizzen := { state := .failed } } } (ask 1 []) = true ∧
    (let s := running.updXt .mizzen fun x => { x with state := .recovering, booted := true }
     accepted opLaneResyncRequest s (fromFirmware .mizzen []) = true ∧ (s.xtLane .mizzen).state = .recovering ∧
     (s.xtLane .mizzen).booted = true ∧ s.xt.restart = false ∧ (s.lane .mizzen).loaded = s.sched.activations) ∧
    (accepted opLaneResyncRequest running (fromFirmware .mizzen []) = true ∧ (running.xtLane .mizzen).state ≠ .recovering) := by
  decide +kernel

theorem witness_HeartbeatsComplete :
    (let s := running.updLane .main fun a =>
       { a with hbInFlight := [⟨true, 1, 3000, 0⟩], acksInFlight := [⟨0, 1⟩], healthInFlight := [putLE 4 0 ++ putLE 4 3000 ++ zeros 24] }
     s.xt.stopped = false ∧ (s.xtLane .main).hold = none ∧ (s.xtLane .main).state ≠ .failed ∧
     (s.lane .main).acksInFlight = [⟨0, 1⟩] ∧ (s.lane .main).hbInFlight ≠ [] ∧ (s.lane .main).running = true ∧
     u32 (putLE 4 0 ++ putLE 4 3000 ++ zeros 24) 4 = (s.elapse 0).major) ∧
    (let s := running.updXt .main fun x => { x with timer := some 3000000000, misses := 1 }
     (s.xtLane .main).timer = some 3000000000 ∧ 3000000000 ≤ s.now + 0 ∧ (s.xtLane .main).misses < 2) ∧
    (let s := running.updXt .main fun x => { x with timer := some 3000000000, misses := 2 }
     2 ≤ (s.xtLane .main).misses) := by decide +kernel

def overrun (lane judgeAt : Nat) : Overrun := ⟨lane, 0, 4, 1, false, 2999, 99, judgeAt⟩

theorem witness_CrosstreeEventsComplete :
    (let s := { running with xt := { running.xt with
        reportsInFlight := [⟨1, 3, 2, 0, 1, 1, 0⟩]
        overrunsInFlight := [overrun 0 299999, overrun 255 299999]
        burstJudge := some 299999 } }
     s.xt.stopped = false ∧ (299999 + 1) * 10000 ≤ (s.elapse 0).grid) ∧
    ((overrun 0 299999).lane ≠ 255 ∧ (overrun 255 299999).lane = 255) ∧
    (let s := { running with xt := { running.xt with overruns := [overrun 0 299999] } }
     s.xt.overruns = [overrun 0 299999] ∧ ((overrun 0 299999).judgeAt + 1) * 10000 ≤ (s.elapse 0).grid) ∧
    (let o := overrun 0 299999
     let p := overrun 1 299999
     let q : Overrun := { p with task := 5 }
     o.lane = 0 ∧ p.lane = 1 ∧ p.judgeAt = o.judgeAt ∧ p.task = o.task ∧ p.major = o.major ∧ p.slot = o.slot ∧ q.task ≠ o.task) ∧
    (let s := ((withTime fun t => { t with mast := 3000950000, ticks := 3000950000 }).updLane .main fun a =>
         { a with digestsInFlight := [⟨4, 299999, 17⟩] }).updLane .mizzen fun a =>
       { a with digests := [⟨4, 299999, 17⟩], ownDigests := [⟨4, 299999, 17⟩, ⟨5, 299999, 18⟩] }
     (s.lane s.xt.active).digestsInFlight = [⟨4, 299999, 17⟩] ∧ s.computes s.xt.active.other = true ∧
     (s.elapse 0).selftestFree = true ∧ (s.lane s.xt.active.other).digests = [⟨4, 299999, 17⟩] ∧
     (299999 + 1) * 10000 ≤ (s.elapse 0).grid ∧ (s.lane s.xt.active.other).ownDigests.find? (fun y => y.task == 4 && y.slot == 299999) = some ⟨4, 299999, 17⟩) ∧
    (let s := running.updXt .mizzen fun x =>
       { x with state := .recovering, hold := some 3000000000, readyDue := some 3000000000 }
     (s.xtLane .mizzen).hold = some 3000000000 ∧ 3000000000 ≤ s.now + 0 ∧ s.domain (coreDomain .mizzen) = true ∧
     (s.xtLane .mizzen).filling = false ∧ s.mem.fillAtPowerOn = false ∧ s.xt.restart = false ∧
     (let u := { s with mem := { s.mem with fillAtPowerOn := true } }
      u.mem.fillAtPowerOn = true ∧ (u.xtLane .mizzen).hold = some 3000000000) ∧
     (let u := { (s.updXt .mizzen fun x => { x with state := .standby }) with xt := { s.xt with restart := true } }
      u.mem.fillAtPowerOn = false ∧ u.xt.restart = true ∧ (running.xtLane .mizzen).state ≠ .recovering)) ∧
    (let s := { running with pwr := { running.pwr with module_ := .starting, phase := 7 } }
     s.xt.stopped = false ∧ (s.lane .main).running = true ∧ s.adopted .main = true ∧ (s.xtLane .main).adopted = true ∧
     s.pwr.module_ = .starting ∧
     7 ≤ s.pwr.phase) ∧
    (let s := { (running.updXt .mizzen fun x => { x with readyDue := some 3000000000, ready := true }) with
        xt := { (running.updXt .mizzen fun x => { x with readyDue := some 3000000000, ready := true }).xt with restart := true } }
     s.pwr.module_ = .run ∧ s.xt.restart = true ∧ (s.xtLane .mizzen).readyDue = some 3000000000 ∧ 3000000000 ≤ s.now + 0 ∧
     s.adopted .mizzen = true ∧ (s.xtLane .mizzen).adopted = true ∧ (s.lane .mizzen).running = true ∧
     (s.xtLane Lane.main.other).ready = true) ∧
    (let s := running.updXt .mizzen fun x => { x with state := .resync }
     let s := { s with xt := { s.xt with resyncBytes := (s.elapse 0).copyTotal } }
     (s.xtLane .mizzen).state = .resync ∧ (s.xtLane .mizzen).copyDone = false ∧ s.xt.resyncBytes = (s.elapse 0).copyTotal) := by
  decide +kernel

theorem witness_ReceiversComplete :
    (let s := running.updLane .main fun a => { a with items := [dutyItem 0] }
     firstItem 1 3 (s.lane .main).items = some (dutyItem 0, []) ∧ s.blockOn 1 = true ∧ isDutyItem 1 (dutyItem 0).item = true ∧ s.adopted .main = true) ∧
    (let s := (running.updLane .mizzen fun a => { a with items := [⟨2, 0, 2, 0, ⟨1, 5, 0, true, [], .none⟩⟩] }).updXt .mizzen fun x =>
       { x with state := .failed }
     firstItem 2 0 (s.lane .mizzen).items ≠ none ∧ s.mode 2 .mizzen = .ignore) ∧
    (let q : Pair := ⟨3, 1, 0, 2999999000, none, some ⟨1, 500, 2999999000, true, [], .none⟩, none, some 3000000000, 3000002000⟩
     let s := running.updRecv (recvKey 1 3) fun v => { v with pairs := [q] }
     (s.recv (recvKey 1 3)).pairs = [q] ∧ q.resource = 3 ∧ q.taken = none ∧
     q.copy s.xt.active.other = some ⟨1, 500, 2999999000, true, [], .none⟩ ∧ q.copy s.xt.active = none ∧
     s.mode (keyBlock (recvKey 1 3)) s.xt.active ≠ .ignore ∧ q.window = some 3000000000 ∧ 3000000000 ≤ s.now + 0) ∧
    (let q : Pair := ⟨3, 1, 0, 2999999000, none, some ⟨1, 500, 2999999000, true, [], .none⟩, some .mizzen, none, 3000000000⟩
     let s := running.updRecv (recvKey 1 3) fun v => { v with pairs := [q] }
     (s.recv (recvKey 1 3)).pairs = [q] ∧ q.limit ≤ s.now + 0) := by decide +kernel

theorem witness_ActiveCopiesAreTakenOnArrival :
    let k := recvKey 1 3
    (∀ seq, seq = 0 ∨ seq = 1048575 →
      let d := ((dutyItem seq).seq + 4294967296 - Tbl.getD (running.recv k).streams (streamKey 3 1) 4294967295 % 4294967296) % 4294967296
      1 ≤ d ∧ d ≤ 1048576) ∧ (running.recv k).pairs = [] ∧ running.mode (keyBlock k) .main = .use ∧
    running.mode (keyBlock k) .mizzen = .fallback := by
  refine ⟨?_, by decide +kernel, by decide +kernel, by decide +kernel⟩
  rintro seq (rfl | rfl) <;> decide +kernel

theorem witness_AFailureNeverLeavesNoLane :
    running.canFail running.xt.active = true ∧ running.xt.restart = false ∧
    (running.xtLane running.xt.active.other).state = .standby ∧
    (let s := running.updXt .mizzen fun x => { x with state := .failed }
     s.canFail s.xt.active = true ∧ (s.xtLane s.xt.active.other).state ≠ .standby) := by decide +kernel

/-- Loop 12 of Main with its descriptor enabled and a sample on its way. -/
def loopState (v : LoopRun) : State :=
  (running.updLoop .main 12 fun x => { x with desc := setBytes x.desc 0 [1#8], run := some v }).updEngine .main fun e =>
    { e with pipes := [(0, { waiting := [12] })] }

/-- A period sampled at grid time `g`, with its output instant 20 ns after the present. -/
def loopRun (g : Nat) (started : Option Nat) (output : Option Int) : LoopRun :=
  { phase0 := g
    outAt := 3000000020
    input := 5
    setpoint := 7
    bad := false
    started := started
    output := output }

theorem witness_ControlCommandsComplete :
    (running.time.anchored = true ∧ running.staged = [] ∧ (running.elapse 0).majorDue = false ∧
      (running.elapse 0).grid % (max (descPeriod (running.loop running.readLane 12).desc) 1 * 10000) = 0) ∧
    (let s := loopState (loopRun 3000000000 none none)
     (Tbl.getD (s.engine .main).pipes 0 {}).waiting = [12] ∧ s.computes .main = true ∧
     (Tbl.getD (s.engine .main).pipes 0 {}).lastS = 0) ∧
    (let s := loopState (loopRun 3000000000 (some 2999999000) none)
     2999999000 + (24 + 5 * descSections (s.loop .main 12).desc) * 2 ≤ s.now + 0) ∧
    (let v := loopRun 2999990000 (some 2999999000) (some 9)
     let s := loopState v
     let d := (s.loop .main 12).desc
     let d1 := setBytes d 0x14 [0xFF#8, 0xFF#8, 1#8]
     (s.loop .main 12).run = some v ∧ v.dutyPast = false ∧ v.sigPast = false ∧ v.late = false ∧
     v.outAt ≤ (s.elapse 0).grid + 22 ∧ v.outAt ≤ (s.elapse 0).grid + 29 ∧ descDestKind d ≠ 1 ∧
     descOutSignal (setBytes d 0x14 [7#8, 0#8]) ≠ 65535 ∧ descDestKind d1 = 1 ∧ descOutSignal d1 = 65535) := by decide +kernel

theorem witness_LoopResultsKeepTheirLimits :
    resetLoop.outMin ≤ resetLoop.outMax ∧ descFaultAction resetLoop.desc = 0 ∧
    descFaultAction (setBytes resetLoop.desc 0 [16#8]) = 2 ∧
    (computeLoop resetLoop 5 7).2.2.2 = false ∧ descClampFeedback resetLoop.desc = false := by decide +kernel

/-- Work lamp S05 of chapter 07's worked example: `PERIOD_NS` 5,000,000, `PHASE_NS` 9,600, `COMP_ENABLE` 1, `V_REF_MV` 27,000. -/
def lampCfg : Bytes := setBytes (setBytes (setBytes chanCfgReset 0 [0x11#8]) 4 (putLE 4 5000000)) 8 (putLE 4 9600)

/-- The lamp at a period start `ns` after grid time 3 s, with its set duty, and the sample of its rail that ended last. -/
def lampAt (ns duty mv : Nat) : State :=
  { withTime (fun t => { t with mast := 3000000000 + ns, ticks := 3000000000 + ns }) with
    power := { running.power with
      chans := [(5, { resetChan 5 with cfg := lampCfg, base := .driving, dutySet := (duty : Int), itemSeen := true })]
      supplies := [(0, { volts := [(3000000000 + ns - 9600, mv)] })]
      stopAsserted := false } }

/-- What the period start leaves of the lamp: effective duty, on-time, and whether 100% limited the duty. -/
def lampPeriod (ns duty mv : Nat) : Option (Int × Nat × Bool) :=
  match exec (.pwmPeriodStart 0 5) (lampAt ns duty mv) with
  | .next t => some ((t.chan 5).dutyEff, (t.chan 5).onNs, (t.chan 5).compLimited)
  | _ => none

/-- Table 07-4: the lamp's four periods. -/
theorem test_lamp_through_a_dip :
    lampPeriod 9600 32768 27000 = some (32768, 2500038, false) ∧ lampPeriod 5009600 32768 24600 = some (39474, 3011673, false) ∧
    lampPeriod 10009600 32768 18000 = some (65535, 5000000, true) ∧ lampPeriod 15009600 26214 30000 = some (21233, 1619974, false) := by
  decide +kernel

/-- An output that is due at the tick, with its minimum pulse, the check for an open load and compensation off. -/
def plainLamp : State := (lampAt 9600 32768 27000).updChan 5 fun h => { h with cfg := setBytes h.cfg 0 [1#8] }

theorem witness_PeriodStartsComplete :
    (∀ s ∈ [plainLamp, plainLamp.updChan 5 fun h => { h with tripped := true },
        plainLamp.updChan 5 fun h => { h with dutySet := 0 }],
      let u := s.elapse 0
      let h := s.chan 5
      s.inTime 0 ∧ cfgMode h.cfg = 1 ∧ s.isOddOfPair 5 = false ∧ s.domain 15 = true ∧ 0 < cfgPeriod h.cfg ∧
      cfgPhase h.cfg ≤ u.grid ∧ (u.grid - cfgPhase h.cfg) % cfgPeriod h.cfg = 0 ∧ h.periodTick + h.periodNs ≤ u.now ∧ s.domain 1 = true ∧ u.majorDue = false ∧ cfgOpenLoad h.cfg = 0 ∧
      cfgComp h.cfg = false) ∧
    (let s := { plainLamp with pwr := { plainLamp.pwr with domains := 32767 } }
     s.domain 15 = false ∧ s.domain 1 = true ∧ (s.elapse 0).majorDue = false) ∧
    (plainLamp.elapse 0).mayDrive (plainLamp.chan 5) = true ∧ (dutyNow (plainLamp.chan 5) plainLamp.now).1 ≠ 0 := by
  decide +kernel

theorem witness_OnTimesKeepTheMinimum :
    (plainLamp.elapse 0).mayDrive (plainLamp.chan 5) = true ∧ 2 * minPulse 5 (plainLamp.chan 5).cfg ≤ cfgPeriod (plainLamp.chan 5).cfg ∧
    onTime 65 5000000 5000 = 0 ∧ onTime 66 5000000 5000 = 5035 ∧ onTime 65469 5000000 5000 = 4994965 ∧
    onTime 65470 5000000 5000 = 5000000 := by decide +kernel

theorem witness_CompensationHoldsThePower :
    (let s := lampAt 9600 32768 27000
     cfgMode (s.chan 5).cfg = 1 ∧ s.isOddOfPair 5 = false ∧ cfgComp (s.chan 5).cfg = true) ∧
    compensate 65535 20000 20000 = (65535, false) ∧ compensate 65535 30000 29999 = (65535, true) ∧
    compensate 1 30000 9000 = (9, false) := by decide +kernel

/-- An immediate command of the present slot. -/
def present : Resolved := ⟨3000, 3000000000, 3000000000⟩

theorem witness_ChannelCommandsComplete :
    (let s := running.updChan 3 fun h => { h with thermalLatch := true, temperature := 1399 }
     let r := ask 3 ([1#8] ++ zeros 3)
     let u := opChanReleaseLatch.noted (s.elapse 0) r present
     accepted opChanReleaseLatch s r = true ∧ (flagAt r.payload 0 0 && (u.chan (u.head 3)).thermalLatch) = true ∧
     (u.chan (u.head 3)).temperature < 1400) ∧
    accepted opChanClearCounters running (ask 103 []) = true ∧ (ask 103 []).target ≠ 255 ∧
    (let r := { fromFirmware .mizzen (putLE 4 running.power.generation) with target := 255 }
     let u := opChanAdopt.noted (running.elapse 0) r present
     accepted opChanAdopt running r = true ∧ u32 r.payload 0 = u.power.generation ∧ u.adopted .mizzen = true) ∧
    (let s := running.setAdopted .mizzen false
     let r := { fromFirmware .mizzen (putLE 4 running.power.generation) with target := 255 }
     accepted opChanAdopt s r = true ∧ (opChanAdopt.noted (s.elapse 0) r present).adopted .mizzen = false) ∧
    (let r := { fromFirmware .main (putLE 4 77) with target := 255 }
     accepted opChanAdopt running r = true ∧ u32 r.payload 0 ≠ (opChanAdopt.noted (running.elapse 0) r present).power.generation) := by
  decide +kernel

theorem witness_MeasurementsComplete :
    (running.domain 15 = true ∧ (∀ c ∈ [0, 63, 64, 87, 88, 103], (running.elapse 0).grid % sampleInterval c = 0 ∧
      running.isOddOfPair c = false)) ∧
    ((plainLamp.elapse 0).chanCode 5 = 2 ∧ (running.elapse 0).chanCode 5 = 0) ∧
    (let s := running.updChan 5 fun h => { h with cfg := setBytes h.cfg 0 [2#8], base := .input }
     (s.elapse 0).chanCode 5 = 3 ∧ cfgInputKind (s.chan 5).cfg = 0 ∧ (s.chan 5).firstSample = true) ∧
    ((running.elapse 0).majorDue = false ∧ (running.elapse 0).grid % 100000 = 0 ∧ running.pwr.d15At + 100000 ≤ running.now + 0) := by decide +kernel

theorem witness_ProtectionEventsComplete :
    (cfgMode (plainLamp.chan 5).cfg = 1 ∧ plainLamp.isOddOfPair 5 = false ∧ plainLamp.domain 15 = true ∧ plainLamp.domain 1 = true ∧
      plainLamp.hasHold (plainLamp.chan 5) = false ∧ (plainLamp.chan 5).retryLeft ≠ 0 ∧
      (plainLamp.chan 5).thermalLatch = false ∧ (plainLamp.chan 5).freewheelLatch = false) ∧
    (let s := plainLamp.updChan 5 fun h =>
       { h with retryLeft := 0, inrushDue := some 5, retryDue := some 5, watchDue := some 5, cfg := setBytes h.cfg 0 [9#8] }
     (s.chan 5).retryLeft = 0 ∧ 5 ≤ s.now + 0 ∧ cfgLoad (s.chan 5).cfg = 2 ∧ (s.chan 5).watchDue ≠ none) ∧
    (plainLamp.power.stopAsserted = false ∧ Sorted plainLamp.power.chans ∧
      5 ∈ plainLamp.power.chans.map Prod.fst ∧ protStopGroup (plainLamp.chan 5).prot = true ∧ (plainLamp.chan 5).stopHold = false) ∧
    running.power.stopAsserted = true := by decide +kernel

theorem witness_SwapsActAsStated :
    plainLamp.isOddOfPair 5 = false ∧ cfgPaired (fitTo 32 lampCfg) = cfgPaired (plainLamp.chan 5).cfg ∧ cfgMode (fitTo 32 lampCfg) = 1 ∧
    cfgMode (running.chan 5).cfg ≠ 1 ∧ cfgMode (fitTo 32 chanCfgReset) ≠ 1 ∧
    (let p := setBytes running.sense.yield_.grid 0x16 (putLE 2 2 ++ putLE 2 3)
     gridCells p ≠ 0 ∧ setBytes p 0x1A (zeros 6) ≠ setBytes running.sense.yield_.grid 0x1A (zeros 6)) ∧
    flagAt [1#8, 0#8, 0#8, 0#8] 0 0 = true ∧
    (srcEnable (setBytes running.sense.yield_.sources 0 [1#8]) = true ∧ srcEnable running.sense.yield_.sources = false) := by
  decide +kernel

/-- `running` with one sensing resource changed. -/
def withInput (i : Nat) (c : Bytes) (st : InputState) : State :=
  { running with sense := { running.sense with inputs := [(i, ⟨c, st⟩)] } }

theorem witness_SensingEventsComplete :
    (let s := withInput 5 (setBytes uniReset 0 [4#8]) {}
     s.domain 11 = true ∧ uniMode (s.input 5).cfg = 4 ∧ (s.input 5).st.shut = false) ∧
    (let s := withInput 5 uniReset { shut := true, trialDue := some 2999000000 }
     (s.input 5).st.shut = true ∧ (s.input 5).st.trialDue = some 2999000000 ∧ 2999000000 + 1000000 ≤ s.now + 0) ∧
    (let s := ((withInput 96 (setBytes lossReset 0 [3#8]) { since := 2000000000 }).elapse 200000)
     let l := [(-200 : Int), 0, 200].map lossSample
     senseKind 96 = 1 ∧ lossEnable (s.input 96).cfg = true ∧ lossCapCheck (s.input 96).cfg = true ∧
     isHit (s.input 96).cfg l (lossCapCheck (s.input 96).cfg && s.grid % s.majorLen == 0) = true ∧
     s.hitSeen (s.input 96).cfg (s.grid - 2000) = true ∧ (s.input 96).st.since ≤ s.grid - 2000) ∧
    (let s := withInput 96 (setBytes lossReset 0 [3#8]) {}
     s.majorDue = false ∧ s.grid ≤ s.grid / s.majorLen * s.majorLen + 100000 ∧
     (s.input 96).st.capAt ≠ some (s.grid / s.majorLen * s.majorLen)) ∧
    (let s := withInput 120 (setBytes bridgeReset 0 [1#8]) {}
     senseKind 120 = 2 ∧ bridgeEnable (s.input 120).cfg = true) ∧
    (let s := withInput 135 (setBytes bridgeReset 0 [1#8]) {}
     supplyVolts (s.input (128 + 7)).cfg ≠ 0 ∧ (s.input (128 + 7)).st.shut = false) ∧
    (let s := withInput 135 bridgeReset { trialDue := some 3000000000 }
     (s.input (128 + 7)).st.trialDue = some 3000000000 ∧ 3000000000 ≤ s.now + 0) := by decide +kernel

theorem witness_SensingSamplesComplete :
    (let s := withInput 95 (setBytes uniReset 0 [1#8]) {}
     s.domain 11 = true ∧ (s.elapse 0).majorDue = false ∧ (s.elapse 0).grid % 100000 = 0 ∧ (s.input 95).st.since < (s.elapse 0).grid ∧
     uniMode (s.input 95).cfg = 1) ∧
    (let s := withInput 95 (setBytes uniReset 0 [4#8]) {}
     uniMode (s.input 95).cfg = 4 ∧ (s.input 95).st.shut = false) ∧
    uniMode (running.input 95).cfg = 0 ∧
    (let s := withInput 120 (setBytes bridgeReset 0 [1#8]) {}
     senseKind 120 = 2 ∧ bridgeEnable (s.input 120).cfg = true ∧ (s.elapse 0).grid % bridgeTb (s.input 120).cfg = 0 ∧
     (s.input 120).st.since < (s.elapse 0).grid) ∧
    (let s := withInput 96 (setBytes lossReset 0 [1#8]) {}
     senseKind 96 = 1 ∧ lossEnable (s.input 96).cfg = true ∧ (s.elapse 0).grid % lossInterval (s.input 96).cfg = 0 ∧
     (s.input 96).st.since < (s.elapse 0).grid) ∧
    1 ≤ uniSamples uniReset := by decide +kernel

/-- A navigation record with a valid position at an epoch on the grid. -/
def record (epoch : Nat) : NavRec := ⟨epoch, setBytes (zeros 96) 0x0C [3#8]⟩

theorem witness_YieldCommandsComplete :
    (let src := setBytes resetYield.sources 0 [1#8]
     let s := { running with sense := { running.sense with yield_ := { running.sense.yield_ with
        queue := [⟨record 2900000000, src, true, some 2800000000⟩]
        writes := [⟨300000, 4096, 1, 2, 3⟩] } } }
     s.sense.yield_.queue = [⟨record 2900000000, src, true, some 2800000000⟩] ∧ s.domain 11 = true ∧
     (2900000000 + srcDelay src) / bridgeTb (s.input (srcMass src)).cfg * bridgeTb (s.input (srcMass src)).cfg + 300 ≤
       (s.elapse 0).grid ∧
     300000 ≤ (s.elapse 0).slot ∧ (s.xtLane .main).state = .active ∧ (s.xtLane .mizzen).state = .standby) := by decide +kernel

/-- A tally with one bridge sample of 1,000 g/s for a millisecond in the step's mass interval. -/
theorem witness_EveryGramIsCountedOnce :
    let src := setBytes (setBytes resetYield.sources 0 [1#8]) 8 (putLE 4 65536)
    let y : YieldSt := { resetYield with
      sources := src
      mass := [⟨120, 2899000000, 1000, false, 1000000⟩]
      massStart := 2898000000 }
    (stepYield 3000000000 y (record 2900000000) src).am ≠ 0 ∧
    y.totals.placedMass + y.totals.unplacedMass + (y.am + 1000000000) / 1000000000000 < 18446744073709551616 := by decide +kernel

/-- `running` with camera port 7 enabled and changed, and every slot of the image a write slot of it. -/
def withCamera (f : CamPort → CamPort) : State :=
  let s := running.updCam 7 fun c => f { c with set := { c.set with port := setBytes c.set.port 0 [1#8] } }
  { s with sched := { s.sched with image := { s.sched.image with block := [⟨0, 1, 1, 23, 0, 3⟩] } } }

def frame : OpenFrame :=
  ⟨4, 2990000000, 2990000000, 0, false, false, camExposureReset, camSettingsReset, false, [], 0, 0, false, false⟩

theorem witness_CameraCommandsComplete :
    (let s := withCamera fun c => { c with fv := true, frame := some { frame with openedAt := 2000000000 } }
     s.domain 8 = true ∧ (s.camPort 7).fv = true ∧ 2000000000 + pTimeout frame.set.port ≤ s.now + 0 ∧
     2000000000 + 10000 ≤ s.now + 0 ∧ pEnable (s.camPort 7).set.port = true ∧ frame.received < expectedLines frame.set.geom) ∧
    (let f := { frame with received := expectedLines frame.set.geom }
     expectedLines f.set.geom ≤ f.received) ∧
    (let s := withCamera fun c => c
     (s.camPort 7).fv = false ∧ (s.camPort 7).frame = none ∧ (s.elapse 0).grid % 1000000 = 0 ∧ (s.camPort 7).mismatch = false ∧
     pPclk (s.camPort 7).set.port = 74250) := by decide +kernel

theorem witness_ARisingEdgeOpensOneFrame :
    (let s := withCamera fun c => c
     s.domain 8 = true ∧ (s.camPort 7).fv = false ∧ pEnable (s.camPort 7).set.port = true ∧ (s.elapse 0).majorDue = false ∧
     (s.elapse 0).frameSwaps 7 = []) ∧
    (let s := withCamera fun c => { c with carries := [(2, zeros 4), (1, camExposureReset)] }
     (s.camPort 7).carries.filter (fun x => x.1 == 1) = [(1, camExposureReset)]) := by decide +kernel

theorem witness_SensorLinkCommandsComplete :
    let set0 := camExposureReset
    let set2 := setBytes camExposureReset 2 [2#8]
    (∀ b ∈ [set0, set2],
      let s := withCamera fun c => { c with waiting := some b }
      s.domain 8 = true ∧ (s.elapse 0).opSlot 3 (0x10 + 7) = true ∧ (s.camPort 7).job = none ∧ (s.camPort 7).fv = false ∧
      (s.camPort 7).waiting = some b ∧ (s.camPort 7).setDone = false) ∧ eWrites set0 = 0 ∧ eWrites set2 = 2 ∧
    (let s := withCamera fun c => { c with queue := [ask 7 []] }
     (s.camPort 7).waiting = none ∧ (s.camPort 7).queue = [ask 7 []]) ∧
    (let s := withCamera fun c => { c with queue := [ask 7 []], job := some ⟨some set2, none, 0, 2999000000, false⟩ }
     (s.camPort 7).job = some ⟨some set2, none, 0, 2999000000, false⟩ ∧ (s.camPort 7).queue ≠ [] ∧ (s.camPort 7).fv = false) ∧
    (let s := withCamera fun c => c
     (2999000000 + (9 * (writeEntry set2 0).length + 3) * linkBit (pRate (s.camPort 7).set.port) ≤ s.now + 0) ∧
     0 + 1 < eWrites set2 ∧ eWrites set2 ≤ 1 + 1 ∧ pLatency (s.camPort 7).set.port ≠ 0 ∧
     (2999000000 + (9 * (transferBytes ([8#8] ++ zeros 3 ++ putLE 2 1 ++ zeros 3)).length + 3) *
       linkBit (pRate (s.camPort 7).set.port) ≤ s.now + 0) ∧ xRead ([8#8] ++ zeros 3 ++ putLE 2 1 ++ zeros 3) = false) := by
  decide +kernel

/-- A stream of a ring of two whose lane region and statistics leave the addresses below them alone. -/
theorem witness_AFrameWritesOnlyItsEntries :
    let c := setBytes (setBytes camStreamReset 0 [1#8]) 0x18 (putLE 8 0x100000)
    let stats := setBytes (setBytes camStatsReset 0 [1#8]) 8 (putLE 8 0x80000)
    let f : OpenFrame := { frame with set := { camSettingsReset with streams := [c], stats := stats } }
    let s := withCamera fun x => { x with frame := some f }
    (s.camPort 7).frame = some f ∧ bitOf (stPlace c) 0 = true ∧ f.number % stDiv c = 0 ∧ saEnable stats = true ∧
    (5 < saBase stats + f.number % saRing stats * 16384) ∧
    streamWrites c [] (stLane c) (f.number / stDiv c % stRing c) = [] := by decide +kernel

/-- `running` with fusion round 7 enabled on slot 7, whose network is ready, every slot an instant of it. -/
def withRound (f : FusSt → FusSt) : State :=
  let s := (running.updSlot 7 fun x => { x with state := 4 }).updRound 7 fun r =>
    { r with cfg := setBytes (setBytes r.cfg 0 [1#8, 7#8]) 2 (putLE 2 0xC000) }
  { s with
    fus := f s.fus
    sched := { s.sched with image := { s.sched.image with block := [⟨0, 1, 1, 7, 0, 4⟩] } } }

def openRound : OpenRound := ⟨7, 0, setBytes (setBytes fusRoundReset 0 [1#8, 7#8]) 2 (putLE 2 0xC000), 2000000000, 2000000000, 2000000000, []⟩

def sampleOf15 (stamp : Nat) : Sample := ⟨15, stamp, stamp, 1, [], false, false, 0, 0, 0, 0, 0, 0, []⟩

/-- A network of 80 bytes without bindings (Table 12-9), its CRC-32C in its header. -/
def network (crc : Nat) : Bytes :=
  [putLE 4 0x544E3634, putLE 2 1, putLE 2 0x41, putLE 4 80, putLE 4 0x00010000, putLE 8 5, putLE 4 1, putLE 4 4096, putLE 2 1,
   putLE 2 1, putLE 2 1, putLE 2 1, putLE 4 0, putLE 4 0, putLE 4 64, putLE 4 crc, zeros 24].flatten

theorem witness_FusionCommandsComplete :
    (let x : NetSlot := { state := 1, length := 80, crc := 1426513637, data := network 1426513637 }
     accepted opFusionNetLoadEnd (running.updSlot 7 fun _ => x) (ask 0 ([7#8] ++ zeros 3)) = true ∧ netError x = none) ∧
    accepted opFusionNetLoadEnd (running.updSlot 7 fun _ => { state := 1, length := 64, crc := 0, data := zeros 64 })
      (ask 0 ([7#8] ++ zeros 3)) = true ∧
    netError { state := 1, length := 64, crc := 0, data := zeros 64 } ≠ none ∧
    ((running.updSlot 7 fun x => { x with state := 3 }).netSlot 7).state = 3 ∧ running.domain 6 = true ∧ running.domain 7 = true := by
  decide +kernel

theorem witness_ARoundHasOneCandidateOfASource :
    (let s := withRound fun v => { v with open_ := [openRound] }
     ∀ o ∈ s.fus.open_, (o.cands.map (fun y => y.source)).Nodup) ∧
    (let s := withRound fun v => { v with open_ := [openRound] }
     (s.sampleArrives (sampleOf15 2000000000)).fus.open_.map (fun o => o.cands.length) = [1]) ∧
    (let s := withRound fun v => { v with open_ := [openRound] }
     (s.sampleArrives (sampleOf15 1999999999)).fus.open_.map (fun o => o.cands.length) = [0]) := by decide +kernel

/-- A round that runs, with its release waiting, and one whose network is complete. -/
def runRound (output : Option Nat) : RunRound := ⟨7, 0, openRound.cfg, zeros 64, 0, 64, true, output, false⟩

def releaseOf (written : Bool) : Release := ⟨7, 0, 300000, 2000000000, 0, 0, 0, 5, written, false⟩

theorem witness_FusionEventsComplete :
    (let s := withRound fun v => v
     rEnable (s.fusRound 7).cfg = true ∧ (s.elapse 0).opSlot 4 7 = true ∧ (s.netSlot (rSlot (s.fusRound 7).cfg)).state = 4 ∧
     s.fus.running = none ∧ rSources (s.fusRound 7).cfg ≠ 0) ∧
    (let s := (withRound fun v => v).updSlot 7 fun x => { x with state := 3 }
     (s.netSlot (rSlot (s.fusRound 7).cfg)).state ≠ 4) ∧
    (let s := withRound fun v => { v with open_ := [openRound] }
     s.fus.open_.find? (fun o => o.round == 7) = some openRound ∧ openRound.tick + rWait openRound.cfg ≤ s.now + 0) ∧
    (let s := withRound fun v => { v with running := some (runRound none), releases := [releaseOf true] }
     s.fus.running = some (runRound none) ∧ (runRound none).output = none ∧ (runRound (some 5)).output = some 5 ∧
     s.fus.releases.find? (fun x => x.round == 7) = some (releaseOf true) ∧
     (releaseOf true).slot * 10000 ≤ (s.elapse 0).grid + 100) ∧
    (let f : FrameSample := ⟨3000000000, sampleOf15 2000000000⟩
     let s := (withRound fun v => { v with frames := [f] }).updSource 15 fun x => { x with cfg := setBytes x.cfg 0 [1#8] }
     fKind (s.fusSource 15).cfg = 1 ∧
     s.fus.frames.find? (fun f => f.sample.source == 15 && decide (f.due ≤ s.now + 0)) = some f) ∧
    (let s := running.updSource 15 fun x => { x with cfg := setBytes (setBytes x.cfg 0 [2#8]) 8 (putLE 4 4) }
     let d (n : Nat) := putLE 4 6 ++ putLE 2 n ++ zeros 10 ++ putLE 2 1 ++ zeros 14 ++ zeros 16
     fKind (s.fusSource 15).cfg = 2 ∧ (∀ n, n < 2 → (d n).length = 32 + 16 * u16 (d n) 0x10 ∧ flagAt (d n) 6 0 = false ∧
       u16 (d n) 4 = n ∧ u32 (d n) 0 = 6)) := by decide +kernel

theorem witness_TheWarpLosesNoMotion : (record 2000000000).epoch - (record 1000000000).epoch ≤ 10000000000 ∧
    (egoMotion (putLE 2 384 ++ putLE 2 256 ++ zeros 12) 2000000000 (some (record 2000000000)) (some (record 1000000000)) 0 0 0).applied =
      true := by decide +kernel

/-- `running` with its GNSS block changed. -/
def withGnss (f : GnssSt → GnssSt) : State := { running with gnss := f running.gnss }

theorem witness_GnssCommandsComplete :
    (accepted opGnssAid running (ask 0 (zeros 4)) = true ∧ (aidsOf (zeros 4)).isSome = true) ∧
    running.domain 10 = true ∧ running.gnss.a0Open = false ∧ running.gnss.a1Open = false ∧
    (let s := withGnss fun g => { g with config := setBytes g.config 0x12 [5#8] }
     gSupply s.gnss.config 0 ≠ 0 ∧ gSupply s.gnss.config 1 ≠ 0 ∧ s.gnss.a0Fault = false ∧ s.gnss.a1Fault = false) ∧
    (let s := withGnss fun g => { g with a0Retry := some 3000000000, a1Retry := some 3000000000 }
     s.gnss.a0Retry = some 3000000000 ∧ s.gnss.a1Retry = some 3000000000 ∧ 3000000000 ≤ s.now + 0) ∧
    (let s := withGnss fun g => { g with tp1 := { g.tp1 with cfg := setBytes g.tp1.cfg 0 [1#8] }, timeState := 1 }
     tpEnable (s.pulse 1).cfg = true ∧ pulseInstant (s.pulse 1).cfg (s.time.mast + 0) = some 3000000000 ∧
     (s.pulse 1).bound ≤ 3000000000 ∧ pulseSuppressed s.gnss.timeState (tpGate (s.pulse 1).cfg) = false ∧
     pulseSuppressed 0 (tpGate (setBytes (s.pulse 1).cfg 0 [5#8])) = true) ∧
    (let s := withGnss fun g => { g with tp0 := { g.tp0 with endAt := some 3000000000 } }
     (s.pulse 0).endAt = some 3000000000) ∧
    (let s := withTime fun t => { t with mast := 603000000000, ticks := 603000000000 }
     s.domain 10 = true ∧ s.gnss.savedAt + 600000000000 ≤ s.now + 0) := by decide +kernel

theorem witness_EpochsComplete :
    (running.domain 9 = true ∧ (running.elapse 0).epochDue (gRate running.gnss.config) = some 3000000000) ∧
    (let s := { running with pwr := { running.pwr with domains := 65535 - 512 } }
     s.domain 9 = false ∧ s.domain 10 = true ∧ (s.elapse 0).epochDue 1 = some 3000000000) ∧
    (let n : NavDelivery := ⟨3000000000, 2980000000, 29, record 2980000000, zeros 64, 0⟩
     let s := withGnss fun g => { g with
        deliveries := [n]
        config := setBytes (setBytes (setBytes g.config 0x1E [2#8, 2#8]) 0x20 (putLE 8 0x100000)) 0x28 (putLE 8 0x200000) }
     firstDelivery s.gnss.deliveries = some n ∧ n.due ≤ s.now + 0 ∧ u8 s.gnss.config 0x1F = 2 ∧ u8 s.gnss.config 0x1E = 2) := by decide +kernel

theorem witness_MastTimeIsCorrectedOnlyOnAcceptance :
    (running.time.timeFromMaster = false ∧ running.gnss.timeState = 0) ∧
    (let s := withGnss fun g => { g with timeState := 1 }
     s.gnss.timeState ≠ 0 ∧ gClockTol s.gnss.config ≤ ((gClockTol s.gnss.config : Int) + s.unapplied).natAbs ∧
     (s.gnss.countEpoch (gClockTol s.gnss.config : Int)).acceptCount < gAcceptS s.gnss.config * 10 ∧
     ((999 : Int) + s.unapplied).natAbs < gClockTol s.gnss.config) := by decide +kernel

/-- `running` with CAN port 11 changed. -/
def withCan (f : CanPort → CanPort) : State := running.updCan 11 f

def canFrame : CanFrame := ⟨0x123, 1, false, false, false, false, false, [5#8]⟩

theorem witness_CanCommandsComplete :
    accepted opCanRecover (withCan fun c => { c with state := 4 }) (ask 11 []) = true ∧
    (let s := withCan fun c => { c with state := 2, queue := [⟨canFrame, 3000000000⟩], tec := 128, rec_ := 127 }
     (s.canPort 11).state = 2 ∧ (s.canPort 11).next = none ∧ (s.canPort 11).queue = [⟨canFrame, 3000000000⟩] ∧
     (s.canPort 11).tec ≤ 128 ∧ (s.canPort 11).rec_ ≤ 127) ∧
    (let s := withCan fun c => { c with state := 3, tec := 248 }
     (s.canPort 11).state = 3 ∧ 247 < (s.canPort 11).tec) ∧
    (let s := withCan fun c => { c with state := 2, tec := 127, rec_ := 127 }
     (s.canPort 11).tec ≤ 127) ∧
    (let s (c : CanPort) := withCan fun x => { c with state := 6, next := x.next }
     ((s {}).canPort 11).judge canFrame = (255, 3) ∧
     ((s { filters := [(63, putLE 4 0x123 ++ putLE 4 0x1FFFFFFF ++ [1#8] ++ zeros 7)] }).canPort 11).judge canFrame = (63, 1) ∧
     ((s { filters := [(63, putLE 4 0x123 ++ putLE 4 0x1FFFFFFF ++ [2#8] ++ zeros 7)] }).canPort 11).judge canFrame = (63, 2)) ∧
    (let s := withCan fun c => { c with state := 5, since := 2000000000 }
     2 * (s.canPort 11).since + 1408 * nomBit2 (s.canPort 11).cfg ≤ 2 * (s.now + 0)) ∧
    (let s := withCan fun c => { c with state := 7, since := 1000000000 }
     (s.canPort 11).since + cDwell (s.canPort 11).cfg ≤ s.now + 0) ∧
    (let s := withCan fun c => { c with state := 1, since := 2000000000 }
     2 * (s.canPort 11).since + 11 * nomBit2 (s.canPort 11).cfg ≤ 2 * (s.now + 0)) ∧
    (running.elapse 0).grid % 100000 = 0 ∧ (running.elapse 0).majorDue = false := by decide +kernel

theorem witness_NoEventLeavesBusOff :
    (let s := withCan fun c => { c with state := 4 }
     (s.canPort 11).state = 4 ∧ (s.canPort 11).next = none ∧ (∃ t, exec (.canStatusProduce 0) s = .next t)) ∧
    cMode (setBytes canPortReset 0 [1#8]) = 1 := by
  refine ⟨⟨by decide +kernel, by decide +kernel, _, rfl⟩, by decide +kernel⟩

theorem witness_TheFirstMatchingFilterDecides :
    (let e : Bytes := putLE 4 0x123 ++ putLE 4 0x1FFFFFFF ++ [2#8] ++ zeros 7
     filterMatches (frameKey canFrame) e = true ∧ filterMatches (frameKey canFrame) (zeros 16) = false ∧
     ∀ j, j < 63 → filterMatches (frameKey canFrame) (Tbl.getD [(63, e)] j (zeros 16)) = false) ∧
    (∀ i, i < 64 → filterMatches (frameKey canFrame) (Tbl.getD ([] : Tbl Bytes) i (zeros 16)) = false) := by decide +kernel

/-- The start of a cascade table with its designated master, port 1 enabled and of the tree, and stations 0 to 15 by port 1. -/
def cascadeTable (master : Nat) : Bytes :=
  zeros 8 ++ putLE 2 master ++ zeros 18 ++ [0x22#8] ++ zeros 3 ++ List.replicate 16 1#8

/-- `running` as station 3 of a cascade that station `master` is designated to lead, with Stay port 1 up. -/
def inStay (master : Nat) (f : StaySt → StaySt) : State :=
  { running with
    sys := { running.sys with station := 3 }
    sched := { running.sched with image := { running.sched.image with station := 3, cascade := some (cascadeTable master) } }
    stay := f { running.stay with ports := [(1, { up := true, neighbour := some 9 })] } }

def slotStep : SlotStep := ⟨-5000, 0, 1, 3000000000⟩

/-- A time frame of station 9 with Mast time `mast`, no residence and `STEP_COUNT` 0. -/
def timeFrame (mast master : Nat) : TimeFrame := ⟨0, putLE 8 mast ++ zeros 22 ++ putLE 2 master ++ zeros 8⟩

theorem witness_StayCommandsComplete :
    accepted opStayGetStation masterState (ask 4095 []) = true ∧
    (let s := inStay 3 fun x => { x with membership := 3, step := some slotStep, adopt := some slotStep }
     s.domain 13 = true ∧ s.stay.membership = 3 ∧ (s.elapse 0).grid % 1000000 = 0 ∧ slotStep.due ≤ s.now + 0 ∧
     (s.stayPort 1).up = true ∧ (s.stayPort 1).askAt ≤ s.now + 0) ∧
    (let s := inStay 3 fun x => { x with membership := 1, linkAt := some 2990000000 }
     s.inCascade = true ∧ s.stay.following = false ∧ cascadeMaster s.cascade = s.sys.station ∧ 2990000000 + 10000000 ≤ s.now + 0) ∧
    (let s := inStay 9 fun x => { x with membership := 2, following := true, master := 9, rank := 0, frameAt := 2997000000 }
     s.stay.following = true ∧ s.stay.masterLost = false ∧ s.stay.membership ≠ 3 ∧ s.stay.frameAt + 3000000 ≤ s.now + 0 ∧
     s.stay.rank ≠ 255) ∧
    (let s := inStay 9 fun x => { x with rank := 0 }
     (s.elapse 5000).grid % s.majorLen = 5000 ∧ portEnabled s.cascade 1 = true) ∧
    (let b : Bytes := [1#8, 0#8] ++ putLE 2 3 ++ putLE 4 3002
     b.length = 8 ∧ u8 b 0 = 1 ∧ 1 ≤ wrapDiff (u32 b 4) 3000) := by decide +kernel

/-- A Stay frame of station 9 to a station, of a kind, with a body. -/
def stayFrame (kind dest : Nat) (body : Bytes) : StayFrame := ⟨9, 0x88B5, stayPayload kind 9 dest false 0 0 body⟩

theorem witness_StayFramesComplete :
    (let s := inStay 9 fun x => x
     s.inCascade = true ∧ (s.stayPort 1).up = true ∧ (s.stayPort 1).neighbour.isSome = true ∧
     stayFrameOk ⟨9, 0x88B5, zeros 3⟩ = false) ∧
    (∀ dest ∈ [3, 5], let f := stayFrame 2 dest (zeros 8)
      stayFrameOk f = true ∧ u8 f.payload 1 = 2 ∧ flagAt f.payload 5 4 = false ∧ u16 f.payload 4 % 4096 = dest) ∧
    (let q := (stayFrame 1 3 (putLE 4 7 ++ zeros 32)).payload
     u8 q 1 = 1 ∧ u16 q 2 % 4096 = 9) ∧
    (let s := inStay 9 fun x => { x with departed := [(9, 2000000000)] }
     Tbl.find s.stay.departed 9 = some 2000000000 ∧ 2000000000 + (s.recv (recvKey 8 1)).windowNs < s.grid) ∧
    (let s := inStay 9 fun x => { x with membership := 2, following := true, master := 9 }
     let f (mast master : Nat) := timeFrame mast master
     let o (f : TimeFrame) : Int := (((s.time.mast : Int) - u64 f.body 0) * 65536 - s64 f.body 8) / 65536 - s.linkDelay 1
     (f 2999999700 9).body.length = 40 ∧ tMaster (f 2999999700 9).body = 9 ∧ route s.cascade 9 = 1 ∧
     tStep (f 2999999700 9).body = s.time.stepCount ∧ (o (f 2999999700 9)).natAbs < 1000 ∧
     1000 ≤ (o (f 2999990000 9)).natAbs ∧ tMaster (f 2999990000 8).body ≠ s.stay.master) := by decide +kernel

theorem witness_NoFrameMakesAMember :
    (∃ t, exec (.masterElectionTimeout 0) (inStay 3 fun x => { x with membership := 1, linkAt := some 2990000000 }) = .next t) ∧
    (∃ dt, Instr.masterElectionTimeout 0 = .masterElectionTimeout dt) := ⟨⟨_, rfl⟩, _, rfl⟩

def withEth (f : EthPort → EthPort) : State := running.updEth 3 f

theorem witness_EthernetCommandsComplete :
    (let s := withEth fun e => { e with up := true, cfg := setBytes e.cfg 4 (putLE 4 0x0A000001) }
     s.domain 13 = true ∧ (s.eth 3).up = true ∧ tagFits (s.eth 3).cfg ⟨none, .other⟩ = true ∧
     tagFits (s.eth 3).cfg ⟨some 5, .other⟩ = false ∧ eAddress (s.eth 3).cfg = 0x0A000001) ∧
    (let s := withEth fun e => { e with up := true, cfg := setBytes e.cfg 0 [5#8], syncs := 1 }
     eGptp (s.eth 3).cfg = true ∧ (s.eth 3).syncAt ≤ s.now + 0 ∧ (s.eth 3).syncs % 8 ≠ 0) ∧
    (let s := withEth fun e => { e with cfg := setBytes e.cfg 0 [1#8] }
     eEnable (s.eth 3).cfg = true ∧ (s.eth 3).up = false) := by decide +kernel

theorem witness_MemoryCommandsComplete :
    (∀ i, i < 16 → decodeByte ((running.memc 5).code 5 (16 + i)) ≠ .uncorrectable) ∧
    (let s := running.updMem 5 fun m => m.store 17 3#13
     ∃ i, i < 16 ∧ decodeByte ((s.memc 5).code 5 (16 + i)) = .uncorrectable) ∧
    (decodeByte (encodeByte 5#8 ^^^ 4#13) = .corrected 6 ∧ decodeByte 3#13 = .uncorrectable ∧ running.xt.stopped = false ∧
     (running.memc 5).isQuiet 5 33 = false ∧
     ((running.updMem 5 fun m => { m with quiet := 1 }).memc 5).isQuiet 5 33 = true ∧ (running.memc 5).table.length < 32) ∧
    (running.memc 5).patrolDue ≤ running.now + 0 ∧
    (let s := (running.updMem 0 fun m => { m with fillFrom := some 5 }).updXt .main fun x =>
       { x with filling := true, hold := some 5 }
     (s.memc 0).fillFrom = some 5 ∧ s.domain (memDomainOf 0) = true ∧ s.domain (coreDomain .main) = true ∧
     memLane 0 = some .main ∧ (s.xtLane .main).filling = true ∧ (s.xtLane .main).hold.isSome = true) ∧
    ((running.updMem 4 fun m => { m with fillFrom := some 5 }).memc 4).fillFrom = some 5 ∧ memLane 4 = none := by
  refine ⟨by decide +kernel, ⟨1, by decide +kernel⟩, by decide +kernel⟩

/-- Table 16-7: the stored bits of the byte 0x53 and of the same byte with one and with two bits turned. -/
theorem witness_TheCodeCorrectsOneBitAndDetectsTwo :
    (∀ i, i < 2 → ([1#8, 2#8] : Bytes)[i]?.isSome = true) ∧ decodeByte 0#13 = .good ∧ decodeByte 4096#13 = .corrected 0 ∧
    decodeByte 4097#13 = .uncorrectable ∧ decodeByte 256#13 = .corrected 1 ∧ decodeByte 3328#13 ≠ .good := by decide +kernel

/-- `running` with its recorder changed. -/
def withRec (f : RecSt → RecSt) : State := { running with rec_ := f running.rec_ }

def someEvent : Event := ⟨0x0602, 1, 2999000000, 0, 3, zeros 32⟩

theorem witness_RecorderCommandsComplete :
    (let s := withRec fun x => { x with arriving := [someEvent], changeArriving := [zeros 64] }
     s.domain 14 = true ∧ isOwnCode someEvent.code = false ∧ 0 < (s.bucket someEvent.code).tokens ∧ s.rec_.held < 1024) ∧
    (let s := withRec fun x => { x with buckets := [(0x0602, { tokens := 0, due := some 3000000000, suppressed := 2 })] }
     (s.bucket someEvent.code).tokens = 0 ∧ (s.bucket 0x0602).due = some 3000000000 ∧ 3000000000 ≤ s.now + 0 ∧
     0 < (s.bucket 0x0602).suppressed ∧ s.rec_.ownHeld < 16) ∧
    (let s := withRec fun x => { x with buckets := [(0x0602, { tokens := 7, due := some 3000000000 })] }
     (s.bucket 0x0602).suppressed = 0) ∧
    (let s := withRec fun x => { x with hold := [(someEvent, false)] }
     s.rec_.frozen = none ∧ s.rec_.owedFreeze = false ∧ s.rec_.owedExpired = none ∧ s.rec_.lost.count = 0) ∧
    (let s := withRec fun x => { x with frozen := some 3000000000 }
     s.rec_.frozen = some 3000000000) := by decide +kernel

theorem witness_AFreezeAndAPinKeepTheirRecords :
    (withRec fun x => { x with frozen := some 4000000000 }).rec_.frozen.isSome = true ∧
    (∃ t, exec (.recordCommit 0) (withRec fun x => { x with frozen := some 4000000000 }) = .next t) ∧
    (∃ store : List EventRec, 262144 ≤ store.length ∧ ∃ before x after, store = before ++ x :: after ∧
      (∀ y ∈ before, y.pinned = true) ∧ x.pinned = false) := by
  refine ⟨by decide +kernel, ⟨_, rfl⟩, ⟨0, someEvent, false, false, false, []⟩ ::
    List.replicate 262144 ⟨1, someEvent, false, false, false, []⟩, ?_, [], _, _, rfl, by simp, rfl⟩
  rw [List.length_cons, List.length_replicate]; decide

/-- `running` with its power-domain controller changed. -/
def withPower (f : PwrSt → PwrSt) : State := { running with pwr := f running.pwr }

theorem witness_PowerCommandsComplete :
    (withPower fun p => { p with module_ := .unpowered }).pwr.module_ = .unpowered ∧ running.domain 0 = true ∧
    running.pwr.supplyLow = false ∧
    (let s := withPower fun p =>
       { p with
         esupFailAt := some 2990000000
         runOn := some 0
         wake := false
         module_ := .watch
         domains := 1025
         esup := [16000]
         alarmAt := some 3
         config := setBytes (setBytes p.config 2 (putLE 2 1 ++ putLE 2 3)) 8 (putLE 4 1) }
     s.pwr.esupFailAt = some 2990000000 ∧ 2990000000 + 10000000 ≤ s.now + 0 ∧ s.pwr.runOn = some 0 ∧ u16 s.pwr.config 4 ≠ 0 ∧
     0 + u16 s.pwr.config 4 * 1000000000 ≤ s.now + 0 ∧ s.pwr.down = true ∧ s.domain 12 = false ∧ 16000 ≤ s.pwr.esupMean ∧
     (u16 s.pwr.config 2 % 4096).testBit 0 = true ∧ 3 ≤ (s.time.mast + 0) / 1000000000 ∧ u32 s.pwr.config 8 ≠ 0) ∧
    running.pwr.down = false ∧ running.pwr.wake = true ∧
    (running.pwr.thermalWarn.testBit 1 = false ∧ (10 * (u8 running.pwr.config 12 : Nat) : Int) ≤ 750) ∧
    (let s := { (withPower fun p => { p with hotSince := some 0 }) with
        time := { running.time with mast := 13000000000, ticks := 13000000000 } }
     s.pwr.hotSince = some 0 ∧ 0 + 10000000000 ≤ s.now + 0) := by decide +kernel

/-- A module in a phase of its start, with both lanes ready and the waits over. -/
def startingAt (n : Nat) (boundary : Option Nat) : State :=
  { running with
    pwr := { running.pwr with module_ := .starting, phase := n, startupAt := boundary }
    xt := { running.xt with
      main := { running.xt.main with ready := true }
      mizzen := { running.xt.mizzen with ready := true } }
    time := { running.time with anchored := false, lastMajor := none, lastSlot := none } }

theorem witness_StartsComplete :
    ((withPower fun p => { p with module_ := .sleep, domains := 0, esup := [16000], wake := true }).mayStart = true) ∧
    (let s := withPower fun p => { p with resetAt := some 3000000000 }
     s.pwr.resetAt = some 3000000000 ∧ 3000000000 ≤ s.now + 0 ∧ s.domain 10 = true) ∧
    ((startingAt 1 none).pwr.phase = 1 ∧ (startingAt 6 none).pwr.phase = 6 ∧ ((startingAt 4 none).memc 0).fillFrom = none ∧
      ((startingAt 4 none).memc 1).fillFrom = none) ∧
    (let s := startingAt 7 none
     s.pwr.module_ = .starting ∧ s.pwr.startupAt = none ∧ s.xt.stopped = false ∧ s.xt.main.ready = true ∧
     s.xt.mizzen.ready = true ∧ s.pwr.d15At + 10000000 ≤ s.now + 0 ∧ (s.elapse 0).timeWaitOver = true ∧
     (s.elapse 0).cascadeWaitOver = true ∧ 0 < (s.elapse 0).majorLen) ∧
    (let s := startingAt 7 (some 3000000000)
     s.pwr.startupAt = some 3000000000 ∧ 3000000000 ≤ (s.elapse 0).anchor.grid ∧ (s.elapse 0).anchor.grid % s.majorLen = 0) := by
  decide +kernel

theorem witness_BoundariesComplete :
    (let s := withTime fun t => { t with lastMajor := none, lastSlot := none }
     s.time.anchored = true ∧ (s.elapse 0).grid % s.majorLen = 0 ∧ s.time.lastMajor ≠ some (s.elapse 0).grid) ∧
    (let s := withTime fun t => { t with lastSlot := none }
     (s.elapse 0).grid % 10000 = 0 ∧ s.time.lastSlot ≠ some (s.elapse 0).slot ∧ s.time.lastMajor = some (s.elapse 0).grid) ∧
    (running.time.lastSlot = some (running.elapse 0).slot ∧ running.time.lastMajor = some (running.elapse 0).grid) ∧
    running.computes .main = true ∧
    (let s := running.updLane .main fun a => { a with deliveries := [⟨300000, 7, 5, 2999999000, 2999999000, true, none⟩], signals := [(7, {})] }
     (Tbl.find (((s.lane .main).deliveries.filter fun d => decide (d.slot ≤ s.slot)).foldl applyDelivery (s.lane .main).signals) 7).isSome = true) := by
  decide +kernel

theorem witness_SwitchedDomainsKeepTheirNeeds :
    orderBroken 65535 0 0 = false ∧ orderBroken 65535 0 0xC800 = false ∧ orderBroken 65535 2 2 = true ∧ orderBroken 1 0x8000 0 = true ∧
    (∀ n ∈ lockedFor running.xt.active, running.domain n = true ∧ (0 : Nat).testBit n = false ∧ (0x80 : Nat).testBit n = false) ∧
    (∀ n, n < 16 → running.domain n = true → ∀ k ∈ domainNeeds n, running.domain k = true) := by
  decide +kernel

theorem witness_EveryStepKeepsTheMemoryForm : running.mem.wf = true ∧ ∃ t, step running = .next t :=
  ⟨by decide +kernel, _, rfl⟩

/-! ### Numbers the manual and the standards it cites print -/

/-- FIPS 180-4, the message "abc". -/
theorem test_sha256_abc : sha256 [0x61#8, 0x62#8, 0x63#8] =
    [0xBA#8, 0x78#8, 0x16#8, 0xBF#8, 0x8F#8, 0x01#8, 0xCF#8, 0xEA#8, 0x41#8, 0x41#8, 0x40#8, 0xDE#8, 0x5D#8, 0xAE#8, 0x22#8,
     0x23#8, 0xB0#8, 0x03#8, 0x61#8, 0xA3#8, 0x96#8, 0x17#8, 0x7A#8, 0x9C#8, 0xB4#8, 0x10#8, 0xFF#8, 0x61#8, 0xF2#8, 0x00#8,
     0x15#8, 0xAD#8] := by decide +kernel

/-- RFC 4231 case 1: the first eight bytes of the code, B0344C61D8DB3853. -/
theorem test_hmac_rfc4231_case_1 :
    putLE 8 (tagOf (List.replicate 20 0x0B#8) [0x48#8, 0x69#8, 0x20#8, 0x54#8, 0x68#8, 0x65#8, 0x72#8, 0x65#8]) =
      [0xB0#8, 0x34#8, 0x4C#8, 0x61#8, 0xD8#8, 0xDB#8, 0x38#8, 0x53#8] := by decide +kernel

/-- The check value of CRC-32C, over "123456789". -/
theorem test_crc32c_check : crc32c [0x31#8, 0x32#8, 0x33#8, 0x34#8, 0x35#8, 0x36#8, 0x37#8, 0x38#8, 0x39#8] = 0xE3069283 := by
  decide +kernel

/-- 16 worked example, Table 16-7. -/
theorem test_one_flipped_bit_and_two :
    encodeByte 0xA7#8 = 0x16A7#13 ∧ decodeByte 0x16A7#13 = .good ∧ decodeByte 0x16AF#13 = .corrected 7 ∧
    deliveredData 0x16AF#13 = 0xA7#8 ∧ decodeByte 0x16AE#13 = .uncorrectable := by decide +kernel

/-- 10 worked example, Table 10-3: `BLACK_LEVEL` 64, ratios 2,048 and 16,384, blends from 3,000 to 3,800. -/
def threeExposures : Bytes :=
  setBytes camExposureReset 4 (putLE 4 64 ++ putLE 2 2048 ++ putLE 2 16384 ++ putLE 4 3000 ++ putLE 4 3800 ++ putLE 4 3000 ++
    putLE 4 3800)

theorem test_merge_of_five_pixels :
    [[1064, 189, 80], [3464, 494, 118], [4095, 2564, 377], [4095, 3264, 462], [4095, 4095, 1064]].map
      (mosaicOf (zeros 4) threeExposures) = [1000, 3420, 20000, 25568, 64000] := by decide +kernel

/-- 11 worked example, Table 11-5: the mosaic about pixel (2, 2), and its settings. -/
def fiveRows : List (List Nat) :=
  [[0, 0, 0, 0, 0], [0, 10000, 30000, 10100, 0], [0, 30400, 20000, 29600, 0], [0, 9900, 30200, 10002, 0], [0, 0, 0, 0, 0]]

def oneCurve : Bytes :=
  [4#8] ++ zeros 3 ++ putLE 4 0 ++ putLE 4 0 ++ putLE 4 4096 ++ putLE 4 8192 ++ putLE 4 65536 ++ putLE 4 49152 ++
  putLE 4 0xFFFFFF ++ putLE 4 65535

def colourSettings : CamSettings :=
  { camSettingsReset with
    cfa := zeros 4
    wb := putLE 2 7373 ++ putLE 2 4096 ++ putLE 2 6554 ++ zeros 2
    matrix := putS 2 6144 ++ putS 2 (-1638) ++ putS 2 (-410) ++ putS 2 (-819) ++ putS 2 5325 ++ putS 2 (-410) ++ putS 2 (-205) ++
      putS 2 (-1229) ++ putS 2 5530 ++ zeros 2 ++ putS 4 (-256) ++ putS 4 (-256) ++ putS 4 (-256)
    toneR := oneCurve
    toneG := oneCurve
    toneB := oneCurve }

theorem test_pixel_two_two :
    let t := tapsOf colourSettings fiveRows 5 2 2
    t.demo = ⟨20000, 30050, 10001⟩ ∧ t.linear = ⟨40127, 30010, 10531⟩ ∧ t.tone = ⟨32213, 25468, 12482⟩ ∧
    packPixel 3 [t] = [125#8, 99#8, 48#8] ∧ packPixel 2 [t] = putLE 2 26026 ∧ luma t.linear = 30846 := by decide +kernel

/-- 06 worked example: loop 12, Table 06-6, with the states of its period. -/
def section0 : Bytes :=
  putS 4 1073741824 ++ putS 4 1073741824 ++ putS 4 0 ++ putS 4 1073741824 ++ putS 4 0 ++ [24#8, 24#8, 0#8, 31#8, 0#8] ++ zeros 3

def section1 : Bytes :=
  putS 4 1745333780 ++ putS 4 (-1710772716) ++ putS 4 0 ++ putS 4 1073741824 ++ putS 4 0 ++ [24#8, 24#8, 0#8, 30#8, 0#8] ++ zeros 3

theorem test_valve_current_loop :
    (runSection section0 10 ⟨10, 0, 2560, 0⟩).1 = 2560 ∧ (runSection section1 2560 ⟨3072, 0, 5000000, 0⟩).1 = 4953065 ∧
    runCascade [section0, section1] [⟨10, 0, 2560, 0⟩, ⟨3072, 0, 5000000, 0⟩] 10 =
      (4953065, [⟨10, 10, 2560, 2560⟩, ⟨2560, 3072, 4953065, 5000000⟩], false) := by decide +kernel

/-- 09 worked example: its cell index and the cell's address, the moisture of the step, and the distances of its figures. -/
theorem test_step_into_a_grid :
    cellOf (setBytes (setBytes resetYield.grid 0x14 (putLE 2 10000 ++ putLE 2 256 ++ putLE 2 256)) 0x0C (putS 4 0 ++ putS 4 0))
      (1338067, 582300) = some 14981 := by decide +kernel

/-- 09 worked example: at a heading of 90° the header lies due east of the antenna; and an origin has no distance from itself. -/
theorem test_lever_arm_and_plane : leverArm 3500 0 9000000 = (3500, 0) ∧
    tangentPlane 48000000000 11000000000 0 48000000000 11000000000 0 = (0, 0) := by decide +kernel

/-- 13 R367: the drift after 15 and after 30 minutes. -/
theorem test_drift : driftNs 900000000000 = 2000 ∧ driftNs 1800000000000 = 7000 := by decide +kernel

/-- 04 Table 04-6: a word with each field set. -/
theorem test_origin_fields :
    originStation 0xE0031005 = 5 ∧ originKind 0xE0031005 = 1 ∧ originIndex 0xE0031005 = 3 ∧ originRole 0xE0031005 = 2 ∧
    originLane 0xE0031005 = 3 := by decide +kernel

/-- 06 R190's rotor loop: the two encodings' terms at an error of 100. -/
theorem test_rotor_terms :
    term 1100611139 100 29 = 205 ∧ term (-1098412116) 100 29 = -205 ∧ term 1100611139 100 21 = 52481 ∧
    term (-1098412116) 100 21 = -52376 := by decide +kernel

/-! ### Well-formedness -/

/-- Each check of a request refuses a term that breaks it alone. -/
theorem test_ill_formed_requests_are_refused :
    let get (r : Request) : Bool := (Instr.timeGetStatus 1 r).wellFormed
    get (ask 0 []) = true ∧ get { ask 0 [] with path := .eth 3 4294967295 65535, origin := 0x30031005 } = true ∧
    get { ask 0 [] with path := .mailbox 4095, origin := 0x0FFF0005 } = true ∧
    (Instr.timeGetStatus 18446744073709551616 (ask 0 [])).wellFormed = false ∧ get (ask 65536 []) = false ∧
    get { ask 0 [] with sequence := 4294967296 } = false ∧ get { ask 0 [] with boundary := 4294967296 } = false ∧
    get { ask 0 [] with tag := 18446744073709551616 } = false ∧ get (ask 0 (zeros 4065)) = false ∧
    get { ask 0 [] with origin := 0x30002005 } = false ∧ get { ask 0 [] with origin := 0x30013005 } = false ∧
    get { ask 0 [] with path := .eth 4 0 0, origin := 0x30041005 } = false ∧
    get { ask 0 [] with path := .stay 4, origin := 0x30043005 } = false ∧
    get { ask 0 [] with path := .mailbox 4095, origin := 0x1FFF0005 } = false ∧
    get { ask 0 [] with path := .firmware .main, origin := 0x80005005 } = false ∧
    get { ask 0 [] with path := .initial } = false := by decide +kernel

/-- Each check of an event's operands refuses the first value past its range. -/
theorem test_ill_formed_events_are_refused :
  ([.halyardUnitArrival 0 .initial [], .slotStart 0 ⟨[(.main, 12)], []⟩, .majorBoundary 0 4096,
      .taskFinish 0 .main ⟨4096, 0⟩ ⟨[], [], []⟩, .taskFinish 0 .main ⟨0, 12⟩ ⟨[], [], []⟩, .taskCommit 0 .main ⟨4096, 0⟩,
      .taskBudgetExpiry 0 .main ⟨4096, 11⟩, .taskWindowFault 0 .main ⟨4096, 0⟩ 0 .read,
      .taskWindowFault 0 .main ⟨0, 0⟩ 17179869184 .execute, .receiverCopyArrival 0 .main 0 0, .receiverCopyArrival 0 .main 12 0,
      .dedupWindowExpiry 0 1 256, .pairLimitExpiry 0 12 0, .loopPeriodBoundary 0 512, .loopStart 0 .main ⟨4, []⟩,
      .loopResultReady 0 .main 512, .loopOutputRelease 0 .main 512, .pwmPeriodStart 0 104, .retry 0 104, .shuntOpen 0 136,
      .sensorSupplyTrip 0 8, .frameValidRise 0 8, .fusionRoundInstant 0 8, .fusionSampleArrival 0 16, .timePulseStart 0 2,
      .canTxComplete 0 12, .peerDelayRequest 0 4, .memFillDone 0 6, .tokenRefill 0 65536, .connectorMated 0 0,
      .connectorMated 0 9, .ethLinkChange 0 5 true] : List Instr).all (fun i => !i.wellFormed) = true := by decide +kernel

/-! ### Words -/

/-- The opcode table gives no row any bits, so no word spells a command. -/
theorem test_no_word_spells_a_command (n w : Nat) : decodeTableWord n w = none ∧ running.withFetchWord n w = running :=
  ⟨rfl, rfl⟩

end Sys2Proof.Tests
end

namespace Sys2Proof.Machine
open Sys2Proof

/-! ### The regime -/

/-- What the power controller holds, the designation, and what the Crosstree holds of each lane. No item that a block takes, no
reply and no record changes it; only the Crosstree's own decisions and the switching of domains do. -/
def State.regime (s : State) : PwrSt × Lane × XtLane × XtLane := (s.pwr, s.xt.active, s.xt.main, s.xt.mizzen)

theorem State.pwr_of_regime {s t : State} (h : t.regime = s.regime) : t.pwr = s.pwr := congrArg (·.1) h

theorem State.active_of_regime {s t : State} (h : t.regime = s.regime) : t.xt.active = s.xt.active := congrArg (·.2.1) h

theorem State.xtLane_of_regime {s t : State} (h : t.regime = s.regime) (l : Lane) : t.xtLane l = s.xtLane l := by
  cases l with
  | main => exact congrArg (·.2.2.1) h
  | mizzen => exact congrArg (·.2.2.2) h

theorem foldl_regime {β : Type} {g : State → β → State} (h : ∀ t x, (g t x).regime = t.regime) (l : List β) (s : State) :
    (l.foldl g s).regime = s.regime := by
  induction l generalizing s with
  | nil => rfl
  | cons x l ih => rw [List.foldl_cons, ih, h]

theorem foldl_fst_regime {α β : Type} {g : State × α → β → State × α} (h : ∀ t x, (g t x).1.regime = t.1.regime)
    (l : List β) (p : State × α) : (l.foldl g p).1.regime = p.1.regime := by
  induction l generalizing p with
  | nil => rfl
  | cons x l ih => rw [List.foldl_cons, ih, h]

theorem ite_regime {c : Prop} [Decidable c] {s a b : State} (ha : a.regime = s.regime) (hb : b.regime = s.regime) :
    (if c then a else b).regime = s.regime := by
  split
  · exact ha
  · exact hb

section Regime
variable (s : State)

/-! #### Updates of one unit -/

@[simp] theorem State.updLane_regime (l : Lane) (f : LaneSt → LaneSt) : (s.updLane l f).regime = s.regime := by cases l <;> rfl
@[simp] theorem State.updChan_regime (c : Nat) (f : Chan → Chan) : (s.updChan c f).regime = s.regime := rfl
@[simp] theorem State.updFus_regime (f : FusSt → FusSt) : (s.updFus f).regime = s.regime := rfl
@[simp] theorem State.updMem_regime (c : Nat) (f : MemCtrl → MemCtrl) : (s.updMem c f).regime = s.regime := rfl
@[simp] theorem State.updStay_regime (f : StaySt → StaySt) : (s.updStay f).regime = s.regime := rfl
@[simp] theorem State.updEth_regime (p : Nat) (f : EthPort → EthPort) : (s.updEth p f).regime = s.regime := rfl
@[simp] theorem State.updCan_regime (p : Nat) (f : CanPort → CanPort) : (s.updCan p f).regime = s.regime := rfl
@[simp] theorem State.updGnss_regime (f : GnssSt → GnssSt) : (s.updGnss f).regime = s.regime := rfl
@[simp] theorem State.updRec_regime (f : RecSt → RecSt) : (s.updRec f).regime = s.regime := rfl
@[simp] theorem State.updRecv_regime (k : Nat) (f : Receiver → Receiver) : (s.updRecv k f).regime = s.regime := rfl
@[simp] theorem State.emit_regime (o : Out) : (s.emit o).regime = s.regime := rfl
@[simp] theorem State.useFree_regime : s.useFree.regime = s.regime := rfl
@[simp] theorem State.updSource_regime (n : Nat) (f : FusSource → FusSource) : (s.updSource n f).regime = s.regime := rfl
@[simp] theorem State.updRound_regime (k : Nat) (f : FusRound → FusRound) : (s.updRound k f).regime = s.regime := rfl
@[simp] theorem State.updStayPort_regime (p : Nat) (f : StayPort → StayPort) : (s.updStayPort p f).regime = s.regime := rfl
@[simp] theorem State.bumpGen_regime (k : Nat) : (s.bumpGen k).regime = s.regime := rfl
@[simp] theorem State.stayDiscard_regime : s.stayDiscard.regime = s.regime := rfl
@[simp] theorem State.judging_regime (k : Nat) (f : RecvView → Judging → Judging) : (s.judging k f).1.regime = s.regime := rfl
@[simp] theorem State.discardUntaken_regime (l : Lane) : (s.discardUntaken l).regime = s.regime := rfl

/-! #### Records -/

@[simp] theorem State.logTrouble_regime (l : Lane) (kind code : Nat) (d : Bytes) :
    (s.logTrouble l kind code d).regime = s.regime := s.updLane_regime _ _

@[simp] theorem State.raise_regime (code source resource : Nat) (d : Bytes) :
    (s.raise code source resource d).regime = s.regime := ite_regime rfl rfl

@[simp] theorem State.raiseFus_regime (code : Nat) (l : List Int) : (s.raiseFus code l).regime = s.regime :=
  s.raise_regime _ _ _ _
@[simp] theorem State.raiseCan_regime (code p : Nat) (l : List Int) : (s.raiseCan code p l).regime = s.regime :=
  s.raise_regime _ _ _ _
@[simp] theorem State.raiseGnss_regime (code : Nat) (l : List Int) : (s.raiseGnss code l).regime = s.regime :=
  s.raise_regime _ _ _ _

/-! #### What leaves the module -/

@[simp] theorem State.ethOut_regime (p : Nat) (o : Out) : (s.ethOut p o).regime = s.regime := ite_regime rfl rfl

@[simp] theorem State.ethMail_regime (p : Nat) (packet : Bytes) : (s.ethMail p packet).regime = s.regime :=
  ite_regime rfl (ite_regime rfl (s.ethOut_regime _ _))

@[simp] theorem State.stayOut_regime (p : Nat) (first : Bool) (payload : Bytes) :
    (s.stayOut p first payload).regime = s.regime := ite_regime rfl (ite_regime rfl rfl)

@[simp] theorem State.stayPacket_regime (station : Nat) (packet : Bytes) : (s.stayPacket station packet).regime = s.regime :=
  ite_regime rfl (ite_regime rfl (s.stayOut_regime _ _ _))

@[simp] theorem State.stayBroadcast_regime (except : Option Nat) (first : Bool) (payload : State → Nat → Bytes) :
    (s.stayBroadcast except first payload).regime = s.regime :=
  foldl_regime (fun t _ => t.stayOut_regime _ _ _) _ _

@[simp] theorem State.deliverReply_regime (p : Reply) : (s.deliverReply p).regime = s.regime := by
  unfold State.deliverReply
  split <;> simp

@[simp] theorem State.deliverMail_regime (kind dest : Nat) (packet : Bytes) :
    (s.deliverMail kind dest packet).regime = s.regime := ite_regime (s.stayPacket_regime _ _) (s.ethMail_regime _ _)

/-! #### Copies sent to receivers, and what a receiver hands on -/

@[simp] theorem State.handOn_regime (t : Taken) : (s.handOn t).regime = s.regime := by
  unfold State.handOn
  split
  case h_3 => exact s.deliverReply_regime _
  case h_4 => exact s.deliverMail_regime _ _ _
  all_goals rfl

@[simp] theorem State.handAll_regime (x : State × List Taken) : (State.handAll x).regime = x.1.regime :=
  foldl_regime (fun t _ => t.handOn_regime _) _ _

@[simp] theorem State.sendSingle_regime (powered : Bool) (block resource item : Nat) (l : Lane) (c : Cargo) :
    (s.sendSingle powered block resource item l c).1.regime = s.regime := by
  unfold State.sendSingle
  split <;> rfl

@[simp] theorem State.sendCopy_regime (powered : Bool) (block resource item : Nat) (l : Lane) (c : Cargo) :
    (s.sendCopy powered block resource item l c).1.regime = s.regime := by
  unfold State.sendCopy
  dsimp only
  split <;> simp

@[simp] theorem State.offer_regime (w : Senders) (powered : Bool) (block resource item : Nat) (c : Lane → Cargo) :
    (s.offer w powered block resource item c).1.regime = s.regime := by
  refine foldl_fst_regime (fun t l => ?_) _ _
  dsimp only
  split <;> simp

@[simp] theorem State.logChange_regime (kind opcode : Nat) (r : Request) (status boundary : Nat) :
    (s.logChange kind opcode r status boundary).regime = s.regime := by simp [State.logChange]

/-! #### Replies -/

@[simp] theorem State.raisePaired_regime (w : Senders) (code : Nat) (d : Bytes) : (s.raisePaired w code d).regime = s.regime := by
  unfold State.raisePaired
  rw [foldl_regime fun t l => t.logTrouble_regime _ _ _ _]
  simp

@[simp] theorem State.pushMail_regime (ls : List Lane) (task : Nat) (packet : Lane → Bytes) :
    (s.pushMail ls task packet).regime = s.regime := by
  refine ite_regime rfl (ite_regime ?_ ?_)
  · change (List.foldl _ s _).regime = s.regime
    exact foldl_regime (fun t l => ite_regime rfl (t.updLane_regime _ _)) _ _
  · exact foldl_regime (fun t l => ite_regime rfl (t.updLane_regime _ _)) _ _

@[simp] theorem State.sendReply_regime (w : Senders) (p : Lane → Reply) : (s.sendReply w p).regime = s.regime := by
  unfold State.sendReply
  split
  case h_4 => exact foldl_regime (fun t _ => t.emit_regime _) _ _
  case h_6 =>
    have logged : ∀ (k c : Nat) (d : Bytes), (w.lanes.foldl (fun t l => t.logTrouble l k c d) s).regime = s.regime :=
      fun k c d => foldl_regime (fun t l => t.logTrouble_regime _ _ _ _) _ _
    exact ite_regime (logged _ _ _) ((State.raisePaired_regime _ _ _ _).trans (logged _ _ _))
  all_goals simp

@[simp] theorem State.answer_regime (opcode : Nat) (r : Request) (status boundary : Nat) (payload : Bytes) :
    (s.answer opcode r status boundary payload).regime = s.regime :=
  ite_regime (s.sendReply_regime _ _) (s.sendReply_regime _ _)

@[simp] theorem State.withdraw_regime (e : Staged) : (s.withdraw e).regime = s.regime := by
  simp only [State.withdraw, State.logChange_regime, State.answer_regime]
  rfl

@[simp] theorem State.dropStaged_regime (block : Nat) : (s.dropStaged block).regime = s.regime :=
  foldl_regime (fun t e => t.withdraw_regime e) _ _

/-! #### Items of the fusion engine -/

@[simp] theorem State.unusedSample_regime (n : Nat) : (s.unusedSample n).regime = s.regime := rfl

@[simp] theorem State.rejectSample_regime (n cause : Nat) : (s.rejectSample n cause).regime = s.regime := by
  simp [State.rejectSample]

@[simp] theorem State.offerOpen_regime (x : Sample) (o : OpenRound) : (s.offerOpen x o).regime = s.regime :=
  ite_regime rfl (ite_regime rfl (State.rejectSample_regime _ _ _))

@[simp] theorem State.offerPast_regime (x : Sample) (p : PastRound) : (s.offerPast x p).regime = s.regime := by
  unfold State.offerPast
  split
  · rfl
  · exact ite_regime rfl (State.raiseFus_regime _ _ _)

@[simp] theorem State.applyReset_regime : s.applyReset.regime = s.regime := by
  unfold State.applyReset
  split
  · rfl
  · exact State.raiseFus_regime _ _ _

@[simp] theorem State.moveState_regime (t : Nat) : (s.moveState t).1.regime = s.regime := rfl

@[simp] theorem State.workRound_regime (o : OpenRound) (heads : Bytes) (present : Nat → Option Sample) :
    (s.workRound o heads present).regime = s.regime := by
  have cover : ∀ l, (s.fusionCover l).regime = s.regime := fun l => ite_regime rfl rfl
  have write : ∀ (t : State) w, (t.fusionWrite w).regime = t.regime := fun t w => ite_regime rfl rfl
  simp [State.workRound, cover, write]

@[simp] theorem State.issueRound_regime (o : OpenRound) (waited : Bool) : (s.issueRound o waited).regime = s.regime := by
  unfold State.issueRound
  dsimp only
  rw [foldl_regime fun t n => ite_regime (t.updSource_regime _ _) rfl]
  simp only [State.updRound_regime, State.updFus_regime, State.workRound_regime]
  cases rUseState o.cfg <;> simp

@[simp] theorem State.issueComplete_regime : s.issueComplete.regime = s.regime := by
  refine ite_regime rfl ?_
  split
  · exact s.issueRound_regime _ _
  · rfl

@[simp] theorem State.sampleArrives_regime (x : Sample) : (s.sampleArrives x).regime = s.regime := by
  simp only [State.sampleArrives, State.issueComplete_regime]
  rw [foldl_regime fun t p => t.offerPast_regime _ _, foldl_regime fun t o => t.offerOpen_regime _ _]
  exact ite_regime rfl rfl

/-! #### Items that blocks take -/

@[simp] theorem takeDuty_regime (c item : Nat) (v : Int) : (takeDuty c item v s).regime = s.regime := ite_regime rfl rfl

@[simp] theorem State.takeScalar_regime (n e : Nat) (c : Copy) : (s.takeScalar n e c).regime = s.regime :=
  ite_regime rfl (ite_regime rfl (State.sampleArrives_regime _ _))

@[simp] theorem State.takeExport_regime (item seq : Nat) (c : Copy) : (s.takeExport item seq c).regime = s.regime := by
  unfold State.takeExport
  dsimp only
  split
  · exact ite_regime rfl (s.stayBroadcast_regime _ _ _)
  · rfl

@[simp] theorem State.takeCan_regime (p item : Nat) (c : Copy) : (s.takeCan p item c).regime = s.regime := by
  refine ite_regime rfl (ite_regime rfl ?_)
  split
  · exact State.raiseCan_regime _ _ _ _
  · exact ite_regime (State.raiseCan_regime _ _ _ _) rfl

@[simp] theorem State.takeItem_regime (block resource item seq : Nat) (c : Copy) :
    (s.takeItem block resource item seq c).regime = s.regime :=
  ite_regime (takeDuty_regime _ _ _ _) <| ite_regime rfl <| ite_regime (s.takeScalar_regime _ _ _) <|
    ite_regime (s.takeExport_regime _ _ _) <| ite_regime (s.takeCan_regime _ _ _) rfl

@[simp] theorem State.act_regime (t : Taken) : (s.act t).regime = s.regime := by
  unfold State.act
  split <;> simp

@[simp] theorem State.actAll_regime (x : State × List Taken) : (State.actAll x).regime = x.1.regime :=
  foldl_regime (fun t _ => t.act_regime _) _ _

@[simp] theorem State.judgeAll_regime (f : RecvView → Judging → Judging) : (s.judgeAll f).regime = s.regime :=
  foldl_regime (fun t k => (State.actAll_regime _).trans (t.judging_regime k f)) _ _

@[simp] theorem State.finishAll_regime : s.finishAll.regime = s.regime := s.judgeAll_regime _

@[simp] theorem State.takeOpen_regime (l : Lane) : (s.takeOpen l).regime = s.regime := s.judgeAll_regime _

/-! #### A designation -/

/-- A designation moves the active lane and the states of lanes, and nothing that receivers then take adds to that. -/
theorem State.designate_regime (l : Lane) (cause : Nat) : (s.designate l cause).regime =
    (({ s with xt := { s.xt with active := l, switchovers := sat32 s.xt.switchovers 1 } } : State).setLaneState l
      .active).regime :=
  (State.raise_regime _ _ _ _ _).trans ((State.finishAll_regime _).trans (State.takeOpen_regime _ _))

theorem State.updXt_active (l : Lane) (f : XtLane → XtLane) : (s.updXt l f).xt.active = s.xt.active := by
  cases l <;> rfl

end Regime

end Sys2Proof.Machine

namespace Sys2Proof.Machine
open Sys2Proof

/-! ### One bit of a mask -/

theorem bitOf_eq_testBit (v i : Nat) : bitOf v i = v.testBit i := by
  rw [Nat.testBit_eq_decide_div_mod_eq]
  rfl

/-- A bit that is 0 is set without a carry into any other. -/
theorem testBit_add_two_pow {m i : Nat} (h : m.testBit i = false) (j : Nat) :
    (m + 2 ^ i).testBit j = (decide (j = i) || m.testBit j) := by
  induction i generalizing m j with
  | zero =>
    have hm : m % 2 = 0 := by simpa using h
    cases j with
    | zero => simp; omega
    | succ j =>
      have hd : (m + 1) / 2 = m / 2 := by omega
      simp [Nat.testBit_succ, hd]
  | succ i ih =>
    have hd : (m + 2 ^ (i + 1)) / 2 = m / 2 + 2 ^ i := by omega
    cases j with
    | zero =>
      have hm : (m + 2 ^ (i + 1)) % 2 = m % 2 := by omega
      simp [hm]
    | succ j =>
      rw [Nat.testBit_succ, hd, ih (by rwa [← Nat.testBit_succ])]
      simp [Nat.testBit_succ]

@[simp] theorem bitOf_setBit (m i : Nat) (v : Bool) (j : Nat) :
    bitOf (setBit m i v) j = if j = i then v else bitOf m j := by
  simp only [bitOf_eq_testBit, setBit]
  cases v <;> cases h : m.testBit i
  case false.true =>
    obtain ⟨n, rfl⟩ := Nat.exists_eq_add_of_le' (Nat.ge_two_pow_of_testBit h)
    have hn : n.testBit i = false := by rwa [Nat.add_comm, Nat.testBit_two_pow_add_eq, Bool.not_eq_true'] at h
    by_cases hj : j = i
    · simp [hj, hn]
    · simp [testBit_add_two_pow hn, hj]
  case true.false =>
    by_cases hj : j = i <;> simp [testBit_add_two_pow h, hj]
  all_goals by_cases hj : j = i <;> simp [hj, h]

/-! ### What switching one domain does -/

theorem State.domain_of_domains {s t : State} (h : t.pwr.domains = s.pwr.domains) (k : Nat) : t.domain k = s.domain k := by
  rw [State.domain, h, State.domain]

theorem State.domain_of_regime {s t : State} (h : t.regime = s.regime) (k : Nat) : t.domain k = s.domain k :=
  State.domain_of_domains (congrArg PwrSt.domains (State.pwr_of_regime h)) k

@[simp] theorem State.setDomain_domain (s : State) (n k : Nat) (v : Bool) :
    (s.setDomain n v).domain k = if k = n then v else s.domain k := bitOf_setBit _ _ _ _

theorem State.gateHold_regime (s : State) (c : Nat) : (s.gateHold c).regime = s.regime := by
  have odd : (s.clearOdd c).regime = s.regime := ite_regime rfl rfl
  exact ite_regime ((State.raise_regime _ _ _ _ _).trans odd) odd

theorem State.gnssDark_regime (s : State) : s.gnssDark.regime = s.regime := by
  have lost : s.loseTime.regime = s.regime := ite_regime rfl (ite_regime (State.raiseGnss_regime _ _ _) rfl)
  exact ite_regime rfl ((ite_regime rfl rfl : s.loseTime.refreshTime.regime = s.loseTime.regime).trans lost)

theorem State.designate_pwr (s : State) (l : Lane) (cause : Nat) : (s.designate l cause).pwr = s.pwr :=
  (State.pwr_of_regime (s.designate_regime l cause)).trans (State.updXt_pwr _ _ _)

/-- The cores of a lane that is not active go off: the designation stays. -/
theorem State.coresOff_keeps (s : State) (l : Lane) :
    (s.coresOff l).pwr = s.pwr ∧ (l ≠ s.xt.active → (s.coresOff l).xt.active = s.xt.active) := by
  let s1 := (s.updLane l LaneSt.reset).updXt l fun x => { state := .failed, recoveries := x.recoveries }
  have settled : ((s1.discardUntaken l).finishAll).regime = s1.regime := State.finishAll_regime _
  have hp : ((s1.discardUntaken l).finishAll).pwr = s.pwr := (State.pwr_of_regime settled).trans (by simp [s1])
  have ha : ((s1.discardUntaken l).finishAll).xt.active = s.xt.active :=
    (State.active_of_regime settled).trans (by simp [s1, State.updXt_active])
  constructor
  · unfold State.coresOff
    dsimp only
    split
    · exact (State.designate_pwr _ _ _).trans hp
    · exact hp
  · intro hl
    unfold State.coresOff
    rw [if_neg fun h => hl h.1]
    exact ha

/-- What a switch of one domain does to the domains, and to the designation of any lane but the one whose cores it names. -/
structure Switched (s t : State) (n : Nat) (v : Bool) : Prop where
  domain : ∀ k, t.domain k = if k = n then v else s.domain k
  active : n ≠ coreDomain s.xt.active → t.xt.active = s.xt.active

theorem Switched.of_domains {s t : State} {n : Nat} {v : Bool} (h : t.pwr.domains = setBit s.pwr.domains n v)
    (ha : t.xt.active = s.xt.active) : Switched s t n v where
  domain k := by rw [State.domain, h, bitOf_setBit, State.domain]
  active _ := ha

theorem Switched.trans_regime {s t u : State} {n : Nat} {v : Bool} (h : Switched s t n v) (e : u.regime = t.regime) :
    Switched s u n v where
  domain k := (State.domain_of_regime e k).trans (h.domain k)
  active hn := (State.active_of_regime e).trans (h.active hn)

theorem Switched.of_regime {s t : State} {n : Nat} {v : Bool} (h : t.regime = (s.setDomain n v).regime) : Switched s t n v :=
  have named : Switched s (s.setDomain n v) n v := .of_domains rfl rfl
  named.trans_regime h

theorem State.coresOff_switched (s : State) (l : Lane) :
    Switched s ((s.setDomain (coreDomain l) false).coresOff l) (coreDomain l) false := by
  obtain ⟨hp, ha⟩ := (s.setDomain (coreDomain l) false).coresOff_keeps l
  exact ⟨fun k => by rw [State.domain_of_domains (congrArg PwrSt.domains hp), State.setDomain_domain],
    fun hn => ha fun e => hn (congrArg coreDomain e)⟩

theorem State.setDomain_regime {s t : State} (h : t.regime = s.regime) (n : Nat) (v : Bool) :
    (t.setDomain n v).regime = (s.setDomain n v).regime := by
  obtain ⟨hp, hr⟩ := Prod.mk.inj h
  exact Prod.ext (congrArg (fun p : PwrSt => { p with domains := setBit p.domains n v }) hp) hr

theorem State.gateDown_switched (s : State) : Switched s s.gateDown 15 false := by
  have held (l : List Nat) : ((l.foldl State.gateHold s).setDomain 15 false).regime = (s.setDomain 15 false).regime :=
    State.setDomain_regime (foldl_regime (fun t c => t.gateHold_regime c) l s) 15 false
  exact .of_regime ((State.bumpGen_regime _ _).trans (held s.heads))

theorem State.gateUp_switched (s : State) : Switched s s.gateUp 15 true := by
  have freed (l : List Nat) (t : State) : ((l.foldl State.gateFree t).bumpGen l.length).regime = t.regime :=
    foldl_regime (fun u c => u.updChan_regime c _) l t
  unfold State.gateUp
  refine Switched.trans_regime ?_ (freed s.heads _)
  exact .of_domains rfl rfl

theorem State.domainOff_switched (s : State) (n : Nat) : Switched s (s.domainOff n) n false := by
  unfold State.domainOff
  dsimp only
  split
  case h_1 => exact s.coresOff_switched .main
  case h_2 => exact s.coresOff_switched .mizzen
  case h_14 => exact s.gateDown_switched
  all_goals apply Switched.of_regime
  case h_3 | h_4 => exact State.updLane_regime _ _ _
  case h_5 | h_7 | h_10 | h_11 | h_13 => exact State.dropStaged_regime _ _
  case h_6 | h_15 => rfl
  case h_8 => exact State.gnssDark_regime _
  case h_9 => exact (State.gnssDark_regime _).trans (State.dropStaged_regime _ _)
  case h_12 => exact (State.dropStaged_regime _ _).trans (State.dropStaged_regime _ _)

theorem State.coresOn_switched (s : State) (l : Lane) :
    Switched s ((s.setDomain (coreDomain l) true).coresOn l) (coreDomain l) true := by
  unfold State.coresOn
  split
  · refine .of_domains ?_ ?_
    · cases l <;> rfl
    · cases l <;> rfl
  · exact .of_regime rfl

theorem State.fusionUp_regime (s : State) : s.fusionUp.regime = s.regime := ite_regime rfl rfl

theorem State.startFill_regime (s : State) (c : Nat) : (s.startFill c).regime = s.regime := ite_regime rfl rfl

theorem State.domainOn_switched (s : State) (n : Nat) : Switched s (s.domainOn n) n true := by
  unfold State.domainOn
  dsimp only
  split
  case h_1 => exact s.coresOn_switched .main
  case h_2 => exact s.coresOn_switched .mizzen
  case h_5 => exact .of_regime (State.fusionUp_regime _)
  case h_6 => exact .of_regime ((State.fusionUp_regime _).trans (State.startFill_regime _ _))
  case h_9 => exact .of_domains rfl rfl
  case h_10 => exact s.gateUp_switched
  all_goals exact .of_regime rfl

/-! ### The masks of a switch -/

theorem domainNeeds_lt {n k : Nat} (h : k ∈ domainNeeds n) : k < 16 := by
  unfold domainNeeds at h
  split at h <;> simp at h <;> omega

theorem not_mem_domainNeeds_self (n : Nat) : n ∉ domainNeeds n := by
  unfold domainNeeds
  split <;> simp_all

theorem mem_domainOrder {n : Nat} : n ∈ domainOrder ↔ n < 16 := by
  have lt : ∀ n ∈ domainOrder, n < 16 := by decide
  have mem : ∀ n < 16, n ∈ domainOrder := by decide
  exact ⟨lt n, mem n⟩

theorem domainOrder_needs_first : domainOrder.Pairwise fun a b => b ∉ domainNeeds a := by decide

theorem orderBroken_iff {now on off : Nat} : orderBroken now on off = true ↔ ∃ n, n < 16 ∧
    ((bitOf on n = true ∧ bitOf off n = true) ∨
      domainsAfter now on off n = true ∧ ∃ k ∈ domainNeeds n, domainsAfter now on off k = false) := by
  simp [orderBroken, upto]

/-- No order is broken: no domain is in both masks, and each that is on afterwards has what it needs on afterwards. -/
theorem orderBroken_eq_false_iff {now on off : Nat} : orderBroken now on off = false ↔
    (∀ n < 16, bitOf on n = true → bitOf off n = false) ∧
    ∀ n < 16, domainsAfter now on off n = true → ∀ k ∈ domainNeeds n, domainsAfter now on off k = true := by
  simp only [← Bool.not_eq_true, orderBroken_iff]
  constructor
  · exact fun h => ⟨fun n hn hon hoff => h ⟨n, hn, .inl ⟨hon, hoff⟩⟩,
      fun n hn ha k hk => Decidable.byContradiction fun hoff => h ⟨n, hn, .inr ⟨ha, k, hk, hoff⟩⟩⟩
  · rintro ⟨apart, met⟩ ⟨n, hn, ⟨hon, hoff⟩ | ⟨ha, k, hk, hoff⟩⟩
    · exact apart n hn hon hoff
    · exact hoff (met n hn ha k hk)

theorem State.mayGoOff_iff {s : State} {n : Nat} : s.mayGoOff n = true ↔
    n ∉ lockedFor s.xt.active ∧ ∀ k < 16, s.domain k = true → n ∉ domainNeeds k := by
  simp only [State.mayGoOff, upto, Bool.and_eq_true, Bool.not_eq_true', List.all_eq_true, List.mem_range,
    Bool.and_eq_false_imp, List.contains_eq_mem, decide_eq_false_iff_not]

theorem State.mayComeOn_iff {s : State} {n : Nat} : s.mayComeOn n = true ↔ ∀ k ∈ domainNeeds n, s.domain k = true := by
  simp [State.mayComeOn]

end Sys2Proof.Machine

namespace Sys2Proof.Machine
open Sys2Proof

/-! ### `PWR_SET_DOMAIN` at its boundary, domain by domain -/

/-- One domain of the mask `OFF` at the swap. -/
def State.trySwitchOff (off : Nat) (t : State) (n : Nat) : State :=
  if bitOf off n && t.domain n && t.mayGoOff n then t.domainOff n else t

/-- One domain of the mask `ON` at the swap. -/
def State.trySwitchOn (on : Nat) (t : State) (n : Nat) : State :=
  if bitOf on n && !t.domain n && t.mayComeOn n then t.domainOn n else t

theorem applySetDomain_regime (s : State) (e : Staged) : (applySetDomain s e).regime =
    (domainOrder.foldl (State.trySwitchOn (u16 e.req.payload 0))
      (domainOrder.reverse.foldl (State.trySwitchOff (u16 e.req.payload 2)) s)).regime :=
  State.raise_regime _ _ _ _ _

/-- A domain of the mask stays, or it goes off with no lock on it and no domain on that needs it. -/
theorem State.trySwitchOff_cases (off : Nat) (t : State) (n : Nat) :
    (t.trySwitchOff off n = t ∧ (bitOf off n = true → t.domain n = true → t.mayGoOff n = false)) ∨
    (Switched t (t.trySwitchOff off n) n false ∧ bitOf off n = true ∧ t.mayGoOff n = true) := by
  unfold State.trySwitchOff
  split
  next h =>
    simp only [Bool.and_eq_true] at h
    exact .inr ⟨t.domainOff_switched n, h.1.1, h.2⟩
  next h => exact .inl ⟨rfl, fun ho hd => by simpa [ho, hd] using h⟩

/-- A domain of the mask stays, or it comes on with every domain on that it needs. -/
theorem State.trySwitchOn_cases (on : Nat) (t : State) (n : Nat) :
    (t.trySwitchOn on n = t ∧ (bitOf on n = true → t.domain n = false → t.mayComeOn n = false)) ∨
    (Switched t (t.trySwitchOn on n) n true ∧ bitOf on n = true ∧ t.mayComeOn n = true ∧ t.domain n = false) := by
  unfold State.trySwitchOn
  split
  next h =>
    simp only [Bool.and_eq_true, Bool.not_eq_true'] at h
    exact .inr ⟨t.domainOn_switched n, h.1.1, h.2, h.1.2⟩
  next h => exact .inl ⟨rfl, fun ho hd => by simpa [ho, hd] using h⟩

/-- With nothing that keeps it on, a domain of the mask goes off. -/
theorem State.trySwitchOff_domain {off : Nat} {t : State} {n : Nat} (free : bitOf off n = true → t.mayGoOff n = true)
    (k : Nat) : (t.trySwitchOff off n).domain k = (t.domain k && !(bitOf off k && decide (k = n))) := by
  obtain ⟨e, stays⟩ | ⟨sw, ho, -⟩ := t.trySwitchOff_cases off n
  · rw [e]
    by_cases hk : k = n
    · subst hk
      have settled : bitOf off k = true → t.domain k = false := fun ho =>
        eq_false_of_ne_true fun hd => Bool.false_ne_true ((stays ho hd).symm.trans (free ho))
      cases ho : bitOf off k with
      | false => simp
      | true => simp [settled ho]
    · simp [hk]
  · rw [sw.domain]
    by_cases hk : k = n <;> simp [hk, ho]

/-- With what it needs on, a domain of the mask comes on. -/
theorem State.trySwitchOn_domain {on : Nat} {t : State} {n : Nat} (free : bitOf on n = true → t.mayComeOn n = true)
    (k : Nat) : (t.trySwitchOn on n).domain k = (t.domain k || (bitOf on k && decide (k = n))) := by
  obtain ⟨e, stays⟩ | ⟨sw, ho, -⟩ := t.trySwitchOn_cases on n
  · rw [e]
    by_cases hk : k = n
    · subst hk
      have settled : bitOf on k = true → t.domain k = true := fun ho =>
        eq_true_of_ne_false fun hd => Bool.false_ne_true ((stays ho hd).symm.trans (free ho))
      cases ho : bitOf on k with
      | false => simp
      | true => simp [settled ho]
    · simp [hk]
  · rw [sw.domain]
    by_cases hk : k = n <;> simp [hk, ho]

/-! #### The active lane's domains -/

/-- The designation is as in `s`, and so is every domain that it locks and that was on. -/
def State.HoldsLocked (s t : State) : Prop :=
  t.xt.active = s.xt.active ∧ ∀ n ∈ lockedFor s.xt.active, s.domain n = true → t.domain n = true

theorem coreDomain_mem_lockedFor (l : Lane) : coreDomain l ∈ lockedFor l := by simp [lockedFor]

theorem State.trySwitchOff_holdsLocked {s t : State} (off n : Nat) (h : s.HoldsLocked t) :
    s.HoldsLocked (t.trySwitchOff off n) := by
  obtain ⟨ha, hd⟩ := h
  obtain ⟨e, -⟩ | ⟨sw, -, hm⟩ := t.trySwitchOff_cases off n
  · rw [e]; exact ⟨ha, hd⟩
  · have hn : n ∉ lockedFor s.xt.active := ha ▸ (State.mayGoOff_iff.1 hm).1
    refine ⟨(sw.active fun e => hn ?_).trans ha, fun k hk hs => ?_⟩
    · rw [e, ha]
      exact coreDomain_mem_lockedFor _
    · rw [sw.domain, if_neg (ne_of_mem_of_not_mem hk hn)]
      exact hd k hk hs

theorem Switched.on_mono {s t : State} {n : Nat} (h : Switched s t n true) {k : Nat} (hk : s.domain k = true) :
    t.domain k = true := by
  rw [h.domain, hk, ite_self]

theorem State.trySwitchOn_mono (on : Nat) (t : State) (n : Nat) {k : Nat} (hk : t.domain k = true) :
    (t.trySwitchOn on n).domain k = true := by
  obtain ⟨e, -⟩ | ⟨sw, -⟩ := t.trySwitchOn_cases on n
  · rwa [e]
  · exact sw.on_mono hk

/-! #### The order of the domains -/

/-- Every domain that is on has the domains on that it needs (01 R29). -/
def State.NeedsMet (s : State) : Prop := ∀ n < 16, s.domain n = true → ∀ k ∈ domainNeeds n, s.domain k = true

theorem State.trySwitchOff_needsMet {t : State} (off n : Nat) (h : t.NeedsMet) : (t.trySwitchOff off n).NeedsMet := by
  obtain ⟨e, -⟩ | ⟨sw, -, hm⟩ := t.trySwitchOff_cases off n
  · rwa [e]
  · intro m hm16 hon k hk
    rw [sw.domain] at hon ⊢
    split at hon
    · cases hon
    · have hkn : k ≠ n := fun e => (State.mayGoOff_iff.1 hm).2 m hm16 hon (e ▸ hk)
      rw [if_neg hkn]
      exact h m hm16 hon k hk

theorem State.trySwitchOn_needsMet {t : State} (on n : Nat) (h : t.NeedsMet) : (t.trySwitchOn on n).NeedsMet := by
  obtain ⟨e, -⟩ | ⟨sw, -, hm, -⟩ := t.trySwitchOn_cases on n
  · rwa [e]
  · intro m hm16 hon k hk
    refine sw.on_mono ?_
    rw [sw.domain] at hon
    split at hon
    · next hmn => exact State.mayComeOn_iff.1 hm k (hmn ▸ hk)
    · exact h m hm16 hon k hk

/-! #### A switch that breaks no order -/

/-- Going through domains of which none needs an earlier one, the mask `OFF` switches off every one that it names, if none is
locked and all that is on and needs one goes off too. -/
theorem foldl_trySwitchOff_domain {off : Nat} {l : List Nat} {t : State} (horder : l.Pairwise fun a b => a ∉ domainNeeds b)
    (hlock : ∀ n ∈ l, bitOf off n = true → n ∉ lockedFor t.xt.active)
    (hneed : ∀ n ∈ l, bitOf off n = true → ∀ k < 16, t.domain k = true → n ∈ domainNeeds k →
      k ∈ l ∧ bitOf off k = true)
    (m : Nat) : (l.foldl (State.trySwitchOff off) t).domain m = (t.domain m && !(bitOf off m && decide (m ∈ l))) := by
  induction l generalizing t with
  | nil => simp
  | cons n l ih =>
    obtain ⟨hn, horder⟩ := List.pairwise_cons.1 horder
    -- nothing that is on needs `n`, once `n` is to go off
    have free : bitOf off n = true → t.mayGoOff n = true := fun ho => by
      refine State.mayGoOff_iff.2 ⟨hlock n (by simp) ho, fun k hk hon hnk => ?_⟩
      obtain ⟨hkl, -⟩ := hneed n (by simp) ho k hk hon hnk
      obtain rfl | hkl := List.mem_cons.1 hkl
      · exact not_mem_domainNeeds_self k hnk
      · exact hn k hkl hnk
    have head := State.trySwitchOff_domain free
    have active : (t.trySwitchOff off n).xt.active = t.xt.active := by
      obtain ⟨e, -⟩ | ⟨sw, ho, -⟩ := t.trySwitchOff_cases off n
      · rw [e]
      · exact sw.active fun e => hlock n (by simp) ho (e ▸ coreDomain_mem_lockedFor _)
    rw [List.foldl_cons, ih horder, head]
    · by_cases hmn : m = n <;> cases bitOf off m <;> simp [hmn]
    · intro k hk ho
      rw [active]
      exact hlock k (List.mem_cons_of_mem _ hk) ho
    · intro j hj ho k hk hon hjk
      rw [head, Bool.and_eq_true] at hon
      obtain ⟨hkl, hko⟩ := hneed j (List.mem_cons_of_mem _ hj) ho k hk hon.1 hjk
      obtain rfl | hkl := List.mem_cons.1 hkl
      · simp [hko] at hon
      · exact ⟨hkl, hko⟩

/-- Going through domains of which none needs a later one, the mask `ON` switches on every one that it names, if each finds what
it needs on, or named before it. -/
theorem foldl_trySwitchOn_domain {on : Nat} {l : List Nat} {t : State} (horder : l.Pairwise fun a b => b ∉ domainNeeds a)
    (hneed : ∀ n ∈ l, bitOf on n = true → ∀ k ∈ domainNeeds n, t.domain k = true ∨ k ∈ l ∧ bitOf on k = true)
    (m : Nat) : (l.foldl (State.trySwitchOn on) t).domain m = (t.domain m || (bitOf on m && decide (m ∈ l))) := by
  induction l generalizing t with
  | nil => simp
  | cons n l ih =>
    obtain ⟨hn, horder⟩ := List.pairwise_cons.1 horder
    have free : bitOf on n = true → t.mayComeOn n = true := fun ho => by
      refine State.mayComeOn_iff.2 fun k hk => ?_
      obtain hon | ⟨hkl, -⟩ := hneed n (by simp) ho k hk
      · exact hon
      · obtain rfl | hkl := List.mem_cons.1 hkl
        · exact absurd hk (not_mem_domainNeeds_self k)
        · exact absurd hk (hn k hkl)
    have head := State.trySwitchOn_domain free
    rw [List.foldl_cons, ih horder, head]
    · by_cases hmn : m = n <;> cases bitOf on m <;> simp [hmn]
    · intro j hj ho k hk
      obtain hon | ⟨hkl, hko⟩ := hneed j (List.mem_cons_of_mem _ hj) ho k hk
      · exact .inl (State.trySwitchOn_mono on t n hon)
      · obtain rfl | hkl := List.mem_cons.1 hkl
        · exact .inl (by simp [head, hko])
        · exact .inr ⟨hkl, hko⟩

/-- Without a broken order or a lock, the two passes of the swap leave on exactly what the masks say. -/
theorem foldl_trySwitch_domain {s : State} {on off : Nat} (horder : orderBroken s.pwr.domains on off = false)
    (hlock : ∀ n ∈ lockedFor s.xt.active, bitOf off n = false) {n : Nat} (hn : n < 16) :
    (domainOrder.foldl (State.trySwitchOn on) (domainOrder.reverse.foldl (State.trySwitchOff off) s)).domain n =
      domainsAfter s.pwr.domains on off n := by
  obtain ⟨apart, met⟩ := orderBroken_eq_false_iff.1 horder
  have offed : ∀ m < 16, (domainOrder.reverse.foldl (State.trySwitchOff off) s).domain m = (s.domain m && !bitOf off m) := by
    intro m hm
    rw [foldl_trySwitchOff_domain (List.pairwise_reverse.2 domainOrder_needs_first)]
    · simp [mem_domainOrder.2 hm]
    · intro n _ ho hl
      exact Bool.false_ne_true ((hlock n hl).symm.trans ho)
    · intro n _ ho k hk hon hnk
      refine ⟨List.mem_reverse.2 (mem_domainOrder.2 hk), Decidable.byContradiction fun hoff => ?_⟩
      have after : domainsAfter s.pwr.domains on off n = true :=
        met k hk (by rw [domainsAfter, eq_false_of_ne_true hoff, show bitOf s.pwr.domains k = true from hon]; rfl) n hnk
      rw [domainsAfter, ho, Bool.not_true, Bool.and_false] at after
      exact Bool.false_ne_true after
  rw [foldl_trySwitchOn_domain domainOrder_needs_first, offed n hn]
  · cases ho : bitOf on n with
    | false => simp [domainsAfter, ho, State.domain]
    | true => simp [domainsAfter, ho, apart n hn ho, mem_domainOrder.2 hn]
  · intro n hn ho k hk
    have hk16 := domainNeeds_lt hk
    have hn16 := mem_domainOrder.1 hn
    have after := met n hn16 (by rw [domainsAfter, ho, apart n hn16 ho, Bool.or_true]; rfl) k hk
    rw [domainsAfter, Bool.and_eq_true, Bool.or_eq_true] at after
    obtain ⟨hd | hon, hoff⟩ := after
    · exact .inl (by rw [offed k hk16, Bool.and_eq_true]; exact ⟨hd, hoff⟩)
    · exact .inr ⟨mem_domainOrder.2 hk16, hon⟩

/-- Settles O60: the swap goes through the domains one by one, and each switch keeps the locks and the needs. -/
theorem switchedDomainsKeepTheirNeeds : Obligations.SwitchedDomainsKeepTheirNeeds := by
  intro s e on off
  have domain_final := State.domain_of_regime (applySetDomain_regime s e)
  have locked_off : s.HoldsLocked (domainOrder.reverse.foldl (State.trySwitchOff off) s) :=
    List.foldlRecOn _ _ ⟨rfl, fun _ _ h => h⟩ fun t h n _ => State.trySwitchOff_holdsLocked off n h
  refine ⟨fun hb z => ?_, ?_, fun hb z n hn hm => ?_, fun hb hl n hn => ?_, fun n hn hd => ?_, fun hs n hn hon k hk => ?_⟩
  · exact if_pos hb
  · simp only [orderBroken_iff, domainsAfter, bitOf_eq_testBit, State.domain]
  · have named : (lockedFor (s.activeAt z.gridAt)).any (fun n => bitOf on n || bitOf off n) = true :=
      List.any_eq_true.2 ⟨n, hn, by simpa [bitOf_eq_testBit] using hm⟩
    exact (if_neg (Bool.eq_false_iff.1 hb)).trans (if_pos named)
  · have unlocked : ∀ n ∈ lockedFor s.xt.active, bitOf off n = false := fun n hn => (bitOf_eq_testBit off n).trans (hl n hn).2
    rw [domain_final, foldl_trySwitch_domain hb unlocked hn]
    simp only [domainsAfter, bitOf_eq_testBit, State.domain]
  · rw [domain_final]
    exact List.foldlRecOn (motive := fun t => t.domain n = true) _ _ (locked_off.2 n hn hd)
      fun t h m _ => State.trySwitchOn_mono on t m h
  · have met : (domainOrder.foldl (State.trySwitchOn on) (domainOrder.reverse.foldl (State.trySwitchOff off) s)).NeedsMet :=
      List.foldlRecOn _ _ (List.foldlRecOn _ _ hs fun t h n _ => State.trySwitchOff_needsMet off n h)
        fun t h n _ => State.trySwitchOn_needsMet on n h
    rw [domain_final] at hon ⊢
    exact met n hn hon k hk

end Sys2Proof.Machine

namespace Sys2Proof.Machine
open Sys2Proof

theorem State.updLane_congr {s : State} {l : Lane} {f g : LaneSt → LaneSt} (h : f (s.lane l) = g (s.lane l)) :
    s.updLane l f = s.updLane l g := by
  cases l with
  | main => exact congrArg (fun a => { s with main := a }) h
  | mizzen => exact congrArg (fun a => { s with mizzen := a }) h

theorem State.updXt_congr {s : State} {l : Lane} {f g : XtLane → XtLane} (h : f (s.xtLane l) = g (s.xtLane l)) :
    s.updXt l f = s.updXt l g := by
  cases l with
  | main => exact congrArg (fun x => { s with xt := { s.xt with main := x } }) h
  | mizzen => exact congrArg (fun x => { s with xt := { s.xt with mizzen := x } }) h

@[simp] theorem State.elapse_adopted (s : State) (dt : Nat) (l : Lane) : (s.elapse dt).adopted l = s.adopted l := by
  cases l <;> rfl

/-! ### Reports the Crosstree receives (05 R147, 03 R91 to R93) -/

theorem discrepancyReceived_counts {s : State} {d : Discrepancy} {rest : List Discrepancy}
    (h : s.xt.reportsInFlight = d :: rest) (hs : s.xt.stopped = false) :
    discrepancyReceived s = ({ s with xt := { s.xt with reportsInFlight := rest } } : State).countDiscrepancy
      (if d.kind = 2 then some .main else if d.kind = 3 then some .mizzen else s.probationLane) := by
  unfold discrepancyReceived
  rw [h]
  exact if_neg (by simp [hs])

theorem overrunReceived_of_lane {s : State} {o : Overrun} {rest : List Overrun} (h : s.xt.overrunsInFlight = o :: rest)
    (hs : s.xt.stopped = false) (hl : o.lane ≠ 255) :
    overrunReceived s = { s with xt := { s.xt with overrunsInFlight := rest, overruns := s.xt.overruns ++ [o] } } := by
  unfold overrunReceived
  rw [h]
  exact (if_neg (by simp [hs])).trans (if_neg hl)

theorem overrunReceived_of_block {s : State} {o : Overrun} {rest : List Overrun} (h : s.xt.overrunsInFlight = o :: rest)
    (hs : s.xt.stopped = false) (hl : o.lane = 255) :
    overrunReceived s =
      (({ s with xt := { s.xt with overrunsInFlight := rest } } : State).countScheduleOverrun.recordOverrun o 0) := by
  unfold overrunReceived
  rw [h]
  exact (if_neg (by simp [hs])).trans (if_pos hl)

/-! #### Overruns and their twins -/

/-- The state with no report left to classify. -/
def State.overrunsTaken (s : State) : State := { s with xt := { s.xt with overruns := [] } }

/-- With every report due, all of them are paired and classified in order, and none is left. -/
theorem overrunClassify_of_due {s : State} {l : List Overrun} (hs : s.xt.stopped = false)
    (hd : ∀ o ∈ s.xt.overruns, (o.judgeAt + 1) * 10000 ≤ s.grid)
    (hl : sortBy (fun o => o.judgeAt * 256 + o.lane) s.xt.overruns = l) :
    overrunClassify s = (pairReports l.length l).foldl (fun t x => t.classify x.1 x.2) s.overrunsTaken := by
  have due : s.xt.overruns.filter (fun o => decide ((o.judgeAt + 1) * 10000 ≤ s.grid)) = s.xt.overruns :=
    List.filter_eq_self.2 fun o ho => decide_eq_true (hd o ho)
  have left : s.xt.overruns.filter (fun o => !decide ((o.judgeAt + 1) * 10000 ≤ s.grid)) = [] :=
    List.filter_eq_nil_iff.2 fun o ho => by simp [hd o ho]
  simp only [overrunClassify, hs, due, left, hl, State.overrunsTaken, Bool.false_eq_true, if_false]

theorem sortBy_pair {o p : Overrun} (ho : o.lane = 0) (hp : p.lane = 1) (h : p.judgeAt = o.judgeAt) {l : List Overrun}
    (hl : l = [o, p] ∨ l = [p, o]) : sortBy (fun o => o.judgeAt * 256 + o.lane) l = [o, p] := by
  have first : (fun o : Overrun => o.judgeAt * 256 + o.lane) o ≤ (fun o : Overrun => o.judgeAt * 256 + o.lane) p := by
    simp only [ho, hp, h]
    omega
  have second : ¬ (fun o : Overrun => o.judgeAt * 256 + o.lane) p ≤ (fun o : Overrun => o.judgeAt * 256 + o.lane) o := by
    simp only [ho, hp, h]
    omega
  obtain rfl | rfl := hl
  · exact if_pos first
  · exact if_neg second

theorem overrunClassify_alone {s : State} {o : Overrun} (hs : s.xt.stopped = false) (h : s.xt.overruns = [o])
    (hd : (o.judgeAt + 1) * 10000 ≤ s.grid) : overrunClassify s = s.overrunsTaken.classify o false :=
  overrunClassify_of_due (l := [o]) hs (by simpa [h] using hd) (by rw [h]; rfl)

section Pair
variable {s : State} {o p : Overrun} (hs : s.xt.stopped = false) (h : s.xt.overruns = [o, p] ∨ s.xt.overruns = [p, o])
  (ho : o.lane = 0) (hp : p.lane = 1) (hj : p.judgeAt = o.judgeAt) (hd : (o.judgeAt + 1) * 10000 ≤ s.grid)
include hs h ho hp hj hd

theorem overrunClassify_pair :
    overrunClassify s = (pairReports 2 [o, p]).foldl (fun t x => t.classify x.1 x.2) s.overrunsTaken := by
  refine overrunClassify_of_due (l := [o, p]) hs (fun x hx => ?_) (sortBy_pair ho hp hj h)
  have hx : x = o ∨ x = p := by obtain e | e := h <;> simpa [e, or_comm] using hx
  obtain rfl | rfl := hx
  · exact hd
  · rwa [hj]

theorem overrunClassify_twins (ht : p.task = o.task) (hm : p.major = o.major) (hk : p.slot = o.slot) :
    overrunClassify s = s.overrunsTaken.countScheduleOverrun.recordOverrun o 0 := by
  rw [overrunClassify_pair hs h ho hp hj hd]
  simp [pairReports, ht, hm, hk, ho, hp, State.classify]

theorem overrunClassify_apart (ht : p.task ≠ o.task) :
    overrunClassify s = (s.overrunsTaken.classify o false).classify p false := by
  rw [overrunClassify_pair hs h ho hp hj hd]
  simp [pairReports, beq_false_of_ne ht]

end Pair

/-! ### Commit digests (05 R146) -/

section Digest
variable {s : State} {d : Digest} {rest : List Digest}

theorem commitDigestArrival_off (h : (s.lane s.xt.active).digestsInFlight = d :: rest) (hc : s.xt.crossLane = false) :
    commitDigestArrival s = s.updLane s.xt.active fun a => { a with digestsInFlight := rest } := by
  unfold commitDigestArrival
  rw [h, hc]
  rfl

theorem State.comparer_of_computes (h : s.computes s.xt.active.other = true) : s.comparer = some s.xt.active.other := if_pos h

theorem commitDigestArrival_queued (h : (s.lane s.xt.active).digestsInFlight = d :: rest) (hc : s.xt.crossLane = true)
    (ho : s.computes s.xt.active.other = true) (hl : (s.lane s.xt.active.other).digests.length < 4096) :
    commitDigestArrival s = (s.updLane s.xt.active fun a => { a with digestsInFlight := rest }).updLane s.xt.active.other
      fun a => { a with digests := a.digests ++ [d] } := by
  unfold commitDigestArrival
  rw [h, hc, if_pos rfl, State.comparer_of_computes ho]
  exact State.updLane_congr (by rw [State.updLane_other, if_pos hl])

section Compare
variable {x : Digest} (ho : s.computes s.xt.active.other = true) (h : (s.lane s.xt.active.other).digests = d :: rest)
  (hg : (d.slot + 1) * 10000 ≤ s.grid) (hf : s.selftestFree = true)
  (hx : (s.lane s.xt.active.other).ownDigests.find? (fun y => y.task == d.task && y.slot == d.slot) = some x)
include ho h hg hf hx

/-- The standby's oldest digest meets its own commit of that task and slot, and both leave their lists. -/
theorem commitDigestCompare_found :
    commitDigestCompare s =
      let u := s.updLane s.xt.active.other fun a =>
        { a with
          digests := rest
          ownDigests := a.ownDigests.filter (fun y => !(y.task == d.task && y.slot == d.slot)) }
      if x.crc = d.crc then u
      else (u.updLane s.xt.active.other fun a =>
        { a with health := { a.health with digestMismatch := sat32 a.health.digestMismatch 1 } }).report
          ⟨0, 0, 4, s.xt.active.code, d.task, d.slot % s.slots, s.time.mast % 4294967296⟩ := by
  unfold commitDigestCompare
  rw [State.comparer_of_computes ho]
  dsimp only
  rw [h]
  dsimp only
  rw [if_neg (by simp [hf, hg]), hx]
  rfl

end Compare

end Digest

/-! ### Diagnostic bursts (05 R152) -/

/-- The results of a burst as judged: none is left. -/
def State.burstJudged (s : State) : State :=
  { s with xt := { s.xt with burstJudge := none, burstMain := none, burstMizzen := none } }

/-- The result of one lane, as the Crosstree holds it. -/
def State.noteBurst (s : State) (b : BurstResult) : Lane → State
  | .main => { s with xt := { s.xt with burstMain := some b } }
  | .mizzen => { s with xt := { s.xt with burstMizzen := some b } }

section Burst
variable {s : State}

theorem burstResultReceived_noted {l : Lane} {b : BurstResult} (h : (s.lane l).burstInFlight = some b)
    (hs : s.xt.stopped = false) (hj : s.xt.burstJudge ≠ none) :
    burstResultReceived l s = (s.updLane l fun a => { a with burstInFlight := none }).noteBurst b l := by
  unfold burstResultReceived
  rw [h]
  dsimp only
  rw [if_neg (by simpa [hs] using hj)]
  cases l <;> rfl

variable {n : Nat} (hj : s.xt.burstJudge = some n) (hs : s.xt.stopped = false) (hn : (n + 1) * 10000 ≤ s.grid)
include hj hs hn

theorem burstResultDeadline_bothPass {a b : BurstResult} (hm : s.xt.burstMain = some a) (hz : s.xt.burstMizzen = some b)
    (ha : a.pass = true) (hb : b.pass = true) :
    burstResultDeadline s = s.burstJudged.raise 0x0404 11 255 (putLE 4 a.crc ++ putLE 4 b.crc) := by
  simp [burstResultDeadline, hj, hs, Nat.not_lt.2 hn, hm, hz, ha, hb, State.burstJudged]

theorem burstResultDeadline_mizzenSilent {a : BurstResult} (hm : s.xt.burstMain = some a) (ha : a.pass = true)
    (hz : s.xt.burstMizzen = none) : burstResultDeadline s = s.burstJudged.laneFailure .mizzen 2 := by
  simp [burstResultDeadline, hj, hs, Nat.not_lt.2 hn, hm, hz, ha, State.burstJudged]

theorem burstResultDeadline_bothSilent (hm : s.xt.burstMain = none) (hz : s.xt.burstMizzen = none) :
    burstResultDeadline s = (s.burstJudged.laneFailure s.xt.active.other 2).raise 0x0405 11 255 (putLE 4 s.major) := by
  simp [burstResultDeadline, hj, hs, Nat.not_lt.2 hn, hm, hz, State.burstJudged]

end Burst

/-! ### Lanes released and ready (05 R149, R150, R154) -/

section Release
variable {s : State} {l : Lane} {t : Nat}

section Hold
variable (h : (s.xtLane l).hold = some t) (ht : t ≤ s.now) (hs : s.xt.stopped = false) (hd : s.domain (coreDomain l) = true)
  (hf : (s.xtLane l).filling = false)
include h ht hs hd hf

theorem resetHoldExpiry_fills (hm : s.mem.fillAtPowerOn = true) :
    resetHoldExpiry l s = (s.startFill l.code).updXt l fun x => { x with filling := true } := by
  simp [resetHoldExpiry, h, hs, hd, hf, hm, Nat.not_lt.2 ht]

theorem resetHoldExpiry_releases (hm : s.mem.fillAtPowerOn = false) : resetHoldExpiry l s = s.release l := by
  simp [resetHoldExpiry, h, hs, hd, hf, hm, Nat.not_lt.2 ht]

end Hold

theorem State.release_recovers (hr : s.xt.restart = false) : s.release l = (s.boot l).updXt l fun x =>
    { x with hold := none, filling := false, booted := true, recoveries := x.recoveries + 1 } := by
  simp [State.release, hr]

theorem State.release_restarts (hr : s.xt.restart = true) (hf : (s.xtLane l).filling = false)
    (hx : (s.xtLane l).state ≠ .recovering) :
    s.release l = ((s.ringsUndefined l).boot l).updXt l fun x =>
      { x with hold := none, filling := false, readyDue := some (s.now + 10000000000) } := by
  have same : ((s.ringsUndefined l).boot l).xtLane l = s.xtLane l := by cases l <;> rfl
  simp only [State.release, hr, hf, Bool.not_false, Bool.and_self, if_true]
  exact State.updXt_congr (by rw [same]; simp [hx])

section Ready
variable (hs : s.xt.stopped = false) (hr : (s.lane l).running = true) (ha : s.adopted l = true)
  (hx : (s.xtLane l).adopted = true)
include hs hr ha hx

theorem laneReadyReport_starts (hm : s.pwr.module_ = .starting) (hp : 7 ≤ s.pwr.phase) :
    laneReadyReport l s = (s.updXt l fun x => { x with ready := true }).tryNameStart := by
  simp [laneReadyReport, hs, hr, ha, hx, hm, hp]

theorem laneReadyReport_rejoins (hm : s.pwr.module_ = .run) (hre : s.xt.restart = true) (ht : (s.xtLane l).readyDue = some t) :
    laneReadyReport l s =
      let u := s.updXt l fun x => { x with ready := true, readyDue := none }
      if u.laneWaits l.other then u else u.nameRejoin := by
  simp [laneReadyReport, hs, hr, ha, hx, hm, hre, ht]

end Ready

theorem laneReadyTimeout_leavesBehind (h : (s.xtLane l).readyDue = some t) (ht : t ≤ s.now) (hs : s.xt.stopped = false)
    (hr : s.xt.restart = true) (ho : (s.xtLane l.other).ready = true) :
    laneReadyTimeout l s = (s.leaveBehind l).nameRejoin := by
  simp [laneReadyTimeout, h, hs, hr, ho, Nat.not_lt.2 ht]

/-! #### A lane left behind -/

theorem State.designate_active (s : State) (l : Lane) (cause : Nat) : (s.designate l cause).xt.active = l := by
  rw [State.active_of_regime (State.designate_regime s l cause)]
  exact State.updXt_active _ _ _

theorem State.designate_other (s : State) (l : Lane) (cause : Nat) : (s.designate l.other cause).xtLane l = s.xtLane l := by
  rw [State.xtLane_of_regime (State.designate_regime s l.other cause)]
  cases l <;> rfl

theorem State.failLane_state (s : State) (l : Lane) (cause : Nat) :
    ((s.failLane l cause).xtLane l).state = .failed ∨ ((s.failLane l cause).xtLane l).state = .recovering := by
  unfold State.failLane
  dsimp only
  rw [State.xtLane_of_regime ((State.raise_regime _ _ _ _ _).trans (State.finishAll_regime _)),
    State.xtLane_of_regime (State.discardUntaken_regime _ _), State.updXt_xtLane]
  dsimp only
  split
  · exact .inl rfl
  · exact .inr rfl

theorem State.leaveBehind_active (h : l = s.xt.active) : (s.leaveBehind l).xt.active = l.other := by
  rw [State.leaveBehind, if_pos h, State.designate_active]

theorem State.leaveBehind_computes (s : State) (l : Lane) : (s.leaveBehind l).computes l = false := by
  have same : (s.leaveBehind l).xtLane l = (s.failLane l 3).xtLane l := by
    unfold State.leaveBehind
    dsimp only
    split
    · exact State.designate_other _ _ _
    · rfl
  obtain h | h := s.failLane_state l 3 <;> simp [State.computes, same, h]

end Release

/-! ### The copy of a resynchronising lane, and stopping (05 R154 to R156, 01 R28) -/

theorem resyncCopyComplete_done {s : State} {l : Lane} (h : (s.xtLane l).state = .resync) (hc : (s.xtLane l).copyDone = false)
    (hb : s.xt.resyncBytes = s.copyTotal) : resyncCopyComplete l s = s.updXt l fun x => { x with copyDone := true } := by
  simp [resyncCopyComplete, h, hc, hb]

theorem crosstreeStopped_running {s : State} (h : s.xt.stopped = false) :
    crosstreeStopped s =
      let u := s.updLanes fun a => { a with hbInFlight := [], healthInFlight := [], burstInFlight := none }
      { u with xt := { u.xt with
        stopped := true
        stoppedAt := s.now
        reportsInFlight := []
        overrunsInFlight := []
        overruns := [] } } := if_neg (by simp [h])

/-- What was left of every hold and timer when the Crosstree stopped is left when it resumes. -/
theorem crosstreeResumed_stopped {s : State} (h : s.xt.stopped = true) :
    crosstreeResumed s =
      let later (t : Option Nat) : Option Nat := t.map fun x => x + (s.now - s.xt.stoppedAt)
      let go (x : XtLane) : XtLane := { x with timer := later x.timer, hold := later x.hold, readyDue := later x.readyDue }
      { s with xt := { s.xt with stopped := false, main := go s.xt.main, mizzen := go s.xt.mizzen } } := if_neg (by simp [h])

/-! ### The obligation -/

/-- Settles O18: each event's meaning, from the equation of its case. -/
theorem crosstreeEventsComplete : Obligations.CrosstreeEventsComplete := by
  refine ⟨?report, ?overrun, ?alone, ?pair, ?arrival, ?compare, ?result, ?deadline, ?hold, ?starts, ?rejoins, ?timeout, ?copied,
    ?laneStops, ?stops, ?resumes⟩
  case report => exact fun dt s d rest ht h hs => runCmd_to ht (discrepancyReceived_counts h hs)
  case overrun =>
    exact fun dt s o rest ht h hs => ⟨fun hl => runCmd_to ht (overrunReceived_of_lane h hs hl),
      fun hl => runCmd_to ht (overrunReceived_of_block h hs hl)⟩
  case alone => exact fun dt s o ht h hs hd => runTaking_to ht (overrunClassify_alone hs h hd)
  case pair =>
    exact fun dt s o p ht h hs ho hp hj hd =>
      ⟨fun h1 h2 h3 => runTaking_to ht (overrunClassify_twins hs h ho hp hj hd h1 h2 h3),
        fun h1 => runTaking_to ht (overrunClassify_apart hs h ho hp hj hd h1)⟩
  case arrival =>
    intro dt s d rest ht h u
    have h' : ((s.elapse dt).lane (s.elapse dt).xt.active).digestsInFlight = d :: rest := by simpa using h
    exact ⟨fun hc ho hl => runCmd_to ht (commitDigestArrival_queued h' hc (by simpa using ho) (by simpa using hl)),
      fun hc => runCmd_to ht (commitDigestArrival_off h' hc)⟩
  case compare =>
    intro dt s d rest x ht ho h hg hf hx o u
    have found := commitDigestCompare_found (s := s.elapse dt) (d := d) (rest := rest) (x := x) (by simpa using ho)
      (by simpa using h) hg hf (by simpa using hx)
    exact ⟨fun hc => runCmd_to ht (found.trans (if_pos hc)), fun hc => runCmd_to ht (found.trans (if_neg hc))⟩
  case result =>
    intro dt s l b ht h hs hj
    have noted := runCmd_to ht (burstResultReceived_noted (s := s.elapse dt) (by simpa using h) hs hj)
    cases l <;> exact noted
  case deadline =>
    intro dt s n ht hj hs hn
    replace hj : (s.elapse dt).xt.burstJudge = some n := hj
    exact ⟨fun a b hm hz ha hb => runTaking_to ht (burstResultDeadline_bothPass hj hs hn hm hz ha hb),
      fun a hm ha hz => runTaking_to ht (burstResultDeadline_mizzenSilent hj hs hn hm ha hz),
      fun hm hz => runTaking_to ht (burstResultDeadline_bothSilent hj hs hn hm hz)⟩
  case hold =>
    intro dt s l t ht h hn hs hd hf u
    have h' : (u.xtLane l).hold = some t := by simpa [u] using h
    have hf' : (u.xtLane l).filling = false := by simpa [u] using hf
    have released := resetHoldExpiry_releases h' hn hs hd hf'
    exact ⟨fun hm => runTaking_to ht (resetHoldExpiry_fills h' hn hs hd hf' hm),
      fun hm hr => runTaking_to ht ((released hm).trans (State.release_recovers hr)),
      fun hm hr hx => runTaking_to ht ((released hm).trans (State.release_restarts hr hf' (by simpa [u] using hx)))⟩
  case starts =>
    exact fun dt s l ht hs hr ha hx hm hp =>
      runTaking_to ht (laneReadyReport_starts hs (by simpa using hr) (by simpa using ha) (by simpa using hx) hm hp)
  case rejoins =>
    exact fun dt s l t ht hs hr ha hx hm hre hd =>
      runTaking_to ht (laneReadyReport_rejoins hs (by simpa using hr) (by simpa using ha) (by simpa using hx) hm hre
        (by simpa using hd))
  case timeout =>
    exact fun dt s l t ht h hn hs hr ho =>
      ⟨runTaking_to ht (laneReadyTimeout_leavesBehind (by simpa using h) hn hs hr (by simpa using ho)),
        fun e => State.leaveBehind_active (s := s.elapse dt) e, State.leaveBehind_computes _ _⟩
  case copied =>
    exact fun dt s l ht h hc hb => runCmd_to ht (resyncCopyComplete_done (by simpa using h) (by simpa using hc) hb)
  case laneStops => exact fun dt s l ht => runCmd_next ht _
  case stops => exact fun dt s ht hs => runCmd_to ht (crosstreeStopped_running hs)
  case resumes => exact fun dt s ht hs => runCmd_to ht (crosstreeResumed_stopped hs)

end Sys2Proof.Machine

namespace Sys2Proof.Machine
open Sys2Proof

/-! ### Every command runs (02 R33, R37) -/

/-- The command lets its ticks pass and then has an effect, which leaves the queue and the ticks as they are. -/
def Runs (c : Instr) : Prop := ∃ f : State → State, (∀ s, exec c s = runCmd c.dt s f) ∧ ∀ u, Kept u (f u)

theorem Runs.event {c : Instr} {f : State → State} (k : ∀ u, Kept u (f u)) (e : ∀ s, exec c s = runCmd c.dt s f) :
    Runs c := ⟨f, e, k⟩

/-- Settling what receivers have taken is part of the effect. -/
theorem Runs.taking {c : Instr} {f : State → State} (k : ∀ u, Kept u (f u)) (e : ∀ s, exec c s = runTaking c.dt s f) :
    Runs c := ⟨fun u => (f u).settle, e, fun u => (k u).trans (State.settle_kept _)⟩

theorem Runs.request {c : Instr} {op : OpSpec} {r : Request} (k : op.Keeps)
    (e : ∀ s, exec c s = runTaking c.dt s fun u => u.runRequest op r) : Runs c :=
  .taking (fun u => u.runRequest_kept op k r) e

/-- Each command's arm of `exec`, with the lemma that says what its effect keeps. -/
theorem exec_runs (c : Instr) : Runs c := by
  cases c with
  | timeGetStatus dt r => exact .request opTimeGetStatus_kept fun _ => rfl
  | timeSetLeap dt r => exact .request opTimeSetLeap_kept fun _ => rfl
  | timeSetManual dt r => exact .request opTimeSetManual_kept fun _ => rfl
  | schedLoadBegin dt r => exact .request opSchedLoadBegin_kept fun _ => rfl
  | schedLoadData dt r => exact .request opSchedLoadData_kept fun _ => rfl
  | schedLoadEnd dt r => exact .request opSchedLoadEnd_kept fun _ => rfl
  | schedActivate dt r => exact .request opSchedActivate_kept fun _ => rfl
  | schedSetStartBank dt r => exact .request opSchedSetStartBank_kept fun _ => rfl
  | schedGetStatus dt r => exact .request opSchedGetStatus_kept fun _ => rfl
  | sysGetInfo dt r => exact .request opSysGetInfo_kept fun _ => rfl
  | sysSetKey dt r => exact .request opSysSetKey_kept fun _ => rfl
  | sysClearOrigins dt r => exact .request opSysClearOrigins_kept fun _ => rfl
  | sysGetPacketCounters dt r => exact .request opSysGetPacketCounters_kept fun _ => rfl
  | laneGetStatus dt r => exact .request opLaneGetStatus_kept fun _ => rfl
  | laneSetPolicy dt r => exact .request opLaneSetPolicy_kept fun _ => rfl
  | laneSetDedupWindow dt r => exact .request opLaneSetDedupWindow_kept fun _ => rfl
  | laneGetReceiverCounters dt r => exact .request opLaneGetReceiverCounters_kept fun _ => rfl
  | laneRequestBurst dt r => exact .request opLaneRequestBurst_kept fun _ => rfl
  | laneRequestSwitch dt r => exact .request opLaneRequestSwitch_kept fun _ => rfl
  | laneRecover dt r => exact .request opLaneRecover_kept fun _ => rfl
  | laneResyncRequest dt r => exact .request opLaneResyncRequest_kept fun _ => rfl
  | ctrlSetLoop dt r => exact .request opCtrlSetLoop_kept fun _ => rfl
  | ctrlSetCoeffs dt r => exact .request opCtrlSetCoeffs_kept fun _ => rfl
  | ctrlSetClamp dt r => exact .request opCtrlSetClamp_kept fun _ => rfl
  | ctrlPresetState dt r => exact .request opCtrlPresetState_kept fun _ => rfl
  | ctrlGetLoop dt r => exact .request opCtrlGetLoop_kept fun _ => rfl
  | ctrlGetStatus dt r => exact .request opCtrlGetStatus_kept fun _ => rfl
  | ctrlClearCounters dt r => exact .request opCtrlClearCounters_kept fun _ => rfl
  | chanSetConfig dt r => exact .request opChanSetConfig_kept fun _ => rfl
  | chanGetConfig dt r => exact .request opChanGetConfig_kept fun _ => rfl
  | chanGetStatus dt r => exact .request opChanGetStatus_kept fun _ => rfl
  | chanGetSupply dt r => exact .request opChanGetSupply_kept fun _ => rfl
  | chanClearCounters dt r => exact .request opChanClearCounters_kept fun _ => rfl
  | chanSetProtection dt r => exact .request opChanSetProtection_kept fun _ => rfl
  | chanGetProtection dt r => exact .request opChanGetProtection_kept fun _ => rfl
  | chanReleaseLatch dt r => exact .request opChanReleaseLatch_kept fun _ => rfl
  | chanRefillRetry dt r => exact .request opChanRefillRetry_kept fun _ => rfl
  | chanStopReset dt r => exact .request opChanStopReset_kept fun _ => rfl
  | chanGetGeneration dt r => exact .request opChanGetGeneration_kept fun _ => rfl
  | chanAdopt dt r => exact .request opChanAdopt_kept fun _ => rfl
  | senseSetInput dt r => exact .request opSenseSetInput_kept fun _ => rfl
  | senseSetLoss dt r => exact .request opSenseSetLoss_kept fun _ => rfl
  | senseSetBridge dt r => exact .request opSenseSetBridge_kept fun _ => rfl
  | senseSetSupply dt r => exact .request opSenseSetSupply_kept fun _ => rfl
  | senseGetStatus dt r => exact .request opSenseGetStatus_kept fun _ => rfl
  | yieldSetGrid dt r => exact .request opYieldSetGrid_kept fun _ => rfl
  | yieldSetSources dt r => exact .request opYieldSetSources_kept fun _ => rfl
  | yieldClearGrid dt r => exact .request opYieldClearGrid_kept fun _ => rfl
  | yieldGetTotals dt r => exact .request opYieldGetTotals_kept fun _ => rfl
  | camSetPort dt r => exact .request opCamSetPort_kept fun _ => rfl
  | camSetGeometry dt r => exact .request opCamSetGeometry_kept fun _ => rfl
  | camSetLinear dt r => exact .request opCamSetLinear_kept fun _ => rfl
  | camSetExposure dt r => exact .request opCamSetExposure_kept fun _ => rfl
  | camSensorTransfer dt r => exact .request opCamSensorTransfer_kept fun _ => rfl
  | camGetStatus dt r => exact .request opCamGetStatus_kept fun _ => rfl
  | camClearCounters dt r => exact .request opCamClearCounters_kept fun _ => rfl
  | camSetCfa dt r => exact .request opCamSetCfa_kept fun _ => rfl
  | camSetWb dt r => exact .request opCamSetWb_kept fun _ => rfl
  | camSetMatrix dt r => exact .request opCamSetMatrix_kept fun _ => rfl
  | camSetTone dt r => exact .request opCamSetTone_kept fun _ => rfl
  | camSetStream dt r => exact .request opCamSetStream_kept fun _ => rfl
  | camSetStats dt r => exact .request opCamSetStats_kept fun _ => rfl
  | camGetStreamStatus dt r => exact .request opCamGetStreamStatus_kept fun _ => rfl
  | fusionSetSource dt r => exact .request opFusionSetSource_kept fun _ => rfl
  | fusionSetRound dt r => exact .request opFusionSetRound_kept fun _ => rfl
  | fusionSetCanvas dt r => exact .request opFusionSetCanvas_kept fun _ => rfl
  | fusionResetState dt r => exact .request opFusionResetState_kept fun _ => rfl
  | fusionNetLoadBegin dt r => exact .request opFusionNetLoadBegin_kept fun _ => rfl
  | fusionNetLoadData dt r => exact .request opFusionNetLoadData_kept fun _ => rfl
  | fusionNetLoadEnd dt r => exact .request opFusionNetLoadEnd_kept fun _ => rfl
  | fusionGetRoundStatus dt r => exact .request opFusionGetRoundStatus_kept fun _ => rfl
  | fusionGetSourceStatus dt r => exact .request opFusionGetSourceStatus_kept fun _ => rfl
  | fusionGetNetStatus dt r => exact .request opFusionGetNetStatus_kept fun _ => rfl
  | fusionClearCounters dt r => exact .request opFusionClearCounters_kept fun _ => rfl
  | gnssSetConfig dt r => exact .request opGnssSetConfig_kept fun _ => rfl
  | gnssSetTimePulse dt r => exact .request opGnssSetTimePulse_kept fun _ => rfl
  | gnssSetWatch dt r => exact .request opGnssSetWatch_kept fun _ => rfl
  | gnssAid dt r => exact .request opGnssAid_kept fun _ => rfl
  | gnssResetData dt r => exact .request opGnssResetData_kept fun _ => rfl
  | gnssGetStatus dt r => exact .request opGnssGetStatus_kept fun _ => rfl
  | gnssClearCounters dt r => exact .request opGnssClearCounters_kept fun _ => rfl
  | canSetPort dt r => exact .request opCanSetPort_kept fun _ => rfl
  | canSetFilters dt r => exact .request opCanSetFilters_kept fun _ => rfl
  | canRecover dt r => exact .request opCanRecover_kept fun _ => rfl
  | canGetStatus dt r => exact .request opCanGetStatus_kept fun _ => rfl
  | canClearCounters dt r => exact .request opCanClearCounters_kept fun _ => rfl
  | stayJoin dt r => exact .request opStayJoin_kept fun _ => rfl
  | stayLeave dt r => exact .request opStayLeave_kept fun _ => rfl
  | stayGetStatus dt r => exact .request opStayGetStatus_kept fun _ => rfl
  | stayGetStation dt r => exact .request opStayGetStation_kept fun _ => rfl
  | ethSetPort dt r => exact .request opEthSetPort_kept fun _ => rfl
  | ethGetStatus dt r => exact .request opEthGetStatus_kept fun _ => rfl
  | stayClearCounters dt r => exact .request opStayClearCounters_kept fun _ => rfl
  | memSetMode dt r => exact .request opMemSetMode_kept fun _ => rfl
  | memSetPatrol dt r => exact .request opMemSetPatrol_kept fun _ => rfl
  | memGetStatus dt r => exact .request opMemGetStatus_kept fun _ => rfl
  | memClearLog dt r => exact .request opMemClearLog_kept fun _ => rfl
  | memRewrite dt r => exact .request opMemRewrite_kept fun _ => rfl
  | memTestWrite dt r => exact .request opMemTestWrite_kept fun _ => rfl
  | memTestRead dt r => exact .request opMemTestRead_kept fun _ => rfl
  | memSetFill dt r => exact .request opMemSetFill_kept fun _ => rfl
  | recRead dt r => exact .request opRecRead_kept fun _ => rfl
  | recReadTrouble dt r => exact .request opRecReadTrouble_kept fun _ => rfl
  | recGetStatus dt r => exact .request opRecGetStatus_kept fun _ => rfl
  | recFreeze dt r => exact .request opRecFreeze_kept fun _ => rfl
  | recUnfreeze dt r => exact .request opRecUnfreeze_kept fun _ => rfl
  | recClear dt r => exact .request opRecClear_kept fun _ => rfl
  | recSetRate dt r => exact .request opRecSetRate_kept fun _ => rfl
  | recGetRate dt r => exact .request opRecGetRate_kept fun _ => rfl
  | pwrSetDomain dt r => exact .request opPwrSetDomain_kept fun _ => rfl
  | pwrGetStatus dt r => exact .request opPwrGetStatus_kept fun _ => rfl
  | pwrSetConfig dt r => exact .request opPwrSetConfig_kept fun _ => rfl
  | pwrEnterLow dt r => exact .request opPwrEnterLow_kept fun _ => rfl
  | pwrReset dt r => exact .request opPwrReset_kept fun _ => rfl
  | halyardUnitArrival _ path unit => exact .taking (halyardUnitArrival_kept path unit) fun _ => rfl
  | halyardReplyReceived _ path unit => exact .event (halyardReplyReceived_kept path unit) fun _ => rfl
  | slotStart _ faults => exact .taking (slotStart_kept faults) fun _ => rfl
  | majorBoundary _ canBusy => exact .taking (majorBoundary_kept canBusy) fun _ => rfl
  | taskFinish _ lane task result => exact .event (taskFinish_kept lane task.task task.core result) fun _ => rfl
  | taskCommit _ lane task => exact .taking (taskCommit_kept lane task.task task.core) fun _ => rfl
  | taskBudgetExpiry _ lane task => exact .event (taskBudgetExpiry_kept lane task.task task.core) fun _ => rfl
  | taskWindowFault _ lane task address access =>
    exact .event (taskWindowFault_kept lane task.task task.core address access) fun _ => rfl
  | transferSend _ lane entry => exact .taking (transferSend_kept lane entry) fun _ => rfl
  | receiverCopyArrival _ lane block resource => exact .taking (receiverCopyArrival_kept lane block resource) fun _ => rfl
  | dedupWindowExpiry _ block resource => exact .taking (dedupWindowExpiry_kept block resource) fun _ => rfl
  | pairLimitExpiry _ block resource => exact .taking (pairLimitExpiry_kept block resource) fun _ => rfl
  | heartbeatReceived _ lane => exact .taking (heartbeatReceived_kept lane) fun _ => rfl
  | heartbeatTimerExpiry _ lane => exact .taking (heartbeatTimerExpiry_kept lane) fun _ => rfl
  | heartbeatAckReceived _ lane => exact .event (heartbeatAckReceived_kept lane) fun _ => rfl
  | laneFatalFault _ lane => exact .event (fun u => u.fatalFault_kept lane) fun _ => rfl
  | healthReportReceived _ lane => exact .event (healthReportReceived_kept lane) fun _ => rfl
  | discrepancyReportReceived _ => exact .event discrepancyReceived_kept fun _ => rfl
  | scheduleOverrunReceived _ => exact .event overrunReceived_kept fun _ => rfl
  | overrunClassify _ => exact .taking overrunClassify_kept fun _ => rfl
  | commitDigestArrival _ => exact .event commitDigestArrival_kept fun _ => rfl
  | commitDigestCompare _ => exact .event commitDigestCompare_kept fun _ => rfl
  | burstResultReceived _ lane => exact .event (burstResultReceived_kept lane) fun _ => rfl
  | burstResultDeadline _ => exact .taking burstResultDeadline_kept fun _ => rfl
  | resetHoldExpiry _ lane => exact .taking (resetHoldExpiry_kept lane) fun _ => rfl
  | laneReadyReport _ lane => exact .taking (laneReadyReport_kept lane) fun _ => rfl
  | laneReadyTimeout _ lane => exact .taking (laneReadyTimeout_kept lane) fun _ => rfl
  | resyncCopyComplete _ lane => exact .event (resyncCopyComplete_kept lane) fun _ => rfl
  | loopPeriodBoundary _ loop => exact .taking (loopPeriodBoundary_kept loop) fun _ => rfl
  | loopStart _ lane pipeline => exact .event (loopStartRead_kept lane pipeline.pipeline pipeline.found) fun _ => rfl
  | loopResultReady _ lane loop => exact .event (loopResultReady_kept lane loop) fun _ => rfl
  | loopOutputRelease _ lane loop => exact .event (loopOutputRelease_kept lane loop) fun _ => rfl
  | pwmPeriodStart _ chan => exact .event (pwmPeriodStart_kept chan) fun _ => rfl
  | channelSampleEnd _ chan sample => exact .event (channelSampleEnd_kept chan sample) fun _ => rfl
  | supplySampleEnd _ sample => exact .event (supplySampleEnd_kept sample) fun _ => rfl
  | overcurrentFast _ chan low => exact .event (overcurrentFast_kept chan low) fun _ => rfl
  | inrushWindowEnd _ chan => exact .event (inrushWindowEnd_kept chan) fun _ => rfl
  | retry _ chan => exact .event (retry_kept chan) fun _ => rfl
  | thermalLatch _ chan => exact .event (thermalLatch_kept chan) fun _ => rfl
  | freewheelMissing _ chan => exact .event (freewheelMissing_kept chan) fun _ => rfl
  | freewheelWatchEnd _ chan mv ns => exact .event (freewheelWatchEnd_kept chan mv ns) fun _ => rfl
  | stopAsserted _ => exact .event stopAsserted_kept fun _ => rfl
  | stopDeasserted _ => exact .event stopDeasserted_kept fun _ => rfl
  | universalSampleEnd _ sample => exact .event (universalSampleEnd_kept sample) fun _ => rfl
  | shuntOpen _ input => exact .event (shuntOpen_kept input) fun _ => rfl
  | shuntTrial _ input inRange => exact .event (shuntTrial_kept input inRange) fun _ => rfl
  | lossHitEnd _ input hit => exact .event (lossHitEnd_kept input hit) fun _ => rfl
  | lossIntervalEnd _ input peak => exact .event (lossIntervalEnd_kept input peak) fun _ => rfl
  | capCheckComplete _ input capacitance => exact .event (capCheckComplete_kept input capacitance) fun _ => rfl
  | bridgeSampleEnd _ input reading => exact .event (bridgeSampleEnd_kept input reading) fun _ => rfl
  | bridgeWireBreak _ input open_ => exact .event (bridgeWireBreak_kept input open_) fun _ => rfl
  | sensorSupplyTrip _ supply => exact .event (sensorSupplyTrip_kept supply) fun _ => rfl
  | sensorSupplyRetry _ supply exceeds => exact .event (sensorSupplyRetry_kept supply exceeds) fun _ => rfl
  | yieldStepProcess _ => exact .event yieldStepProcess_kept fun _ => rfl
  | yieldCellWrite _ => exact .event yieldCellWrite_kept fun _ => rfl
  | frameValidRise _ port => exact .taking (frameValidRise_kept port) fun _ => rfl
  | lineEnd _ port line => exact .event (lineEnd_kept port line) fun _ => rfl
  | frameValidFall _ port => exact .event (frameValidFall_kept port) fun _ => rfl
  | frameTimeout _ port => exact .event (frameTimeout_kept port) fun _ => rfl
  | cameraClockLost _ port => exact .event (cameraClockLost_kept port) fun _ => rfl
  | pclkMeasure _ port edges => exact .event (pclkMeasure_kept port edges) fun _ => rfl
  | cameraWriteSlot _ port => exact .event (cameraWriteSlot_kept port) fun _ => rfl
  | linkTransactionEnd _ port result => exact .taking (linkTransactionEnd_kept port result) fun _ => rfl
  | fusionRoundInstant _ round => exact .event (fusionRoundInstant_kept round) fun _ => rfl
  | pointCloudDatagram _ source datagram => exact .event (pointCloudDatagram_kept source datagram) fun _ => rfl
  | fusionSampleArrival _ source => exact .event (fusionSampleArrival_kept source) fun _ => rfl
  | roundWaitExpiry _ round => exact .event (roundWaitExpiry_kept round) fun _ => rfl
  | roundNetworkComplete _ => exact .event roundNetworkComplete_kept fun _ => rfl
  | roundOutputWritten _ => exact .event roundOutputWritten_kept fun _ => rfl
  | roundRelease _ round => exact .event (roundRelease_kept round) fun _ => rfl
  | netSlotCopyComplete _ slot => exact .event (netSlotCopyComplete_kept slot) fun _ => rfl
  | gnssEpoch _ epoch => exact .taking (gnssEpoch_kept epoch) fun _ => rfl
  | gnssDelivery _ => exact .event gnssDelivery_kept fun _ => rfl
  | exclusionExpiry _ key => exact .event (exclusionExpiry_kept key) fun _ => rfl
  | antennaOpen _ antenna open_ current => exact .event (antennaOpen_kept antenna open_ current) fun _ => rfl
  | antennaSupplyFault _ antenna current => exact .event (antennaSupplyFault_kept antenna current) fun _ => rfl
  | antennaSupplyRetry _ antenna exceeds => exact .event (antennaSupplyRetry_kept antenna exceeds) fun _ => rfl
  | timeStepApplied _ => exact .taking stepApplied_kept fun _ => rfl
  | slewComplete _ => exact .event slewComplete_kept fun _ => rfl
  | leapSecondEffective _ => exact .event leapEffective_kept fun _ => rfl
  | timePulseStart _ tp => exact .event (timePulseStart_kept tp) fun _ => rfl
  | timePulseEnd _ tp => exact .event (timePulseEnd_kept tp) fun _ => rfl
  | watchBurst _ epoch => exact .taking (watchBurst_kept epoch) fun _ => rfl
  | gnssDataSave _ => exact .event gnssDataSave_kept fun _ => rfl
  | canTxComplete _ port => exact .event (canTxComplete_kept port) fun _ => rfl
  | canBusError _ port error => exact .event (canBusError_kept port error) fun _ => rfl
  | canFrameReceived _ port frame => exact .event (canFrameReceived_kept port frame) fun _ => rfl
  | busRecovered _ port => exact .event (busRecovered_kept port) fun _ => rfl
  | detectDwellExpiry _ port => exact .event (detectDwellExpiry_kept port) fun _ => rfl
  | canStatusProduce _ => exact .event canStatusProduce_kept fun _ => rfl
  | stayFrameReceived _ port frame => exact .taking (stayFrameReceived_kept port frame) fun _ => rfl
  | timeFrameSend _ => exact .event timeFrameSend_kept fun _ => rfl
  | timeFrameReceived _ port frame => exact .event (fun u => u.takeTime_kept port frame) fun _ => rfl
  | listenerTimeStep _ => exact .event listenerTimeStep_kept fun _ => rfl
  | gridShiftAdopt _ => exact .event gridShiftAdopt_kept fun _ => rfl
  | peerDelayRequest _ port => exact .event (peerDelayRequest_kept port) fun _ => rfl
  | masterElectionTimeout _ => exact .event masterElectionTimeout_kept fun _ => rfl
  | masterLost _ => exact .event masterLost_kept fun _ => rfl
  | beaconSend _ => exact .event beaconSend_kept fun _ => rfl
  | controlFrameReceived _ frame => exact .event (fun u => u.takeControl_kept frame.source frame.body) fun _ => rfl
  | stayLinkChange _ port up => exact .event (stayLinkChange_kept port up) fun _ => rfl
  | ethFrameReceived _ port frame => exact .taking (ethFrameReceived_kept port frame) fun _ => rfl
  | gptpSyncSend _ port => exact .event (gptpSyncSend_kept port) fun _ => rfl
  | sramPatrol _ reads => exact .event (sramPatrol_kept reads) fun _ => rfl
  | memFillDone _ ctrl => exact .taking (fillDone_kept ctrl) fun _ => rfl
  | eventRecordArrival _ => exact .event eventRecordArrival_kept fun _ => rfl
  | recordCommit _ => exact .event recordCommit_kept fun _ => rfl
  | tokenRefill _ code => exact .event (tokenRefill_kept code) fun _ => rfl
  | freezeExpired _ => exact .event freezeExpired_kept fun _ => rfl
  | changeLogEntry _ => exact .event changeLogEntry_kept fun _ => rfl
  | powerOn _ rtcHeld => exact .event (powerOn_kept rtcHeld) fun _ => rfl
  | esupMeasure _ sample => exact .taking (esupMeasure_kept sample) fun _ => rfl
  | supplyFail _ => exact .event supplyFail_kept fun _ => rfl
  | wakeChange _ asserted => exact .event (wakeChange_kept asserted) fun _ => rfl
  | canWakePattern _ port => exact .event (canWakePattern_kept port) fun _ => rfl
  | rtcAlarm _ => exact .event rtcAlarm_kept fun _ => rfl
  | moduleStart _ => exact .event moduleStart_kept fun _ => rfl
  | startPhaseComplete _ => exact .taking startPhaseComplete_kept fun _ => rfl
  | startupWaitExpiry _ => exact .taking State.tryNameStart_kept fun _ => rfl
  | startupBoundary _ => exact .taking startupBoundary_kept fun _ => rfl
  | runOnExpiry _ => exact .event runOnExpiry_kept fun _ => rfl
  | moduleResetBegin _ => exact .event moduleResetBegin_kept fun _ => rfl
  | connectorMated _ connector => exact .event (connector_kept connector true) fun _ => rfl
  | connectorUnmated _ connector => exact .event (connector_kept connector false) fun _ => rfl
  | thermalWarning _ sensor temp => exact .taking (fun u => u.senseTemp_kept sensor temp) fun _ => rfl
  | thermalLimit _ temp => exact .event (thermalLimit_kept temp) fun _ => rfl
  | laneStopped _ lane => exact .event (laneStopped_kept lane) fun _ => rfl
  | crosstreeStopped _ => exact .event crosstreeStopped_kept fun _ => rfl
  | crosstreeResumed _ => exact .event crosstreeResumed_kept fun _ => rfl
  | canIntegrationComplete _ port => exact .event (canIntegrationComplete_kept port) fun _ => rfl
  | ethLinkChange _ port up => exact .event (ethLinkChange_kept port up) fun _ => rfl

theorem Runs.answers {c : Instr} (h : Runs c) {s : State} (ht : s.inTime c.dt) :
    ∃ t, exec c s = .next t ∧ t.pending = s.pending ∧ t.time.ticks = s.time.ticks + c.dt := by
  obtain ⟨f, e, k⟩ := h
  have run : exec c s = .next (f (s.elapse c.dt)) := (e s).trans (runCmd_next ht f)
  exact ⟨_, run, (k _).pending, (k _).ticks⟩

theorem Runs.stops {c : Instr} (h : Runs c) {s : State} (ht : ¬ s.inTime c.dt) : exec c s = .fault .mastWrap := by
  obtain ⟨f, e, -⟩ := h
  exact (e s).trans (runCmd_fault ht f)

/-- Settles O2: every command of the dispatch runs. -/
theorem everyCommandAnswers : Obligations.EveryCommandAnswers :=
  fun c _ => ⟨(exec_runs c).answers, (exec_runs c).stops⟩

end Sys2Proof.Machine

namespace Sys2Proof.Machine
open Sys2Proof

/-! ### What sending leaves alone (04 R113 to R125, 05 R130 to R136, 17 R442) -/

/-- `π` reads nothing that a reply, a record, a mailbox packet or a change-log entry changes on its way: the lanes, the receivers
and their reports, the recorder, the Stay and Ethernet ports, the mailbox drops, and what has been taken and has left. -/
structure ReplyFrame {α : Type} (π : State → α) : Prop where
  main    : ∀ (s : State) x, π { s with main := x } = π s
  mizzen  : ∀ (s : State) x, π { s with mizzen := x } = π s
  recvs   : ∀ (s : State) x, π { s with recvs := x } = π s
  reports : ∀ (s : State) x, π { s with xt := { s.xt with reportsInFlight := x } } = π s
  rec_    : ∀ (s : State) x, π { s with rec_ := x } = π s
  stay    : ∀ (s : State) x, π { s with stay := x } = π s
  eths    : ∀ (s : State) x, π { s with eths := x } = π s
  drops   : ∀ (s : State) x, π { s with sched := { s.sched with mailboxDrops := x } } = π s
  taken   : ∀ (s : State) x, π { s with taken := x } = π s
  free    : ∀ (s : State) x, π { s with free := x } = π s
  out     : ∀ (s : State) x, π { s with out := x } = π s

/-- `π` reads nothing, either, that an item taken by its block changes: the channels, the yield tally, the fusion engine and its
memory, and the CAN ports. -/
structure ItemFrame {α : Type} (π : State → α) : Prop extends ReplyFrame π where
  power : ∀ (s : State) x, π { s with power := x } = π s
  sense : ∀ (s : State) x, π { s with sense := x } = π s
  fus   : ∀ (s : State) x, π { s with fus := x } = π s
  mem   : ∀ (s : State) x, π { s with mem := x } = π s
  cans  : ∀ (s : State) x, π { s with cans := x } = π s

section Folds
variable {α β γ : Type} {π : State → α}

theorem foldl_frame {g : State → β → State} (h : ∀ t x, π (g t x) = π t) (l : List β) (s : State) :
    π (l.foldl g s) = π s := by
  induction l generalizing s with
  | nil => rfl
  | cons x l ih => rw [List.foldl_cons, ih, h]

theorem foldl_fst_frame {g : State × γ → β → State × γ} (h : ∀ t x, π (g t x).1 = π t.1) (l : List β) (p : State × γ) :
    π (l.foldl g p).1 = π p.1 := by
  induction l generalizing p with
  | nil => rfl
  | cons x l ih => rw [List.foldl_cons, ih, h]

theorem ite_frame {c : Prop} [Decidable c] {s a b : State} (ha : π a = π s) (hb : π b = π s) :
    π (if c then a else b) = π s := by
  split
  · exact ha
  · exact hb

end Folds

namespace ReplyFrame
variable {α : Type} {π : State → α} (h : ReplyFrame π)
include h

theorem updLane (s : State) (l : Lane) (f : LaneSt → LaneSt) : π (s.updLane l f) = π s := by
  cases l with
  | main => exact h.main _ _
  | mizzen => exact h.mizzen _ _

theorem logTrouble (s : State) (l : Lane) (kind code : Nat) (d : Bytes) : π (s.logTrouble l kind code d) = π s :=
  h.updLane _ _ _

theorem raise (s : State) (code source resource : Nat) (d : Bytes) : π (s.raise code source resource d) = π s :=
  ite_frame (h.rec_ _ _) rfl

theorem judging (s : State) (k : Nat) (f : RecvView → Judging → Judging) : π (s.judging k f).1 = π s := by
  let judged : State := { s with recvs := Tbl.put s.recvs k (f (s.view k) { recv := s.recv k }).recv }
  exact (h.reports judged _).trans (h.recvs s _)

theorem emit (s : State) (o : Out) : π (s.emit o) = π s := h.out _ _

theorem ethOut (s : State) (p : Nat) (o : Out) : π (s.ethOut p o) = π s :=
  ite_frame rfl ((h.emit _ _).trans (h.eths _ _))

theorem ethMail (s : State) (p : Nat) (packet : Bytes) : π (s.ethMail p packet) = π s :=
  ite_frame rfl (ite_frame (h.eths _ _) (h.ethOut _ _ _))

theorem stayOut (s : State) (p : Nat) (first : Bool) (payload : Bytes) : π (s.stayOut p first payload) = π s :=
  ite_frame rfl (ite_frame (h.stay _ _) ((h.emit _ _).trans (h.stay _ _)))

theorem stayPacket (s : State) (station : Nat) (packet : Bytes) : π (s.stayPacket station packet) = π s :=
  ite_frame rfl (ite_frame (h.stay _ _) (h.stayOut _ _ _ _))

theorem stayBroadcast (s : State) (except : Option Nat) (first : Bool) (payload : State → Nat → Bytes) :
    π (s.stayBroadcast except first payload) = π s :=
  foldl_frame (fun t _ => h.stayOut t _ _ _) _ _

theorem deliverReply (s : State) (p : Reply) : π (s.deliverReply p) = π s := by
  unfold State.deliverReply
  split
  case h_1 => exact h.ethOut _ _ _
  case h_2 => exact h.stayPacket _ _ _
  case h_3 => exact h.emit _ _
  all_goals rfl

theorem handOn (s : State) (t : Taken) : π (s.handOn t) = π s := by
  unfold State.handOn
  split
  case h_1 => rfl
  case h_2 => exact h.taken _ _
  case h_3 => exact h.deliverReply _ _
  case h_4 => exact ite_frame (h.stayPacket _ _ _) (h.ethMail _ _ _)
  case h_5 | h_6 => exact h.rec_ _ _

theorem handAll (x : State × List Taken) : π (State.handAll x) = π x.1 := foldl_frame h.handOn _ _

theorem sendSingle (s : State) (powered : Bool) (block resource item : Nat) (l : Lane) (c : Cargo) :
    π (s.sendSingle powered block resource item l c).1 = π s := by
  unfold State.sendSingle
  split
  · rfl
  · exact h.recvs _ _

theorem sendCopy (s : State) (powered : Bool) (block resource item : Nat) (l : Lane) (c : Cargo) :
    π (s.sendCopy powered block resource item l c).1 = π s := by
  unfold State.sendCopy
  dsimp only
  split
  · dsimp only
    exact h.updLane s l _
  · exact (h.judging _ _ _).trans (h.updLane s l _)

theorem offer (s : State) (w : Senders) (powered : Bool) (block resource item : Nat) (c : Lane → Cargo) :
    π (s.offer w powered block resource item c).1 = π s := by
  refine foldl_fst_frame (fun t l => ?_) _ _
  dsimp only
  split
  · exact h.sendSingle _ _ _ _ _ _ _
  · exact h.sendCopy _ _ _ _ _ _ _

theorem logChange (s : State) (kind opcode : Nat) (r : Request) (status boundary : Nat) :
    π (s.logChange kind opcode r status boundary) = π s := (h.handAll _).trans (h.offer _ _ _ _ _ _ _)

theorem raisePaired (s : State) (w : Senders) (code : Nat) (d : Bytes) : π (s.raisePaired w code d) = π s :=
  (foldl_frame (fun t l => h.logTrouble t l _ _ _) _ _).trans ((h.handAll _).trans (h.offer _ _ _ _ _ _ _))

theorem pushMail (s : State) (ls : List Lane) (task : Nat) (packet : Lane → Bytes) : π (s.pushMail ls task packet) = π s := by
  refine ite_frame rfl (ite_frame ((h.drops (List.foldl _ s _) _).trans ?_) ?_)
  · exact foldl_frame (fun t l => ite_frame rfl (h.updLane t _ _)) _ _
  · exact foldl_frame (fun t l => ite_frame rfl (h.updLane t _ _)) _ _

theorem sendReply (s : State) (w : Senders) (p : Lane → Reply) : π (s.sendReply w p) = π s := by
  unfold State.sendReply
  split
  case h_1 | h_2 | h_3 => exact (h.handAll _).trans (h.offer _ _ _ _ _ _ _)
  case h_4 => exact foldl_frame (fun t _ => h.emit t _) _ _
  case h_5 => exact h.pushMail _ _ _ _
  case h_6 =>
    have logged : ∀ (k c : Nat) (d : Bytes), π (w.lanes.foldl (fun t l => t.logTrouble l k c d) s) = π s :=
      fun k c d => foldl_frame (fun t l => h.logTrouble t l _ _ _) _ _
    exact ite_frame (logged _ _ _) ((h.raisePaired _ _ _ _).trans (logged _ _ _))

theorem answer (s : State) (opcode : Nat) (r : Request) (status boundary : Nat) (payload : Bytes) :
    π (s.answer opcode r status boundary payload) = π s :=
  ite_frame ((h.free _ _).trans (h.sendReply _ _ _)) (h.sendReply _ _ _)

end ReplyFrame

namespace ItemFrame
variable {α : Type} {π : State → α} (h : ItemFrame π)
include h

theorem updSource (s : State) (n : Nat) (f : FusSource → FusSource) : π (s.updSource n f) = π s := h.fus _ _

theorem rejectSample (s : State) (n cause : Nat) : π (s.rejectSample n cause) = π s :=
  (h.raise _ _ _ _ _).trans (h.fus _ _)

theorem offerOpen (s : State) (x : Sample) (o : OpenRound) : π (s.offerOpen x o) = π s :=
  ite_frame (h.fus _ _) (ite_frame (h.fus _ _) ((h.rejectSample _ _ _).trans (h.fus _ _)))

theorem offerPast (s : State) (x : Sample) (p : PastRound) : π (s.offerPast x p) = π s := by
  unfold State.offerPast
  split
  · exact h.fus _ _
  · exact ite_frame (h.fus _ _) ((h.raise _ _ _ _ _).trans ((h.updSource _ _ _).trans (h.fus _ _)))

theorem applyReset (s : State) : π s.applyReset = π s := by
  unfold State.applyReset
  split
  · rfl
  · exact (h.raise _ _ _ _ _).trans (h.fus _ _)

theorem moveState (s : State) (t : Nat) : π (s.moveState t).1 = π s := h.fus _ _

theorem workRound (s : State) (o : OpenRound) (heads : Bytes) (present : Nat → Option Sample) :
    π (s.workRound o heads present) = π s := by
  have cover : ∀ l, π (s.fusionCover l) = π s := fun l => ite_frame (h.mem _ _) rfl
  have write : ∀ (t : State) w, π (t.fusionWrite w) = π t := fun t w => ite_frame (h.mem _ _) rfl
  exact (h.free _ _).trans ((write _ _).trans (cover _))

theorem issueRound (s : State) (o : OpenRound) (waited : Bool) : π (s.issueRound o waited) = π s := by
  unfold State.issueRound
  dsimp only
  refine (foldl_frame (fun t n => ite_frame (h.updSource t _ _) rfl) _ _).trans
    ((h.fus _ _).trans ((h.fus _ _).trans ((h.workRound _ _ _ _).trans ?_)))
  cases rUseState o.cfg
  · rfl
  · exact (h.moveState _ _).trans (h.applyReset _)

theorem issueComplete (s : State) : π s.issueComplete = π s := by
  refine ite_frame rfl ?_
  split
  · exact h.issueRound _ _ _
  · rfl

theorem sampleArrives (s : State) (x : Sample) : π (s.sampleArrives x) = π s :=
  (h.issueComplete _).trans <| (foldl_frame (fun t p => h.offerPast t x p) _ _).trans <|
    (foldl_frame (fun t o => h.offerOpen t x o) _ _).trans <|
      ite_frame ((h.fus _ _).trans (h.fus _ _)) (h.fus _ _)

theorem takeDuty (c item : Nat) (v : Int) (s : State) : π (Machine.takeDuty c item v s) = π s :=
  ite_frame (h.power _ _) (h.power _ _)

theorem takeScalar (s : State) (n e : Nat) (c : Copy) : π (s.takeScalar n e c) = π s :=
  ite_frame rfl (ite_frame (h.fus _ _) ((h.sampleArrives _ _).trans ((h.fus _ _).trans (h.fus _ _))))

theorem takeExport (s : State) (item seq : Nat) (c : Copy) : π (s.takeExport item seq c) = π s := by
  unfold State.takeExport
  dsimp only
  split
  · exact ite_frame (h.stay _ _) (h.stayBroadcast _ _ _ _)
  · rfl

theorem takeCan (s : State) (p item : Nat) (c : Copy) : π (s.takeCan p item c) = π s := by
  have recorded : ∀ x code l, π (({ s with cans := x } : State).raiseCan code p l) = π s :=
    fun x code l => (h.raise _ _ _ _ _).trans (h.cans _ _)
  refine ite_frame rfl (ite_frame (h.cans _ _) ?_)
  split
  · exact recorded _ _ _
  · exact ite_frame (recorded _ _ _) (h.cans _ _)

theorem act (s : State) (t : Taken) : π (s.act t) = π s := by
  unfold State.act
  split
  · exact ite_frame (h.takeDuty _ _ _ _) <| ite_frame (h.sense _ _) <| ite_frame (h.takeScalar _ _ _ _) <|
      ite_frame (h.takeExport _ _ _ _) <| ite_frame (h.takeCan _ _ _ _) rfl
  · exact h.handOn _ _

theorem actAll (x : State × List Taken) : π (State.actAll x) = π x.1 := foldl_frame h.act _ _

theorem judgeAll (s : State) (f : RecvView → Judging → Judging) : π (s.judgeAll f) = π s :=
  foldl_frame (fun t k => (h.actAll _).trans (h.judging t k f)) _ _

theorem finishAll (s : State) : π s.finishAll = π s := h.judgeAll _ _

theorem takeOpen (s : State) (l : Lane) : π (s.takeOpen l) = π s := h.judgeAll _ _

end ItemFrame

end Sys2Proof.Machine

namespace Sys2Proof.Machine
open Sys2Proof

/-! ### What waits staged (02 R50 to R54) -/

theorem staged_frame : ItemFrame State.staged where
  main _ _ := rfl
  mizzen _ _ := rfl
  recvs _ _ := rfl
  reports _ _ := rfl
  rec_ _ _ := rfl
  stay _ _ := rfl
  eths _ _ := rfl
  drops _ _ := rfl
  taken _ _ := rfl
  free _ _ := rfl
  out _ _ := rfl
  power _ _ := rfl
  sense _ _ := rfl
  fus _ _ := rfl
  mem _ _ := rfl
  cans _ _ := rfl

/-- Every command that waits in `t` waits in `s`: nothing has been staged. -/
def NothingStaged (s t : State) : Prop := ∀ e ∈ t.staged, e ∈ s.staged

theorem NothingStaged.of_eq {s t : State} (h : t.staged = s.staged) : NothingStaged s t := fun _ he => h ▸ he

theorem NothingStaged.refl (s : State) : NothingStaged s s := .of_eq rfl

theorem NothingStaged.trans {s t u : State} (h : NothingStaged s t) (k : NothingStaged t u) : NothingStaged s u :=
  fun e he => h e (k e he)

theorem NothingStaged.foldl {β : Type} {g : State → β → State} (h : ∀ t x, NothingStaged t (g t x)) (l : List β) (s : State) :
    NothingStaged s (l.foldl g s) := by
  induction l generalizing s with
  | nil => exact .refl s
  | cons x l ih => exact (h s x).trans (ih _)

section Staged
variable (s : State) (e : Staged)

@[simp] theorem State.raise_staged (code source resource : Nat) (d : Bytes) :
    (s.raise code source resource d).staged = s.staged := staged_frame.raise _ _ _ _ _

/-! #### Commands that go without taking effect (02 R51, 03 R502) -/

theorem State.withdraw_staged : (s.withdraw e).staged = s.staged.filter fun x => x != e :=
  (staged_frame.logChange _ _ _ _ _ _).trans (staged_frame.answer _ _ _ _ _ _)

theorem State.withdraw_stages : NothingStaged s (s.withdraw e) := fun x hx => by
  rw [State.withdraw_staged] at hx
  exact (List.mem_filter.1 hx).1

theorem State.dropStaged_stages (block : Nat) : NothingStaged s (s.dropStaged block) := .foldl State.withdraw_stages _ _

theorem State.supersede_stages : NothingStaged (s.withdraw e) (s.supersede e) := by
  unfold State.supersede
  dsimp only
  split
  · exact .foldl State.withdraw_stages _ _
  · exact .refl _

/-! #### Swaps that leave every staging where it is (02 R54) -/

@[simp] theorem State.designate_staged (l : Lane) (cause : Nat) : (s.designate l cause).staged = s.staged :=
  (State.raise_staged _ _ _ _ _).trans <| (staged_frame.finishAll _).trans <|
    (staged_frame.takeOpen _ _).trans (State.updXt_staged _ _ _)

@[simp] theorem applyRequestSwitch_staged : (applyRequestSwitch s e).staged = s.staged :=
  ite_frame rfl (ite_frame ((State.designate_staged _ _ _).trans (State.updXt_staged _ _ _)) (s.raise_staged _ _ _ _))

@[simp] theorem State.refreshTime_staged : s.refreshTime.staged = s.staged := ite_frame rfl rfl

theorem State.linksDown_staged (keep : Nat → Bool) : (s.linksDown keep).staged = s.staged :=
  foldl_frame (fun t _ => t.raise_staged _ _ _ _) _ _

@[simp] theorem State.cascadeChanged_staged : s.cascadeChanged.staged = s.staged := by
  unfold State.cascadeChanged
  split
  · exact (State.refreshTime_staged _).trans (s.linksDown_staged _)
  · exact s.linksDown_staged _

@[simp] theorem applyActivate_staged : (applyActivate s e).staged = s.staged :=
  (State.cascadeChanged_staged _).trans rfl

@[simp] theorem applySetLeap_staged : (applySetLeap s e).staged = s.staged := ite_frame rfl rfl

@[simp] theorem applyDedupWindow_staged : (applyDedupWindow s e).staged = s.staged :=
  foldl_frame (fun t k => t.updRecv_staged k _) _ _

@[simp] theorem applyRequestBurst_staged : (applyRequestBurst s e).staged = s.staged := ite_frame rfl rfl

@[simp] theorem applyCtrl_staged : (applyCtrl s e).staged = s.staged := foldl_frame (fun t l => t.updEngine_staged l _) _ _

@[simp] theorem applyChanConfig_staged : (applyChanConfig s e).staged = s.staged := by
  have odd (c : Prop) [Decidable c] (n : Nat) (f : Chan → Chan) :
      (if c then (s.bumpGen 1).updChan n f else s.bumpGen 1).staged = s.staged := ite_frame rfl rfl
  exact ite_frame rfl (odd _ _ _)

theorem State.judgeFault_staged (i : Nat) (now : Bool) (value : Int) (cause : Nat) :
    (s.judgeFault i now value cause).staged = s.staged :=
  ite_frame (State.raise_staged _ _ _ _ _) (ite_frame (State.raise_staged _ _ _ _ _) rfl)

@[simp] theorem applySense_staged : (applySense s e).staged = s.staged :=
  ite_frame rfl (State.judgeFault_staged _ _ _ _ _)

@[simp] theorem State.startClear_staged : s.startClear.staged = s.staged :=
  ite_frame rfl (ite_frame rfl (State.raise_staged _ _ _ _ _))

@[simp] theorem applyYieldGrid_staged : (applyYieldGrid s e).staged = s.staged :=
  ite_frame rfl (State.startClear_staged _)

@[simp] theorem applyYieldSources_staged : (applyYieldSources s e).staged = s.staged :=
  ite_frame rfl (ite_frame rfl rfl)

@[simp] theorem applyYieldClear_staged : (applyYieldClear s e).staged = s.staged :=
  (State.startClear_staged _).trans ((State.updYield_staged _ _).trans (ite_frame rfl rfl))

@[simp] theorem applyFusRound_staged : (applyFusRound s e).staged = s.staged := by
  refine ite_frame ((State.updFus_staged _ _).trans ?_) ?_
  · exact ite_frame rfl rfl
  · exact ite_frame rfl rfl

@[simp] theorem applyEthPort_staged : (applyEthPort s e).staged = s.staged :=
  ite_frame (State.raise_staged _ _ _ _ _) rfl

@[simp] theorem applySetRate_staged : (applySetRate s e).staged = s.staged := foldl_frame (fun t _ => t.updRec_staged _) _ _

theorem State.judgeWarning_staged (n : Nat) : (s.judgeWarning n).staged = s.staged := by
  unfold State.judgeWarning
  dsimp only
  split
  · rfl
  · exact ite_frame (State.raise_staged _ _ _ _ _) (ite_frame rfl rfl)

@[simp] theorem applyPwrConfig_staged : (applyPwrConfig s e).staged = s.staged := foldl_frame State.judgeWarning_staged _ _

@[simp] theorem applyEnterLow_staged : (applyEnterLow s e).staged = s.staged := ite_frame rfl rfl

/-! #### Switching domains takes stagings away (18 Table 18-5) -/

theorem State.coresOff_staged (l : Lane) : (s.coresOff l).staged = s.staged := by
  have failed : (((s.updLane l LaneSt.reset).updXt l fun x => { state := .failed, recoveries := x.recoveries }).discardUntaken
      l).finishAll.staged = s.staged :=
    (staged_frame.finishAll _).trans ((State.updXt_staged _ _ _).trans (State.updLane_staged _ _ _))
  exact ite_frame ((State.designate_staged _ _ _).trans failed) failed

theorem State.gateHold_staged (c : Nat) : (s.gateHold c).staged = s.staged := by
  have odd : (s.clearOdd c).staged = s.staged := ite_frame rfl rfl
  exact ite_frame ((State.raise_staged _ _ _ _ _).trans odd) odd

theorem State.gateDown_staged : s.gateDown.staged = s.staged := by
  have held (l : List Nat) : (((l.foldl State.gateHold s).setDomain 15 false).bumpGen l.length).staged = s.staged :=
    foldl_frame (fun t c => t.gateHold_staged c) l s
  exact held s.heads

theorem State.gnssDark_staged : s.gnssDark.staged = s.staged :=
  ite_frame rfl ((State.refreshTime_staged _).trans (ite_frame rfl (ite_frame (State.raise_staged _ _ _ _ _) rfl)))

theorem State.domainOff_stages (n : Nat) : NothingStaged s (s.domainOff n) := by
  have dropped (block : Nat) : NothingStaged s ((s.setDomain n false).dropStaged block) := State.dropStaged_stages _ _
  unfold State.domainOff
  dsimp only
  split
  case h_1 | h_2 => exact .of_eq (State.coresOff_staged _ _)
  case h_3 | h_4 => exact .of_eq (State.updLane_staged _ _ _)
  case h_5 | h_7 | h_10 | h_11 | h_13 => exact dropped _
  case h_6 | h_15 => exact .of_eq rfl
  case h_8 => exact .of_eq (State.gnssDark_staged _)
  case h_9 => exact (dropped 5).trans (.of_eq (State.gnssDark_staged _))
  case h_12 => exact (dropped 8).trans ((State.dropStaged_stages _ 9).trans (.of_eq (State.refreshTime_staged _)))
  case h_14 => exact .of_eq s.gateDown_staged

theorem State.coresOn_staged (l : Lane) : (s.coresOn l).staged = s.staged := by
  refine ite_frame ?_ rfl
  cases l <;> rfl

theorem State.gateUp_staged : s.gateUp.staged = s.staged := by
  have freed (l : List Nat) (t : State) : ((l.foldl State.gateFree t).bumpGen l.length).staged = t.staged :=
    foldl_frame (fun u c => u.updChan_staged c _) l t
  exact freed s.heads _

theorem State.domainOn_staged (n : Nat) : (s.domainOn n).staged = s.staged := by
  have fill (t : State) (c : Nat) : (t.startFill c).staged = t.staged := ite_frame rfl rfl
  have up (t : State) : t.fusionUp.staged = t.staged := ite_frame rfl rfl
  unfold State.domainOn
  dsimp only
  split
  case h_1 | h_2 => exact State.coresOn_staged _ _
  case h_5 => exact up _
  case h_6 => exact (up _).trans (fill _ _)
  case h_10 => exact s.gateUp_staged
  all_goals rfl

theorem applySetDomain_stages : NothingStaged s (applySetDomain s e) := by
  refine .trans (.foldl (fun t n => ?_) _ s) ((NothingStaged.foldl (fun t n => ?_) _ _).trans
    (.of_eq (State.raise_staged _ _ _ _ _)))
  · split
    · exact t.domainOff_stages n
    · exact .refl t
  · exact .of_eq (ite_frame (t.domainOn_staged n) rfl)

/-! #### Swaps (02 R47, R54) -/

/-- The effect of a swap stages nothing. -/
theorem applyMajor_stages (busy : Nat) : NothingStaged s (applyMajor busy s e) := by
  unfold applyMajor
  split
  case h_33 => exact applySetDomain_stages s e
  case h_1 | h_4 | h_5 | h_11 | h_19 | h_21 | h_22 | h_23 | h_24 | h_25 | h_26 | h_27 | h_29 | h_30 | h_31 => exact .of_eq rfl
  case h_36 | h_37 => exact .of_eq rfl
  all_goals exact .of_eq (by simp)

end Staged

end Sys2Proof.Machine

namespace Sys2Proof.Machine
open Sys2Proof

/-! ### The commands that Halyard stages (02 R47, R50, R51) -/

/-- The command is a request for an opcode of a staged kind. -/
structure Stages (op : OpSpec) (c : Nat → Request → Instr) : Prop where
  kind    : op.kind ≠ .immediate
  exec_eq : ∀ dt r s, exec (c dt r) s = runTaking dt s fun u => u.runRequest op r

/-- Accepted, it goes to the staging, after what its opcode does before that. -/
theorem Stages.exec_to {op : OpSpec} {c : Nat → Request → Instr} (h : Stages op c) {dt : Nat} {s t : State} {r : Request}
    {z : Resolved} (ht : s.inTime dt) (ha : op.Accepts (s.elapse dt) r z)
    (e : (op.preStage (op.noted (s.elapse dt) r z) r z).stage op r z = t) : exec (c dt r) s = .next t.settle :=
  (h.exec_eq dt r s).trans (runTaking_to ht ((runRequest_stage ha h.kind).trans e))

theorem stagedCommands_stages : ∀ x ∈ stagedCommands, Stages x.1 x.2 := by
  simp only [stagedCommands, List.cons_append, List.nil_append, List.forall_mem_cons, List.not_mem_nil, false_implies,
    implies_true, and_true]
  repeat' apply And.intro
  all_goals exact ⟨nofun, fun _ _ _ => rfl⟩

/-- `SCHED_ACTIVATE` alone does something between its checks and its staging (03 R502). -/
theorem stagedCommands_preStage : ∀ x ∈ stagedCommands, x.1.code ≠ 0x0304 → x.1.preStage = fun s _ _ => s := by
  simp only [stagedCommands, List.cons_append, List.nil_append, List.forall_mem_cons, List.not_mem_nil, false_implies,
    implies_true, and_true]
  refine ⟨fun _ => rfl, fun h => absurd rfl h, ?_⟩
  repeat' apply And.intro
  all_goals exact fun _ => rfl

/-- Settles O5: an accepted command of a staged opcode goes to the staging, which finds nothing to supersede and room. -/
theorem stagedCommandsAreHeld : Obligations.StagedCommandsAreHeld :=
  fun x hx _ _ _ _ ht ha hnew hroom => (stagedCommands_stages x hx).exec_to ht ha (stage_new hnew hroom)

/-- A second `SCHED_ACTIVATE` supersedes the first before its own initial commands are staged (03 R502). -/
theorem schedActivate_supersedes {dt : Nat} {s v : State} {r : Request} {z : Resolved} {e : Staged} (ht : s.inTime dt)
    (ha : opSchedActivate.Accepts (s.elapse dt) r z)
    (hold : (opSchedActivate.noted (s.elapse dt) r z).findStaged 0x0304 0 = some e)
    (hv : ((opSchedActivate.noted (s.elapse dt) r z).supersede e).activateTrial r z = v)
    (hnew : v.findStaged 0x0304 0 = none) (hroom : v.stagedCount 10 < 4096) :
    exec (.schedActivate dt r) s = .next (opSchedActivate.held r z v).settle := by
  have hs : Stages opSchedActivate .schedActivate := ⟨nofun, fun _ _ _ => rfl⟩
  have htarget : r.target = 0 := by simpa [opSchedActivate, opSchedActivateInit] using ha.target
  have hpre : opSchedActivate.preStage (opSchedActivate.noted (s.elapse dt) r z) r z = v := by
    rw [← hv]
    change (State.dropActivation _).activateTrial r z = _
    rw [State.dropActivation, hold]
  refine hs.exec_to ht ha ?_
  rw [hpre]
  exact stage_new (htarget ▸ hnew) hroom

theorem not_mem_supersede_staged (s : State) (e : Staged) : e ∉ (s.supersede e).staged := fun he => by
  have kept : e ∈ (s.withdraw e).staged := s.supersede_stages e e he
  simp [State.withdraw_staged] at kept

/-- Settles O6: the staging supersedes the one it finds; `SCHED_ACTIVATE` has done so before it stages. -/
theorem secondStagingSupersedes : Obligations.SecondStagingSupersedes := by
  refine ⟨fun x hx hcode dt s r z e ht ha hold => ?_,
    fun dt s r z e ht ha hold hnew hroom => schedActivate_supersedes ht ha hold rfl hnew hroom,
    fun s e => ⟨not_mem_supersede_staged s e, (s.withdraw_stages e).trans (s.supersede_stages e)⟩⟩
  refine (stagedCommands_stages x hx).exec_to ht ha ?_
  rw [stagedCommands_preStage x hx hcode]
  exact stage_over hold

end Sys2Proof.Machine

namespace Sys2Proof.Machine
open Sys2Proof

/-! ### Swaps of a boundary (02 R54) -/

theorem mem_insertFront {α : Type} (key : α → Nat) (l : List α) (a x : α) :
    x ∈ sortBy.insertFront key l a ↔ x = a ∨ x ∈ l := by
  induction l with
  | nil => simp [sortBy.insertFront]
  | cons b l ih =>
    unfold sortBy.insertFront
    split
    · simp
    · rw [List.mem_cons, ih, List.mem_cons]
      exact or_left_comm

theorem mem_sortBy {α : Type} (key : α → Nat) (l : List α) (x : α) : x ∈ sortBy key l ↔ x ∈ l := by
  induction l with
  | nil => rfl
  | cons a l ih => rw [sortBy, mem_insertFront, ih, List.mem_cons]

theorem State.mem_dueMajor {s : State} {e : Staged} : e ∈ s.dueMajor ↔
    e ∈ s.staged ∧ e.kind = .major ∧ e.gridAt ≤ s.grid ∧ ¬ (e.block = 11 ∧ s.xt.stopped = true) := by
  simp only [State.dueMajor, mem_sortBy, List.mem_filter, Bool.and_eq_true, beq_iff_eq, decide_eq_true_eq, Bool.not_eq_true',
    ← Bool.not_eq_true, and_assoc]

/-- A swap leaves, of what waited, only others than the command that swaps in. -/
theorem State.swapIn_stages (s : State) (busy : Nat) {e x : Staged} (h : x ∈ (s.swapIn e (applyMajor busy)).staged) :
    x ∈ s.staged ∧ x ≠ e := by
  have hx : x ∈ s.staged.filter fun y => y != e := by
    refine applyMajor_stages { s with staged := s.staged.filter fun y => y != e } e busy x ?_
    rwa [State.swapIn, staged_frame.logChange, staged_frame.answer] at h
  simpa using hx

theorem State.swapMajor_stages (s : State) (busy : Nat) {x : Staged} (h : x ∈ (s.swapMajor busy).staged) :
    x ∈ s.staged ∧ x ∉ s.dueMajor := by
  have swaps (l : List Staged) (t : State) (h : x ∈ (l.foldl (fun t e => t.swapIn e (applyMajor busy)) t).staged) :
      x ∈ t.staged ∧ x ∉ l := by
    induction l generalizing t with
    | nil => exact ⟨h, List.not_mem_nil⟩
    | cons e l ih =>
      obtain ⟨hs, hl⟩ := ih _ h
      obtain ⟨ht, he⟩ := t.swapIn_stages busy hs
      exact ⟨ht, List.not_mem_cons_of_ne_of_not_mem he hl⟩
  exact swaps s.dueMajor s h

/-! ### What a slot shows (03 R72, R73) -/

theorem LaneSt.judgeStale_cons (a : LaneSt) (d : SigDef) (defs : List SigDef) (now : Nat) :
    a.judgeStale (d :: defs) now = (a.judgeStale [d] now).judgeStale defs now := rfl

/-- Judging one signal changes the staleness of its record and nothing else. -/
theorem LaneSt.judgeStale_one (a : LaneSt) (d : SigDef) (now : Nat) {id : Nat} {r : SigRec}
    (h : Tbl.find a.signals id = some r) :
    ∃ v, Tbl.find (a.judgeStale [d] now).signals id = some { r with stale := v } := by
  simp only [LaneSt.judgeStale, List.foldl_cons, List.foldl_nil]
  split
  case h_1 => exact ⟨r.stale, h⟩
  case h_2 w hw =>
    by_cases hd : id = d.id
    · subst hd
      obtain rfl : r = w := Option.some.inj (h.symm.trans hw)
      exact ⟨_, Tbl.find_put_self _ _ _⟩
    · exact ⟨r.stale, (Tbl.find_put_ne _ _ _ _ hd).trans h⟩

theorem LaneSt.judgeStale_find (a : LaneSt) (defs : List SigDef) (now : Nat) {id : Nat} {r : SigRec}
    (h : Tbl.find a.signals id = some r) :
    ∃ v, Tbl.find (a.judgeStale defs now).signals id = some { r with stale := v } := by
  induction defs generalizing a r with
  | nil => exact ⟨r.stale, h⟩
  | cons d defs ih =>
    obtain ⟨v, hv⟩ := a.judgeStale_one d now h
    rw [LaneSt.judgeStale_cons]
    exact ih (r := { r with stale := v }) _ hv

theorem LaneSt.showDeliveries_deliveries (a : LaneSt) (n : Nat) :
    (a.showDeliveries n).deliveries = a.deliveries.filter fun d => decide (n < d.slot) := by
  simp only [LaneSt.showDeliveries, ← decide_not, Nat.not_le]

theorem State.refreshSignals_lane {s : State} {l : Lane} (h : s.computes l = true) :
    (s.refreshSignals l).lane l = ((s.lane l).showDeliveries s.slot).judgeStale s.sched.image.signals s.now := by
  unfold State.refreshSignals
  rw [if_pos h]
  cases l <;> rfl

/-! ### When slots and boundaries are due (02 R40, R54) -/

theorem State.slotDue_iff {s : State} : s.slotDue = true ↔ s.time.anchored = true ∧ s.domain 0 = true ∧ s.grid % 10000 = 0 ∧
    s.time.lastSlot ≠ some s.slot ∧ (s.grid % s.majorLen ≠ 0 ∨ s.time.lastMajor = some s.grid) := by
  simp [State.slotDue, and_assoc]

theorem State.majorDue_iff {s : State} : s.majorDue = true ↔ s.time.anchored = true ∧ s.domain 0 = true ∧
    s.grid % s.majorLen = 0 ∧ s.time.lastMajor ≠ some s.grid := by
  simp [State.majorDue, and_assoc]

theorem slotStart_notDue {s : State} {f : SlotFaults} (h : ¬ s.slotDue = true) : slotStart f s = s := by
  simp [slotStart, h]

theorem majorBoundary_notDue {s : State} {busy : Nat} (h : ¬ s.majorDue = true) : majorBoundary busy s = s := by
  simp [majorBoundary, h]

/-- Settles O59: by when slots and boundaries are due, what a slot shows, and what the swaps of a boundary leave waiting. -/
theorem boundariesComplete : Obligations.BoundariesComplete := by
  refine ⟨?slot, ?noSlot, ?signals, ?boundary, ?noBoundary, ?swaps⟩
  case slot =>
    intro dt s f ht ha hd hg hl hm
    have due : (s.elapse dt).slotDue = true := State.slotDue_iff.2 ⟨ha, hd, hg, hl, hm⟩
    refine runTaking_to ht ?_
    simp only [slotStart, due, Bool.not_true, Bool.false_eq_true, if_false]
    rfl
  case noSlot =>
    intro dt s f ht h
    refine runTaking_to ht (slotStart_notDue fun due => ?_)
    obtain ⟨ha, -, hg, hl, -⟩ := State.slotDue_iff.1 due
    rcases h with h | h | h
    · exact Bool.false_ne_true (h.symm.trans ha)
    · exact h hg
    · exact hl h
  case signals =>
    intro s l h a t
    have ht : t = _ := State.refreshSignals_lane h
    rw [ht]
    exact ⟨LaneSt.showDeliveries_deliveries a s.slot, fun id r hr => LaneSt.judgeStale_find _ _ _ hr⟩
  case boundary =>
    intro dt s busy ht ha hd hg hm
    have due : (s.elapse dt).majorDue = true := State.majorDue_iff.2 ⟨ha, hd, hg, hm⟩
    refine runTaking_to ht ?_
    simp only [majorBoundary, due, Bool.not_true, Bool.false_eq_true, if_false]
  case noBoundary =>
    intro dt s busy ht h
    refine runTaking_to ht (majorBoundary_notDue fun due => ?_)
    obtain ⟨ha, -, hg, hm⟩ := State.majorDue_iff.1 due
    rcases h with h | h | h
    · exact Bool.false_ne_true (h.symm.trans ha)
    · exact h hg
    · exact hm h
  case swaps =>
    refine fun s busy => ⟨fun e he => (s.swapMajor_stages busy he).1, fun e he hk hg => ?_⟩
    obtain ⟨hs, hdue⟩ := s.swapMajor_stages busy he
    exact Decidable.byContradiction fun held => hdue (State.mem_dueMajor.2 ⟨hs, hk, hg, held⟩)

end Sys2Proof.Machine

namespace Sys2Proof.Machine
open Sys2Proof

/-! ### `TIME_SET_MANUAL` (02 R501) -/

/-- A step to the time that a request gives waits for a whole second. -/
def State.awaitStep (s : State) (second : Nat) (r : Request) : State :=
  { s with time := { s.time with pendingStep := some ⟨(u64 r.payload 0 : Int) - second, second, some r⟩ } }

/-- What an accepted `TIME_SET_MANUAL` leaves, settled once. -/
theorem timeSetManual_accepted {dt : Nat} {s : State} {r : Request} {z : Resolved} (ht : s.inTime dt)
    (ha : opTimeSetManual.Accepts (s.elapse dt) r z) :
    exec (.timeSetManual dt r) s = .next (((opTimeSetManual.noted (s.elapse dt) r z).dropManual.awaitStep
      (opTimeSetManual.noted (s.elapse dt) r z).nextSecond r).settle) := by
  have run (u : State) : opTimeSetManual.run u r = (u.dropManual.awaitStep u.nextSecond r, none) := rfl
  have arm : exec (.timeSetManual dt r) s = runTaking dt s fun u => u.runRequest opTimeSetManual r := rfl
  exact arm.trans (runTaking_to ht (runRequest_later ha rfl (run _)))

/-! ### A state that one settling leaves unsettled

`State.settleLimit` counts one command for each open pair. A receiver that holds an open pair above the last number it knows of
the stream breaks that count: a new copy with the pair's number opens a second record of it, both records take the content of the
first, and the one open pair gives two commands. -/

/-- `TIME_GET_STATUS` from the service port, held in the interpreter of one lane. -/
def statusRequest (l : Lane) : Request :=
  { path := .service, target := 0, sequence := 0, origin := 0, boundary := 0, tag := 0, payload := [], only := some l }

/-- The service port's receiver has taken that request. -/
def statusTaken (l : Lane) : Taken := ⟨9, 4, cmdItem, 0, (Cargo.command 0x0201 (statusRequest l) ⟨0, 0, 0⟩).copy⟩

/-- An open pair among the service port's replies; the standby's copy is a command that no block knows. -/
def strayPair : Pair :=
  { resource := 4
    item := replyItem
    seq := 0
    stamp := 0
    main := none
    mizzen := some (Cargo.command 0 (statusRequest .mizzen) ⟨0, 0, 0⟩).copy
    taken := none
    window := none
    limit := 1 }

/-- The stray pair is open, and a status request waits that each lane answers: the standby opens the pair again with its
reply, and the active lane's reply, one number ahead, ends the wait on both records. -/
def crowded : State :=
  { time := { noTime := true }
    sys := {}
    sched := { image := serviceImage 0 }
    main := { running := true, streams := [(laneStreamKey 9 4 replyItem, 1)] }
    mizzen := { running := true }
    recvs := [(recvKey 9 4, { pairs := [strayPair] })]
    xt := resetXt
    pwr := { domains := 2 ^ 13 }
    taken := [statusTaken .mizzen, statusTaken .main] }

/-- `TIME_SET_MANUAL` to Mast time 0 by Main's firmware, with role Maker. -/
def manualRequest : Request :=
  { path := .firmware .main
    target := 0
    sequence := 0
    origin := 2 * 2 ^ 28
    boundary := 0
    tag := 0
    payload := zeros 8 }

theorem crowded_accepts : opTimeSetManual.Accepts (crowded.elapse 0) manualRequest ⟨0, 0, 0⟩ where
  executes := rfl
  resolve := rfl
  allows := rfl
  target := rfl
  exceeds := rfl
  param := rfl
  passes := ⟨nofun, nofun⟩
  taken := .inr (.inr rfl)
  takes := rfl
  inTime := rfl
  check := rfl

/-- The state that the request leaves in `crowded`, before it is settled. -/
def awaiting : State :=
  ((crowded.elapse 0).sendCommand opTimeSetManual manualRequest ⟨0, 0, 0⟩).1.awaitStep 1000000000 manualRequest

theorem awaiting_settle_taken : awaiting.settle.taken.length = 1 := rfl

theorem awaiting_settle_settle_taken : awaiting.settle.settle.taken.length = 0 := rfl

/-- Refutes O7: its second clause settles what receivers have taken twice, the model once, and in `crowded` one settling leaves
a command that waits. -/
theorem not_timeCommandsComplete : ¬ Obligations.TimeCommandsComplete := by
  rintro ⟨-, manual, -⟩
  have inTime : crowded.inTime 0 := by decide
  have once : exec (.timeSetManual 0 manualRequest) crowded = .next awaiting.settle :=
    timeSetManual_accepted inTime crowded_accepts
  have twice : exec (.timeSetManual 0 manualRequest) crowded = .next awaiting.settle.settle :=
    manual 0 crowded manualRequest _ inTime crowded_accepts
  have same : awaiting.settle = awaiting.settle.settle := Host.Outcome.next.inj (once.symm.trans twice)
  have taken : awaiting.settle.taken.length = awaiting.settle.settle.taken.length := congrArg (·.taken.length) same
  rw [awaiting_settle_taken, awaiting_settle_settle_taken] at taken
  exact absurd taken Nat.one_ne_zero

end Sys2Proof.Machine

namespace Sys2Proof.Machine
open Sys2Proof

/-! ### Immediate commands that answer at once (04 R113, R124) -/

/-- The command is a request for an opcode. -/
def Requests (op : OpSpec) (c : Nat → Request → Instr) : Prop :=
  ∀ dt r s, exec (c dt r) s = runTaking dt s fun u => u.runRequest op r

/-- An immediate command that its block runs and answers with another status than `OK`: it leaves no change-log entry. -/
theorem runRequest_failed {op : OpSpec} {s t : State} {r : Request} {z : Resolved} {st : Nat} {p : Bytes}
    (h : op.Accepts s r z) (hk : op.kind = .immediate) (hr : op.run (op.noted s r z) r = (t, some (st, p)))
    (hst : st ≠ stOk) : s.runRequest op r = op.reply r z st p t := by
  rw [runRequest_accepted h]
  simp only [State.perform, h.takes, h.inTime, h.check, hk, hr, hst, Bool.not_true, Bool.false_eq_true, if_true, if_false,
    false_and]

namespace Requests
variable {op : OpSpec} {c : Nat → Request → Instr} (hc : Requests op c) {dt : Nat} {s t : State} {r : Request} {z : Resolved}
  {p : Bytes} (ht : s.inTime dt) (ha : op.Accepts (s.elapse dt) r z) (hk : op.kind = .immediate)
include hc ht ha hk

theorem exec_done (hl : op.logs = true) (hr : op.run (op.noted (s.elapse dt) r z) r = (t, some (stOk, p))) :
    exec (c dt r) s = .next (op.done r z p t).settle :=
  (hc dt r s).trans (runTaking_to ht (runRequest_done ha hk hl hr))

theorem exec_read (hl : op.logs = false) (hr : op.run (op.noted (s.elapse dt) r z) r = (t, some (stOk, p))) :
    exec (c dt r) s = .next (op.read r z p t).settle :=
  (hc dt r s).trans (runTaking_to ht (runRequest_read ha hk hl hr))

theorem exec_failed {st : Nat} (hr : op.run (op.noted (s.elapse dt) r z) r = (t, some (st, p))) (hst : st ≠ stOk) :
    exec (c dt r) s = .next (op.reply r z st p t).settle :=
  (hc dt r s).trans (runTaking_to ht (runRequest_failed ha hk hr hst))

end Requests

/-! ### Loading an image (03 R94, R98) -/

theorem schedLoadBegin_requests : Requests opSchedLoadBegin .schedLoadBegin := fun _ _ _ => rfl
theorem schedLoadData_requests : Requests opSchedLoadData .schedLoadData := fun _ _ _ => rfl
theorem schedLoadEnd_requests : Requests opSchedLoadEnd .schedLoadEnd := fun _ _ _ => rfl
theorem schedGetStatus_requests : Requests opSchedGetStatus .schedGetStatus := fun _ _ _ => rfl

theorem opSchedLoadEnd_run_valid {u : State} {r : Request}
    (h : imageError (u.bank (u8 r.payload 0)) u.sys.station immediateOp = none) :
    opSchedLoadEnd.run u r = (u.updBank (u8 r.payload 0) fun b => { b with state := .valid }, some (stOk, [])) := by
  simp only [opSchedLoadEnd, bankOf, h]

theorem opSchedLoadEnd_run_invalid {u : State} {r : Request} {code off : Nat}
    (h : imageError (u.bank (u8 r.payload 0)) u.sys.station immediateOp = some (code, off)) :
    opSchedLoadEnd.run u r = (u.updBank (u8 r.payload 0) fun b => { b with state := .invalid },
      some (0x40, putLE 4 off ++ putLE 2 code ++ zeros 2)) := by
  simp only [opSchedLoadEnd, bankOf, h]

/-- Settles O9: each accepted command runs in its block; `SCHED_LOAD_END` by the outcome of the load checks. -/
theorem scheduleCommandsComplete : Obligations.ScheduleCommandsComplete := by
  refine ⟨?begin, ?data, ?ended, ?status⟩
  case begin => exact fun dt s r z ht ha => schedLoadBegin_requests.exec_done ht ha rfl rfl rfl
  case data => exact fun dt s r z ht ha => schedLoadData_requests.exec_read ht ha rfl rfl rfl
  case ended =>
    intro dt s r z ht ha u
    refine ⟨fun valid => ?_, fun code off invalid => ?_⟩
    · exact schedLoadEnd_requests.exec_done ht ha rfl rfl (opSchedLoadEnd_run_valid valid)
    · exact schedLoadEnd_requests.exec_failed ht ha rfl (opSchedLoadEnd_run_invalid invalid) (by decide)
  case status => exact fun dt s r z ht ha => schedGetStatus_requests.exec_read ht ha rfl rfl rfl

end Sys2Proof.Machine

namespace Sys2Proof.Machine
open Sys2Proof

/-! ### An activation that is ended (03 R90) -/

/-- A record marked `OVERRUN`. -/
def SigRec.overrunSet (r : SigRec) : SigRec := { r with overrun := true }

/-- A signal table with the record of one identifier marked `OVERRUN`; an identifier without a record adds none. -/
def markOverrun (v : Tbl SigRec) (id : Nat) : Tbl SigRec :=
  match Tbl.find v id with
  | none => v
  | some r => Tbl.put v id r.overrunSet

theorem find_markOverrun (v : Tbl SigRec) (id j : Nat) :
    Tbl.find (markOverrun v id) j = if j = id then (Tbl.find v j).map SigRec.overrunSet else Tbl.find v j := by
  unfold markOverrun
  by_cases hj : j = id
  · subst hj
    cases h : Tbl.find v j with
    | none => simp only [h, if_true, Option.map_none]
    | some r => simp only [Tbl.find_put_self, if_true, Option.map_some]
  · cases Tbl.find v id with
    | none => rw [if_neg hj]
    | some r => rw [if_neg hj, Tbl.find_put_ne _ _ _ _ hj]

theorem find_foldl_markOverrun (ids : List Nat) (v : Tbl SigRec) (j : Nat) :
    Tbl.find (ids.foldl markOverrun v) j =
      if j ∈ ids then (Tbl.find v j).map SigRec.overrunSet else Tbl.find v j := by
  have twice : SigRec.overrunSet ∘ SigRec.overrunSet = SigRec.overrunSet := rfl
  induction ids generalizing v with
  | nil => rw [if_neg List.not_mem_nil, List.foldl_nil]
  | cons id ids ih =>
    rw [List.foldl_cons, ih, find_markOverrun]
    by_cases hj : j = id
    · simp only [hj, List.mem_cons, true_or, if_true, Option.map_map, twice, ite_self]
    · simp only [hj, List.mem_cons, false_or, if_false]

theorem State.lane_withXt (s : State) (xt : XtSt) (l : Lane) : ({ s with xt := xt } : State).lane l = s.lane l := by
  cases l <;> rfl

/-- The record of an identifier; one that the table does not list is at its reset values. -/
theorem LaneSt.sig_eq (a : LaneSt) (id : Nat) : a.sig id = (Tbl.find a.signals id).getD {} := rfl

/-- A trouble record changes nothing of its lane but the trouble log. -/
theorem State.logTrouble_lane (s : State) (l : Lane) (kind code : Nat) (d : Bytes) :
    ∃ log next, (s.logTrouble l kind code d).lane l = { s.lane l with trouble := log, troubleNext := next } := by
  rw [State.logTrouble, State.updLane_lane]
  split
  · exact ⟨_, _, rfl⟩
  · exact ⟨_, _, rfl⟩

/-- The activation is gone, its write list is marked, and its lane has counted the overrun. -/
def State.markEnded (s : State) (l : Lane) (x : Activation) (t : TaskDesc) : State :=
  (s.dropAct l x).updLane l fun a =>
    { a with
      signals := (s.sched.image.writeList t).foldl markOverrun a.signals
      health := { a.health with overruns := sat32 a.health.overruns 1 } }

@[simp] theorem State.markEnded_lane (s : State) (l : Lane) (x : Activation) (t : TaskDesc) :
    (s.markEnded l x t).lane l =
      { s.lane l with
        acts := (s.lane l).acts.erase x
        signals := (s.sched.image.writeList t).foldl markOverrun (s.lane l).signals
        health := { (s.lane l).health with overruns := sat32 (s.lane l).health.overruns 1 } } := by
  rw [State.markEnded, State.updLane_lane, State.dropAct, State.updLane_lane]

section Ended
variable {s : State} {x : Activation} {t : TaskDesc} (h : s.sched.image.task x.task = some t) (l : Lane) (cause : Nat)
include h

/-- What an activation that is ended changes: its lane, with a trouble record, and what the Crosstree is told. -/
theorem State.endActivation_eq : ∃ d xt, s.endActivation l x cause =
    { (s.markEnded l x t).logTrouble l 2 0 d with xt := xt } := by
  unfold State.endActivation
  rw [h]
  exact ⟨_, _, rfl⟩

theorem State.endActivation_lane : ∃ health log next, (s.endActivation l x cause).lane l =
    { s.lane l with
      acts := (s.lane l).acts.erase x
      signals := (s.sched.image.writeList t).foldl markOverrun (s.lane l).signals
      health := health
      trouble := log
      troubleNext := next } := by
  obtain ⟨d, xt, ended⟩ := State.endActivation_eq h l cause
  obtain ⟨log, next, logged⟩ := (s.markEnded l x t).logTrouble_lane l 2 0 d
  rw [ended, State.lane_withXt, logged, State.markEnded_lane]
  exact ⟨_, log, next, rfl⟩

theorem State.endActivation_other : (s.endActivation l x cause).lane l.other = s.lane l.other := by
  obtain ⟨d, xt, ended⟩ := State.endActivation_eq h l cause
  rw [ended, State.lane_withXt, State.logTrouble, State.updLane_other, State.markEnded, State.updLane_other, State.dropAct,
    State.updLane_other]

theorem State.endActivation_mem : (s.endActivation l x cause).mem = s.mem := by
  obtain ⟨d, xt, ended⟩ := State.endActivation_eq h l cause
  simp only [ended, State.logTrouble, State.markEnded, State.dropAct, State.updLane_mem]

end Ended

/-- Settles O11: by what an ended activation leaves of its lane, with the marks looked up record by record. -/
theorem endedActivationKeepsItsSignals : Obligations.EndedActivationKeepsItsSignals := by
  intro s l x cause t ht u
  obtain ⟨health, log, next, lane⟩ := State.endActivation_lane ht l cause
  have marked (id : Nat) : Tbl.find (u.lane l).signals id = if id ∈ s.sched.image.writeList t
      then (Tbl.find (s.lane l).signals id).map SigRec.overrunSet else Tbl.find (s.lane l).signals id := by
    rw [lane]
    exact find_foldl_markOverrun _ _ id
  have unlisted (id : Nat) (hid : id ∉ s.sched.image.writeList t) : (u.lane l).sig id = (s.lane l).sig id := by
    rw [LaneSt.sig_eq, marked, if_neg hid, LaneSt.sig_eq]
  refine ⟨fun id => ?value, fun id hid hrec => ?overrun, unlisted, ?_, ?_,
    State.endActivation_mem ht l cause, State.endActivation_other ht l cause⟩
  case value =>
    by_cases hid : id ∈ s.sched.image.writeList t
    · rw [LaneSt.sig_eq, marked, if_pos hid, LaneSt.sig_eq]
      cases Tbl.find (s.lane l).signals id <;> rfl
    · rw [unlisted id hid]
  case overrun =>
    obtain ⟨r, hr⟩ := Option.ne_none_iff_exists'.1 hrec
    rw [LaneSt.sig_eq, marked, if_pos hid, hr]
    rfl
  · rw [lane]
  · rw [lane]

end Sys2Proof.Machine

namespace Sys2Proof.Machine
open Sys2Proof

/-! ### How an activation finishes, commits or is ended (03 R71, R74, R78, R90) -/

/-- What `TASK_FINISH` leaves of an activation, by how its accesses went. -/
def State.finishAct (l : Lane) (x : Activation) (r : TaskResult) (p : State × AccessEnd) : State :=
  match p.2 with
  | .done => p.1.updLane l fun a =>
    { a with acts := a.acts.map (fun y => if y = x then { y with finished := some ⟨r.writes, r.mail⟩ } else y) }
  | .window => p.1.endActivation l x 2
  | .memory => p.1

/-- The commit of an activation: it is gone, its writes stand in the signal table with the stamp of the next slot start, and the
mail it has seen is read. -/
def State.commitAct (s : State) (l : Lane) (task : Nat) (x : Activation) (t : TaskDesc) (f : Finished) : State :=
  let stamp := s.mastOfGrid ((x.last + 1) * 10000)
  (s.dropAct l x).updLane l fun a =>
    { a with
      signals := commitRecords a.signals (s.sched.image.writeList t) f.writes stamp (s.tickOf stamp)
      inbound := Tbl.put a.inbound task ((Tbl.getD a.inbound task []).drop x.mailSeen) }

/-- The digest of a commit, over the values that its lane's table then holds (05 R146). -/
def State.digestOf (s : State) (l : Lane) (task : Nat) (x : Activation) (ids : List Nat) : Digest :=
  ⟨task, x.last, digestCrc task x.last (ids.map fun id => ((s.lane l).sig id).value)⟩

/-- The active lane sends its digest to the other lane; the other lane keeps its own, to compare it (05 R146). -/
def LaneSt.noteDigest (a : LaneSt) (active l : Lane) (d : Digest) : LaneSt :=
  if l = active then { a with digestsInFlight := a.digestsInFlight ++ [d] }
  else { a with ownDigests := (a.ownDigests ++ [d]).drop (a.ownDigests.length + 1 - 4096) }

theorem State.updLane_ite (s : State) (l : Lane) (c : Prop) [Decidable c] (f g : LaneSt → LaneSt) :
    (s.updLane l fun a => if c then f a else g a) = if c then s.updLane l f else s.updLane l g := by
  split <;> rfl

section Running
variable {s : State} {l : Lane} {task core : Nat} {x : Activation} {t : TaskDesc} (hx : s.activation l task core = some x)
include hx

theorem taskBudgetExpiry_of_past (hf : x.finished = none) (hb : x.budget ≤ s.now) :
    taskBudgetExpiry l task core s = s.endActivation l x 1 := by
  simp only [taskBudgetExpiry, hx, hf, Nat.not_lt.2 hb, Option.isSome_none, Bool.or_false, decide_false, Bool.false_eq_true,
    if_false]

variable (ht : s.sched.image.task task = some t)
include ht

theorem taskWindowFault_of_refused {address : Nat} {access : Access} (hf : x.finished = none)
    (ha : s.sched.image.allows t address access = false) :
    taskWindowFault l task core address access s = s.endActivation l x 2 := by
  simp only [taskWindowFault, hx, ht, hf, ha, Option.isSome_none, Bool.or_false, Bool.false_eq_true, if_false]

theorem taskFinish_of_running {r : TaskResult} (hf : x.finished = none) (hc : s.computes l = true) (hb : s.now ≤ x.budget) :
    taskFinish l task core r s = State.finishAct l x r (s.accessAll t l r.accesses) := by
  simp only [taskFinish, hx, ht, hf, hc, Nat.not_lt.2 hb, Option.isSome_none, Bool.not_true, Bool.or_false, decide_false,
    Bool.false_eq_true, if_false]
  obtain ⟨v, e⟩ := s.accessAll t l r.accesses
  cases e <;> rfl

/-- A commit, with the mail that leaves with it. -/
theorem taskCommit_of_finished {f : Finished} (hf : x.finished = some f) (hc : s.computes l = true)
    (hg : (x.last + 1) * 10000 ≤ s.grid) :
    taskCommit l task core s =
      let v := s.commitAct l task x t f
      ((mailEntries f.mail.length f.mail).foldl (State.sendMail l t ((x.last + 1) * 10000))
        (v.updLane l fun a => a.noteDigest s.xt.active l (v.digestOf l task x (s.sched.image.writeList t)), 0, 0)).1 := by
  simp only [taskCommit, hx, ht, hf, hc, Nat.not_lt.2 hg, Bool.not_true, Bool.or_false, decide_false, Bool.false_eq_true,
    if_false, LaneSt.noteDigest, State.updLane_ite]
  rfl

theorem taskCommit_of_noMail {f : Finished} (hf : x.finished = some f) (hc : s.computes l = true)
    (hg : (x.last + 1) * 10000 ≤ s.grid) (hm : f.mail = []) :
    taskCommit l task core s =
      let v := s.commitAct l task x t f
      v.updLane l fun a => a.noteDigest s.xt.active l (v.digestOf l task x (s.sched.image.writeList t)) := by
  rw [taskCommit_of_finished hx ht hf hc hg, hm]
  rfl

end Running

/-! ### What a transfer sends (03 R75) -/

/-- A lane's copy on its way to a receiver, under the next number of its stream. -/
def LaneSt.sendItem (a : LaneSt) (t : Transfer) (c : Copy) : LaneSt :=
  let k := laneStreamKey t.receiver t.resource t.item
  let n := Tbl.getD a.streams k 0
  { a with
    streams := Tbl.put a.streams k ((n + 1) % 4294967296)
    items := a.items ++ [⟨t.receiver, t.resource, t.item, n, c⟩] }

section Transfers
variable {s : State} {n : Nat} {t : Transfer} (hn : s.sched.image.transfers[n]? = some t)
  (hh : t.holds s.slotInMajor = true) (hlo : t.offset ≤ s.grid % 10000) (hhi : s.grid % 10000 ≤ t.offset + 20) {l : Lane}
include hh hlo hhi

/-- The tick lies within the 20 ns in which the transfer sends. -/
theorem transfer_due : (!t.holds s.slotInMajor || decide (s.grid % 10000 < t.offset) ||
    decide (t.offset + 20 < s.grid % 10000)) = false := by
  rw [hh, decide_eq_false (Nat.not_lt.2 hlo), decide_eq_false (Nat.not_lt.2 hhi)]
  rfl

include hn

theorem transferSend_heartbeat (hr : t.receiver = 11) (hi : t.item = 1) (hb : s.beats l = true) :
    transferSend l n s = s.scheduledHeartbeat l := by
  simp only [transferSend, hn, transfer_due hh hlo hhi, hr, hi, hb, and_self, Bool.false_eq_true, if_true, if_false]

theorem transferSend_health (hr : t.receiver = 11) (hi : t.item = 2) (hc : s.computes l = true) :
    transferSend l n s = s.sendHealth l := by
  have other : ¬ (2 : Nat) = 1 := by decide
  simp only [transferSend, hn, transfer_due hh hlo hhi, hr, hi, hc, other, and_self, and_false, Bool.not_true,
    Bool.false_eq_true, if_true, if_false]

theorem transferSend_item (hr : t.receiver ≠ 11) (hc : s.computes l = true) :
    transferSend l n s = s.updLane l fun a => a.sendItem t (s.transferCopy t a) := by
  simp only [transferSend, hn, transfer_due hh hlo hhi, hr, hc, LaneSt.sendItem, false_and, Bool.not_true,
    Bool.false_eq_true, if_false]

end Transfers

/-- Only items of CAN ports and of the Stay links carry more than one signal's value and stamp. -/
theorem State.transferCopy_more (s : State) (a : LaneSt) {t : Transfer} (can : t.receiver ≠ 7) (stay : t.receiver ≠ 8) :
    (s.transferCopy t a).more = [] := by
  simp only [State.transferCopy, canSignals, can, stay, false_and, if_false]
  rfl

/-- Settles O10: each event meets its conditions, so that its effect is that of the lemma about it. -/
theorem taskCommandsComplete : Obligations.TaskCommandsComplete := by
  refine ⟨?finish, ?commit, ?budget, ?window, ?transfer⟩
  case finish =>
    intro dt s l task core x t r ht hx hd hf hc hb u
    have ends : exec (.taskFinish dt l ⟨task, core⟩ r) s = .next (State.finishAct l x r u) :=
      runCmd_to ht (taskFinish_of_running hx hd hf hc hb)
    simp only [State.finishAct] at ends
    exact ⟨fun done => by rw [ends, done], fun window => by rw [ends, window], fun memory => by rw [ends, memory]⟩
  case commit =>
    intro dt s l task core x t f ht hx hd hf hg hc hm u ids stamp v d
    exact runTaking_to ht (taskCommit_of_noMail hx hd hf hc hg hm)
  case budget =>
    exact fun dt s l task core x ht hx hf hb => runCmd_to ht (taskBudgetExpiry_of_past hx hf hb)
  case window =>
    exact fun dt s l task core x t address access ht hx hd hf ha => runCmd_to ht (taskWindowFault_of_refused hx hd hf ha)
  case transfer =>
    intro dt s l n t ht hn hh hlo hhi u
    have sends {v : State} (e : transferSend l n u = v) : exec (.transferSend dt l n) s = .next v.settle := runTaking_to ht e
    refine ⟨fun hr hi hb => sends ?_, fun hr hi hc => sends ?_, fun hr hc => sends ?_,
      fun a => ⟨rfl, rfl, rfl, rfl, rfl, u.transferCopy_more a⟩⟩
    · exact transferSend_heartbeat (s := u) hn hh hlo hhi hr hi hb
    · exact transferSend_health (s := u) hn hh hlo hhi hr hi hc
    · exact transferSend_item (s := u) hn hh hlo hhi hr hc

end Sys2Proof.Machine

namespace Sys2Proof.Machine
open Sys2Proof

/-! ### Units that arrive (03 R86, 04 R119) -/

theorem State.elapse_portOn {s : State} {path : Path} {dt : Nat} (hp : external path = true) (hd : s.domain 13 = true) :
    (s.elapse dt).portOn path = true := Bool.and_eq_true_iff.2 ⟨hp, hd⟩

/-- A packet at the end of a lane's queue. -/
def LaneSt.withPacket (a : LaneSt) (q : QPacket) : LaneSt := { a with queue := a.queue ++ [q] }

theorem LaneSt.queueFull_of_room {a : LaneSt} (h : a.queue.length < 256) : a.queueFull = false :=
  decide_eq_false (Nat.not_le.2 h)

theorem LaneSt.queuePacket_of_room {a : LaneSt} (hr : a.running = true) (h : a.queue.length < 256) (q : QPacket) :
    a.queuePacket q = a.withPacket q := by
  simp only [LaneSt.queuePacket, hr, LaneSt.queueFull_of_room h, Bool.not_false, Bool.and_self, if_true, LaneSt.withPacket]

section Arrival
variable {s : State} (main : s.main.running = true) (mizzen : s.mizzen.running = true)
  (mainRoom : s.main.queue.length < 256) (mizzenRoom : s.mizzen.queue.length < 256)
include main mizzen mainRoom mizzenRoom

/-- With room in both queues no lane drops the packet. -/
theorem State.unitArrival_of_room (path : Path) (unit : Bytes) :
    s.unitArrival path unit = s.updLanes fun a => a.withPacket ⟨s.time.mast, visibleSlot s.grid, path, unit⟩ := by
  have noneFull (l : Lane) : ((s.lane l).running && (s.lane l).queueFull) = false := by
    cases l
    · exact Bool.and_eq_false_iff.2 (.inr (LaneSt.queueFull_of_room mainRoom))
    · exact Bool.and_eq_false_iff.2 (.inr (LaneSt.queueFull_of_room mizzenRoom))
  have noDrop : (s.bothSend fun l => (s.lane l).running && (s.lane l).queueFull).lanes = [] := by
    simp only [State.bothSend, noneFull, Bool.and_false, List.filter_eq_nil_iff, Bool.false_eq_true, not_false_eq_true,
      implies_true]
  simp only [State.unitArrival, noDrop, if_true, State.updLanes, LaneSt.queuePacket_of_room main mainRoom,
    LaneSt.queuePacket_of_room mizzen mizzenRoom]

end Arrival

/-! ### Replies that arrive (04 R110, R119) -/

/-- A reply that passes its checks and names a task with a mailbox goes there. -/
theorem State.replyUnit_of_task {s : State} {unit : Bytes} (hf : checkForm unit = .passes) (ht : s.tagOk unit = true)
    (hk : originKind (unitOrigin unit) = 0) (hs : originStation (unitOrigin unit) = s.sys.station)
    (hm : s.mailDepth (originIndex (unitOrigin unit)) ≠ 0) (ls : List Lane) :
    s.replyUnit ls unit = s.pushMail ls (originIndex (unitOrigin unit)) fun _ => unit.take (36 + unitLength unit) := by
  simp only [State.replyUnit, hf, ht, hk, hs, bne_iff_ne.2 hm, beq_self_eq_true, Bool.and_self, if_true]

/-! ### The system commands (04 R126, R128) -/

theorem sysGetInfo_requests : Requests opSysGetInfo .sysGetInfo := fun _ _ _ => rfl
theorem sysGetPacketCounters_requests : Requests opSysGetPacketCounters .sysGetPacketCounters := fun _ _ _ => rfl
theorem sysClearOrigins_requests : Requests opSysClearOrigins .sysClearOrigins := fun _ _ _ => rfl

/-- Settles O12: each accepted command runs in the interpreters, an arrival finds room in both queues, and a reply its task. -/
theorem systemCommandsComplete : Obligations.SystemCommandsComplete := by
  refine ⟨?info, ?counters, ?origins, ?arrival, ?reply⟩
  case info => exact fun dt s r z ht ha => sysGetInfo_requests.exec_read ht ha rfl rfl rfl
  case counters => exact fun dt s r z ht ha => sysGetPacketCounters_requests.exec_read ht ha rfl rfl rfl
  case origins => exact fun dt s r z ht ha => sysClearOrigins_requests.exec_done ht ha rfl rfl rfl
  case arrival =>
    intro dt s path unit ht hd hp main mizzen mainRoom mizzenRoom
    refine runTaking_to ht ?_
    rw [halyardUnitArrival, if_pos (State.elapse_portOn hp hd)]
    exact State.unitArrival_of_room (s := s.elapse dt) main mizzen mainRoom mizzenRoom path unit
  case reply =>
    intro dt s path unit ht hd hp _ hf htag hk hs hm
    refine runCmd_to ht ?_
    rw [halyardReplyReceived, if_pos (State.elapse_portOn hp hd)]
    exact State.replyUnit_of_task (s := s.elapse dt) hf htag hk hs hm _

end Sys2Proof.Machine

namespace Sys2Proof.Machine
open Sys2Proof

/-! ### Tables whose numbers rise -/

theorem Sorted.put {α : Type} {t : Tbl α} (h : Sorted t) (k : Nat) (a : α) : Sorted (Tbl.put t k a) := by
  induction t with
  | nil => exact List.pairwise_singleton _ _
  | cons x r ih =>
    obtain ⟨i, b⟩ := x
    obtain ⟨above, rest⟩ := List.pairwise_cons.1 h
    unfold Tbl.put
    split
    case isTrue same => exact List.pairwise_cons.2 ⟨fun x hx => same ▸ above x hx, rest⟩
    case isFalse other =>
      split
      case isTrue below =>
        refine List.pairwise_cons.2 ⟨fun x hx => ?_, h⟩
        rcases List.mem_cons.1 hx with rfl | hx
        · exact below
        · exact Nat.lt_trans below (above x hx)
      case isFalse notBelow =>
        refine List.pairwise_cons.2 ⟨fun x hx => ?_, ih rest⟩
        rcases Tbl.mem_put hx with rfl | hx
        · exact Nat.lt_of_le_of_ne (Nat.le_of_not_lt notBelow) other
        · exact above x hx

theorem Tbl.find_isNone_of_below {α : Type} {t : Tbl α} {k : Nat} (h : ∀ x ∈ t, k < x.1) : Tbl.find t k = none := by
  induction t with
  | nil => rfl
  | cons x r ih =>
    obtain ⟨i, b⟩ := x
    obtain ⟨first, rest⟩ := List.forall_mem_cons.1 h
    rw [Tbl.find, if_neg (Nat.ne_of_gt first), ih rest]

theorem Tbl.length_put_le {α : Type} (t : Tbl α) (k : Nat) (a : α) : (Tbl.put t k a).length ≤ t.length + 1 := by
  induction t with
  | nil => exact Nat.le_refl _
  | cons x r ih =>
    obtain ⟨i, b⟩ := x
    unfold Tbl.put
    split
    · exact Nat.le_succ _
    · split
      · exact Nat.le_refl _
      · exact Nat.succ_le_succ ih

/-- The entry of a number that a sorted table lists is replaced in its place. -/
theorem Sorted.length_put {α : Type} {t : Tbl α} (h : Sorted t) {k : Nat} {b : α} (hk : Tbl.find t k = some b) (a : α) :
    (Tbl.put t k a).length = t.length := by
  induction t with
  | nil => cases hk
  | cons x r ih =>
    obtain ⟨i, c⟩ := x
    obtain ⟨above, rest⟩ := List.pairwise_cons.1 h
    unfold Tbl.put
    split
    · rfl
    case isFalse other =>
      rw [Tbl.find, if_neg other] at hk
      split
      case isTrue below =>
        rw [Tbl.find_isNone_of_below fun x hx => Nat.lt_trans below (above x hx)] at hk
        cases hk
      · exact congrArg (· + 1) (ih rest hk)

/-! ### The origin table (04 R107) -/

section OriginTable
variable {t : Tbl Nat} {o sequence : Nat}

theorem judgeSequence_known {last : Nat} (h : Tbl.find t (originKey o) = some last) :
    judgeSequence t o sequence = if 1 ≤ wrapDiff sequence last ∧ wrapDiff sequence last ≤ 1048576
      then (stOk, Tbl.put t (originKey o) sequence) else (stSequenceStale, t) := by
  simp only [judgeSequence, h]

theorem judgeSequence_new (h : Tbl.find t (originKey o) = none) :
    judgeSequence t o sequence =
      if t.length < 512 then (stOk, Tbl.put t (originKey o) sequence) else (stOriginFull, t) := by
  simp only [judgeSequence, h]

/-- A judgement leaves the table as it is, or sets the entry of the origin, which it holds or has room for. -/
theorem judgeSequence_table (t : Tbl Nat) (o sequence : Nat) : (judgeSequence t o sequence).2 = t ∨
    (judgeSequence t o sequence).2 = Tbl.put t (originKey o) sequence ∧
      ((∃ last, Tbl.find t (originKey o) = some last) ∨ t.length < 512) := by
  cases h : Tbl.find t (originKey o) with
  | none =>
    rw [judgeSequence_new h]
    split
    case isTrue room => exact .inr ⟨rfl, .inr room⟩
    · exact .inl rfl
  | some last =>
    rw [judgeSequence_known h]
    split
    · exact .inr ⟨rfl, .inl ⟨last, rfl⟩⟩
    · exact .inl rfl

theorem judgeSequence_length (hs : Sorted t) (hl : t.length ≤ 512) : (judgeSequence t o sequence).2.length ≤ 512 := by
  rcases judgeSequence_table t o sequence with same | ⟨set, ⟨last, known⟩ | room⟩
  · rw [same]; exact hl
  · rw [set, hs.length_put known]; exact hl
  · rw [set]; exact Nat.le_trans (Tbl.length_put_le _ _ _) room

theorem judgeSequence_sorted (hs : Sorted t) : Sorted (judgeSequence t o sequence).2 := by
  rcases judgeSequence_table t o sequence with same | ⟨set, -⟩
  · rw [same]; exact hs
  · rw [set]; exact hs.put _ _

theorem judgeSequence_find_ne {j : Nat} (hj : j ≠ originKey o) :
    Tbl.find (judgeSequence t o sequence).2 j = Tbl.find t j := by
  rcases judgeSequence_table t o sequence with same | ⟨set, -⟩
  · rw [same]
  · rw [set, Tbl.find_put_ne _ _ _ _ hj]

end OriginTable

/-- Settles O13: by what the table knows of the origin, and by what a judgement does to the table. -/
theorem sequencesAreJudgedByOrigin : Obligations.SequencesAreJudgedByOrigin := by
  intro t o sequence hs hl k
  refine ⟨fun last known => ⟨fun ahead => ?accepted, fun behind => ?stale⟩, fun new room => ?new, fun new full => ?full,
    judgeSequence_length hs hl, judgeSequence_sorted hs, fun j hj => judgeSequence_find_ne hj⟩
  case accepted =>
    have judged : judgeSequence t o sequence = (stOk, Tbl.put t k sequence) := (judgeSequence_known known).trans (if_pos ahead)
    exact ⟨judged, by rw [judged, Tbl.find_put_self]⟩
  case stale => exact (judgeSequence_known known).trans (if_neg behind)
  case new =>
    have judged : judgeSequence t o sequence = (stOk, Tbl.put t k sequence) := (judgeSequence_new new).trans (if_pos room)
    exact ⟨by rw [judged]; rfl, by rw [judged, Tbl.find_put_self]⟩
  case full => exact (judgeSequence_new new).trans (if_neg (Nat.not_lt.2 (Nat.le_of_eq full.symm)))

end Sys2Proof.Machine

namespace Sys2Proof.Machine
open Sys2Proof

/-! ### Requests that fail a check (04 R109, steps 9 to 13) -/

section Checks
variable {op : OpSpec} {r : Request}

theorem OpSpec.precheck_notAllowed (ha : op.allows r = false) (z : Option Resolved) :
    op.precheck r z = some (stNotAuthorised, []) := by
  simp only [OpSpec.precheck, ha, Bool.not_false, if_true]

variable (ha : op.allows r = true)
include ha

theorem OpSpec.precheck_badTarget (ht : op.target r = false) (z : Option Resolved) :
    op.precheck r z = some (stBadTarget, []) := by
  simp only [OpSpec.precheck, ha, ht, Bool.not_true, Bool.not_false, Bool.false_eq_true, if_true, if_false]

variable (ht : op.target r = true)
include ht

theorem OpSpec.precheck_exceeds (hx : op.exceeds r = true) (z : Option Resolved) :
    op.precheck r z = some (stLengthExceeds, []) := by
  simp only [OpSpec.precheck, ha, ht, hx, Bool.not_true, Bool.false_eq_true, if_true, if_false]

variable (hx : op.exceeds r = false)
include hx

theorem OpSpec.precheck_badParam {off : Nat} (hp : op.param r = some off) (z : Option Resolved) :
    op.precheck r z = some (badParam off) := by
  simp only [OpSpec.precheck, ha, ht, hx, hp, Bool.not_true, Bool.false_eq_true, if_false]

theorem OpSpec.precheck_noBoundary (hp : op.param r = none) : op.precheck r none = some (badParam 0x0014) := by
  simp only [OpSpec.precheck, ha, ht, hx, hp, Bool.not_true, Bool.false_eq_true, if_false]

end Checks

section Refused
variable {s : State} {op : OpSpec} {r : Request} (he : s.executes r = true)
include he

theorem runRequest_notAuthorised {p : Bytes}
    (h : op.precheck r (s.resolve op.kind op.block r.boundary) = some (stNotAuthorised, p)) :
    s.runRequest op r = s.refuseAuth op.code r := by
  simp only [State.runRequest, State.runResolved, he, h, if_true]

/-- A request whose counted payload exceeds its length is counted before it is answered (Table 04-13). -/
theorem runRequest_lengthExceeds {p : Bytes}
    (h : op.precheck r (s.resolve op.kind op.block r.boundary) = some (stLengthExceeds, p)) :
    s.runRequest op r =
      State.answer { s with sys := { s.sys with lengthExceeds := sat32 s.sys.lengthExceeds 1 } } op.code r stLengthExceeds
        s.major p := by
  have other : stLengthExceeds ≠ stNotAuthorised := by decide
  simp only [State.runRequest, State.runResolved, he, h, other, if_true, if_false]

theorem runRequest_refused {st : Nat} {p : Bytes}
    (h : op.precheck r (s.resolve op.kind op.block r.boundary) = some (st, p)) (auth : st ≠ stNotAuthorised)
    (length : st ≠ stLengthExceeds) : s.runRequest op r = s.answer op.code r st s.major p := by
  simp only [State.runRequest, State.runResolved, he, h, auth, length, if_true, if_false]

end Refused

/-- Settles O14: each check that fails first gives its status, and each status its answer. -/
theorem checksComeInOrder : Obligations.ChecksComeInOrder := by
  intro s op r he refused
  refine ⟨fun ha => ?role, fun ha ht => ?target, fun ha ht hx => ?length, fun off ha ht hx hp => ?field,
    fun ha ht hx hp hz => ?boundary⟩
  case role => exact runRequest_notAuthorised he (OpSpec.precheck_notAllowed ha _)
  case target => exact runRequest_refused he (OpSpec.precheck_badTarget ha ht _) (by decide) (by decide)
  case length => exact runRequest_lengthExceeds he (OpSpec.precheck_exceeds ha ht hx _)
  case field => exact runRequest_refused he (OpSpec.precheck_badParam ha ht hx hp _) (by decide) (by decide)
  case boundary =>
    have fails : op.precheck r (s.resolve op.kind op.block r.boundary) = some (badParam 0x0014) :=
      hz ▸ OpSpec.precheck_noBoundary ha ht hx hp
    exact runRequest_refused he fails (by decide) (by decide)

end Sys2Proof.Machine

namespace Sys2Proof.Machine
open Sys2Proof

/-! ### What the lane commands leave (05 R154, R155, R160, R161) -/

theorem laneGetStatus_requests : Requests opLaneGetStatus .laneGetStatus := fun _ _ _ => rfl
theorem laneGetReceiverCounters_requests : Requests opLaneGetReceiverCounters .laneGetReceiverCounters := fun _ _ _ => rfl
theorem laneRecover_requests : Requests opLaneRecover .laneRecover := fun _ _ _ => rfl
theorem laneResyncRequest_requests : Requests opLaneResyncRequest .laneResyncRequest := fun _ _ _ => rfl

section Resync
variable {u : State} {r : Request} {l : Lane} (hp : r.path = .firmware l)
include hp

/-- A released lane that holds the active image may ask to be resynchronised. -/
theorem opLaneResyncRequest_run_ready (hs : (u.xtLane l).state = .recovering) (hb : (u.xtLane l).booted = true)
    (hr : u.xt.restart = false) (hi : (u.lane l).loaded = 0 ∨ (u.lane l).loaded = u.sched.activations) :
    opLaneResyncRequest.run u r = (u.updXt l fun x => { x with resyncNext := true }, some (stOk, [])) := by
  have same : ((u.lane l).loaded == 0 || (u.lane l).loaded == u.sched.activations) = true := by
    simpa only [Bool.or_eq_true, beq_iff_eq] using hi
  simp only [opLaneResyncRequest, hp, hs, hb, hr, same, Bool.not_false, and_self, if_true]

theorem opLaneResyncRequest_run_refused (hs : (u.xtLane l).state ≠ .recovering) :
    opLaneResyncRequest.run u r = (u.updLane l fun a => { a with loaded := 0 }, some (0x42, [])) := by
  simp only [opLaneResyncRequest, hp, hs, false_and, if_false]

end Resync

/-- Settles O16: each accepted command runs where it is answered; `LANE_RESYNC_REQUEST` by the state of its lane. -/
theorem laneCommandsComplete : Obligations.LaneCommandsComplete := by
  refine ⟨?status, ?counters, ?recover, ?resync⟩
  case status => exact fun dt s r z ht ha => laneGetStatus_requests.exec_read ht ha rfl rfl rfl
  case counters => exact fun dt s r z ht ha => laneGetReceiverCounters_requests.exec_read ht ha rfl rfl rfl
  case recover => exact fun dt s r z ht ha => laneRecover_requests.exec_done ht ha rfl rfl rfl
  case resync =>
    intro dt s r z l ht ha hp u
    refine ⟨fun hs hb hr hi => ?_, fun hs => ?_⟩
    · exact laneResyncRequest_requests.exec_done ht ha rfl rfl (opLaneResyncRequest_run_ready hp hs hb hr hi)
    · exact laneResyncRequest_requests.exec_failed ht ha rfl (opLaneResyncRequest_run_refused hp hs) (by decide)

end Sys2Proof.Machine

namespace Sys2Proof.Machine
open Sys2Proof

/-! ### Heartbeats and their timers (05 R141) -/

theorem heartbeatReceived_accepted {s : State} {l : Lane} {beat : Heartbeat} {rest : List Heartbeat}
    (h : (s.lane l).hbInFlight = beat :: rest) (hs : s.xt.stopped = false) (hh : (s.xtLane l).hold = none)
    (hx : (s.xtLane l).state ≠ .failed) :
    heartbeatReceived l s =
      let u := ((s.updLane l fun a => { a with hbInFlight := rest }).updXt l fun x =>
        { x with timer := some (s.now + 1200000), misses := 0 }).updLane l fun a =>
          { a with acksInFlight := a.acksInFlight ++ [⟨s.xt.main.state.code, s.xt.mizzen.state.code⟩] }
      if beat.fatal then u.laneFailure l 1 else u := by
  simp only [heartbeatReceived, h, hs, hh, beq_false_of_ne hx, Option.isSome_none, Bool.or_self, Bool.false_eq_true, if_false]

section Timer
variable {s : State} {l : Lane} {t : Nat} (h : (s.xtLane l).timer = some t) (hs : s.xt.stopped = false) (ht : t ≤ s.now)
include h hs ht

theorem heartbeatTimerExpiry_missed (hm : (s.xtLane l).misses < 2) :
    heartbeatTimerExpiry l s = s.updXt l fun x =>
      { x with misses := x.misses + 1, hbMissed := true, timer := some (t + 1000000) } := by
  have few : ¬ 3 ≤ (s.xtLane l).misses + 1 := by omega
  simp only [heartbeatTimerExpiry, h, hs, few, decide_eq_false (Nat.not_lt.2 ht), Bool.or_self, Bool.false_eq_true, if_false]
  exact State.updXt_congr rfl

/-- The third miss in a row is a heartbeat failure. -/
theorem heartbeatTimerExpiry_fails (hm : 2 ≤ (s.xtLane l).misses) :
    heartbeatTimerExpiry l s =
      (s.updXt l fun x => { x with misses := x.misses + 1, hbMissed := true, timer := none }).laneFailure l 0 := by
  have third : 3 ≤ (s.xtLane l).misses + 1 := by omega
  simp only [heartbeatTimerExpiry, h, hs, third, decide_eq_false (Nat.not_lt.2 ht), Bool.or_self, Bool.false_eq_true, if_true,
    if_false]
  refine congrArg (·.laneFailure l 0) (State.updXt_congr ?_)
  rfl

end Timer

/-! ### Acknowledgements, fatal faults and health reports (05 R142 to R144) -/

theorem State.updLane_updLane (s : State) (l : Lane) (f g : LaneSt → LaneSt) :
    (s.updLane l f).updLane l g = s.updLane l fun a => g (f a) := by
  cases l <;> rfl

theorem heartbeatAckReceived_running {s : State} {l : Lane} {k : HeartbeatAck} {rest : List HeartbeatAck}
    (h : (s.lane l).acksInFlight = k :: rest) (hr : (s.lane l).running = true) :
    heartbeatAckReceived l s =
      let u := s.updLane l fun a =>
        { a with acksInFlight := rest, ackSeen := true, missedAcks := 0, crosstreeLost := false, lastAck := some k }
      if (s.lane l).crosstreeLost then u.raiseLane l 0x040A (details [(l.code : Int)]) else u := by
  simp only [heartbeatAckReceived, h, hr, State.updLane_updLane, Bool.not_true, Bool.false_eq_true, if_false]

theorem State.fatalFault_running {s : State} {l : Lane} (hr : (s.lane l).running = true) :
    s.fatalFault l = s.updLane l fun a =>
      let n := (a.heartbeats + 1) % 65536
      { a with
        fatal := true
        hbInFlight := a.hbInFlight ++ [⟨true, n, s.major, s.slotInMajor⟩]
        heartbeats := n
        hbSent := true } := by
  rw [State.fatalFault, if_pos hr, State.sendHeartbeat, State.updLane_updLane]
  cases l <;> rfl

theorem healthReportReceived_noted {s : State} {l : Lane} {b : Bytes} {rest : List Bytes}
    (h : (s.lane l).healthInFlight = b :: rest) (hs : s.xt.stopped = false) (hb : u32 b 4 = s.major) :
    healthReportReceived l s = (s.updLane l fun a => { a with healthInFlight := rest }).updXt l fun x =>
      { x with
        healthSeen := true
        healthBad := x.healthBad || (flagAt b 1 0 || flagAt b 1 1 || u16 b 2 % 4096 != 0) } := by
  simp only [healthReportReceived, h, hs, hb, ne_eq, not_true_eq_false, decide_false, Bool.or_self, Bool.false_eq_true,
    if_false]

/-- Settles O17: each event's meaning, from the equation of its case. -/
theorem heartbeatsComplete : Obligations.HeartbeatsComplete := by
  refine ⟨?beat, ?timer, ?ack, ?fatal, ?health⟩
  case beat =>
    intro dt s l beat rest ht h hs hh hx
    exact runTaking_to ht (heartbeatReceived_accepted (by simpa using h) hs (by simpa using hh) (by simpa using hx))
  case timer =>
    intro dt s l t ht h hs hn
    have h' : ((s.elapse dt).xtLane l).timer = some t := by simpa using h
    exact ⟨fun hm => runTaking_to ht (heartbeatTimerExpiry_missed h' hs hn (by simpa using hm)),
      fun hm => runTaking_to ht (heartbeatTimerExpiry_fails h' hs hn (by simpa using hm))⟩
  case ack =>
    intro dt s l k rest ht h hr u
    have answered := heartbeatAckReceived_running (s := s.elapse dt) (by simpa using h) (by simpa using hr)
    exact runCmd_to ht (answered.trans (by rw [State.elapse_lane]))
  case fatal => exact fun dt s l ht hr => runCmd_to ht (State.fatalFault_running (by simpa using hr))
  case health => exact fun dt s l b rest ht h hs hb => runCmd_to ht (healthReportReceived_noted (by simpa using h) hs hb)

end Sys2Proof.Machine

namespace Sys2Proof.Machine
open Sys2Proof

/-! ### What an item leaves alone when its block acts on it (05 R132) -/

/-- The state but for what an item changes: the channels, the yield tally, the fusion engine and its memory, the CAN, Stay and
Ethernet ports, the recorder, the commands that wait for their blocks, free values used, and what has left. The lanes and the
receivers stand in it. -/
def State.asideItems (s : State) : State :=
  { s with
    power := {}
    sense := { yield_ := resetYield }
    fus := resetFus
    mem := {}
    cans := []
    stay := {}
    eths := []
    rec_ := {}
    taken := []
    free := 0
    out := [] }

namespace AsideItems
variable (s : State)

theorem raise (code source resource : Nat) (d : Bytes) : (s.raise code source resource d).asideItems = s.asideItems :=
  ite_frame rfl rfl

/-! #### What leaves the module -/

theorem ethOut (p : Nat) (o : Out) : (s.ethOut p o).asideItems = s.asideItems := ite_frame rfl rfl

theorem ethMail (p : Nat) (packet : Bytes) : (s.ethMail p packet).asideItems = s.asideItems :=
  ite_frame rfl (ite_frame rfl (ethOut _ _ _))

theorem stayOut (p : Nat) (first : Bool) (payload : Bytes) : (s.stayOut p first payload).asideItems = s.asideItems :=
  ite_frame rfl (ite_frame rfl rfl)

theorem stayPacket (station : Nat) (packet : Bytes) : (s.stayPacket station packet).asideItems = s.asideItems :=
  ite_frame rfl (ite_frame rfl (stayOut _ _ _ _))

theorem deliverReply (p : Reply) : (s.deliverReply p).asideItems = s.asideItems := by
  unfold State.deliverReply
  split
  case h_1 => exact ethOut _ _ _
  case h_2 => exact stayPacket _ _ _
  all_goals rfl

theorem handOn (t : Taken) : (s.handOn t).asideItems = s.asideItems := by
  unfold State.handOn
  split
  case h_3 => exact deliverReply _ _
  case h_4 => exact ite_frame (stayPacket _ _ _) (ethMail _ _ _)
  all_goals rfl

/-! #### Samples of the fusion engine -/

theorem updFus (f : FusSt → FusSt) : (s.updFus f).asideItems = s.asideItems := rfl

theorem updSource (n : Nat) (f : FusSource → FusSource) : (s.updSource n f).asideItems = s.asideItems := rfl

theorem rejectSample (n cause : Nat) : (s.rejectSample n cause).asideItems = s.asideItems := raise _ _ _ _ _

theorem offerOpen (x : Sample) (o : OpenRound) : (s.offerOpen x o).asideItems = s.asideItems :=
  ite_frame rfl (ite_frame rfl (rejectSample _ _ _))

theorem offerPast (x : Sample) (p : PastRound) : (s.offerPast x p).asideItems = s.asideItems := by
  unfold State.offerPast
  split
  · rfl
  · exact ite_frame rfl (raise _ _ _ _ _)

theorem applyReset : s.applyReset.asideItems = s.asideItems := by
  unfold State.applyReset
  split
  · rfl
  · exact raise _ _ _ _ _

theorem workRound (o : OpenRound) (heads : Bytes) (present : Nat → Option Sample) :
    (s.workRound o heads present).asideItems = s.asideItems := by
  have cover : ∀ l, (s.fusionCover l).asideItems = s.asideItems := fun l => ite_frame rfl rfl
  have write : ∀ (t : State) w, (t.fusionWrite w).asideItems = t.asideItems := fun t w => ite_frame rfl rfl
  exact (write _ _).trans (cover _)

theorem issueRound (o : OpenRound) (waited : Bool) : (s.issueRound o waited).asideItems = s.asideItems := by
  unfold State.issueRound
  dsimp only
  refine (foldl_frame (fun t n => ite_frame (updSource t _ _) rfl) _ _).trans
    ((updFus _ _).trans ((updFus _ _).trans ((workRound _ _ _ _).trans ?_)))
  cases rUseState o.cfg
  · rfl
  · exact applyReset _

theorem issueComplete : s.issueComplete.asideItems = s.asideItems := by
  refine ite_frame rfl ?_
  split
  · exact issueRound _ _ _
  · rfl

theorem sampleArrives (x : Sample) : (s.sampleArrives x).asideItems = s.asideItems :=
  (issueComplete _).trans <| (foldl_frame (fun t p => offerPast t x p) _ _).trans <|
    (foldl_frame (fun t o => offerOpen t x o) _ _).trans <| ite_frame rfl rfl

/-! #### What blocks take -/

theorem takeScalar (n e : Nat) (c : Copy) : (s.takeScalar n e c).asideItems = s.asideItems :=
  ite_frame rfl (ite_frame rfl (sampleArrives _ _))

theorem takeExport (item seq : Nat) (c : Copy) : (s.takeExport item seq c).asideItems = s.asideItems := by
  unfold State.takeExport
  dsimp only
  split
  · exact ite_frame rfl (foldl_frame (fun t _ => stayOut t _ _ _) _ _)
  · rfl

theorem takeCan (p item : Nat) (c : Copy) : (s.takeCan p item c).asideItems = s.asideItems := by
  refine ite_frame rfl (ite_frame rfl ?_)
  split
  · exact raise _ _ _ _ _
  · exact ite_frame (raise _ _ _ _ _) rfl

theorem act (t : Taken) : (s.act t).asideItems = s.asideItems := by
  unfold State.act
  split
  · exact ite_frame (ite_frame rfl rfl) <| ite_frame rfl <| ite_frame (takeScalar _ _ _ _) <|
      ite_frame (takeExport _ _ _ _) <| ite_frame (takeCan _ _ _ _) rfl
  · exact handOn _ _

theorem actAll (x : State × List Taken) : (State.actAll x).asideItems = x.1.asideItems := foldl_frame act _ _

end AsideItems

/-- What blocks do with items changes no receiver. -/
theorem State.actAll_recv (x : State × List Taken) (k : Nat) : (State.actAll x).recv k = x.1.recv k :=
  (congrArg (fun t : State => t.recv k) (AsideItems.actAll x) :)

/-- The state but for what an item changes on its way through a receiver and in its block. -/
def State.asideReceivers (s : State) : State :=
  { s.asideItems with recvs := [], xt := { s.xt with reportsInFlight := [] } }

namespace AsideReceivers

theorem of_asideItems {s t : State} (h : t.asideItems = s.asideItems) : t.asideReceivers = s.asideReceivers :=
  (congrArg State.asideReceivers h :)

theorem time {s t : State} (h : t.asideReceivers = s.asideReceivers) : t.time = s.time := (congrArg State.time h :)

theorem switchovers {s t : State} (h : t.asideReceivers = s.asideReceivers) : t.xt.switchovers = s.xt.switchovers :=
  (congrArg (fun u : State => u.xt.switchovers) h :)

theorem lane {s t : State} (h : t.asideReceivers = s.asideReceivers) (l : Lane) : t.lane l = s.lane l := by
  cases l with
  | main => exact (congrArg State.main h :)
  | mizzen => exact (congrArg State.mizzen h :)

variable (s : State)

theorem raise (code source resource : Nat) (d : Bytes) : (s.raise code source resource d).asideReceivers = s.asideReceivers :=
  of_asideItems (AsideItems.raise _ _ _ _ _)

/-- Every receiver judges anew, and blocks act on what that releases. -/
theorem judgeAll (f : RecvView → Judging → Judging) : (s.judgeAll f).asideReceivers = s.asideReceivers :=
  foldl_frame (fun t k => (of_asideItems (AsideItems.actAll (t.judging k f))).trans rfl) _ _

theorem designate (l : Lane) (cause : Nat) : (s.designate l cause).asideReceivers =
    (({ s with xt := { s.xt with active := l, switchovers := sat32 s.xt.switchovers 1 } } : State).setLaneState l
      .active).asideReceivers :=
  (raise _ _ _ _ _).trans ((judgeAll _ _).trans (judgeAll _ _))

end AsideReceivers

end Sys2Proof.Machine

namespace Sys2Proof.Machine
open Sys2Proof

/-! ### A failure of the active lane (05 R148, R149, R153, R154) -/

/-- The lane a failure has put into reset, in its new state, before the receivers judge without it. -/
def State.failing (s : State) (l : Lane) : State :=
  let spent := decide (s.xt.attempts ≤ (s.xtLane l).recoveries)
  (s.holdLane l).updXt l fun x =>
    { x with
      state := if spent then .failed else .recovering
      hold := if spent then none else x.hold }

section Failing
variable (s : State) (l : Lane) (cause : Nat)

theorem State.failLane_asideReceivers : (s.failLane l cause).asideReceivers = (s.failing l).asideReceivers :=
  (AsideReceivers.raise _ _ _ _ _).trans ((AsideReceivers.judgeAll _ _).trans rfl)

theorem State.failLane_regime : (s.failLane l cause).regime = (s.failing l).regime :=
  (State.raise_regime _ _ _ _ _).trans ((State.finishAll_regime _).trans rfl)

theorem State.failLane_xtLane_state : ((s.failLane l cause).xtLane l).state =
    if s.xt.attempts ≤ (s.xtLane l).recoveries then .failed else .recovering := by
  simp only [State.xtLane_of_regime (s.failLane_regime l cause), State.failing, State.updXt_xtLane, decide_eq_true_eq]

theorem State.failing_lane : (s.failing l).lane l = (s.lane l).reset := by cases l <;> rfl

theorem State.failing_time : (s.failing l).time = s.time := by cases l <;> rfl

theorem State.failing_switchovers : (s.failing l).xt.switchovers = s.xt.switchovers := by cases l <;> rfl

theorem State.designate_state : ((s.designate l cause).xtLane l).state = .active := by
  rw [State.xtLane_of_regime (State.designate_regime s l cause), State.setLaneState, State.updXt_xtLane]

/-- The other lane is designated: what the failed one was left with stays, and nothing else of the lanes or of time moves. -/
theorem State.failLane_designate :
    let t := (s.failLane l cause).designate l.other 0
    (t.xtLane l).state = (if s.xt.attempts ≤ (s.xtLane l).recoveries then .failed else .recovering) ∧
    t.xt.switchovers = sat32 s.xt.switchovers 1 ∧ t.lane l = (s.lane l).reset ∧ t.time = s.time := by
  have failed := s.failLane_asideReceivers l cause
  have designated := AsideReceivers.designate (s.failLane l cause) l.other 0
  refine ⟨?state, ?switchovers, ?lane, ?time⟩
  case state => rw [State.designate_other, State.failLane_xtLane_state]
  case switchovers =>
    rw [AsideReceivers.switchovers designated, ← s.failing_switchovers l, ← AsideReceivers.switchovers failed]
    cases l <;> rfl
  case lane =>
    rw [AsideReceivers.lane designated, ← s.failing_lane l, ← AsideReceivers.lane failed]
    cases l <;> rfl
  case time =>
    rw [AsideReceivers.time designated, ← s.failing_time l, ← AsideReceivers.time failed]
    exact State.updXt_time _ _ _

end Failing

section Failure
variable {s : State} (hf : s.canFail s.xt.active = true) (hr : s.xt.restart = false) (cause : Nat)
include hf

theorem State.laneFailure_restarts (ho : (s.xtLane s.xt.active.other).state ≠ .standby) :
    s.laneFailure s.xt.active cause = s.laneRestart s.xt.active := by
  simp only [State.laneFailure, hf, ho, Bool.not_true, Bool.false_eq_true, false_and, if_true, if_false]

include hr

theorem State.laneFailure_designates (ho : (s.xtLane s.xt.active.other).state = .standby) :
    s.laneFailure s.xt.active cause = (s.failLane s.xt.active cause).designate s.xt.active.other 0 := by
  simp only [State.laneFailure, hf, hr, ho, Bool.not_true, Bool.not_false, Bool.false_eq_true, and_self, if_true, if_false]

end Failure

/-- A record changes the recorder at most. -/
theorem State.raise_eq (s : State) (code source resource : Nat) (d : Bytes) :
    ∃ x, s.raise code source resource d = { s with rec_ := x } := by
  unfold State.raise State.raiseAt
  split
  · exact ⟨_, rfl⟩
  · exact ⟨s.rec_, rfl⟩

/-- Both lanes as a lane restart leaves them: held in reset, under the designation that stands. -/
def State.restarting (s : State) : State :=
  let keep (x : Lane) : LaneState := if x = s.xt.active then .active else .standby
  let held := (s.holdLane .main).holdLane .mizzen
  let kept := (held.setLaneState .main (keep .main)).setLaneState .mizzen (keep .mizzen)
  (({ kept with xt := { kept.xt with restart := true, rejoin := none } } : State).discardUntaken .main).discardUntaken .mizzen

theorem State.laneRestart_eq (s : State) (l : Lane) : ∃ x, s.laneRestart l = { s.restarting with rec_ := x } :=
  State.raise_eq _ _ _ _ _

theorem State.restarting_keeps (s : State) : s.restarting.time = s.time ∧ s.restarting.power.chans = s.power.chans ∧
    s.restarting.sense = s.sense ∧ s.restarting.cans = s.cans ∧ s.restarting.mem = s.mem := by
  simp only [State.restarting, State.discardUntaken, State.setLaneState, State.updXt, State.holdLane, State.updLane, and_self]

/-- Settles O21: by the state of the other lane, which is designated or restarts with the failed one. -/
theorem aFailureNeverLeavesNoLane : Obligations.AFailureNeverLeavesNoLane := by
  intro s cause hf hr l t
  refine ⟨fun ho => ?designated, fun ho => ?restarted⟩
  case designated =>
    have failed : t = (s.failLane l cause).designate l.other 0 := State.laneFailure_designates hf hr cause ho
    obtain ⟨state, switchovers, lane, time⟩ := s.failLane_designate l cause
    rw [failed]
    exact ⟨State.designate_active _ _ _, State.designate_state _ _ _, state, switchovers, by rw [lane]; rfl, time⟩
  case restarted =>
    have restarts : t = s.laneRestart l := State.laneFailure_restarts hf cause ho
    obtain ⟨x, recorded⟩ := s.laneRestart_eq l
    rw [restarts, recorded]
    exact ⟨rfl, rfl, rfl, rfl, rfl, rfl, s.restarting_keeps⟩

end Sys2Proof.Machine

namespace Sys2Proof.Machine
open Sys2Proof

/-! ### What a receiver judges (05 R129 to R134) -/

/-- A signal's value of a lane is treated by the lane's mode. -/
theorem State.modeOf_view {c : Copy} (h : c.cargo = .none) (s : State) (k : Nat) (l : Lane) :
    (s.view k).modeOf l c = s.mode (keyBlock k) l := by
  simp only [RecvView.modeOf, State.mode, State.view, Copy.needsAdoption, h, Bool.and_true]

@[simp] theorem State.updLane_adopted (s : State) (l x : Lane) (f : LaneSt → LaneSt) :
    (s.updLane l f).adopted x = s.adopted x := by
  cases x <;> simp only [State.adopted, State.updLane_power]

@[simp] theorem State.updLane_mode (s : State) (l x : Lane) (f : LaneSt → LaneSt) (block : Nat) :
    (s.updLane l f).mode block x = s.mode block x := by
  simp only [State.mode, State.updLane_adopted, State.updLane_xtLane]

@[simp] theorem State.elapse_mode (s : State) (dt block : Nat) (l : Lane) : (s.elapse dt).mode block l = s.mode block l := by
  simp only [State.mode, State.elapse_adopted, State.elapse_xtLane]

section Judging
variable {s : State} {k : Nat} {f g : RecvView → Judging → Judging}

theorem State.judging_congr (h : f (s.view k) { recv := s.recv k } = g (s.view k) { recv := s.recv k }) :
    s.judging k f = s.judging k g := by simp only [State.judging, h]

theorem State.actAll_judging_recv {j : Judging} (h : f (s.view k) { recv := s.recv k } = j) :
    (State.actAll (s.judging k f)).recv k = j.recv := by
  rw [State.actAll_recv, ← h]
  exact Tbl.getD_put_self _ _ _ _

end Judging

theorem seqBelow_self (a : Nat) : seqBelow a a = false := by
  have d : wrapDiff a a = 0 := by unfold wrapDiff; omega
  rw [seqBelow, d]
  rfl

section OnlyPair
variable {x : Receiver} {p : Pair} (h : x.pairs = [p])
include h

theorem Receiver.pairOf_only : x.pairOf p.resource p.item p.seq = some p := by
  simp only [Receiver.pairOf, h, beq_self_eq_true, Bool.and_self, List.find?_cons_of_pos]

theorem Receiver.setPair_only {q : Pair} (hs : p.same q = true) : x.setPair q = { x with pairs := [q] } := by
  simp only [Receiver.setPair, h, List.map_cons, List.map_nil, hs, if_true]

end OnlyPair

section Pairs
variable {v : RecvView} {j : Judging} {l : Lane} {i : Item}

/-- A pair that is not taken, or waits for a copy still, stays open. -/
theorem Judging.finishPair_waits {resource item seq : Nat} {q : Pair} (hq : j.recv.pairOf resource item seq = some q)
    (hw : q.taken = none ∨ ∃ l, q.copy l = none ∧ v.expects q l = true) : j.finishPair v resource item seq = j := by
  unfold Judging.finishPair
  rw [hq]
  refine if_neg fun complete => ?_
  simp only [Bool.and_eq_true] at complete
  obtain ⟨⟨taken, main⟩, mizzen⟩ := complete
  obtain untaken | ⟨l, missing, expected⟩ := hw
  · simp [untaken] at taken
  · cases l with
    | main => simp [missing, expected] at main
    | mizzen => simp [missing, expected] at mizzen

/-- A pair that closes is gone, and may count as a mismatch. -/
theorem Judging.finishPair_recv (v : RecvView) (resource item seq : Nat) (j : Judging) : ∃ pairs mismatch,
    (j.finishPair v resource item seq).recv = { j.recv with pairs := pairs, mismatch := mismatch } := by
  unfold Judging.finishPair
  split
  · exact ⟨_, _, rfl⟩
  · dsimp only
    split
    · split
      · split
        · exact ⟨_, _, rfl⟩
        · exact ⟨_, _, rfl⟩
      · exact ⟨_, _, rfl⟩
    · exact ⟨_, _, rfl⟩

theorem Judging.judge_ignored (h : v.modeOf l i.copy = .ignore) : j.judge v l i = j := if_pos h

/-! #### A new copy at a receiver with no open pair -/

/-- The pair of a new copy is open, and N has moved to it (05 R131). -/
def Judging.opened (v : RecvView) (l : Lane) (i : Item) (j : Judging) : Judging :=
  j.upd fun x =>
    { x with
      streams := Tbl.put x.streams (streamKey i.resource i.item) i.seq
      pairs := [v.newPair x.windowNs l i] }

theorem Judging.judge_new (hp : j.recv.pairs = []) (hm : v.modeOf l i.copy ≠ .ignore) (h1 : 1 ≤ j.recv.ahead i)
    (h2 : j.recv.ahead i ≤ 1048576) : j.judge v l i = (j.opened v l i).useCopy v l i true := by
  have windows : j.expireWindows v (v.now - 1) (fun _ => true) = j := by
    simp only [Judging.expireWindows, hp, List.filter_nil, List.foldl_nil]
  have limits : j.expireLimits v (v.now - 1) (fun _ => true) = j := by
    simp only [Judging.expireLimits, hp, List.filter_nil, List.foldl_nil]
  have room : j.makeRoom v = j := by simp only [Judging.makeRoom, hp]
  simp only [Judging.judge, hm, windows, limits, Judging.judgeNow, h1, h2, and_self, if_true, if_false, Judging.openPair, room,
    Judging.opened, Judging.upd, hp, List.nil_append]

theorem RecvView.newPair_copy (v : RecvView) (window : Nat) (l : Lane) (i : Item) :
    (v.newPair window l i).copy l = some i.copy := by cases l <;> rfl

/-- Taken on arrival, the new copy is counted for its lane, and not as late. -/
theorem Judging.useCopy_taken (hm : v.modeOf l i.copy = .use) : ∃ pairs mismatch,
    ((j.opened v l i).useCopy v l i true).recv =
      { j.recv.countTaken l with
        streams := Tbl.put j.recv.streams (streamKey i.resource i.item) i.seq
        lateActive := sat32 j.recv.lateActive 0
        pairs := pairs
        mismatch := mismatch } := by
  have found : (j.opened v l i).recv.pairOf i.resource i.item i.seq = some (v.newPair j.recv.windowNs l i) :=
    Receiver.pairOf_only (p := v.newPair j.recv.windowNs l i) rfl
  -- no pair lies below the new one
  have waits : (j.opened v l i).endWaits v i.resource i.item i.seq = j.opened v l i := by
    simp [Judging.endWaits, Judging.opened, Judging.upd, RecvView.newPair, seqBelow_self]
  have untaken : (v.newPair j.recv.windowNs l i).taken.isNone = true := rfl
  unfold Judging.useCopy
  simp only [hm, waits, found, untaken, if_true]
  obtain ⟨pairs, mismatch, finished⟩ := Judging.finishPair_recv v i.resource i.item i.seq
    ((j.opened v l i).takePair v l false (v.newPair j.recv.windowNs l i))
  refine ⟨pairs, mismatch, finished.trans ?_⟩
  simp only [Judging.takePair, RecvView.newPair_copy]
  rfl

/-- A standby's copy is held in its pair until the window ends. -/
theorem Judging.useCopy_held (hm : v.modeOf l i.copy = .fallback) :
    (j.opened v l i).useCopy v l i true = (j.opened v l i).upd fun x =>
      { x with pairs := [{ v.newPair x.windowNs l i with window := some (v.now + x.windowNs) }] } := by
  have only : (j.opened v l i).recv.pairs = [v.newPair j.recv.windowNs l i] := rfl
  have found : (j.opened v l i).recv.pairOf i.resource i.item i.seq = some (v.newPair j.recv.windowNs l i) :=
    Receiver.pairOf_only only
  have held : ((j.opened v l i).upd fun x =>
      x.setPair { v.newPair j.recv.windowNs l i with window := some (v.now + x.windowNs) }) = (j.opened v l i).upd fun x =>
        { x with pairs := [{ v.newPair x.windowNs l i with window := some (v.now + x.windowNs) }] } := by
    rw [Judging.upd, Receiver.setPair_only only (by simp [Pair.same])]
    rfl
  unfold Judging.useCopy
  simp only [hm, found, held, if_true]
  exact Judging.finishPair_waits (Receiver.pairOf_only
    (p := { v.newPair j.recv.windowNs l i with window := some (v.now + j.recv.windowNs) }) rfl) (.inl rfl)

/-! #### What falls due at a receiver with one open pair -/

theorem Pair.anyCopy_of_single {q : Pair} {c : Copy} (hc : q.copy l.other = some c) (hn : q.copy l = none) :
    q.anyCopy = c := by
  cases l with
  | main => simp [Pair.anyCopy, show q.main = none from hn, show q.mizzen = some c from hc]
  | mizzen => simp [Pair.anyCopy, show q.main = some c from hc]

section Due
variable {q : Pair} (hp : j.recv.pairs = [q])
include hp

theorem Judging.takePair_only {c : Copy} (hc : q.copy l = some c) (late : Bool) : (j.takePair v l late q).recv =
    { j.recv.countTaken l with
      lateActive := sat32 j.recv.lateActive (b2n late)
      pairs := [{ q with taken := some l, window := none }] } := by
  simp only [Judging.takePair, hc]
  rw [Receiver.setPair_only hp (by simp [Pair.same])]
  rfl

/-- The window takes the standby's copy, and the pair stays open for the active lane's. -/
theorem Judging.windowsDue_takes {c : Copy} {w : Nat} (hc : q.copy v.active.other = some c) (hn : q.copy v.active = none)
    (hm : v.modeOf v.active c ≠ .ignore) (hw : q.window = some w) (hd : w ≤ v.now) :
    j.windowsDue q.resource v = j.takePair v v.active.other true q := by
  have expires : j.expireWindows v v.now (fun p => p.resource == q.resource) = j.takePair v v.active.other true q := by
    simp [Judging.expireWindows, hp, hw, hd]
  have missing : ({ q with taken := some v.active.other, window := none } : Pair).copy v.active = none := hn
  have expected : v.expects { q with taken := some v.active.other, window := none } v.active = true := by
    have held : Pair.anyCopy { q with taken := some v.active.other, window := none } = c :=
      Pair.anyCopy_of_single (q := q) hc hn
    rw [RecvView.expects, held]
    exact bne_iff_ne.2 hm
  have still := Receiver.pairOf_only (congrArg Receiver.pairs (Judging.takePair_only (v := v) hp hc true))
  simp only [Judging.windowsDue, expires, hp, List.filter_cons, List.filter_nil, beq_self_eq_true, if_true, List.foldl_cons,
    List.foldl_nil]
  exact Judging.finishPair_waits still (.inr ⟨_, missing, expected⟩)

theorem Judging.expireLimits_only {t : Nat} (hl : q.limit ≤ t) :
    j.expireLimits v t (fun p => p.resource == q.resource) = j.limitPair v q := by
  simp [Judging.expireLimits, hp, hl]

end Due

end Pairs

/-! ### Copies that arrive (05 R129, R132) -/

/-- The copy of a lane in Ignore mode is counted nowhere. -/
theorem State.judgeCopy_ignored {s : State} {l : Lane} {i : Item} (hc : i.copy.cargo = .none)
    (hm : s.mode (keyBlock (recvKey i.block i.resource)) l = .ignore) :
    s.judgeCopy l i =
      { s with recvs := Tbl.put s.recvs (recvKey i.block i.resource) (s.recv (recvKey i.block i.resource)) } := by
  have ignored := (State.modeOf_view hc s (recvKey i.block i.resource) l).trans hm
  simp only [State.judgeCopy, State.judging, Judging.judge_ignored ignored, List.append_nil, State.actAll, List.foldl_nil]

theorem receiverCopyArrival_judged {s : State} {l : Lane} {block resource : Nat} {i : Item} {rest : List Item}
    (h : firstItem block resource (s.lane l).items = some (i, rest)) (hb : s.blockOn block = true)
    (hs : block ≠ 11 ∨ s.xt.stopped = false) (hd : isDutyItem block i.item = false ∨ s.adopted l = true) :
    receiverCopyArrival l block resource s = (s.updLane l fun a => { a with items := rest }).judgeCopy l i := by
  have reaches : (!s.blockOn block || (block == 11 && s.xt.stopped)) = false := by
    simpa only [hb, Bool.not_true, Bool.false_or, Bool.and_eq_false_iff, beq_eq_false_iff_ne] using hs
  have taken : (isDutyItem block i.item && !s.adopted l) = false := by
    simpa only [Bool.and_eq_false_iff, Bool.not_eq_false'] using hd
  simp only [receiverCopyArrival, h, reaches, taken, Bool.false_eq_true, if_false]

/-- Settles O19: a copy is judged or ignored, a window that is due takes the standby's copy, a limit that is due closes its
pair. -/
theorem receiversComplete : Obligations.ReceiversComplete := by
  refine ⟨?copy, ?window, ?limit⟩
  case copy =>
    intro dt s l block resource i rest ht h hb hr hon hs hd u
    have arrives := receiverCopyArrival_judged (s := s.elapse dt) (by simpa using h) hon hs (by simpa using hd)
    refine ⟨runTaking_to ht arrives, fun hc hm => ?_⟩
    subst hb hr
    exact State.judgeCopy_ignored hc (by simpa [u] using hm)
  case window =>
    intro dt s block resource q c ht hp hr _ hc hn hv hm hw
    obtain ⟨w, hw, hd⟩ := hw
    subst hr
    let k := recvKey block q.resource
    have heard : ((s.elapse dt).view k).modeOf s.xt.active c ≠ .ignore :=
      fun ignored => hm ((State.elapse_mode ..).symm.trans ((State.modeOf_view hv _ _ _).symm.trans ignored))
    have takes := Judging.windowsDue_takes (j := { recv := s.recv k }) (v := (s.elapse dt).view k) hp hc hn heard hw hd
    have left := (State.actAll_judging_recv (s := s.elapse dt) takes).trans (Judging.takePair_only hp hc true)
    exact ⟨_, runTaking_next ht _, congrArg Receiver.lateActive left, congrArg Receiver.pairs left⟩
  case limit =>
    intro dt s block resource q ht hp hr hl
    subst hr
    exact runTaking_to ht (congrArg State.actAll (State.judging_congr (Judging.expireLimits_only hp hl)))

/-! ### New copies (05 R132) -/

/-- Settles O20: by what the receiver does with a new copy in the mode of its lane. -/
theorem activeCopiesAreTakenOnArrival : Obligations.ActiveCopiesAreTakenOnArrival := by
  intro s l i k stream d h1 h2 hp hc
  have opens (hm : s.mode (keyBlock k) l ≠ .ignore) := Judging.judge_new (j := { recv := s.recv k }) (v := s.view k) hp
    (fun ignored => hm ((State.modeOf_view hc s k l).symm.trans ignored)) h1 h2
  refine ⟨fun hm => ?taken, fun hm => ?held⟩
  case taken =>
    obtain ⟨pairs, mismatch, taken⟩ :=
      Judging.useCopy_taken (j := { recv := s.recv k }) ((State.modeOf_view hc s k l).trans hm)
    have left : (s.judgeCopy l i).recv k = _ :=
      (State.actAll_judging_recv (opens (by simp [hm]))).trans taken
    rw [left]
    exact ⟨Tbl.getD_put_self _ _ _ _, rfl, rfl, rfl⟩
  case held =>
    have held := (opens (by simp [hm])).trans (Judging.useCopy_held ((State.modeOf_view hc s k l).trans hm))
    have left : (s.judgeCopy l i).recv k = _ := State.actAll_judging_recv held
    refine ⟨_, congrArg Receiver.pairs left, rfl, RecvView.newPair_copy (s.view k) (s.recv k).windowNs l i, rfl, rfl, ?_⟩
    simp only [State.judgeCopy, State.judging]
    rw [held]
    rfl

end Sys2Proof.Machine

namespace Sys2Proof.Machine
open Sys2Proof

/-! ### What a loop's period computes (06 R171, R174) -/

theorem clampI_mem {lo hi : Int} (h : lo ≤ hi) (v : Int) : lo ≤ clampI lo hi v ∧ clampI lo hi v ≤ hi := by
  unfold clampI
  split
  · exact ⟨Int.le_refl _, h⟩
  case isFalse above =>
    split
    · exact ⟨h, Int.le_refl _⟩
    case isFalse below => exact ⟨Int.not_lt.1 above, Int.not_lt.1 below⟩

theorem satS_32_mem (v : Int) : -2147483648 ≤ satS 32 v ∧ satS 32 v ≤ 2147483647 := clampI_mem (by decide) v

/-- The output of a section is its sum limited to 32 bits, and its states move on by one. -/
theorem runSection_eq (c : Bytes) (x : Int) (st : SecState) : ∃ acc saturated,
    runSection c x st = (satS 32 acc, ⟨x, st.x1, satS 32 acc, st.y1⟩, saturated) := ⟨_, _, rfl⟩

/-- The cascade over a loop's states, for one period. -/
def Loop.cascade (l : Loop) (input setpoint : Int) : Int × List SecState × Bool :=
  runCascade l.coeffs l.states (loopX l.desc input setpoint)

/-- The output before its limits: the last section's, scaled down and offset (R174 step 1). -/
def Loop.scaled (l : Loop) (input setpoint : Int) : Int :=
  let y := (l.cascade input setpoint).1
  let sh := descOutShift l.desc
  (if sh = 0 then y else (y + (2 ^ (sh - 1) : Nat)) / (2 ^ sh : Nat)) + descOutOffset l.desc

section Computed
variable (l : Loop) (input setpoint : Int)

/-- The output is the scaled value, as a 32-bit value, limited by the clamps (R174 steps 2 and 3). -/
theorem computeLoop_eq : ∃ states saturated,
    let u := satS 32 (l.scaled input setpoint)
    computeLoop l input setpoint = (loopClamp l u, states, saturated, decide (loopClamp l u ≠ u)) := by
  let u := satS 32 (l.scaled input setpoint)
  by_cases back : (descClampFeedback l.desc && decide (loopClamp l u ≠ u)) = true
  · exact ⟨_, _, if_pos back⟩
  · exact ⟨_, _, if_neg back⟩

/-- Without the feedback of a clamp, the states are those of the cascade. -/
theorem computeLoop_states (h : descClampFeedback l.desc = false) :
    (computeLoop l input setpoint).2.1 = (l.cascade input setpoint).2.1 := by
  simp only [computeLoop, h, Bool.false_and, Bool.false_eq_true, if_false]
  rfl

end Computed

/-! ### What a period leaves of its loop (06 R169, Table 06-2) -/

/-- The loop with the result of its period: output, states and flags, and the counters moved on. -/
def Loop.finish (l : Loop) (v : LoopRun) (out : Int) (states : List SecState) (clamped saturated : Bool) : Loop :=
  { l with
    states := states
    run := some { v with output := some out, clamped := clamped, saturated := saturated }
    held := out
    inputFaults := sat32 l.inputFaults (b2n v.bad)
    clamps := sat32 l.clamps (b2n clamped)
    saturations := sat32 l.saturations (b2n saturated) }

section Result
variable {l : Loop} {v : LoopRun}

theorem loopResult_hold (hb : v.bad = true) (ha : descFaultAction l.desc = 0) :
    loopResult l v = l.finish v l.held l.states false false := by
  simp only [loopResult, Loop.finish, hb, ha, beq_self_eq_true, Bool.and_self, if_true]

theorem loopResult_faultValue (hb : v.bad = true) (ha : descFaultAction l.desc = 2) :
    loopResult l v =
      let out := loopClamp l (descFaultValue l.desc)
      l.finish v out (l.states.map fun _ => {}) (decide (out ≠ descFaultValue l.desc)) false := by
  simp only [loopResult, Loop.finish, hb, ha, Nat.reduceBEq, Bool.and_false, Bool.and_self, Bool.false_eq_true, if_true,
    if_false]

theorem loopResult_computed (h : v.bad = true → descFaultAction l.desc ≠ 0 ∧ descFaultAction l.desc ≠ 2) :
    loopResult l v =
      let y := computeLoop l v.input v.setpoint
      l.finish v y.1 y.2.1 y.2.2.2 y.2.2.1 := by
  have runs (a : Nat) (ha : v.bad = true → descFaultAction l.desc ≠ a) : (v.bad && descFaultAction l.desc == a) = false :=
    Bool.and_eq_false_imp.2 fun hb => beq_false_of_ne (ha hb)
  simp only [loopResult, runs 0 fun hb => (h hb).1, runs 2 fun hb => (h hb).2, Bool.false_eq_true, if_false]
  rfl

/-- Unless the output is held, it has passed the clamps. -/
theorem loopResult_limits (h : v.bad = true → descFaultAction l.desc ≠ 0) : ∃ u states clamped saturated,
    loopResult l v = l.finish v (loopClamp l u) states clamped saturated := by
  by_cases fault : v.bad = true ∧ descFaultAction l.desc = 2
  · exact ⟨_, _, _, _, loopResult_faultValue fault.1 fault.2⟩
  · have computed := loopResult_computed fun hb => ⟨h hb, fun ha => fault ⟨hb, ha⟩⟩
    obtain ⟨states, saturated, output⟩ := computeLoop_eq l v.input v.setpoint
    rw [output] at computed
    exact ⟨_, _, _, _, computed⟩

/-- Whatever the sample, the result finishes the period. -/
theorem loopResult_finishes (l : Loop) (v : LoopRun) : ∃ out states clamped saturated,
    loopResult l v = l.finish v out states clamped saturated := by
  by_cases hold : v.bad = true ∧ descFaultAction l.desc = 0
  · exact ⟨_, _, _, _, loopResult_hold hold.1 hold.2⟩
  · obtain ⟨u, limited⟩ := loopResult_limits fun hb ha => hold ⟨hb, ha⟩
    exact ⟨_, limited⟩

end Result

/-- Settles O23: by what a section and the output stage compute, and by what each fault action makes of a bad sample. -/
theorem loopResultsKeepTheirLimits : Obligations.LoopResultsKeepTheirLimits := by
  refine ⟨?biquad, ?output, ?limits, ?bad⟩
  case biquad =>
    intro c x st y
    obtain ⟨acc, saturated, ran⟩ := runSection_eq c x st
    have hy : y = _ := ran
    obtain ⟨lo, hi⟩ := satS_32_mem acc
    rw [hy]
    exact ⟨lo, hi, rfl, rfl, rfl, rfl⟩
  case output =>
    intro l input setpoint h u y sh r
    obtain ⟨states, saturated, output⟩ := computeLoop_eq l input setpoint
    have out : u.1 = clampI l.outMin l.outMax (satS 32 r) := congrArg (·.1) output
    have clamped : u.2.2.2 = decide (clampI l.outMin l.outMax (satS 32 r) ≠ satS 32 r) := congrArg (·.2.2.2) output
    obtain ⟨lo, hi⟩ := clampI_mem h (satS 32 r)
    exact ⟨out ▸ lo, out ▸ hi, out, out ▸ clamped, fun _ => computeLoop_states l input setpoint⟩
  case limits =>
    intro l v h hb
    obtain ⟨u, states, clamped, saturated, result⟩ := loopResult_limits hb
    rw [result]
    exact ⟨_, _, rfl, rfl, rfl, clampI_mem h u⟩
  case bad =>
    intro l v hb
    obtain ⟨out, states, clamped, saturated, result⟩ := loopResult_finishes l v
    refine ⟨by rw [result, Loop.finish, hb]; rfl, by rw [result]; rfl, by rw [result]; rfl, fun hold => ?_, fun fault => ?_⟩
    · rw [loopResult_hold hb hold]
      exact ⟨rfl, rfl⟩
    · rw [loopResult_faultValue hb fault]
      refine ⟨fun st hst => ?_, List.length_map _, _, rfl, rfl, rfl⟩
      obtain ⟨_, _, reset⟩ := List.mem_map.1 hst
      exact reset.symm

end Sys2Proof.Machine

namespace Sys2Proof.Machine
open Sys2Proof

/-! ### Reading engines and loops -/

section Readers
variable (s : State)

@[simp] theorem State.elapse_engine (dt : Nat) (l : Lane) : (s.elapse dt).engine l = s.engine l := by cases l <;> rfl

@[simp] theorem State.elapse_loop (dt : Nat) (l : Lane) (n : Nat) : (s.elapse dt).loop l n = s.loop l n := by cases l <;> rfl

@[simp] theorem State.elapse_readLane (dt : Nat) : (s.elapse dt).readLane = s.readLane := by simp [State.readLane]

@[simp] theorem State.updEngine_lane (l x : Lane) (f : Engine → Engine) : (s.updEngine l f).lane x = s.lane x := by
  cases l <;> cases x <;> rfl

@[simp] theorem State.updEngine_computes (l x : Lane) (f : Engine → Engine) : (s.updEngine l f).computes x = s.computes x := by
  cases l <;> cases x <;> rfl

@[simp] theorem State.updLane_loop (l x : Lane) (f : LaneSt → LaneSt) (n : Nat) : (s.updLane l f).loop x n = s.loop x n := by
  cases l <;> cases x <;> rfl

/-- A change of an engine's pipelines changes no loop. -/
theorem State.withPipes_loop (l x : Lane) (p : Engine → Tbl Pipeline) (n : Nat) :
    (s.updEngine l fun e => { e with pipes := p e }).loop x n = s.loop x n := by cases l <;> cases x <;> rfl

end Readers

/-! ### Commands (06 R189) -/

theorem ctrlGetLoop_requests : Requests opCtrlGetLoop .ctrlGetLoop := fun _ _ _ => rfl
theorem ctrlGetStatus_requests : Requests opCtrlGetStatus .ctrlGetStatus := fun _ _ _ => rfl
theorem ctrlClearCounters_requests : Requests opCtrlClearCounters .ctrlClearCounters := fun _ _ _ => rfl

/-! ### Phase 0 of a loop (06 R167, R169, log 117) -/

theorem Loop.closePeriod_run (x : Loop) (stamp : Nat → Nat) : (x.closePeriod stamp).run = none := by
  unfold Loop.closePeriod
  split
  case h_1 h => exact h
  case h_2 => rfl

theorem Loop.closePeriod_desc (x : Loop) (stamp : Nat → Nat) : (x.closePeriod stamp).desc = x.desc := by
  unfold Loop.closePeriod
  split
  · rfl
  · rfl

/-- The period that ends gives the flags and the values of Table 06-12. -/
theorem Loop.closePeriod_some {x : Loop} {v : LoopRun} (h : x.run = some v) (stamp : Nat → Nat) :
    x.closePeriod stamp =
      { x with
        run := none
        inputBad := v.bad
        clamped := v.clamped
        saturated := v.saturated
        late := v.late
        lastInput := v.input
        lastSetpoint := v.setpoint
        lastOutput := v.output.getD x.lastOutput
        lastStamp := stamp v.outAt } := by
  simp only [Loop.closePeriod, h]

/-- The period of a loop closed in both engines. -/
def State.closePeriods (s : State) (n : Nat) : State := s.updLoops [.main, .mizzen] n fun x => x.closePeriod s.mastOfGrid

/-- A lane that runs the schedule samples an enabled loop, which joins its pipeline's queue. -/
def State.sampleIn (n : Nat) (s : State) (l : Lane) : State :=
  let x := s.loop l n
  if s.computes l && descEnable x.desc then
    let v := sampleLoop (s.refreshSignals l) l x.desc
    (s.updLoop l n fun y => { y with run := some v }).updEngine l fun e =>
      { e with pipes := Tbl.upd e.pipes (descPipeline x.desc) {} fun q =>
          { q with waiting := joinQueue e.loops n v.phase0 q.waiting } }
  else s

/-- With no swap that waits for it, a loop's period closes and the next one is sampled in each lane. -/
theorem loopPeriodBoundary_due {s : State} {n : Nat} (ha : s.time.anchored = true)
    (hs : ∀ e ∈ s.staged, e.kind = .loop → e.target ≠ n) (hm : s.majorDue = false)
    (hg : s.grid % (max (descPeriod (s.loop s.readLane n).desc) 1 * 10000) = 0) :
    loopPeriodBoundary n s = ((s.closePeriods n).sampleIn n .main).sampleIn n .mizzen := by
  have none_due : s.staged.filter (fun e => e.kind == .loop && e.target == n && decide (e.after ≤ s.now)) = [] :=
    List.filter_eq_nil_iff.2 fun e he due => by
      simp only [Bool.and_eq_true, beq_iff_eq] at due
      exact hs e he due.1.1 due.1.2
  simp only [loopPeriodBoundary, ha, hm, hg, none_due, Bool.not_true, bne_self_eq_false, Bool.or_self, Bool.false_eq_true,
    if_false, sortBy, List.foldl_nil]
  rfl

/-- The state but for its engines. -/
def State.asideEngines (s : State) : State := { s with ctrl := {} }

section AsideEngines
variable {s t : State}

theorem State.updEngine_asideEngines (s : State) (l : Lane) (f : Engine → Engine) :
    (s.updEngine l f).asideEngines = s.asideEngines := by cases l <;> rfl

theorem State.closePeriods_asideEngines (s : State) (n : Nat) : (s.closePeriods n).asideEngines = s.asideEngines :=
  foldl_frame (fun t l => t.updEngine_asideEngines l _) _ _

theorem State.sampleIn_asideEngines (n : Nat) (s : State) (l : Lane) : (s.sampleIn n l).asideEngines = s.asideEngines :=
  ite_frame ((State.updEngine_asideEngines _ _ _).trans (State.updEngine_asideEngines _ _ _)) rfl

variable (h : t.asideEngines = s.asideEngines)
include h

theorem State.computes_of_asideEngines (l : Lane) : t.computes l = s.computes l := by
  cases l with
  | main => exact (congrArg (fun u : State => u.computes .main) h :)
  | mizzen => exact (congrArg (fun u : State => u.computes .mizzen) h :)

theorem State.lane_of_asideEngines (l : Lane) : t.lane l = s.lane l := by
  cases l with
  | main => exact (congrArg State.main h :)
  | mizzen => exact (congrArg State.mizzen h :)

/-- What a lane that runs the schedule samples does not depend on the engines. -/
theorem sampleLoop_of_asideEngines {l : Lane} (hc : s.computes l = true) (d : Bytes) :
    sampleLoop (t.refreshSignals l) l d = sampleLoop (s.refreshSignals l) l d := by
  have hc' : t.computes l = true := (State.computes_of_asideEngines h l).trans hc
  have time : t.time = s.time := (congrArg State.time h :)
  have sched : t.sched = s.sched := (congrArg State.sched h :)
  have lane : (t.refreshSignals l).lane l = (s.refreshSignals l).lane l := by
    rw [State.refreshSignals_lane hc', State.refreshSignals_lane hc, State.lane_of_asideEngines h, State.slot, State.slot,
      State.grid, State.grid, State.now, State.now, time, sched]
  have keeps (u : State) : (u.refreshSignals l).time = u.time ∧ (u.refreshSignals l).sched = u.sched := by
    unfold State.refreshSignals
    split
    · simp
    · exact ⟨rfl, rfl⟩
  simp only [sampleLoop, lane, State.grid, keeps, time, sched]

end AsideEngines

/-- Only the loop's period changes in the lane that samples. -/
theorem State.sampleIn_loop (n : Nat) (s : State) (l : Lane) : (s.sampleIn n l).loop l n =
    { s.loop l n with
      run := if s.computes l = true ∧ descEnable (s.loop l n).desc = true
        then some (sampleLoop (s.refreshSignals l) l (s.loop l n).desc) else (s.loop l n).run } := by
  simp only [State.sampleIn, Bool.and_eq_true]
  split
  · rw [State.withPipes_loop, State.loop_updLoop]
  · rfl

theorem State.sampleIn_other (n : Nat) (s : State) (l : Lane) (m : Nat) :
    (s.sampleIn n l).loop l.other m = s.loop l.other m := by
  simp only [State.sampleIn]
  split
  · rw [State.withPipes_loop, State.loop_updLoop_other]
  · rfl

/-- Each lane samples on its own: the loop in one is as if the other did not sample. -/
theorem State.sampleBoth_loop (n : Nat) (s : State) (l : Lane) :
    ((s.sampleIn n .main).sampleIn n .mizzen).loop l n = (s.sampleIn n l).loop l n := by
  cases l with
  | main => exact State.sampleIn_other n (s.sampleIn n .main) .mizzen n
  | mizzen =>
    have same : (s.sampleIn n .main).asideEngines = s.asideEngines := s.sampleIn_asideEngines n .main
    have loop : (s.sampleIn n .main).loop .mizzen n = s.loop .mizzen n := s.sampleIn_other n .main n
    simp only [State.sampleIn_loop, loop, State.computes_of_asideEngines same]
    congr 1
    split
    next h => rw [sampleLoop_of_asideEngines same h.1]
    next => rfl

theorem State.closePeriods_loop (s : State) (n : Nat) (l : Lane) :
    (s.closePeriods n).loop l n = (s.loop l n).closePeriod s.mastOfGrid := by
  cases l with
  | main => exact (State.loop_updLoop_other (s.updLoop .main n _) .mizzen n n _).trans (s.loop_updLoop .main n _)
  | mizzen =>
    exact (State.loop_updLoop _ .mizzen n _).trans
      (congrArg (fun x => x.closePeriod s.mastOfGrid) (s.loop_updLoop_other .main n n _))

/-- The loop after its phase 0: the period before it is closed, and the next one runs where it is sampled. -/
theorem State.nextPeriod_loop (s : State) (n : Nat) (l : Lane) :
    (((s.closePeriods n).sampleIn n .main).sampleIn n .mizzen).loop l n =
      { (s.loop l n).closePeriod s.mastOfGrid with
        run := if s.computes l = true ∧ descEnable (s.loop l n).desc = true
          then some (sampleLoop (s.refreshSignals l) l (s.loop l n).desc) else none } := by
  have same := s.closePeriods_asideEngines n
  simp only [State.sampleBoth_loop, State.sampleIn_loop, State.closePeriods_loop, State.computes_of_asideEngines same,
    Loop.closePeriod_desc, Loop.closePeriod_run]
  congr 1
  split
  next h => rw [sampleLoop_of_asideEngines same h.1]
  next => rfl

theorem State.nextPeriod_asideEngines (s : State) (n : Nat) :
    (((s.closePeriods n).sampleIn n .main).sampleIn n .mizzen).asideEngines = s.asideEngines :=
  (State.sampleIn_asideEngines _ _ _).trans ((State.sampleIn_asideEngines _ _ _).trans (State.closePeriods_asideEngines _ _))

/-! ### Starts and results (06 R179, R180) -/

theorem loopStart_head {s : State} {l : Lane} {pipe n : Nat} {rest : List Nat}
    (hw : (Tbl.getD (s.engine l).pipes pipe {}).waiting = n :: rest) (hc : s.computes l = true)
    (hp : (Tbl.getD (s.engine l).pipes pipe {}).lastS = 0 ∨ (Tbl.getD (s.engine l).pipes pipe {}).lastStart +
      (4 + 5 * (Tbl.getD (s.engine l).pipes pipe {}).lastS) * 2 ≤ s.now) :
    loopStart l pipe s =
      (s.updLoop l n fun x => { x with run := x.run.map fun v => { v with started := some s.now } }).updEngine l fun e =>
        { e with pipes := Tbl.put e.pipes pipe ⟨rest, s.now, descSections (s.loop l n).desc⟩ } := by
  have free : ((Tbl.getD (s.engine l).pipes pipe {}).lastS != 0 && decide (s.now <
      (Tbl.getD (s.engine l).pipes pipe {}).lastStart + (4 + 5 * (Tbl.getD (s.engine l).pipes pipe {}).lastS) * 2)) = false := by
    simpa only [Bool.and_eq_false_iff, bne_eq_false_iff_eq, decide_eq_false_iff_not, Nat.not_lt] using hp
  simp only [loopStart, hw, hc, free, Bool.not_true, Bool.or_self, Bool.false_eq_true, if_false]

theorem loopStartRead_computes {s : State} {l : Lane} (hc : s.computes l = true) (pipe : Nat)
    (found : List (Nat × BitVec 13)) : loopStartRead l pipe found s = loopStart l pipe (s.engineReads l found) := by
  rw [loopStartRead, if_pos hc]

theorem loopResultReady_ready {s : State} {l : Lane} {n at_ : Nat} {v : LoopRun} (hr : (s.loop l n).run = some v)
    (hs : v.started = some at_) (ho : v.output = none)
    (ht : at_ + (24 + 5 * descSections (s.loop l n).desc) * 2 ≤ s.now) :
    loopResultReady l n s = s.updLoop l n fun x => loopResult x v := by
  simp only [loopResultReady, hr, hs, ho, Nat.not_lt.2 ht, Option.isSome_none, decide_false, Bool.or_self, Bool.false_eq_true,
    if_false]

/-! ### Release edges (06 R181, R182) -/

/-- The release edge of the duty item is due. -/
def Loop.DutyDue (x : Loop) (v : LoopRun) (g : Nat) : Prop :=
  descDestKind x.desc = 1 ∧ v.dutyPast = false ∧ v.outAt ≤ g + 29

/-- The release edge of the signal record is due. -/
def Loop.SignalDue (x : Loop) (v : LoopRun) (g : Nat) : Prop :=
  descOutSignal x.desc ≠ 65535 ∧ v.sigPast = false ∧ v.outAt ≤ g + 22

theorem Loop.not_dutyDue {x : Loop} {v : LoopRun} {g : Nat} :
    ¬ x.DutyDue v g ↔ descDestKind x.desc ≠ 1 ∨ v.dutyPast = true ∨ g + 29 < v.outAt := by
  simp only [Loop.DutyDue, Classical.not_and_iff_not_or_not, Bool.not_eq_false, Nat.not_le, ne_eq]

theorem Loop.not_signalDue {x : Loop} {v : LoopRun} {g : Nat} :
    ¬ x.SignalDue v g ↔ descOutSignal x.desc = 65535 ∨ v.sigPast = true ∨ g + 22 < v.outAt := by
  simp only [Loop.SignalDue, Classical.not_and_iff_not_or_not, Bool.not_eq_false, Nat.not_le, ne_eq, Classical.not_not]

@[simp] theorem State.updLoop_grid (s : State) (l : Lane) (n : Nat) (f : Loop → Loop) : (s.updLoop l n f).grid = s.grid := by
  cases l <;> rfl

@[simp] theorem sendLoopDuty_grid (l : Lane) (n : Nat) (x : Loop) (g : Nat) (out : Int) (s : State) :
    (sendLoopDuty l n x g out s).grid = s.grid := by cases l <;> rfl

@[simp] theorem sendLoopDuty_loop (l y : Lane) (n m : Nat) (x : Loop) (g : Nat) (out : Int) (s : State) :
    (sendLoopDuty l n x g out s).loop y m = s.loop y m := State.updLane_loop _ _ _ _ _

section Release
variable {s : State} {l : Lane} {n : Nat} {v : LoopRun} (hr : (s.loop l n).run = some v)
include hr

theorem releaseDuty_notDue (h : ¬ (s.loop l n).DutyDue v s.grid) : releaseDuty l n s = s := by
  simp only [releaseDuty, hr, Loop.not_dutyDue.1 h, if_true]

theorem releaseDuty_sent (h : (s.loop l n).DutyDue v s.grid) {out : Int} (ho : v.output = some out) :
    releaseDuty l n s = (sendLoopDuty l n (s.loop l n) v.outAt out s).updLoop l n fun x =>
      { x with run := some { v with dutyPast := true }, itemsSent := (x.itemsSent + 1) % 4294967296 } := by
  have due := mt Loop.not_dutyDue.2 (not_not_intro h)
  simp only [releaseDuty, hr, due, ho, if_false]

theorem releaseDuty_missed (h : (s.loop l n).DutyDue v s.grid) (ho : v.output = none) :
    releaseDuty l n s = (missRelease l n v s).updLoop l n fun x =>
      { x with run := some { v with dutyPast := true, late := true } } := by
  have due := mt Loop.not_dutyDue.2 (not_not_intro h)
  simp only [releaseDuty, hr, due, ho, if_false]

theorem releaseSignal_notDue (h : ¬ (s.loop l n).SignalDue v s.grid) : releaseSignal l n s = s := by
  simp only [releaseSignal, hr, Loop.not_signalDue.1 h, if_true]

theorem releaseSignal_sent (h : (s.loop l n).SignalDue v s.grid) {out : Int} (ho : v.output = some out) :
    releaseSignal l n s = (sendLoopSignal l (s.loop l n).desc v.outAt out s).updLoop l n fun x =>
      { x with run := some { v with sigPast := true } } := by
  have due := mt Loop.not_signalDue.2 (not_not_intro h)
  simp only [releaseSignal, hr, due, ho, if_false]

theorem releaseSignal_missed (h : (s.loop l n).SignalDue v s.grid) (ho : v.output = none) :
    releaseSignal l n s = (missRelease l n v s).updLoop l n fun x =>
      { x with run := some { v with sigPast := true, late := true } } := by
  have due := mt Loop.not_signalDue.2 (not_not_intro h)
  simp only [releaseSignal, hr, due, ho, if_false]

/-- The duty item is sent while the signal record's edge is not due. -/
theorem loopOutputRelease_duty (h : (s.loop l n).DutyDue v s.grid) (hs : ¬ (s.loop l n).SignalDue v s.grid) {out : Int}
    (ho : v.output = some out) :
    loopOutputRelease l n s = (sendLoopDuty l n (s.loop l n) v.outAt out s).updLoop l n fun x =>
      { x with run := some { v with dutyPast := true }, itemsSent := (x.itemsSent + 1) % 4294967296 } := by
  rw [loopOutputRelease, releaseDuty_sent hr h ho]
  refine releaseSignal_notDue (by rw [State.loop_updLoop]) ?_
  simpa [Loop.SignalDue] using hs

theorem loopOutputRelease_signal (h : (s.loop l n).SignalDue v s.grid) (hd : ¬ (s.loop l n).DutyDue v s.grid) {out : Int}
    (ho : v.output = some out) :
    loopOutputRelease l n s = (sendLoopSignal l (s.loop l n).desc v.outAt out s).updLoop l n fun x =>
      { x with run := some { v with sigPast := true } } := by
  rw [loopOutputRelease, releaseDuty_notDue hr hd, releaseSignal_sent hr h ho]

end Release

/-! #### A late result (06 R182) -/

/-- A release edge of the period has passed with no result: since `s` it is counted once, and nothing is sent. -/
structure CountedLate (s t : State) (l : Lane) (n : Nat) : Prop where
  run        : ∃ w, (t.loop l n).run = some w ∧ w.output = none ∧ w.late = true
  counted    : (t.loop l n).lateOutputs = sat32 (s.loop l n).lateOutputs 1
  itemsSent  : (t.loop l n).itemsSent = (s.loop l n).itemsSent
  items      : (t.lane l).items = (s.lane l).items
  deliveries : (t.lane l).deliveries = (s.lane l).deliveries

/-- The first edge counts the late result in the loop, and writes to its lane a trouble entry at most. -/
theorem missRelease_first {v : LoopRun} (hl : v.late = false) (l : Lane) (n : Nat) (s : State) :
    (missRelease l n v s).loop l n = { s.loop l n with lateOutputs := sat32 (s.loop l n).lateOutputs 1 } ∧
    ∃ log next, (missRelease l n v s).lane l = { s.lane l with trouble := log, troubleNext := next } := by
  have loop_withXt (t : State) (xt : XtSt) : ({ t with xt := xt } : State).loop l n = t.loop l n := by cases l <;> rfl
  simp only [missRelease, hl, Bool.false_eq_true, if_false, loop_withXt, State.lane_withXt]
  refine ⟨?_, ?_⟩
  · rw [State.logTrouble, State.updLane_loop, State.loop_updLoop]
  · obtain ⟨log, next, logged⟩ := State.logTrouble_lane (s.updLoop l n fun x => { x with lateOutputs := sat32 x.lateOutputs 1 })
      l 2 0 _
    exact ⟨log, next, logged.trans (by rw [State.updLoop, State.updEngine_lane])⟩

theorem CountedLate.of_missRelease {s : State} {l : Lane} {n : Nat} {v w : LoopRun} (hl : v.late = false)
    (hw : w.late = true) (ho : w.output = none) :
    CountedLate s ((missRelease l n v s).updLoop l n fun x => { x with run := some w }) l n := by
  obtain ⟨loop, log, next, lane⟩ := missRelease_first hl l n s
  have kept : ((missRelease l n v s).updLoop l n fun x => { x with run := some w }).lane l = _ :=
    (State.updEngine_lane _ _ _ _).trans lane
  refine ⟨⟨w, ?_, ho, hw⟩, ?_, ?_, ?_, ?_⟩
  · rw [State.loop_updLoop]
  · rw [State.loop_updLoop, loop]
  · rw [State.loop_updLoop, loop]
  · rw [kept]
  · rw [kept]

/-- The edge of the signal record counts nothing more. -/
theorem CountedLate.releaseSignal {s t : State} {l : Lane} {n : Nat} (h : CountedLate s t l n) :
    CountedLate s (releaseSignal l n t) l n := by
  obtain ⟨w, run, output, late⟩ := h.run
  by_cases due : (t.loop l n).SignalDue w t.grid
  · have again : missRelease l n w t = t := if_pos late
    rw [releaseSignal_missed run due output, again]
    have lane : (t.updLoop l n fun x => { x with run := some { w with sigPast := true, late := true } }).lane l = t.lane l :=
      t.updEngine_lane _ _ _
    refine ⟨⟨_, congrArg Loop.run (State.loop_updLoop _ _ _ _), output, rfl⟩, ?_, ?_, ?_, ?_⟩
    · rw [State.loop_updLoop]; exact h.counted
    · rw [State.loop_updLoop]; exact h.itemsSent
    · rw [lane]; exact h.items
    · rw [lane]; exact h.deliveries
  · rw [releaseSignal_notDue run due]
    exact h

theorem loopOutputRelease_late {s : State} {l : Lane} {n : Nat} {v : LoopRun} (hr : (s.loop l n).run = some v)
    (ho : v.output = none) (hl : v.late = false)
    (hd : (s.loop l n).DutyDue v s.grid ∨ (s.loop l n).SignalDue v s.grid) :
    CountedLate s (loopOutputRelease l n s) l n := by
  by_cases duty : (s.loop l n).DutyDue v s.grid
  · rw [loopOutputRelease, releaseDuty_missed hr duty ho]
    refine CountedLate.releaseSignal ?_
    exact .of_missRelease hl rfl ho
  · rw [loopOutputRelease, releaseDuty_notDue hr duty, releaseSignal_missed hr (hd.resolve_left duty) ho]
    exact .of_missRelease hl rfl ho

/-! ### The obligation -/

/-- Settles O22: the reads and the clearing run where they are answered; each event of a period by its own lemma. -/
theorem controlCommandsComplete : Obligations.ControlCommandsComplete := by
  refine ⟨?loop, ?status, ?clear, ?period, ?start, ?startReads, ?result, ?release, ?late⟩
  case loop => exact fun dt s r z ht ha => ctrlGetLoop_requests.exec_read ht ha rfl rfl rfl
  case status => exact fun dt s r z ht ha => ctrlGetStatus_requests.exec_read ht ha rfl rfl rfl
  case clear => exact fun dt s r z ht ha => ctrlClearCounters_requests.exec_done ht ha rfl rfl rfl
  case period =>
    intro dt s n ht ha hs hm hg
    have due := loopPeriodBoundary_due (s := s.elapse dt) ha hs hm (by simpa using hg)
    have same := State.nextPeriod_asideEngines (s.elapse dt) n
    have loop := State.nextPeriod_loop (s.elapse dt) n
    refine ⟨_, runTaking_to ht due, (congrArg State.staged same :), (congrArg State.mem same :), (congrArg State.time same :),
      fun l => ?_, fun l v hv => ?_⟩
    · simpa using congrArg Loop.run (loop l)
    · rw [loop l, State.elapse_loop, Loop.closePeriod_some hv]
      exact ⟨rfl, rfl, rfl, rfl, rfl⟩
  case start =>
    intro dt s l pipe n rest ht hw hc hp
    have begins := loopStart_head (s := s.elapse dt) (by simpa using hw) (by simpa using hc) (by simpa using hp)
    rw [State.elapse_loop] at begins
    exact runCmd_to ht ((loopStartRead_computes (by simpa using hc) pipe []).trans begins)
  case startReads =>
    exact fun dt s l pipe found ht hc => runCmd_to ht (loopStartRead_computes (by simpa using hc) pipe found)
  case result =>
    exact fun dt s l n v at_ ht hr hs ho hd =>
      runCmd_to ht (loopResultReady_ready (by simpa using hr) hs ho (by simpa using hd))
  case release =>
    intro dt s l n v out ht hr ho x u
    have hr' : (u.loop l n).run = some v := by simpa [u] using hr
    have same : u.loop l n = x := s.elapse_loop dt l n
    refine ⟨fun hk hp hd hs => ?duty, fun hk hp hd hs => ?signal⟩
    case duty =>
      have sent := loopOutputRelease_duty (s := u) hr' (same ▸ ⟨hk, hp, hd⟩) (same ▸ Loop.not_signalDue.2 hs) ho
      exact runCmd_to ht (same ▸ sent)
    case signal =>
      have past : ¬ x.DutyDue v u.grid := Loop.not_dutyDue.2 (hs.imp_right .inl)
      have sent := loopOutputRelease_signal (s := u) hr' (same ▸ ⟨hk, hp, hd⟩) (same ▸ past) ho
      exact runCmd_to ht (same ▸ sent)
  case late =>
    intro dt s l n v ht hr ho hl d g hd
    have same := s.elapse_loop dt l n
    have late := loopOutputRelease_late (s := s.elapse dt) (by rw [same, hr]) ho hl (by rw [same]; exact hd)
    obtain ⟨⟨w, run, -, isLate⟩, counted, itemsSent, items, deliveries⟩ := late
    rw [same] at counted itemsSent
    rw [State.elapse_lane] at items deliveries
    exact ⟨_, w, runCmd_next ht _, run, isLate, counted, itemsSent, items, deliveries⟩

end Sys2Proof.Machine

namespace Sys2Proof.Machine
open Sys2Proof

/-! ### Fields of a run of bytes (R9) -/

@[simp] theorem length_putLE (n v : Nat) : (putLE n v).length = n := by
  induction n generalizing v with
  | zero => rfl
  | succ n ih => rw [putLE, List.length_cons, ih]

@[simp] theorem length_zeros (n : Nat) : (zeros n).length = n := List.length_replicate

theorem leNat_putLE (n v : Nat) : leNat (putLE n v) = v % 256 ^ n := by
  induction n generalizing v with
  | zero => simp [putLE, leNat, Nat.mod_one]
  | succ n ih => rw [putLE, leNat, ih, BitVec.toNat_ofNat, Nat.pow_succ' (m := 256), Nat.mod_mul]

/-- What follows a field does not change it. -/
theorem fieldAt_append {a : Bytes} (b : Bytes) {off n : Nat} (h : off + n ≤ a.length) :
    fieldAt (a ++ b) off n = fieldAt a off n := by
  rw [fieldAt, fieldAt, List.drop_append_of_le_length (by omega), List.take_append_of_le_length (by simp; omega)]

/-- The field that was put last. -/
theorem fieldAt_putLE (a : Bytes) (n v : Nat) : fieldAt (a ++ putLE n v) a.length n = v % 256 ^ n := by
  rw [fieldAt, List.drop_left, List.take_of_length_le (by simp), leNat_putLE]

/-! ### Commands of the power channels (07 R214, 08 R223, R225, R234, R239, R242) -/

theorem chanGetConfig_requests : Requests opChanGetConfig .chanGetConfig := fun _ _ _ => rfl
theorem chanGetStatus_requests : Requests opChanGetStatus .chanGetStatus := fun _ _ _ => rfl
theorem chanGetSupply_requests : Requests opChanGetSupply .chanGetSupply := fun _ _ _ => rfl
theorem chanClearCounters_requests : Requests opChanClearCounters .chanClearCounters := fun _ _ _ => rfl
theorem chanGetProtection_requests : Requests opChanGetProtection .chanGetProtection := fun _ _ _ => rfl
theorem chanReleaseLatch_requests : Requests opChanReleaseLatch .chanReleaseLatch := fun _ _ _ => rfl
theorem chanRefillRetry_requests : Requests opChanRefillRetry .chanRefillRetry := fun _ _ _ => rfl
theorem chanStopReset_requests : Requests opChanStopReset .chanStopReset := fun _ _ _ => rfl
theorem chanGetGeneration_requests : Requests opChanGetGeneration .chanGetGeneration := fun _ _ _ => rfl
theorem chanAdopt_requests : Requests opChanAdopt .chanAdopt := fun _ _ _ => rfl

theorem opChanClearCounters_run_one {u : State} {r : Request} (h : r.target ≠ 255) :
    opChanClearCounters.run u r = (u.updChan r.target Chan.clearCounters, some (stOk, [])) := if_neg h

/-- `CHAN_GET_PROTECTION` answers 32 bytes, with the state code first and the generation at 8 (Table 08-7). -/
theorem opChanGetProtection_run (u : State) (r : Request) : ∃ p, opChanGetProtection.run u r = (u, some (stOk, p)) ∧
    p.length = 32 ∧ u8 p 0 = u.chanCode r.target % 256 ∧ u32 p 8 = u.power.generation % 4294967296 := by
  refine ⟨_, rfl, ?length, ?code, ?generation⟩
  case length => simp
  case code =>
    simp (disch := simp) only [u8, fieldAt_append]
    exact fieldAt_putLE [] 1 _
  case generation =>
    simp (disch := simp) only [u32, fieldAt_append]
    exact fieldAt_putLE _ 4 _

section Release
variable {u : State} {r : Request}

/-- The latches asked for that are set go, each recorded, where the thermal one may (08 R225). -/
theorem opChanReleaseLatch_run_cool {t f : Bool} (ht : (flagAt r.payload 0 0 && (u.chan (u.head r.target)).thermalLatch) = t)
    (hf : (flagAt r.payload 0 1 && (u.chan (u.head r.target)).freewheelLatch) = f)
    (hc : t = true → (u.chan (u.head r.target)).temperature < 1400) (wanted : t = true ∨ f = true) :
    opChanReleaseLatch.run u r =
      (((u.bumpGen 1).clearHold (u.head r.target) fun h =>
        { h with thermalLatch := h.thermalLatch && !t, freewheelLatch := h.freewheelLatch && !f }).raise 0x0617 1
          (u.head r.target) (details [(packFlags [t, f] : Int), (u.chan (u.head r.target)).temperature]),
        some (stOk, [])) := by
  have cool : (t && decide (1400 ≤ (u.chan (u.head r.target)).temperature)) = false := by simpa using hc
  have goes : (t && !decide (1400 ≤ (u.chan (u.head r.target)).temperature)) = t := by simpa using hc
  have any : (!t && !f) = false := by
    obtain thermal | freewheel := wanted
    · rw [thermal, Bool.not_true, Bool.false_and]
    · rw [freewheel, Bool.not_true, Bool.and_false]
  simp only [opChanReleaseLatch, ht, hf, cool, goes, any, Bool.false_eq_true, if_false]

/-- The thermal latch of a hot channel stays (08 R225). -/
theorem opChanReleaseLatch_run_hot (ht : (flagAt r.payload 0 0 && (u.chan (u.head r.target)).thermalLatch) = true)
    (hf : (flagAt r.payload 0 1 && (u.chan (u.head r.target)).freewheelLatch) = false)
    (hh : 1400 ≤ (u.chan (u.head r.target)).temperature) : opChanReleaseLatch.run u r = (u, some (0x42, [])) := by
  simp only [opChanReleaseLatch, ht, hf, hh, decide_true, Bool.not_true, Bool.and_false, Bool.not_false, Bool.and_true,
    if_true]

/-- The block accepts a release only where a latch that is asked for is set. -/
theorem opChanReleaseLatch_check {z : Resolved} (h : opChanReleaseLatch.check u r z = none) :
    (flagAt r.payload 0 0 && (u.chan (u.head r.target)).thermalLatch) = true ∨
      (flagAt r.payload 0 1 && (u.chan (u.head r.target)).freewheelLatch) = true := by
  rw [← Bool.or_eq_true]
  refine Decidable.byContradiction fun unset => ?_
  exact absurd ((if_neg unset).symm.trans h) (Option.some_ne_none _)

end Release

theorem opChanStopReset_run_held {u : State} {r : Request} (h : u.power.stopAsserted = true) :
    opChanStopReset.run u r = (u, some (0x44, [])) := if_pos h

theorem opChanStopReset_run_open {u : State} {r : Request} (h : u.power.stopAsserted = false) :
    opChanStopReset.run u r =
      ((u.stopped.foldl (fun t c => t.clearHold c (fun h => { h with stopHold := false })) (u.bumpGen 1)).raise 0x061B 1 255
        (details [(u.stopped.length : Int)]), some (stOk, [])) := if_neg (by simp [h])

section Adopt
variable {u : State} {r : Request} {l : Lane} (hp : r.path = .firmware l)
include hp

theorem opChanAdopt_run_other (h : u32 r.payload 0 ≠ u.power.generation) :
    opChanAdopt.run u r = (u, some (0x45, generationReply u)) := by
  simp only [opChanAdopt, hp]
  exact if_pos h

variable (h : u32 r.payload 0 = u.power.generation)
include h

theorem opChanAdopt_run_same : opChanAdopt.run u r =
    let v := u.updXt l fun x => { x with adopted := true }
    if u.adopted l then (v, some (stOk, generationReply v))
    else
      let w := ((v.setAdopted l true).bumpGen 1).raise 0x061C 1 l.code
        (details [(l.code : Int), toSigned 32 ((u.power.generation + 1) % 4294967296)])
      (w, some (stOk, generationReply w)) := by
  simp only [opChanAdopt, hp]
  rw [if_neg (not_not_intro h)]
  cases l <;> rfl

end Adopt

/-- Settles O24: the reads and the commands that always run by their own equation, each other one by its outcome. -/
theorem channelCommandsComplete : Obligations.ChannelCommandsComplete := by
  refine ⟨?config, ?status, ?supply, ?protection, ?generation, ?clear, ?release, ?refill, ?reset, ?adopt⟩
  case config => exact fun dt s r z ht ha => chanGetConfig_requests.exec_read ht ha rfl rfl rfl
  case status => exact fun dt s r z ht ha => chanGetStatus_requests.exec_read ht ha rfl rfl rfl
  case supply => exact fun dt s r z ht ha => chanGetSupply_requests.exec_read ht ha rfl rfl rfl
  case protection =>
    intro dt s r z ht ha u
    obtain ⟨p, run, fields⟩ := opChanGetProtection_run u r
    exact ⟨p, chanGetProtection_requests.exec_read ht ha rfl rfl run, fields⟩
  case generation => exact fun dt s r z ht ha => chanGetGeneration_requests.exec_read ht ha rfl rfl rfl
  case clear =>
    exact fun dt s r z ht ha h => chanClearCounters_requests.exec_done ht ha rfl rfl (opChanClearCounters_run_one h)
  case release =>
    intro dt s r z ht ha u c h t f
    exact ⟨fun cool => chanReleaseLatch_requests.exec_done ht ha rfl rfl
        (opChanReleaseLatch_run_cool rfl rfl cool (opChanReleaseLatch_check ha.check)),
      fun wanted rest hot => chanReleaseLatch_requests.exec_failed ht ha rfl
        (opChanReleaseLatch_run_hot wanted rest hot) (by decide)⟩
  case refill => exact fun dt s r z ht ha => chanRefillRetry_requests.exec_done ht ha rfl rfl rfl
  case reset =>
    exact fun dt s r z ht ha => ⟨
      fun held => chanStopReset_requests.exec_failed ht ha rfl (opChanStopReset_run_held held) (by decide),
      fun open_ => chanStopReset_requests.exec_done ht ha rfl rfl (opChanStopReset_run_open open_)⟩
  case adopt =>
    intro dt s r z l ht ha hp u
    exact ⟨fun other => chanAdopt_requests.exec_failed ht ha rfl (opChanAdopt_run_other hp other) (by decide),
      fun same => ⟨
        fun again => chanAdopt_requests.exec_done ht ha rfl rfl ((opChanAdopt_run_same hp same).trans (if_pos again)),
        fun first => chanAdopt_requests.exec_done ht ha rfl rfl
          ((opChanAdopt_run_same hp same).trans (if_neg (by simp [first])))⟩⟩

end Sys2Proof.Machine

namespace Sys2Proof.Machine
open Sys2Proof

/-! ### What the power-channel block leaves alone (01 R18, 03 R72) -/

/-- `π` reads nothing that the power-channel block changes of itself, nor what its productions and records change: the lanes and
the recorder. -/
structure ChannelFrame {α : Type} (π : State → α) : Prop where
  power  : ∀ (s : State) x, π { s with power := x } = π s
  main   : ∀ (s : State) x, π { s with main := x } = π s
  mizzen : ∀ (s : State) x, π { s with mizzen := x } = π s
  rec_   : ∀ (s : State) x, π { s with rec_ := x } = π s

section Lanes
variable {α : Type} {π : State → α} (main : ∀ (s : State) x, π { s with main := x } = π s)
  (mizzen : ∀ (s : State) x, π { s with mizzen := x } = π s) (s : State)
include main mizzen

theorem State.updLanes_frame (f : LaneSt → LaneSt) : π (s.updLanes f) = π s :=
  (mizzen { s with main := f s.main } _).trans (main s _)

/-- A production changes the lanes at most. -/
theorem State.publish_frame (code value stamp deliver : Nat) : π (s.publish code value stamp deliver) = π s :=
  foldl_frame (fun t _ => t.updLanes_frame main mizzen _) _ _

end Lanes

section Published
variable (s : State) (code : Nat) (v : Int) (value stamp deliver : Nat)

@[simp] theorem State.publish_power : (s.publish code value stamp deliver).power = s.power :=
  s.publish_frame (fun _ _ => rfl) (fun _ _ => rfl) _ _ _ _

@[simp] theorem State.publishI_power : (s.publishI code v stamp deliver).power = s.power := s.publish_power _ _ _ _

@[simp] theorem State.raise_power (source resource : Nat) (d : Bytes) : (s.raise code source resource d).power = s.power := by
  obtain ⟨x, raised⟩ := s.raise_eq code source resource d
  rw [raised]

end Published

namespace ChannelFrame
variable {α : Type} {π : State → α} (h : ChannelFrame π)
include h

theorem updChan (s : State) (c : Nat) (f : Chan → Chan) : π (s.updChan c f) = π s := h.power _ _

theorem raise (s : State) (code source resource : Nat) (d : Bytes) : π (s.raise code source resource d) = π s := by
  obtain ⟨x, raised⟩ := s.raise_eq code source resource d
  rw [raised, h.rec_]

theorem publish (s : State) (code value stamp deliver : Nat) : π (s.publish code value stamp deliver) = π s :=
  s.publish_frame h.main h.mizzen _ _ _ _

theorem publishI (s : State) (code : Nat) (v : Int) (stamp deliver : Nat) : π (s.publishI code v stamp deliver) = π s :=
  h.publish _ _ _ _ _

theorem changeChan (s : State) (c : Nat) (f : Chan → Chan) : π (s.changeChan c f) = π s :=
  ite_frame ((h.power _ _).trans (h.updChan _ _ _)) (h.updChan _ _ _)

theorem clearOdd (s : State) (c : Nat) : π (s.clearOdd c) = π s := ite_frame (h.updChan _ _ _) rfl

theorem openLoadCheck (s : State) (c : Nat) : π (Machine.openLoadCheck c s) = π s :=
  ite_frame (ite_frame ((h.raise _ _ _ _ _).trans (h.updChan _ _ _)) (h.updChan _ _ _)) rfl

end ChannelFrame

theorem time_channelFrame : ChannelFrame State.time := ⟨fun _ _ => rfl, fun _ _ => rfl, fun _ _ => rfl, fun _ _ => rfl⟩
theorem mem_channelFrame : ChannelFrame State.mem := ⟨fun _ _ => rfl, fun _ _ => rfl, fun _ _ => rfl, fun _ _ => rfl⟩
theorem grid_channelFrame : ChannelFrame State.grid := ⟨fun _ _ => rfl, fun _ _ => rfl, fun _ _ => rfl, fun _ _ => rfl⟩
theorem now_channelFrame : ChannelFrame State.now := ⟨fun _ _ => rfl, fun _ _ => rfl, fun _ _ => rfl, fun _ _ => rfl⟩
theorem gateOff_channelFrame : ChannelFrame State.gateOff :=
  ⟨fun _ _ => rfl, fun _ _ => rfl, fun _ _ => rfl, fun _ _ => rfl⟩

/-! ### What a channel is after a change of the block -/

section Channels
variable (s : State) (c d : Nat)

theorem State.chan_of_power {t : State} (h : t.power = s.power) : t.chan d = s.chan d := by rw [State.chan, State.chan, h]

theorem State.updChan_congr {s : State} {c : Nat} {f g : Chan → Chan} (h : f (s.chan c) = g (s.chan c)) :
    s.updChan c f = s.updChan c g :=
  congrArg (fun x => { s with power := { s.power with chans := Tbl.put s.power.chans c x } }) h

@[simp] theorem State.elapse_chan (dt : Nat) : (s.elapse dt).chan d = s.chan d := rfl

@[simp] theorem State.raise_chan (code source resource : Nat) (x : Bytes) :
    (s.raise code source resource x).chan d = s.chan d := s.chan_of_power d (s.raise_power _ _ _ _)

@[simp] theorem State.publish_chan (code value stamp deliver : Nat) : (s.publish code value stamp deliver).chan d = s.chan d :=
  s.chan_of_power d (s.publish_power _ _ _ _)

@[simp] theorem State.publishI_chan (code : Nat) (v : Int) (stamp deliver : Nat) :
    (s.publishI code v stamp deliver).chan d = s.chan d := s.publish_chan _ _ _ _ _

@[simp] theorem State.bumpGen_chan (k : Nat) : (s.bumpGen k).chan d = s.chan d := rfl

@[simp] theorem State.changeChan_chan (f : Chan → Chan) : (s.changeChan c f).chan d = (s.updChan c f).chan d := by
  unfold State.changeChan
  dsimp only
  split
  · rfl
  · rfl

/-- The odd half of a pair is the one channel that may lose its over-limit count. -/
theorem State.clearOdd_chan {s : State} {c d : Nat} (h : d ≠ c + 1 ∨ cfgPaired (s.chan c).cfg = false) :
    (s.clearOdd c).chan d = s.chan d := by
  unfold State.clearOdd
  split
  case isTrue paired => exact State.chan_updChan_ne _ (h.resolve_right (by simp [paired])) _
  case isFalse => rfl

@[simp] theorem State.clearOdd_chan_self : (s.clearOdd c).chan c = s.chan c := State.clearOdd_chan (.inl (Nat.ne_add_one c))

end Channels

end Sys2Proof.Machine

namespace Sys2Proof.Machine
open Sys2Proof

/-! ### The period that starts (07 R197 to R206, R212, R213) -/

section Period
variable (s : State) (c : Nat) (h : Chan)

/-- The effective duty without its sign, and whether 100% limited it (R205, R206). -/
def State.effective : Nat × Bool :=
  if cfgComp h.cfg then
    compensate (dutyNow h s.now).1.natAbs (cfgVref h.cfg) (railVoltage (s.supply (chanSupply c)) s.grid (cfgVref h.cfg))
  else ((dutyNow h s.now).1.natAbs, false)

/-- The effective duty: it has the sign of the set duty. -/
def State.effectiveDuty : Int := if (dutyNow h s.now).1 < 0 then -((s.effective c h).1 : Int) else (s.effective c h).1

/-- The duty drives the channel: one that is not 0, and on a bridge any that an item has set (R213). -/
def State.driven : Bool := s.mayDrive h && (s.effectiveDuty c h != 0 || (chanClass c == 2 && h.itemSeen))

/-- The channel drives in the period: a bridge that drives and may goes on (R213). -/
def State.drives : Bool := s.driven c h || (s.mayDrive h && chanClass c == 2 && h.base == .driving)

/-- The on-time where the channel drives (R197). -/
def State.periodOn : Nat := onTime (s.effective c h).1 (max (cfgPeriod h.cfg) 1) (minPulse c h.cfg)

/-- The channel in the period that starts, but for the mark of an edge. -/
def State.newPeriod : Chan :=
  { h with
    dutySet := (dutyNow h s.now).1
    dutyEff := s.effectiveDuty c h
    pending := (dutyNow h s.now).2
    prevDuty := s.effectiveDuty c h
    compLimited := (s.effective c h).2
    compLimits := sat32 h.compLimits (b2n (s.effective c h).2)
    base := if s.drives c h then .driving else if h.base = .driving then .off else h.base
    overCount := if s.drives c h then h.overCount else 0
    inrushDue := if s.driven c h && h.base != .driving then
        (if protInrushMs h.prot = 0 then none else some (s.now + protInrushMs h.prot * 1000000))
      else h.inrushDue
    onNs := if s.drives c h then s.periodOn c h else 0
    periodAt := s.grid
    onAt := if cfgCentre h.cfg then s.grid + (max (cfgPeriod h.cfg) 1 - s.periodOn c h) / 2 else s.grid
    periodTick := s.now
    periodNs := max (cfgPeriod h.cfg) 1
    sumCurrent := 0
    numCurrent := 0 }

/-- The duty changes its sign against the period before (R200). -/
def State.reverses : Bool :=
  (decide (0 < h.prevDuty) && decide (s.effectiveDuty c h < 0)) || (decide (h.prevDuty < 0) && decide (0 < s.effectiveDuty c h))

/-- The channel enters the period, and what it drove goes off where it does not drive. -/
def State.enterPeriod : State :=
  let t := s.updChan c (s.newPeriod c)
  if s.drives c (s.chan c) then t else t.clearOdd c

/-- The period with its edge marked, on both halves of a pair (R199, R200). -/
def State.markPeriod : State :=
  let h := s.chan c
  let t := State.markEdge s (cfgPaired h.cfg && s.reverses c h) (s.enterPeriod c) c
  if cfgPaired h.cfg then State.markEdge s (s.reverses c h) t (c + 1) else t

/-- A period starts on a channel whose load has been checked, and its effective duty is published (R210). -/
def State.startPeriod : State :=
  let h := s.chan c
  if published h.cfg (s.grid / max (cfgPeriod h.cfg) 1) then
    (s.markPeriod c).publishI (0x1700 + c) (s.effectiveDuty c h) s.grid (s.grid + 250)
  else s.markPeriod c

end Period

/-! ### The check for an open load (07 R212) -/

section OpenLoad
variable (s : State) (c : Nat)

theorem openLoadCheck_chan : ∃ b, (openLoadCheck c s).chan c = { s.chan c with openLoad := b } := by
  unfold openLoadCheck
  dsimp only
  split
  · split
    · exact ⟨_, (State.raise_chan _ _ _ _ _ _).trans (State.chan_updChan _ _ _)⟩
    · exact ⟨_, State.chan_updChan _ _ _⟩
  · exact ⟨_, rfl⟩

theorem openLoadCheck_power : ∃ x, (openLoadCheck c s).power = { s.power with chans := x } := by
  unfold openLoadCheck
  dsimp only
  split
  · split
    · exact ⟨_, State.raise_power _ _ _ _ _⟩
    · exact ⟨_, rfl⟩
  · exact ⟨_, rfl⟩

theorem openLoadCheck_off (h : cfgOpenLoad (s.chan c).cfg = 0) : openLoadCheck c s = s := if_neg (by simp [h])

/-- The check changes nothing that the period depends on. -/
theorem openLoadCheck_newPeriod (h : Chan) : (openLoadCheck c s).newPeriod c h = s.newPeriod c h := by
  obtain ⟨x, power⟩ := openLoadCheck_power s c
  have now : (openLoadCheck c s).now = s.now := now_channelFrame.openLoadCheck s c
  have grid : (openLoadCheck c s).grid = s.grid := grid_channelFrame.openLoadCheck s c
  have gate : (openLoadCheck c s).gateOff = s.gateOff := gateOff_channelFrame.openLoadCheck s c
  have supply : (openLoadCheck c s).supply = s.supply := funext fun n => by rw [State.supply, State.supply, power]
  have effective : (openLoadCheck c s).effective c h = s.effective c h := by
    rw [State.effective, State.effective, now, grid, supply]
  have duty : (openLoadCheck c s).effectiveDuty c h = s.effectiveDuty c h := by
    rw [State.effectiveDuty, State.effectiveDuty, effective, now]
  have may : (openLoadCheck c s).mayDrive h = s.mayDrive h := by
    rw [State.mayDrive, State.mayDrive, State.hasHold, State.hasHold, gate]
  have driven : (openLoadCheck c s).driven c h = s.driven c h := by rw [State.driven, State.driven, duty, may]
  have drives : (openLoadCheck c s).drives c h = s.drives c h := by rw [State.drives, State.drives, driven, may]
  have on : (openLoadCheck c s).periodOn c h = s.periodOn c h := by rw [State.periodOn, State.periodOn, effective]
  rw [State.newPeriod, State.newPeriod, now, grid, effective, duty, driven, drives, on]

end OpenLoad

/-! ### What a period start leaves -/

section Starts
variable (s : State) (c : Nat)

theorem State.markEdge_chan_ne (t : State) (r : Bool) {d : Nat} (h : d ≠ c) : (State.markEdge s r t c).chan d = t.chan d :=
  State.chan_updChan_ne _ h _

@[simp] theorem State.enterPeriod_chan : (s.enterPeriod c).chan c = s.newPeriod c (s.chan c) := by
  unfold State.enterPeriod
  dsimp only
  split
  · exact State.chan_updChan _ _ _
  · exact (State.clearOdd_chan_self _ _).trans (State.chan_updChan _ _ _)

theorem State.markPeriod_chan : ∃ e, (s.markPeriod c).chan c = { s.newPeriod c (s.chan c) with edge := e } := by
  have marked (r : Bool) : ∃ e, (State.markEdge s r (s.enterPeriod c) c).chan c = { s.newPeriod c (s.chan c) with edge := e } :=
    ⟨_, (State.chan_updChan _ _ _).trans (by rw [s.enterPeriod_chan])⟩
  unfold State.markPeriod
  dsimp only
  split
  · simpa only [State.markEdge_chan_ne _ _ _ _ (Nat.ne_add_one c)] using marked _
  · exact marked _

theorem State.startPeriod_chan (d : Nat) : (s.startPeriod c).chan d = (s.markPeriod c).chan d := by
  unfold State.startPeriod
  dsimp only
  split
  · exact State.publishI_chan _ _ _ _ _ _
  · rfl

/-- Of the other channels only the odd half of a pair takes part in the period. -/
theorem State.startPeriod_chan_ne {d : Nat} (hd : d ≠ c) (ho : d ≠ c + 1 ∨ cfgPaired (s.chan c).cfg = false) :
    (s.startPeriod c).chan d = s.chan d := by
  have updated : (s.updChan c (s.newPeriod c)).chan d = s.chan d := State.chan_updChan_ne _ hd _
  have entered : (s.enterPeriod c).chan d = s.chan d := by
    unfold State.enterPeriod
    dsimp only
    split
    · exact updated
    · exact (State.clearOdd_chan (by rw [State.chan_updChan]; exact ho)).trans updated
  have marked (r : Bool) : (State.markEdge s r (s.enterPeriod c) c).chan d = s.chan d :=
    (State.markEdge_chan_ne _ _ _ _ hd).trans entered
  rw [State.startPeriod_chan]
  unfold State.markPeriod
  dsimp only
  split
  case isTrue paired => exact (State.markEdge_chan_ne _ _ _ _ (ho.resolve_right (by simp [paired]))).trans (marked _)
  case isFalse => exact marked _

/-- Nothing but channels and lanes changes. -/
theorem State.startPeriod_frame {α : Type} {π : State → α}
    (chans : ∀ (s : State) x, π { s with power := { s.power with chans := x } } = π s)
    (main : ∀ (s : State) x, π { s with main := x } = π s) (mizzen : ∀ (s : State) x, π { s with mizzen := x } = π s) :
    π (s.startPeriod c) = π s := by
  have entered : π (s.enterPeriod c) = π s := ite_frame (chans _ _) ((ite_frame (chans _ _) rfl).trans (chans _ _))
  have marked : π (s.markPeriod c) = π s :=
    ite_frame ((chans _ _).trans ((chans _ _).trans entered)) ((chans _ _).trans entered)
  exact ite_frame ((State.publish_frame main mizzen _ _ _ _ _).trans marked) marked

end Starts

section Begins
variable {s : State} {c : Nat}

theorem State.periodBegins_of {g : Nat} (hg : s.grid = g) (mode : cfgMode (s.chan c).cfg = 1) (even : s.isOddOfPair c = false)
    (on : s.domain 1 = true) (swapped : s.majorDue = false) (hp : 0 < cfgPeriod (s.chan c).cfg)
    (first : cfgPhase (s.chan c).cfg ≤ g) (due : (g - cfgPhase (s.chan c).cfg) % cfgPeriod (s.chan c).cfg = 0)
    (ended : (s.chan c).periodTick + (s.chan c).periodNs ≤ s.now) : s.periodBegins c = true := by
  subst hg
  have period : max (cfgPeriod (s.chan c).cfg) 1 = cfgPeriod (s.chan c).cfg := Nat.max_eq_left hp
  simp [State.periodBegins, mode, even, on, swapped, first, period, due, ended]

theorem pwmPeriodStart_gateOff (hb : s.periodBegins c = true) (hd : s.domain 15 = false) :
    pwmPeriodStart c s =
      s.updChan c fun h => { h with dutySet := (dutyNow h s.now).1, pending := (dutyNow h s.now).2 } := by
  rw [pwmPeriodStart, if_neg (by simp [hb]), if_pos (by simp [hd])]

theorem pwmPeriodStart_starts (hb : s.periodBegins c = true) (hd : s.domain 15 = true) :
    pwmPeriodStart c s = (openLoadCheck c s).startPeriod c := by
  obtain ⟨b, chan⟩ := openLoadCheck_chan s c
  have grid : (openLoadCheck c s).grid = s.grid := grid_channelFrame.openLoadCheck s c
  have cfg : ((openLoadCheck c s).chan c).cfg = (s.chan c).cfg := by rw [chan]
  rw [pwmPeriodStart, if_neg (by simp [hb]), if_neg (by simp [hd])]
  dsimp only
  rw [← cfg, ← grid]
  rfl

/-- The channel in the period that has started: the check before it and the mark of its edge are all that is added. -/
theorem pwmPeriodStart_chan (hb : s.periodBegins c = true) (hd : s.domain 15 = true) :
    ∃ b e, (pwmPeriodStart c s).chan c = { s.newPeriod c (s.chan c) with openLoad := b, edge := e } := by
  obtain ⟨b, checked⟩ := openLoadCheck_chan s c
  obtain ⟨e, marked⟩ := (openLoadCheck c s).markPeriod_chan c
  refine ⟨b, e, ?_⟩
  rw [pwmPeriodStart_starts hb hd, State.startPeriod_chan, marked, openLoadCheck_newPeriod, checked]
  rfl

end Begins

/-! ### Duty and state of the new period -/

section Driving
variable {s : State} {c : Nat} {h : Chan}

theorem dutyNow_pending (h : Chan) (now : Nat) : (dutyNow h now).2 = h.pending.filter fun x => !decide (x.2.1 + 200 ≤ now) := by
  unfold dutyNow
  dsimp only
  split
  · rfl
  · rfl

@[simp] theorem State.effectiveDuty_natAbs : (s.effectiveDuty c h).natAbs = (s.effective c h).1 := by
  unfold State.effectiveDuty
  split
  · exact Int.natAbs_neg _
  · rfl

/-- Without compensation the set duty is the effective one (R205). -/
theorem State.effectiveDuty_plain (hc : cfgComp h.cfg = false) : s.effectiveDuty c h = (dutyNow h s.now).1 := by
  have plain : (s.effective c h).1 = (dutyNow h s.now).1.natAbs := by rw [State.effective, hc]; rfl
  rw [State.effectiveDuty, plain]
  split <;> omega

theorem State.driven_of (may : s.mayDrive h = true) (duty : s.effectiveDuty c h ≠ 0 ∨ (chanClass c = 2 ∧ h.itemSeen = true)) :
    s.driven c h = true := by simpa [State.driven, may] using duty

theorem State.drives_of_driven (hd : s.driven c h = true) : s.drives c h = true := by rw [State.drives, hd, Bool.true_or]

theorem State.mayDrive_of_drives (hd : s.drives c h = true) : s.mayDrive h = true := by
  simp only [State.drives, State.driven, Bool.or_eq_true, Bool.and_eq_true] at hd
  obtain driven | ⟨⟨may, -⟩, -⟩ := hd
  · exact driven.1
  · exact may

/-- At duty 0 only a bridge drives. -/
theorem State.not_drives_of_zero (duty : s.effectiveDuty c h = 0) (hc : chanClass c ≠ 2) : s.drives c h = false := by
  simp [State.drives, State.driven, duty, hc]

theorem State.newPeriod_driven (hd : s.driven c h = true) :
    (s.newPeriod c h).base = .driving ∧ (s.newPeriod c h).onNs = s.periodOn c h ∧
    (h.base ≠ .driving → protInrushMs h.prot ≠ 0 →
      (s.newPeriod c h).inrushDue = some (s.now + protInrushMs h.prot * 1000000)) ∧
    (h.base = .driving → (s.newPeriod c h).inrushDue = h.inrushDue) := by
  simp +contextual [State.newPeriod, hd, State.drives_of_driven hd]

theorem State.newPeriod_idle (hd : s.drives c h = false) :
    (s.newPeriod c h).base ≠ .driving ∧ (s.newPeriod c h).onNs = 0 ∧ (s.newPeriod c h).inrushDue = h.inrushDue := by
  have driven : s.driven c h = false := by
    rw [State.drives, Bool.or_eq_false_iff] at hd
    exact hd.1
  refine ⟨?_, ?_, ?_⟩
  · by_cases hb : h.base = .driving <;> simp [State.newPeriod, hd, hb]
  · simp [State.newPeriod, hd]
  · simp [State.newPeriod, driven]

end Driving

end Sys2Proof.Machine

namespace Sys2Proof.Machine
open Sys2Proof

/-- Settles O25: the new period's fields, by whether the channel may drive and what its duty is. -/
theorem periodStartsComplete : Obligations.PeriodStartsComplete := by
  intro dt s c ht u h g set rest mode even on swapped hp first due ended
  have begins : u.periodBegins c = true := State.periodBegins_of (g := g) rfl mode even on swapped hp first due ended
  have pending : (dutyNow h u.now).2 = rest := dutyNow_pending h u.now
  refine ⟨fun dark => ?dark, fun lit load plain => ?lit⟩
  case dark =>
    refine runCmd_to ht ((pwmPeriodStart_gateOff begins dark).trans (State.updChan_congr ?_))
    exact congrArg (fun x => { h with dutySet := set, pending := x }) pending
  case lit =>
    have started : pwmPeriodStart c u = u.startPeriod c := by
      rw [pwmPeriodStart_starts begins lit, openLoadCheck_off u c load]
    obtain ⟨e, marked⟩ := u.markPeriod_chan c
    have chan : (u.startPeriod c).chan c = { u.newPeriod c h with edge := e } := (u.startPeriod_chan c c).trans marked
    have period : max (cfgPeriod h.cfg) 1 = cfgPeriod h.cfg := Nat.max_eq_left hp
    have duty : u.effectiveDuty c h = set := State.effectiveDuty_plain plain
    have onNs : u.periodOn c h = onTime set.natAbs (cfgPeriod h.cfg) (minPulse c h.cfg) := by
      rw [State.periodOn, ← State.effectiveDuty_natAbs, duty, period]
    refine ⟨u.startPeriod c, runCmd_to ht started, ?_⟩
    rw [chan]
    refine ⟨rfl, duty, rfl, pending, rfl, period, fun may drives => ?driven, fun _ zero notBridge => ?zero, fun held => ?held,
      fun d hd ho => u.startPeriod_chan_ne c hd ho,
      u.startPeriod_frame (π := fun t => t.power.generation) c (fun _ _ => rfl) (fun _ _ => rfl) (fun _ _ => rfl),
      u.startPeriod_frame c (fun _ _ => rfl) (fun _ _ => rfl) (fun _ _ => rfl),
      u.startPeriod_frame c (fun _ _ => rfl) (fun _ _ => rfl) (fun _ _ => rfl),
      u.startPeriod_frame c (fun _ _ => rfl) (fun _ _ => rfl) (fun _ _ => rfl),
      u.startPeriod_frame c (fun _ _ => rfl) (fun _ _ => rfl) (fun _ _ => rfl)⟩
    case driven =>
      obtain ⟨base, on, opens, keeps⟩ := State.newPeriod_driven (State.driven_of may (duty.symm ▸ drives))
      exact ⟨base, on.trans onNs, by simp only [State.newPeriod, onNs, period]; rfl, opens, keeps⟩
    case zero =>
      obtain ⟨base, on, -⟩ := State.newPeriod_idle (State.not_drives_of_zero (duty.trans zero) notBridge)
      exact ⟨base, on⟩
    case held =>
      exact State.newPeriod_idle (Bool.eq_false_iff.2 fun drives => by simp [State.mayDrive_of_drives drives] at held)

/-! ### On-times (07 R197) -/

section OnTime
variable {d period pulse : Nat}

/-- The rounded share of the period is its on-time, but for a pulse and a gap shorter than the minimum. -/
theorem onTime_cases {on : Nat} (h : on = (d * period + 32767) / 65535) :
    (0 < on ∧ on < pulse ∧ onTime d period pulse = 0) ∨
    ((on = 0 ∨ pulse ≤ on) ∧ 0 < period - on ∧ period - on < pulse ∧ onTime d period pulse = period) ∨
    ((on = 0 ∨ pulse ≤ on) ∧ (period - on = 0 ∨ pulse ≤ period - on) ∧ onTime d period pulse = on) := by
  simp only [onTime, ← h]
  split
  case isTrue short => exact .inl ⟨short.1, short.2, rfl⟩
  case isFalse long =>
    split
    case isTrue gap => exact .inr (.inl ⟨by omega, gap.1, gap.2, rfl⟩)
    case isFalse => exact .inr (.inr ⟨by omega, by omega, rfl⟩)

/-- The share of a period is never longer than it. -/
theorem rounded_le (hd : d ≤ 65535) (period : Nat) : (d * period + 32767) / 65535 ≤ period := by
  have : d * period ≤ 65535 * period := Nat.mul_le_mul_right period hd
  omega

/-- At duty 0 there is no on-time where the minimum fits the period. -/
theorem onTime_zero (h : pulse ≤ period) : onTime 0 period pulse = 0 := by
  have taken := onTime_cases (d := 0) (period := period) (pulse := pulse) rfl
  omega

end OnTime

/-- Settles O26: the on-time is that of the effective duty, and its bounds follow from the three ways of rounding. -/
theorem onTimesKeepTheMinimum : Obligations.OnTimesKeepTheMinimum := by
  refine ⟨?period, ?bounds⟩
  case period =>
    intro dt s c ht u h mode even on lit swapped hp first due ended may
    have begins : u.periodBegins c = true := State.periodBegins_of rfl mode even on swapped hp first due ended
    obtain ⟨b, e, chan⟩ := pwmPeriodStart_chan begins lit
    have period : max (cfgPeriod h.cfg) 1 = cfgPeriod h.cfg := Nat.max_eq_left hp
    have onNs : u.periodOn c h = onTime (u.effectiveDuty c h).natAbs (cfgPeriod h.cfg) (minPulse c h.cfg) := by
      rw [State.periodOn, State.effectiveDuty_natAbs, period]
    refine ⟨_, runCmd_next ht _, ?_⟩
    rw [chan]
    refine ⟨fun duty => ?driven, fun zero _ fits => ?zero⟩
    case driven =>
      obtain ⟨-, on, -⟩ := State.newPeriod_driven (State.driven_of may (.inl duty))
      exact on.trans onNs
    case zero =>
      have none_ : u.periodOn c h = 0 := by
        rw [onNs, show u.effectiveDuty c h = 0 from zero]
        exact onTime_zero fits
      change (if u.drives c h then u.periodOn c h else 0) = 0
      rw [none_, ite_self]
  case bounds =>
    intro d period pulse hd _ _ hpulse on rounded
    have fits : rounded ≤ period := rounded_le hd period
    have none_ : d = 0 → rounded = 0 := by rintro rfl; omega
    have full : d = 65535 → rounded = period := by rintro rfl; omega
    have taken : (0 < rounded ∧ rounded < pulse ∧ on = 0) ∨
        ((rounded = 0 ∨ pulse ≤ rounded) ∧ 0 < period - rounded ∧ period - rounded < pulse ∧ on = period) ∨
        ((rounded = 0 ∨ pulse ≤ rounded) ∧ (period - rounded = 0 ∨ pulse ≤ period - rounded) ∧ on = rounded) :=
      onTime_cases rfl
    clear_value on rounded
    omega

/-! ### Compensation (07 R205) -/

section Law
variable {d vref vmeas v : Nat}

/-- The duty under compensation, before 100% limits it: D · (V_ref / V)², rounded half-up. -/
def lawDuty (d vref v : Nat) : Nat := (d * (vref * vref) + v * v / 2) / (v * v)

theorem compensate_eq (d vref vmeas : Nat) : compensate d vref vmeas =
    (min 65535 (lawDuty d vref (max vmeas 10000)), decide (65535 < lawDuty d vref (max vmeas 10000))) := rfl

theorem lawDuty_zero (hv : 0 < v) : lawDuty 0 vref v = 0 := by
  have pos : 0 < v * v := Nat.mul_pos hv hv
  rw [lawDuty, Nat.zero_mul, Nat.zero_add, Nat.div_eq_of_lt (Nat.div_lt_self pos (by decide))]

/-- At the reference voltage the law leaves the duty as it is. -/
theorem lawDuty_reference (hv : 0 < v) : lawDuty d v v = d := by
  have pos : 0 < v * v := Nat.mul_pos hv hv
  rw [lawDuty, Nat.add_comm, Nat.add_mul_div_right _ _ pos, Nat.div_eq_of_lt (Nat.div_lt_self pos (by decide)), Nat.zero_add]

/-- Half-up rounding is off by half a unit at most. -/
theorem lawDuty_halfUp (hv : 0 < v) : 2 * (d * vref ^ 2) ≤ 2 * (lawDuty d vref v * v ^ 2) + v ^ 2 ∧
    2 * (lawDuty d vref v * v ^ 2) ≤ 2 * (d * vref ^ 2) + v ^ 2 := by
  have pos : 0 < v * v := Nat.mul_pos hv hv
  have upper : d * (vref * vref) + v * v / 2 < v * v * (lawDuty d vref v + 1) := Nat.lt_mul_div_succ _ pos
  have lower : lawDuty d vref v * (v * v) ≤ d * (vref * vref) + v * v / 2 := Nat.div_mul_le_self _ _
  rw [Nat.mul_succ, Nat.mul_comm (v * v)] at upper
  rw [Nat.pow_two, Nat.pow_two]
  omega

end Law

/-- Settles O27: the new period's effective duty is the law's, limited to 100%, and the law rounds half-up. -/
theorem compensationHoldsThePower : Obligations.CompensationHoldsThePower := by
  refine ⟨?period, ?law⟩
  case period =>
    intro dt s c ht u h set vref v raw mode even on lit swapped hp first due ended
    have begins : u.periodBegins c = true := State.periodBegins_of rfl mode even on swapped hp first due ended
    obtain ⟨b, e, chan⟩ := pwmPeriodStart_chan begins lit
    refine ⟨_, runCmd_next ht _, ?_⟩
    rw [chan]
    refine ⟨rfl, fun comp => ?compensated, fun plain => State.effectiveDuty_plain plain⟩
    have effective : u.effective c h = (min 65535 raw, decide (65535 < raw)) := by
      rw [State.effective, if_pos comp, compensate_eq]
      rfl
    refine ⟨?_, congrArg Prod.snd effective, ?_⟩
    · change u.effectiveDuty c h = _
      rw [State.effectiveDuty, effective]
    · change sat32 h.compLimits (b2n (u.effective c h).2) = _
      rw [effective]
      simp [b2n]
  case law =>
    intro d vref vmeas hd lo _ v e
    have pos : 0 < v := by omega
    have law : e = (min 65535 (lawDuty d vref v), decide (65535 < lawDuty d vref v)) := compensate_eq d vref vmeas
    clear_value e
    subst law
    refine ⟨Nat.min_le_left _ _, ?zero, ?reference, fun limited => ?limited, fun within => ?within⟩
    case zero =>
      rintro rfl
      simp [lawDuty_zero pos]
    case reference =>
      rintro rfl
      have same : v = vmeas := Nat.max_eq_left (by omega)
      simp [same, lawDuty_reference (d := d) (v := vmeas) (by omega), hd]
    case limited =>
      have : 65535 < lawDuty d vref v := by simpa using limited
      exact Nat.min_eq_left (Nat.le_of_lt this)
    case within =>
      have fits : lawDuty d vref v ≤ 65535 := by simpa using within
      simpa only [Nat.min_eq_right fits] using lawDuty_halfUp pos

end Sys2Proof.Machine

namespace Sys2Proof.Machine
open Sys2Proof

/-! ### Overcurrent events and sampled trips (08 R219 to R221) -/

theorem State.head_of_even {s : State} {c : Nat} (even : s.isOddOfPair c = false) : s.head c = c := if_neg (by simp [even])

theorem State.cfgOf_of_even {s : State} {c : Nat} (even : s.isOddOfPair c = false) : s.cfgOf c = (s.chan c).cfg :=
  if_neg (by simp [even])

theorem State.isOddOfPair_updChan (s : State) (k c : Nat) {f : Chan → Chan} (hf : ∀ h, (f h).cfg = h.cfg) :
    (s.updChan k f).isOddOfPair c = s.isOddOfPair c := by
  have cfg : ((s.updChan k f).chan (c - 1)).cfg = (s.chan (c - 1)).cfg := by
    by_cases same : c - 1 = k
    · rw [same, State.chan_updChan, hf]
    · rw [State.chan_updChan_ne _ same]
  rw [State.isOddOfPair, State.isOddOfPair, cfg]

/-- The channel but for what its overcurrent protection moves. -/
def Chan.asideTrips (h : Chan) : Chan :=
  { h with
    base := .off
    overCount := 0
    onNs := 0
    tripped := false
    retryDue := none
    retryFrozen := none
    sampledTrips := 0 }

section Trips
variable (s : State) (c : Nat) (mean : Int)

/-- A channel that an overcurrent event switches off: tripped, or with a retry pending (R220, R221, R229). -/
def State.overcurrentOf (h : Chan) : Chan :=
  let wait := protInterval (s.chan c).prot * 10000000
  if (s.chan c).retryLeft == 0 then { h.outOff with tripped := true, retryDue := none, retryFrozen := none }
  else if s.hasHold h then { h.outOff with retryDue := none, retryFrozen := some wait }
  else { h.outOff with retryDue := some (s.now + wait) }

theorem State.overcurrentOf_asideTrips (h : Chan) : (s.overcurrentOf c h).asideTrips = h.asideTrips := by
  unfold State.overcurrentOf
  dsimp only
  split
  · rfl
  · split <;> rfl

theorem State.overcurrent_chan (d : Nat) :
    (s.overcurrent c mean).chan d = ((s.clearOdd c).updChan c (s.overcurrentOf c)).chan d :=
  (ite_frame (π := fun t => t.chan d) (s := (s.clearOdd c).changeChan c (s.overcurrentOf c)) (State.raise_chan _ _ _ _ _ _)
    rfl).trans (State.changeChan_chan _ _ _ _)

theorem State.overcurrent_asideTrips : ((s.overcurrent c mean).chan c).asideTrips = (s.chan c).asideTrips := by
  rw [State.overcurrent_chan, State.chan_updChan, State.overcurrentOf_asideTrips, State.clearOdd_chan_self]

theorem State.overcurrent_chan_ne {d : Nat} (hd : d ≠ c) (ho : d ≠ c + 1 ∨ cfgPaired (s.chan c).cfg = false) :
    (s.overcurrent c mean).chan d = s.chan d := by
  rw [State.overcurrent_chan, State.chan_updChan_ne _ hd, State.clearOdd_chan ho]

/-- The over-limit count of a channel set. -/
def State.counted (n : Nat) : State := s.updChan c fun h => { h with overCount := n }

/-- The trip of a sample that exceeds the limit once too often, counted and recorded. -/
def State.sampleTrips (d : Bytes) : State :=
  ((s.counted c 0).updChan c fun h => { h with sampledTrips := sat32 h.sampledTrips 1 }).raise 0x0611 1 c d

/-- A sample sets the over-limit count, or it is the last that the channel takes and trips it. -/
theorem sampledTrip_cases {s : State} {c : Nat} (even : s.isOddOfPair c = false) :
    (∃ n, sampledTrip c mean s = s.counted c n) ∨ ∃ d, sampledTrip c mean s = (s.sampleTrips c d).overcurrent c mean := by
  unfold sampledTrip
  rw [State.head_of_even even]
  dsimp only
  split
  · exact .inl ⟨_, rfl⟩
  · split
    · exact .inl ⟨_, rfl⟩
    · split
      · exact .inl ⟨_, rfl⟩
      · exact .inr ⟨_, rfl⟩

theorem State.counted_asideTrips (n : Nat) : ((s.counted c n).chan c).asideTrips = (s.chan c).asideTrips := by
  rw [State.counted, State.chan_updChan]
  rfl

theorem State.sampleTrips_asideTrips (d : Bytes) : ((s.sampleTrips c d).chan c).asideTrips = (s.chan c).asideTrips := by
  rw [State.sampleTrips, State.raise_chan, State.chan_updChan]
  exact s.counted_asideTrips c 0

theorem State.sampleTrips_chan_ne (b : Bytes) {d : Nat} (hd : d ≠ c) : (s.sampleTrips c b).chan d = s.chan d := by
  rw [State.sampleTrips, State.raise_chan, State.chan_updChan_ne _ hd, State.counted, State.chan_updChan_ne _ hd]

variable {s c} (even : s.isOddOfPair c = false)
include even

theorem sampledTrip_asideTrips : ((sampledTrip c mean s).chan c).asideTrips = (s.chan c).asideTrips := by
  obtain ⟨n, counts⟩ | ⟨d, trips⟩ := sampledTrip_cases mean even
  · rw [counts, State.counted_asideTrips]
  · rw [trips, State.overcurrent_asideTrips, State.sampleTrips_asideTrips]

theorem sampledTrip_chan_ne {d : Nat} (hd : d ≠ c) (ho : d ≠ c + 1 ∨ cfgPaired (s.chan c).cfg = false) :
    (sampledTrip c mean s).chan d = s.chan d := by
  obtain ⟨n, counts⟩ | ⟨b, trips⟩ := sampledTrip_cases mean even
  · rw [counts, State.counted, State.chan_updChan_ne _ hd]
  · have cfg : ((s.sampleTrips c b).chan c).cfg = (s.chan c).cfg := (congrArg Chan.cfg (s.sampleTrips_asideTrips c b) :)
    rw [trips, State.overcurrent_chan_ne _ _ _ hd (by rwa [cfg]), State.sampleTrips_chan_ne _ _ _ hd]

theorem ChannelFrame.sampledTrip {α : Type} {π : State → α} (h : ChannelFrame π) :
    π (Machine.sampledTrip c mean s) = π s := by
  have overcurrent (t : State) : π (t.overcurrent c mean) = π t :=
    ite_frame ((h.raise _ _ _ _ _).trans ((h.changeChan _ _ _).trans (h.clearOdd _ _)))
      ((h.changeChan _ _ _).trans (h.clearOdd _ _))
  obtain ⟨n, counts⟩ | ⟨d, trips⟩ := sampledTrip_cases mean even
  · rw [counts]
    exact h.updChan _ _ _
  · rw [trips]
    exact (overcurrent _).trans ((h.raise _ _ _ _ _).trans ((h.updChan _ _ _).trans (h.updChan _ _ _)))

end Trips

/-! ### The end of a measurement interval (07 R207 to R211) -/

/-- An output or a channel in a protection state, whose current is measured (R208). -/
def State.showsCurrent (s : State) (c : Nat) : Bool := s.chanCode c != 0 && s.chanCode c != 3

/-- The current of a sample, within the range of its class (Table 07-5). -/
def sampleCurrent (c : Nat) (x : ChanSample) : Int := clampI (currentRange c).1 (currentRange c).2 x.current

/-- The channel with the sample of the interval that ends. -/
def State.measured (s : State) (c : Nat) (x : ChanSample) (h : Chan) : Chan :=
  let v := clampI (-10000) 36000 x.voltage
  { (if s.chanCode c == 3 && cfgInputKind (s.cfgOf c) == 0 then stepInput (s.cfgOf c) h v else h) with
    current := if s.showsCurrent c then sampleCurrent c x else h.current
    voltage := v
    temperature := clampI (-550) 2000 x.temperature
    sampleStamp := s.time.mast
    sumCurrent := if s.showsCurrent c then h.sumCurrent + sampleCurrent c x else h.sumCurrent
    numCurrent := if s.showsCurrent c then h.numCurrent + 1 else h.numCurrent }

/-- A step of the input changes the input's own fields. -/
theorem stepInput_eq (cfg : Bytes) (h : Chan) (mv : Int) : ∃ input first debounce, stepInput cfg h mv =
    { h with inputState := input, firstSample := first, debounce := debounce } := by
  unfold stepInput
  dsimp only
  split
  · exact ⟨_, _, _, rfl⟩
  · split
    · split <;> exact ⟨_, _, _, rfl⟩
    · exact ⟨_, _, _, rfl⟩

section Measured
variable (s : State) (c : Nat) (x : ChanSample) (h : Chan)

theorem State.measured_keeps : (s.measured c x h).cfg = h.cfg ∧ (s.measured c x h).prot = h.prot ∧
    (s.measured c x h).dutySet = h.dutySet := by
  obtain ⟨input, first, debounce, steps⟩ := stepInput_eq (s.cfgOf c) h (clampI (-10000) 36000 x.voltage)
  unfold State.measured
  dsimp only
  rw [steps]
  split <;> exact ⟨rfl, rfl, rfl⟩

/-- The first sample of a voltage input gives its state (R211). -/
theorem State.measured_firstSample (code : s.chanCode c = 3) (kind : cfgInputKind (s.cfgOf c) = 0) (first : h.firstSample = true) :
    (s.measured c x h).inputState = decide ((cfgHigh (s.cfgOf c) : Int) ≤ (s.measured c x h).voltage) := by
  simp [State.measured, code, kind, stepInput, first]

theorem State.measured_isOddOfPair : (s.updChan c (s.measured c x)).isOddOfPair c = s.isOddOfPair c :=
  s.isOddOfPair_updChan c c fun h => (s.measured_keeps c x h).1

end Measured

section SampleEnd
variable {s : State} {c : Nat} (x : ChanSample) (hc : c ≤ 103) (due : s.grid % sampleInterval c = 0)
  (swapped : s.majorDue = false) (lit : s.domain 15 = true) {α : Type} {π : State → α}
include hc due swapped lit

/-- Productions aside, a sample is taken and judged. -/
theorem channelSampleEnd_frame (main : ∀ (s : State) x, π { s with main := x } = π s)
    (mizzen : ∀ (s : State) x, π { s with mizzen := x } = π s) :
    π (channelSampleEnd c x s) = π (sampledTrip c (sampleCurrent c x) (s.updChan c (s.measured c x))) := by
  have shown (t : State) (code value stamp deliver : Nat) : π (t.publish code value stamp deliver) = π t :=
    t.publish_frame main mizzen _ _ _ _
  have shownI (t : State) (code : Nat) (v : Int) (stamp deliver : Nat) : π (t.publishI code v stamp deliver) = π t :=
    shown _ _ _ _ _
  unfold channelSampleEnd
  dsimp only
  rw [if_neg (by simp [due, swapped, hc]), if_neg (by simp [lit])]
  refine ite_frame ((shown _ _ _ _ _).trans ((shownI _ _ _ _ _).trans ?_)) rfl
  refine ite_frame ((shownI _ _ _ _ _).trans (shownI _ _ _ _ _)) (ite_frame ?_ (shownI _ _ _ _ _))
  exact ite_frame ((shown _ _ _ _ _).trans (shownI _ _ _ _ _)) (shownI _ _ _ _ _)

theorem channelSampleEnd_power :
    (channelSampleEnd c x s).power = (sampledTrip c (sampleCurrent c x) (s.updChan c (s.measured c x))).power :=
  channelSampleEnd_frame x hc due swapped lit (fun _ _ => rfl) (fun _ _ => rfl)

variable (even : s.isOddOfPair c = false)
include even

theorem ChannelFrame.channelSampleEnd (h : ChannelFrame π) : π (Machine.channelSampleEnd c x s) = π s :=
  (channelSampleEnd_frame x hc due swapped lit h.main h.mizzen).trans
    ((h.sampledTrip _ ((s.measured_isOddOfPair c x).trans even)).trans (h.updChan _ _ _))

/-- The channel has its sample, whatever the trip then does. -/
theorem channelSampleEnd_asideTrips :
    ((channelSampleEnd c x s).chan c).asideTrips = (s.measured c x (s.chan c)).asideTrips := by
  have power := channelSampleEnd_power x hc due swapped lit
  rw [State.chan_of_power _ _ power, sampledTrip_asideTrips _ ((s.measured_isOddOfPair c x).trans even), State.chan_updChan]

theorem channelSampleEnd_chan_ne {d : Nat} (hd : d ≠ c) (ho : d ≠ c + 1 ∨ cfgPaired (s.chan c).cfg = false) :
    (channelSampleEnd c x s).chan d = s.chan d := by
  have power := channelSampleEnd_power x hc due swapped lit
  have cfg : ((s.updChan c (s.measured c x)).chan c).cfg = (s.chan c).cfg := by
    rw [State.chan_updChan, (s.measured_keeps c x _).1]
  rw [State.chan_of_power _ _ power, sampledTrip_chan_ne _ ((s.measured_isOddOfPair c x).trans even) hd (by rwa [cfg]),
    State.chan_updChan_ne _ hd]

end SampleEnd

/-! ### The end of a supply interval (07 R193, R206, R210) -/

/-- A supply input with the sample of the interval that ends at grid time `g`. -/
def Supply.sampled (v : Supply) (g mv : Nat) (i : Int) : Supply :=
  let cs := (i :: v.currents).take 10000
  { volts := ((g, mv) :: v.volts).take 3
    currents := cs
    mean := cs.foldl (· + ·) (0 : Int) / cs.length
    overload := decide ((80000 : Int) * cs.length < cs.foldl (· + ·) (0 : Int)) }

/-- Supply input `n` with its share of a sample. -/
def State.supplySampled (s : State) (x : SupplySample) (n : Nat) : Supply :=
  (s.supply n).sampled s.grid (min (x.volts.getD n 0) 40000) (clampI (-10000) 200000 (x.currents.getD n 0))

section Supplies
variable (x : SupplySample) (s : State) (n : Nat)

theorem takeSupply_power : (s.takeSupply x n).power =
    { s.power with supplies := Tbl.put s.power.supplies n (s.supplySampled x n) } := by
  unfold State.takeSupply
  dsimp only
  rw [State.publishI_power, State.publishI_power]
  split
  · rw [State.raise_power]
    rfl
  · rfl

theorem takeSupply_supply : (s.takeSupply x n).supply n = s.supplySampled x n := by
  rw [State.supply, takeSupply_power, Tbl.getD_put_self]

theorem takeSupply_supply_ne {m : Nat} (h : m ≠ n) : (s.takeSupply x n).supply m = s.supply m := by
  rw [State.supply, takeSupply_power, Tbl.getD_put_ne _ _ _ _ _ h]
  rfl

theorem ChannelFrame.takeSupply {α : Type} {π : State → α} (h : ChannelFrame π) : π (s.takeSupply x n) = π s :=
  (h.publishI _ _ _ _ _).trans <| (h.publishI _ _ _ _ _).trans <|
    ite_frame ((h.raise _ _ _ _ _).trans (h.power _ _)) (h.power _ _)

theorem foldl_takeSupply_of_notMem {l : List Nat} (hn : n ∉ l) : (l.foldl (State.takeSupply x) s).supply n = s.supply n := by
  induction l generalizing s with
  | nil => rfl
  | cons m l ih =>
    rw [List.mem_cons, not_or] at hn
    rw [List.foldl_cons, ih _ hn.2, takeSupply_supply_ne _ _ _ hn.1]

/-- Each supply input takes its own share, whatever the others took before it. -/
theorem foldl_takeSupply_of_mem {l : List Nat} (once : l.Nodup) (hn : n ∈ l) :
    (l.foldl (State.takeSupply x) s).supply n = s.supplySampled x n := by
  induction l generalizing s with
  | nil => cases hn
  | cons m l ih =>
    rw [List.nodup_cons] at once
    rw [List.foldl_cons]
    obtain rfl | later := List.mem_cons.1 hn
    · rw [foldl_takeSupply_of_notMem _ _ _ once.1, takeSupply_supply]
    · have other : n ≠ m := fun same => once.1 (same ▸ later)
      rw [ih _ once.2 later, State.supplySampled, takeSupply_supply_ne _ _ _ other, grid_channelFrame.takeSupply]
      rfl

/-- The stamp of the latest supply interval set. -/
def State.stampSupplies (stamp : Nat) : State := { s with power := { s.power with supplyStamp := stamp } }

@[simp] theorem State.stampSupplies_supply (stamp : Nat) : (s.stampSupplies stamp).supply n = s.supply n := rfl

@[simp] theorem State.stampSupplies_chans (stamp : Nat) : (s.stampSupplies stamp).power.chans = s.power.chans := rfl

/-- The supplies sampled, with the stamp of the interval. -/
def State.suppliesSampled : State := ([0, 1, 2, 3].foldl (State.takeSupply x) s).stampSupplies s.time.mast

theorem State.suppliesSampled_chans : (s.suppliesSampled x).power.chans = s.power.chans := by
  rw [State.suppliesSampled, State.stampSupplies_chans]
  exact foldl_frame (π := fun t => t.power.chans) (fun t m => by rw [takeSupply_power]) _ _

theorem State.suppliesSampled_supply (hn : n ≤ 3) : (s.suppliesSampled x).supply n = s.supplySampled x n := by
  rw [State.suppliesSampled, State.stampSupplies_supply]
  exact foldl_takeSupply_of_mem x s n (by decide) (by simp; omega)

theorem ChannelFrame.suppliesSampled {α : Type} {π : State → α} (h : ChannelFrame π) : π (s.suppliesSampled x) = π s := by
  have stamped (t : State) (stamp : Nat) : π (t.stampSupplies stamp) = π t := h.power _ _
  rw [State.suppliesSampled, stamped]
  exact foldl_frame (fun t m => h.takeSupply x t m) _ _

section IntervalEnd
variable {s} (lit : s.domain 15 = true) (due : s.grid % 100000 = 0) (swapped : s.majorDue = false)
  (whole : s.pwr.d15At + 100000 ≤ s.now) {α : Type} {π : State → α}
include lit due swapped whole

/-- Productions aside, each supply takes its share of the sample. -/
theorem supplySampleEnd_frame (main : ∀ (s : State) x, π { s with main := x } = π s)
    (mizzen : ∀ (s : State) x, π { s with mizzen := x } = π s) : π (supplySampleEnd x s) = π (s.suppliesSampled x) := by
  unfold supplySampleEnd
  dsimp only
  rw [if_neg (by simp [lit, due, swapped, whole])]
  exact (State.publish_frame main mizzen _ _ _ _ _).trans (State.publish_frame main mizzen _ _ _ _ _)

theorem ChannelFrame.supplySampleEnd (h : ChannelFrame π) : π (Machine.supplySampleEnd x s) = π s :=
  (supplySampleEnd_frame x lit due swapped whole h.main h.mizzen).trans (h.suppliesSampled x s)

theorem supplySampleEnd_power : (supplySampleEnd x s).power = (s.suppliesSampled x).power :=
  supplySampleEnd_frame x lit due swapped whole (fun _ _ => rfl) (fun _ _ => rfl)

end IntervalEnd

end Supplies

/-- Settles O28: what the sample gives the channel, which its trip leaves, and each supply's own share. -/
theorem measurementsComplete : Obligations.MeasurementsComplete := by
  refine ⟨?channel, ?supplies⟩
  case channel =>
    intro dt s c x ht lit hc due swapped even
    let u := s.elapse dt
    have cfgOf : u.cfgOf c = (s.chan c).cfg := State.cfgOf_of_even even
    obtain ⟨cfg, prot, duty⟩ := u.measured_keeps c x (s.chan c)
    have same := channelSampleEnd_asideTrips (s := u) x hc due swapped lit even
    have voltage : ((channelSampleEnd c x u).chan c).voltage = _ := (congrArg Chan.voltage same :)
    have current : ((channelSampleEnd c x u).chan c).current = (u.measured c x (s.chan c)).current :=
      (congrArg Chan.current same :)
    refine ⟨_, runCmd_next ht _, voltage, (congrArg Chan.temperature same :), (congrArg Chan.sampleStamp same :),
      fun code => current.trans ?shown, fun code => current.trans ?hidden, fun code kind first => ?input,
      (congrArg Chan.dutySet same :).trans duty, (congrArg Chan.cfg same :).trans cfg, (congrArg Chan.prot same :).trans prot,
      fun d hd ho => channelSampleEnd_chan_ne (s := u) x hc due swapped lit even hd ho,
      mem_channelFrame.channelSampleEnd (s := u) x hc due swapped lit even,
      time_channelFrame.channelSampleEnd (s := u) x hc due swapped lit even⟩
    case shown => exact if_pos (by simp [State.showsCurrent, u, code])
    case hidden => exact if_neg (by simp [State.showsCurrent, u, code])
    case input =>
      rw [voltage, ← cfgOf]
      exact (congrArg Chan.inputState same :).trans (u.measured_firstSample c x _ code (by rw [cfgOf, kind]) first)
  case supplies =>
    intro dt s x ht lit due swapped whole
    let u := s.elapse dt
    have power := supplySampleEnd_power (s := u) x lit due swapped whole
    have chans : (supplySampleEnd x u).power.chans = u.power.chans := by rw [power, State.suppliesSampled_chans]
    have stamp : (supplySampleEnd x u).power.supplyStamp = u.time.mast := by rw [power]; rfl
    refine ⟨_, runCmd_next ht _, chans, stamp, fun n hn => ?_,
      mem_channelFrame.supplySampleEnd (s := u) x lit due swapped whole,
      time_channelFrame.supplySampleEnd (s := u) x lit due swapped whole⟩
    have taken : (supplySampleEnd x u).supply n = u.supplySampled x n := by
      rw [State.supply, power, ← State.suppliesSampled_supply x u n hn, State.supply]
    rw [taken]
    exact ⟨rfl, rfl, decide_eq_true_iff⟩

end Sys2Proof.Machine

namespace Sys2Proof.Machine
open Sys2Proof

/-! ### Swaps of channel settings (07 R196, R214, 08 R222, R238) -/

section ChanSwaps
variable {s : State} {e : Staged}

/-- The channel of a configuration that has been swapped in. -/
def Chan.swapped (h : Chan) (new : Bytes) (keep : Bool) : Chan :=
  if keep then { h with cfg := new } else Chan.byMode { h with cfg := new, periodNs := 0 }

/-- An output stays as it is where neither its mode nor its pairing changes. -/
def keepsOutput (old new : Bytes) : Bool := cfgMode old == 1 && cfgMode new == 1 && !(cfgPaired new != cfgPaired old)

/-- The generation moves on, and a change of the pairing frees the odd half. -/
def State.repaired (s : State) (c : Nat) (new : Bytes) : State :=
  if cfgPaired new != cfgPaired (s.chan c).cfg then (s.bumpGen 1).updChan (c + 1) Chan.unconfigure else s.bumpGen 1

theorem State.repaired_chan (s : State) (c : Nat) (new : Bytes) : (s.repaired c new).chan c = s.chan c := by
  unfold State.repaired
  split
  · exact State.chan_updChan_ne _ (Nat.ne_add_one _) _
  · rfl

theorem State.repaired_chan_of_same {c : Nat} {new : Bytes} (same : cfgPaired new = cfgPaired (s.chan c).cfg) (d : Nat) :
    (s.repaired c new).chan d = s.chan d := by
  rw [State.repaired, if_neg (by simp [same])]
  rfl

/-- The swap of a channel that has a configuration of its own. -/
theorem applyChanConfig_swaps (even : s.isOddOfPair e.target = false) : applyChanConfig s e =
    (s.repaired e.target (fitTo 32 e.req.payload)).updChan e.target fun h =>
      h.swapped (fitTo 32 e.req.payload) (keepsOutput (s.chan e.target).cfg (fitTo 32 e.req.payload)) :=
  if_neg (by simp [even])

theorem applyChanConfig_chan (even : s.isOddOfPair e.target = false) : (applyChanConfig s e).chan e.target =
    (s.chan e.target).swapped (fitTo 32 e.req.payload) (keepsOutput (s.chan e.target).cfg (fitTo 32 e.req.payload)) := by
  rw [applyChanConfig_swaps even, State.chan_updChan, State.repaired_chan]

theorem applyChanConfig_chan_ne (even : s.isOddOfPair e.target = false)
    (same : cfgPaired (fitTo 32 e.req.payload) = cfgPaired (s.chan e.target).cfg) {d : Nat} (hd : d ≠ e.target) :
    (applyChanConfig s e).chan d = s.chan d := by
  rw [applyChanConfig_swaps even, State.chan_updChan_ne _ hd, State.repaired_chan_of_same same]

/-- A swap moves the generation on by one. -/
theorem applyChanConfig_generation (s : State) (e : Staged) :
    (applyChanConfig s e).power.generation = (s.power.generation + 1) % 4294967296 := by
  unfold applyChanConfig
  dsimp only
  split
  · rfl
  · change (State.repaired s e.target _).power.generation = _
    unfold State.repaired
    split <;> rfl

theorem applyChanProtection_chan (s : State) (e : Staged) : (applyChanProtection s e).chan e.target =
    { s.chan e.target with
      prot := fitTo 16 e.req.payload
      retryLeft := min (s.chan e.target).retryLeft (protRetries (fitTo 16 e.req.payload)) } :=
  State.chan_updChan _ _ _

variable {h : Chan} {new : Bytes} {keep : Bool}

theorem Chan.swapped_cfg : (h.swapped new keep).cfg = new := by cases keep <;> rfl

theorem Chan.swapped_retryLeft : (h.swapped new keep).retryLeft = h.retryLeft := by cases keep <;> rfl

/-- An output made anew from its mode is off with set duty 0. -/
theorem Chan.swapped_output (hm : cfgMode new = 1) : (h.swapped new false).dutySet = 0 ∧ (h.swapped new false).base = .off :=
  ⟨rfl, by simp [Chan.swapped, Chan.byMode, hm]⟩

theorem Chan.swapped_noOutput (hm : cfgMode new ≠ 1) : (h.swapped new false).dutySet = 0 ∧ (h.swapped new false).onNs = 0 ∧
    (h.swapped new false).base = if cfgMode new = 2 then .input else .unconfigured := by
  refine ⟨rfl, rfl, ?_⟩
  simp only [Chan.swapped, Chan.byMode, Bool.false_eq_true, if_false]
  split <;> simp_all

end ChanSwaps

/-! ### Swaps of the yield tally (09 R265 to R267) -/

/-- A clear that starts touches nothing else of the tally. -/
theorem State.startClear_yield (s : State) : ∃ clearing, s.startClear.sense.yield_ =
    { s.sense.yield_ with clearing := clearing, placedSinceClear := 0 } := by
  have raised (t : State) (d : Bytes) : (t.raise 0x0710 2 255 d).sense = t.sense := by
    obtain ⟨x, recorded⟩ := t.raise_eq 0x0710 2 255 d
    rw [recorded]
  unfold State.startClear
  dsimp only
  split
  · exact ⟨_, rfl⟩
  · split
    · exact ⟨_, rfl⟩
    · exact ⟨_, by rw [raised]; rfl⟩

theorem State.startClear_clearing {s : State} (h : gridCells s.sense.yield_.grid ≠ 0) :
    s.startClear.sense.yield_.clearing = some ((16 * gridCells s.sense.yield_.grid + 16383) / 16384, 0) := by
  unfold State.startClear
  dsimp only
  rw [if_neg h]
  split
  · rfl
  · obtain ⟨x, recorded⟩ := State.raise_eq _ 0x0710 2 255 _
    rw [recorded]
    rfl

/-- A changed grid starts a clear, the same grid does not (R265). -/
theorem applyYieldGrid_same {s : State} {e : Staged}
    (h : setBytes e.req.payload 0x1A (zeros 6) = setBytes s.sense.yield_.grid 0x1A (zeros 6)) :
    applyYieldGrid s e = s.updYield fun y => { y with grid := e.req.payload } := if_pos h

theorem applyYieldGrid_changed {s : State} {e : Staged}
    (h : setBytes e.req.payload 0x1A (zeros 6) ≠ setBytes s.sense.yield_.grid 0x1A (zeros 6)) :
    applyYieldGrid s e = (s.updYield fun y => { y with grid := e.req.payload }).startClear := if_neg h

theorem applyYieldGrid_yield (s : State) (e : Staged) : ∃ clearing placed, (applyYieldGrid s e).sense.yield_ =
    { s.sense.yield_ with grid := e.req.payload, clearing := clearing, placedSinceClear := placed } := by
  unfold applyYieldGrid
  dsimp only
  split
  · exact ⟨_, _, rfl⟩
  · obtain ⟨clearing, cleared⟩ := (s.updYield fun y => { y with grid := e.req.payload }).startClear_yield
    exact ⟨_, _, cleared⟩

/-- The tally as `YIELD_CLEAR_GRID` leaves it, but for the clear itself (R265, R266). -/
def YieldSt.cleared (y : YieldSt) (totals : Bool) : YieldSt :=
  if totals then { y with totals := {}, am := 0, aw := 0, aa := 0, gridLost := false } else { y with gridLost := false }

theorem applyYieldClear_yield (s : State) (e : Staged) : ∃ clearing, (applyYieldClear s e).sense.yield_ =
    { s.sense.yield_.cleared (flagAt e.req.payload 0 0) with clearing := clearing, placedSinceClear := 0 } := by
  unfold applyYieldClear YieldSt.cleared
  dsimp only
  split
  · exact State.startClear_yield _
  · exact State.startClear_yield _

/-- The sources swapped in: the tally opens where they enable it, closes where they end it, and else goes on (R267). -/
def YieldSt.sourced (y : YieldSt) (p : Bytes) (grid : Nat) : YieldSt :=
  if srcEnable p && !srcEnable y.sources then
    { y with sources := p, opening := some (grid + srcDelay p), fresh := true, swath := none, closing := none }
  else if srcEnable y.sources && !srcEnable p then { y with sources := p, closing := some (grid, y.sources) }
  else { y with sources := p }

theorem applyYieldSources_yield (s : State) (e : Staged) :
    (applyYieldSources s e).sense.yield_ = s.sense.yield_.sourced e.req.payload s.grid := by
  unfold applyYieldSources YieldSt.sourced
  dsimp only
  split
  · rfl
  · split <;> rfl

theorem YieldSt.sourced_opens {y : YieldSt} {p : Bytes} (on : srcEnable p = true) (was : srcEnable y.sources = false)
    (grid : Nat) : y.sourced p grid =
      { y with sources := p, opening := some (grid + srcDelay p), fresh := true, swath := none, closing := none } :=
  if_pos (by simp [on, was])

theorem YieldSt.sourced_closes {y : YieldSt} {p : Bytes} (off : srcEnable p = false) (was : srcEnable y.sources = true)
    (grid : Nat) : y.sourced p grid = { y with sources := p, closing := some (grid, y.sources) } :=
  (if_neg (by simp [off])).trans (if_pos (by simp [off, was]))

theorem YieldSt.sourced_keeps (y : YieldSt) (p : Bytes) (grid : Nat) :
    (y.sourced p grid).sources = p ∧ (y.sourced p grid).queue = y.queue ∧ (y.sourced p grid).totals = y.totals := by
  unfold YieldSt.sourced
  split
  · exact ⟨rfl, rfl, rfl⟩
  · split <;> exact ⟨rfl, rfl, rfl⟩

/-- Settles O30: a channel's swap by what it keeps of the output, a swap of the tally by its own equation. -/
theorem swapsActAsStated : Obligations.SwapsActAsStated := by
  refine ⟨?channels, ?tally⟩
  case channels =>
    intro s e even c new
    have config := applyChanConfig_chan even
    have protection := applyChanProtection_chan s e
    rw [config, protection]
    refine ⟨fun same => ⟨Chan.swapped_cfg, fun d hd => applyChanConfig_chan_ne even same hd, fun mode was => ?kept,
        fun mode was => ?made, fun mode => ?ended⟩,
      Chan.swapped_retryLeft, applyChanConfig_generation s e, rfl, rfl, rfl, rfl, rfl⟩
    case kept =>
      have keep : keepsOutput (s.chan c).cfg new = true := by simp [keepsOutput, mode, was, same]
      rw [keep]
      exact ⟨rfl, rfl⟩
    case made =>
      have anew : keepsOutput (s.chan c).cfg new = false := by simp [keepsOutput, was]
      rw [anew]
      exact Chan.swapped_output mode
    case ended =>
      have anew : keepsOutput (s.chan c).cfg new = false := by simp [keepsOutput, mode]
      rw [anew]
      exact Chan.swapped_noOutput mode
  case tally =>
    intro s e y p
    obtain ⟨a, b, grid⟩ := applyYieldGrid_yield s e
    obtain ⟨d, clear⟩ := applyYieldClear_yield s e
    obtain ⟨sources, queue, totals⟩ := y.sourced_keeps p s.grid
    refine ⟨by rw [grid], fun same => by rw [applyYieldGrid_same same]; rfl, fun changed cells => ?starts, by rw [grid],
      ?lost, fun all => ?all, fun rest => ?rest, ?sources⟩
    case starts =>
      rw [applyYieldGrid_changed changed]
      exact State.startClear_clearing (s := s.updYield fun y => { y with grid := p }) cells
    case lost =>
      rw [clear, YieldSt.cleared]
      split <;> rfl
    case all =>
      rw [clear, YieldSt.cleared, if_pos all]
      exact ⟨rfl, rfl, rfl, rfl⟩
    case rest =>
      rw [clear, YieldSt.cleared, if_neg (by rw [rest]; decide)]
    case sources =>
      rw [applyYieldSources_yield]
      refine ⟨sources, queue, totals, fun on was => ?_, fun off was => ?_⟩
      · rw [YieldSt.sourced_opens on was]
        exact ⟨rfl, rfl, rfl⟩
      · rw [YieldSt.sourced_closes off was]

end Sys2Proof.Machine

namespace Sys2Proof.Machine
open Sys2Proof

/-! ### A channel that a stopped one counts as the odd half of its pair

`State.isOddOfPair` knows odd halves among the bridge channels only, for a configuration may set `PAIRED` on an even bridge
channel alone (07 R195); `State.clearOdd` goes by `PAIRED` itself. They disagree in a state with `PAIRED` on a channel that
is no bridge, which no accepted configuration makes and no hypothesis of the statement excludes. -/

/-- Channel 5 is an output of the stop group that is marked as paired; channel 6 has no output and has counted a sample above
its limit. -/
def mispaired : State :=
  { State.reset with
    power := { State.reset.power with
      chans := [(5, { resetChan 5 with cfg := setBytes chanCfgReset 0 [0x41#8] }), (6, { resetChan 6 with overCount := 1 })]
      stopAsserted := false } }

/-- Channel 6 takes no part in the stop. -/
theorem mispaired_apart : mispaired.isOddOfPair 6 = false ∧ cfgMode (mispaired.chan 6).cfg ≠ 1 := by decide

theorem mispaired_overCount : (mispaired.chan 6).overCount = 1 := rfl

/-- The stop of channel 5 clears the count of channel 6. -/
theorem mispaired_stopped_overCount : ((stopAsserted (mispaired.elapse 0)).chan 6).overCount = 0 := rfl

/-- Refutes O29: its `STOP` clause keeps every channel outside the stop group that is not the odd half of a pair, and in
`mispaired` one of them loses its over-limit count. -/
theorem not_protectionEventsComplete : ¬ Obligations.ProtectionEventsComplete := by
  rintro ⟨-, -, -, -, -, -, stop, -⟩
  have inTime : mispaired.inTime 0 := by decide
  obtain ⟨t, runs, -, -, others⟩ := stop 0 mispaired inTime rfl (by decide)
  have stops : t = stopAsserted (mispaired.elapse 0) := Host.Outcome.next.inj (runs.symm.trans (runCmd_next inTime _))
  obtain ⟨even, noOutput⟩ := mispaired_apart
  have kept : (t.chan 6).overCount = (mispaired.chan 6).overCount := congrArg Chan.overCount (others 6 even (.inl noOutput))
  rw [stops, mispaired_stopped_overCount, mispaired_overCount] at kept
  exact absurd kept Nat.zero_ne_one

end Sys2Proof.Machine

namespace Sys2Proof.Machine
open Sys2Proof

/-! ### Protection and loss events of the sensing block (09 R245, R250 to R254) -/

theorem senseGetStatus_requests : Requests opSenseGetStatus .senseGetStatus := fun _ _ _ => rfl

@[simp] theorem State.elapse_input (s : State) (dt i : Nat) : (s.elapse dt).input i = s.input i := rfl

theorem senseKind_universal {i : Nat} (h : i < 96) : senseKind i = 0 := if_pos h

section Events
variable {s : State} {i : Nat}

/-- A trial is judged once its millisecond is over. -/
theorem shuntTrial_ends {t : Nat} (universal : i < 96) (shut : (s.input i).st.shut = true)
    (trial : (s.input i).st.trialDue = some t) (ended : t + 1000000 ≤ s.now) (inRange : Bool) :
    shuntTrial i inRange s =
      if inRange then s.updInput i fun x => { x with shut := false, trialDue := none }
      else s.updInput i fun x => { x with trialDue := some (t + 1000000000) } := by
  simp only [shuntTrial, trial]
  exact if_neg (by simp [senseKind_universal universal, shut, ended])

theorem sensorSupplyRetry_due {k t : Nat} (supply : k < 8) (on : s.domain 11 = true)
    (retry : (s.input (128 + k)).st.trialDue = some t) (due : t ≤ s.now) (exceeds : Bool) :
    sensorSupplyRetry k exceeds s =
      if exceeds then s.updInput (128 + k) fun x => { x with trialDue := some (t + 1000000000) }
      else s.updInput (128 + k) fun x => { x with shut := false, trialDue := none } := by
  simp only [sensorSupplyRetry, retry]
  exact if_neg (by simp [supply, on, due])

end Events

/-- Settles O31: each event meets its own condition and leaves what it gives, and the read answers the flags. -/
theorem sensingEventsComplete : Obligations.SensingEventsComplete := by
  refine ⟨?status, ?shunt, ?trial, ?hit, ?cap, ?wire, ?trip, ?retry⟩
  case status => exact fun dt s r z ht ha => senseGetStatus_requests.exec_read ht ha rfl rfl rfl
  case shunt =>
    intro dt s i ht universal on current closed
    exact runCmd_to ht (if_pos ⟨universal, on, current, by simp [closed]⟩)
  case trial =>
    intro dt s i t ht universal shut trial ended
    have ends (inRange : Bool) := shuntTrial_ends (s := s.elapse dt) universal shut trial ended inRange
    exact ⟨runCmd_to ht (ends true), runCmd_to ht (ends false)⟩
  case hit =>
    intro dt s i h ht loss on enabled
    dsimp only
    intro hit seen since
    exact runCmd_to ht (if_neg (by simpa [loss, on, enabled] using And.intro hit (And.intro seen since)))
  case cap =>
    intro dt s i cap ht loss on enabled check
    dsimp only
    intro swapped blind first
    exact runCmd_to ht (if_neg (by simpa [loss, on, enabled, check] using And.intro swapped (And.intro blind first)))
  case wire => exact fun dt s i o ht bridge on enabled => runCmd_to ht (if_pos ⟨bridge, on, enabled⟩)
  case trip =>
    intro dt s k ht supply on volts closed
    exact runCmd_to ht (if_pos ⟨supply, on, volts, by simp [closed]⟩)
  case retry =>
    intro dt s k t ht supply on retry due
    have ends (exceeds : Bool) := sensorSupplyRetry_due (s := s.elapse dt) supply on retry due exceeds
    exact ⟨runCmd_to ht (ends true), runCmd_to ht (ends false)⟩

end Sys2Proof.Machine

namespace Sys2Proof.Machine
open Sys2Proof

/-! ### What the samples of some resources leave alone (09 R244, R253, R254) -/

/-- From `s` to `t` the state of the resources in `P` may change: no settings, no other resource, and nothing of memory, time
and the power channels. -/
structure SamplesOnly (P : Nat → Prop) (s t : State) : Prop where
  mem    : t.mem = s.mem
  power  : t.power = s.power
  time   : t.time = s.time
  cfg    : ∀ j, (t.input j).cfg = (s.input j).cfg
  others : ∀ j, ¬ P j → t.input j = s.input j

namespace SamplesOnly
variable {P Q : Nat → Prop} {s t u : State}

theorem refl (s : State) : SamplesOnly P s s := ⟨rfl, rfl, rfl, fun _ => rfl, fun _ _ => rfl⟩

theorem trans (h : SamplesOnly P s t) (k : SamplesOnly P t u) : SamplesOnly P s u :=
  ⟨k.mem.trans h.mem, k.power.trans h.power, k.time.trans h.time, fun j => (k.cfg j).trans (h.cfg j),
    fun j out => (k.others j out).trans (h.others j out)⟩

theorem mono (h : SamplesOnly P s t) (sub : ∀ j, P j → Q j) : SamplesOnly Q s t :=
  ⟨h.mem, h.power, h.time, h.cfg, fun j out => h.others j fun inside => out (sub j inside)⟩

theorem ite {c : Prop} [Decidable c] (h : SamplesOnly P s t) (k : SamplesOnly P s u) :
    SamplesOnly P s (if c then t else u) := by
  split
  · exact h
  · exact k

theorem foldl {β : Type} {g : State → β → State} {l : List β} (h : ∀ t, ∀ x ∈ l, SamplesOnly P t (g t x))
    (s : State) : SamplesOnly P s (l.foldl g s) := by
  induction l generalizing s with
  | nil => exact refl s
  | cons x l ih =>
    exact (h s x List.mem_cons_self).trans (ih (fun t y later => h t y (List.mem_cons_of_mem _ later)) _)

/-- Where no resource may change, each reads as before. -/
theorem input (h : SamplesOnly (fun _ => False) s t) (i : Nat) : t.input i = s.input i := h.others i id

/-- What touches no resource may follow. -/
theorem thenNone (h : SamplesOnly P s t) (k : SamplesOnly (fun _ => False) t u) : SamplesOnly P s u :=
  h.trans (k.mono fun _ => False.elim)

/-- With every resource sampled in its own turn, a resource is as its own sample leaves it, made with the resource as it
was. -/
theorem foldl_input {g : State → Nat → State} {l : List Nat} (h : ∀ t k, SamplesOnly (· = k) t (g t k)) (once : l.Nodup)
    {i : Nat} (mem : i ∈ l) (s : State) :
    ∃ u, SamplesOnly (· ≠ i) s u ∧ (l.foldl g s).input i = (g u i).input i := by
  obtain ⟨before, after, rfl⟩ := List.append_of_mem mem
  obtain ⟨-, single, apart⟩ := List.nodup_append.1 once
  have turnless {l : List Nat} (out : i ∉ l) (t : State) : SamplesOnly (· ≠ i) t (l.foldl g t) :=
    foldl (fun t k turn => (h t k).mono fun j (at_ : j = k) (same : j = i) => out (same ▸ at_ ▸ turn)) t
  refine ⟨before.foldl g s, turnless (fun turn => apart i turn i List.mem_cons_self rfl) s, ?_⟩
  rw [List.foldl_append, List.foldl_cons]
  exact (turnless (List.nodup_cons.1 single).1 _).others i fun other => other rfl

theorem raise (s : State) (code source resource : Nat) (d : Bytes) : SamplesOnly P s (s.raise code source resource d) := by
  obtain ⟨x, raised⟩ := s.raise_eq code source resource d
  rw [raised]
  exact ⟨rfl, rfl, rfl, fun _ => rfl, fun _ _ => rfl⟩

theorem publish (s : State) (code value stamp deliver : Nat) (valid : Bool) :
    SamplesOnly P s (s.publish code value stamp deliver valid) :=
  foldl (g := fun t (d : SigDef) => t.deliverSignal d.id value _ deliver valid)
    (fun _ _ _ => ⟨rfl, rfl, rfl, fun _ => rfl, fun _ _ => rfl⟩) s

theorem publishSense (s : State) (quantity i value g : Nat) : SamplesOnly P s (s.publishSense quantity i value g) :=
  publish _ _ _ _ _ _

theorem publishStatus (s : State) (i g : Nat) : SamplesOnly P s (s.publishStatus i g) := publish _ _ _ _ _ _

theorem updInput (s : State) (i : Nat) (f : InputState → InputState) : SamplesOnly (· = i) s (s.updInput i f) := by
  refine ⟨rfl, rfl, rfl, fun j => ?_, fun j other => State.input_updInput_ne s other f⟩
  by_cases same : j = i
  · subst same; rw [State.input_updInput]
  · rw [State.input_updInput_ne s same]

theorem judgeFault (s : State) (i : Nat) (now : Bool) (value : Int) (cause : Nat) :
    SamplesOnly (· = i) s (s.judgeFault i now value cause) :=
  ite ((updInput s i _).trans (raise _ _ _ _ _)) (ite ((updInput s i _).trans (raise _ _ _ _ _)) (refl s))

end SamplesOnly

/-! ### A fault judged (09 R248, R249) -/

section Judged
variable (s : State)

@[simp] theorem State.raise_input (code source resource : Nat) (d : Bytes) (j : Nat) :
    (s.raise code source resource d).input j = s.input j :=
  (SamplesOnly.raise s code source resource d).input j

/-- An input is faulted as it is judged to be; its value and stamp stay. -/
theorem State.judgeFault_input (i : Nat) (now : Bool) (value : Int) (cause : Nat) :
    let x := ((s.judgeFault i now value cause).input i).st
    x.fault = now ∧ x.value = (s.input i).st.value ∧ x.stamp = (s.input i).st.stamp := by
  cases now <;> cases faulted : (s.input i).st.fault <;> simp [State.judgeFault, faulted]

end Judged

/-! ### One universal input and one supply at an interval end (09 R244 to R249, R254) -/

section Universal
variable (i : Nat) (v : Int) (new : List Nat) (s : State)

/-- A sample is taken of the reading itself: no frequency, and no shunt that is open. -/
def InputState.takesReading (x : InputState) (mode : Nat) : Prop := mode ≠ 6 ∧ (mode = 4 → x.shut = false)

/-- A value held to the range of a universal mode (Table 09-2). -/
def heldToRange (mode : Nat) (v : Int) : Int := clampI (uniRange mode).1 (uniRange mode).2 v

/-- An input that is off or restarted just now takes no sample; any other is judged with the value it takes, and after that
produces at most. -/
theorem uniSample_cases :
    (uniMode (s.input i).cfg = 0 ∨ s.grid ≤ (s.input i).st.since) ∧ uniSample i v new s = s ∨
    ∃ value f now cause,
      ((s.input i).st.takesReading (uniMode (s.input i).cfg) → value = heldToRange (uniMode (s.input i).cfg) v) ∧
      (∀ x, (f x).value = value ∧ (f x).stamp = s.time.mast) ∧
      SamplesOnly (fun _ => False) ((s.updInput i f).judgeFault i now value cause) (uniSample i v new s) := by
  by_cases off : uniMode (s.input i).cfg = 0 ∨ s.grid ≤ (s.input i).st.since
  case pos => exact .inl ⟨off, if_pos off⟩
  case neg =>
    have produced (c d : Prop) [Decidable c] [Decidable d] (u : State) (q r x y g : Nat) : SamplesOnly (fun _ => False) u
        (if c then (if d then (u.publishSense q i x g).publishSense r i y g else u.publishSense q i x g).publishStatus i g
          else u) :=
      .ite (.trans (.ite (.trans (.publishSense _ _ _ _ _) (.publishSense _ _ _ _ _)) (.publishSense _ _ _ _ _))
        (.publishStatus _ _ _)) (.refl u)
    refine .inr ⟨_, _, _, _, fun ⟨noFrequency, closed⟩ => ?_, fun x => ⟨rfl, rfl⟩,
      (congrArg (SamplesOnly _ _) (if_neg off :)).mpr (produced _ _ _ _ _ _ _ _)⟩
    rw [heldToRange, if_neg noFrequency, if_neg fun ⟨current, opened, _⟩ => by simp [closed current] at opened]

theorem uniSample_samplesOnly : SamplesOnly (· = i) s (uniSample i v new s) := by
  obtain ⟨-, same⟩ | ⟨value, f, now, cause, -, -, produces⟩ := uniSample_cases i v new s
  · rw [same]
    exact .refl s
  · exact ((SamplesOnly.updInput s i f).trans (.judgeFault _ i now value cause)).thenNone produces

variable {i v new s} in
theorem uniSample_off (off : uniMode (s.input i).cfg = 0) : uniSample i v new s = s := if_pos (.inl off)

variable {i} in
theorem uniSample_input (on : uniMode (s.input i).cfg ≠ 0) (later : (s.input i).st.since < s.grid)
    (reading : (s.input i).st.takesReading (uniMode (s.input i).cfg)) :
    ((uniSample i v new s).input i).st.value = heldToRange (uniMode (s.input i).cfg) v ∧
    ((uniSample i v new s).input i).st.stamp = s.time.mast := by
  obtain ⟨off | early, -⟩ | ⟨value, f, now, cause, taken, sampled, produces⟩ := uniSample_cases i v new s
  · exact absurd off on
  · exact absurd early (Nat.not_le.2 later)
  · obtain ⟨-, sameValue, sameStamp⟩ := (s.updInput i f).judgeFault_input i now value cause
    rw [produces.input i, sameValue, sameStamp, State.input_updInput, ← taken reading]
    exact sampled _

theorem supplySample_samplesOnly (x : Int × Int) : SamplesOnly (· = i) s (supplySample i x s) :=
  .ite (.refl s) (.ite (.trans (.updInput s i _) (.trans (.publishSense _ _ _ _ _) (.trans
    (.publishSense _ _ _ _ _) (.publishStatus _ _ _)))) (.updInput s i _))

end Universal

/-! ### The ends of sample intervals (09 R244, R251, R253) -/

section Ends
variable {s : State} {i : Nat}

/-- The edges that an interval gives one input. -/
def sampleEdges (x : UniSample) (i : Nat) : List Nat :=
  ((x.edges.filter (fun e => e.1 == i)).map (fun e => e.2)).flatten

/-- The supplies of an interval. -/
def State.sampleSupplies (s : State) (x : UniSample) : State :=
  (upto 8).foldl (fun t k => supplySample (128 + k) (x.supplies.getD k (0, 0)) t) s

/-- The universal inputs of an interval. -/
def State.sampleInputs (s : State) (x : UniSample) : State :=
  (upto 96).foldl (fun t i => uniSample i (x.values.getD i 0) (sampleEdges x i) t) s

theorem universalSampleEnd_due (x : UniSample) (on : s.domain 11 = true) (due : s.grid % 100000 = 0)
    (swapped : s.majorDue = false) : universalSampleEnd x s = ((s.sampleSupplies x).sampleInputs x).noteMoisture :=
  if_neg (by simp [on, due, swapped])

variable (s) (x : UniSample)

theorem State.sampleSupplies_samplesOnly : SamplesOnly (128 ≤ ·) s (s.sampleSupplies x) :=
  .foldl (fun t k _ => (supplySample_samplesOnly (128 + k) t _).mono fun _ at_ => at_ ▸ Nat.le_add_right 128 k) s

theorem State.sampleInputs_samplesOnly : SamplesOnly (· < 96) s (s.sampleInputs x) :=
  .foldl (fun t k turn => (uniSample_samplesOnly k _ _ t).mono fun _ at_ => at_ ▸ List.mem_range.1 turn) s

theorem State.noteMoisture_samplesOnly (P : Nat → Prop) : SamplesOnly P s s.noteMoisture :=
  ⟨rfl, rfl, rfl, fun _ => rfl, fun _ _ => rfl⟩

variable {x} (on : s.domain 11 = true) (due : s.grid % 100000 = 0) (swapped : s.majorDue = false)
include on due swapped

/-- An interval touches universal inputs and supplies at most. -/
theorem universalSampleEnd_samplesOnly : SamplesOnly (fun j => j < 96 ∨ 128 ≤ j) s (universalSampleEnd x s) := by
  rw [universalSampleEnd_due x on due swapped]
  exact ((s.sampleSupplies_samplesOnly x).mono fun _ => .inr).trans <|
    ((State.sampleInputs_samplesOnly _ x).mono fun _ => .inl).trans (State.noteMoisture_samplesOnly _ _)

/-- A universal input takes its own sample, with itself and the time as they were. -/
theorem universalSampleEnd_input (universal : i < 96) : ∃ u, u.input i = s.input i ∧ u.time = s.time ∧
    (universalSampleEnd x s).input i = (uniSample i (x.values.getD i 0) (sampleEdges x i) u).input i := by
  have supplies := s.sampleSupplies_samplesOnly x
  obtain ⟨u, before, sampled⟩ := SamplesOnly.foldl_input
    (g := fun t i => uniSample i (x.values.getD i 0) (sampleEdges x i) t) (fun t k => uniSample_samplesOnly k _ _ t)
    List.nodup_range (List.mem_range.2 universal) (s.sampleSupplies x)
  have same : u.input i = s.input i :=
    (before.others i fun other => other rfl).trans (supplies.others i (by omega))
  refine ⟨u, same, before.time.trans supplies.time, ?_⟩
  rw [universalSampleEnd_due x on due swapped]
  exact ((State.noteMoisture_samplesOnly _ _).input i).trans sampled

theorem universalSampleEnd_off (universal : i < 96) (off : uniMode (s.input i).cfg = 0) :
    (universalSampleEnd x s).input i = s.input i := by
  obtain ⟨u, same, -, sampled⟩ := universalSampleEnd_input s (x := x) on due swapped universal
  rw [sampled, uniSample_off (same ▸ off), same]

theorem universalSampleEnd_reading (universal : i < 96) (mode : uniMode (s.input i).cfg ≠ 0)
    (later : (s.input i).st.since < s.grid) (reading : (s.input i).st.takesReading (uniMode (s.input i).cfg)) :
    ((universalSampleEnd x s).input i).st.value = heldToRange (uniMode (s.input i).cfg) (x.values.getD i 0) ∧
    ((universalSampleEnd x s).input i).st.stamp = s.time.mast := by
  obtain ⟨u, same, time, sampled⟩ := universalSampleEnd_input s (x := x) on due swapped universal
  have grid : u.grid = s.grid := by rw [State.grid, State.grid, time]
  rw [sampled, ← time, ← same]
  exact uniSample_input _ _ u (same ▸ mode) (by rwa [same, grid]) (same ▸ reading)

end Ends

section Ends
variable {s : State} {i : Nat} (on : s.domain 11 = true) (swapped : s.majorDue = false)
  (since : (s.input i).st.since < s.grid)
include on swapped since

/-- A bridge input with a reading taken. -/
def InputState.withReading (x : InputState) (reading : Int) (stamp : Nat) : InputState :=
  let value := clampI (-10000000) 10000000 reading
  { x with value := value, stamp := stamp, acc := (value :: x.acc).take 255 }

/-- A bridge input takes its reading, and is faulted while a wire is open. -/
theorem bridgeSampleEnd_due (reading : Int) (bridge : senseKind i = 2) (enabled : bridgeEnable (s.input i).cfg = true)
    (due : s.grid % bridgeTb (s.input i).cfg = 0) :
    let t := bridgeSampleEnd i reading s
    SamplesOnly (· = i) s t ∧ (t.input i).st.value = clampI (-10000000) 10000000 reading ∧
      (t.input i).st.stamp = s.time.mast ∧ (t.input i).st.fault = (s.input i).st.wireFail := by
  have noted (u : State) (c : Prop) [Decidable c] (y : YieldSt) : SamplesOnly (fun _ => False) u
      (if c then { u with sense := { u.sense with yield_ := y } } else u) :=
    .ite ⟨rfl, rfl, rfl, fun _ => rfl, fun _ _ => rfl⟩ (.refl u)
  let taken := s.updInput i fun x => x.withReading reading s.time.mast
  have produces : SamplesOnly (fun _ => False)
      (taken.judgeFault i (s.input i).st.wireFail (clampI (-10000000) 10000000 reading) 5) (bridgeSampleEnd i reading s) := by
    unfold bridgeSampleEnd
    dsimp only
    rw [if_neg (by simp [on, swapped, since, bridge, enabled, due])]
    exact .trans (noted _ _ _) (.ite (.trans (.publishSense _ _ _ _ _) (.publishStatus _ _ _)) (.refl _))
  obtain ⟨fault, value, stamp⟩ := taken.judgeFault_input i (s.input i).st.wireFail _ 5
  have input : taken.input i = { s.input i with st := (s.input i).st.withReading reading s.time.mast } :=
    s.input_updInput i _
  rw [input] at value stamp
  dsimp only
  rw [produces.input i]
  exact ⟨((SamplesOnly.updInput s i _).trans (.judgeFault _ i _ _ _)).thenNone produces, value, stamp, fault⟩

/-- A loss input shows its hits, counts anew, and is judged by nothing. -/
theorem lossIntervalEnd_due (peak : Nat) (loss : senseKind i = 1) (enabled : lossEnable (s.input i).cfg = true)
    (due : s.grid % lossInterval (s.input i).cfg = 0) :
    SamplesOnly (fun _ => False)
      (s.updInput i fun x => { x with value := toSigned 32 x.hits, stamp := s.time.mast, hits := 0, energy := 0 })
      (lossIntervalEnd i peak s) := by
  unfold lossIntervalEnd
  dsimp only
  rw [if_neg (by simp [on, swapped, since, loss, enabled, due])]
  exact .trans (.publishSense _ _ _ _ _) (.trans (.publishSense _ _ _ _ _) (.trans (.publishSense _ _ _ _ _)
    (.publishStatus _ _ _)))

end Ends

/-! ### When an input is faulted (09 R248) -/

section Faulted
variable {c : Bytes} {x : InputState}

theorem faultAfter_starts (sound : x.fault = false) : faultAfter c x false = true ↔ uniSamples c ≤ x.bad := by
  simp [faultAfter, sound]

theorem faultAfter_ends (faulted : x.fault = true) : faultAfter c x false = false ↔ uniSamples c ≤ x.good := by
  simp [faultAfter, faulted]

theorem faultAfter_other (c : Bytes) (x : InputState) : faultAfter c x true = true := by
  cases h : x.fault <;> simp [faultAfter, h]

end Faulted

/-- Settles O32: what each interval touches, and the resource's own sample. -/
theorem sensingSamplesComplete : Obligations.SensingSamplesComplete := by
  refine ⟨?universal, ?bridge, ?loss, ?fault⟩
  case universal =>
    intro dt s x ht on due swapped
    have only := universalSampleEnd_samplesOnly (x := x) (s.elapse dt) on due swapped
    have reads {i : Nat} (universal : i < 96) :=
      universalSampleEnd_reading (x := x) (s.elapse dt) on due swapped universal
    refine ⟨_, runCmd_next ht _, only.mem, only.power, only.time,
      fun i universal later => ⟨fun m mode on noCurrent noFrequency => ?plain, fun current closed => ?current⟩,
      fun i universal off => universalSampleEnd_off (s.elapse dt) on due swapped universal off, fun i => ?others, only.cfg⟩
    case plain =>
      subst mode
      exact reads universal on later ⟨noFrequency, fun current => absurd current noCurrent⟩
    case current =>
      have read := (reads universal (by simp [current]) later ⟨by simp [current], fun _ => closed⟩).1
      rwa [State.elapse_input, current] at read
    case others =>
      by_cases touched : i < 96 ∨ 128 ≤ i
      · exact .inr touched
      · exact .inl (only.others i touched)
  case bridge =>
    intro dt s i reading ht bridge on enabled due since swapped
    obtain ⟨only, value, stamp, fault⟩ := bridgeSampleEnd_due (s := s.elapse dt) on swapped since reading bridge enabled due
    exact ⟨_, runCmd_next ht _, value, stamp, fault, only.others, only.mem⟩
  case loss =>
    intro dt s i peak ht loss on enabled due since swapped
    have produces := lossIntervalEnd_due (s := s.elapse dt) on swapped since peak loss enabled due
    have only := (SamplesOnly.updInput (s.elapse dt) i _).thenNone produces
    have input := (produces.input i).trans (State.input_updInput _ _ _)
    refine ⟨_, runCmd_next ht _, ?_, ?_, ?_, ?_, only.others, only.mem⟩ <;> rw [input] <;> rfl
  case fault => exact fun c x _ => ⟨faultAfter_starts, faultAfter_ends, faultAfter_other c x⟩

end Sys2Proof.Machine

namespace Sys2Proof.Machine
open Sys2Proof

/-! ### Steps of the yield tally (09 R258 to R260) -/

/-- A step's grams go to one of the two totals whole, placed or unplaced, short of saturation. -/
theorem YieldTotals.add_mass {t : YieldTotals} {g : Nat} (place : Nat ⊕ Unplaced) (w a : Nat)
    (room : t.placedMass + t.unplacedMass + g < 18446744073709551616) :
    (t.add place g w a).placedMass + (t.add place g w a).unplacedMass = t.placedMass + t.unplacedMass + g := by
  cases place with
  | inl c =>
    change sat64 t.placedMass g + t.unplacedMass = _
    unfold sat64
    omega
  | inr cause =>
    have unplaced : (t.add (.inr cause) g w a).placedMass = t.placedMass ∧
        (t.add (.inr cause) g w a).unplacedMass = sat64 t.unplacedMass g := by cases cause <;> exact ⟨rfl, rfl⟩
    rw [unplaced.1, unplaced.2]
    unfold sat64
    omega

/-- Settles O34: the accumulator hands its whole grams to the totals and carries the rest on. -/
theorem everyGramIsCountedOnce : Obligations.EveryGramIsCountedOnce := by
  intro now y r src z mass sum room
  have counted : z.totals.placedMass + z.totals.unplacedMass =
      y.totals.placedMass + y.totals.unplacedMass + (y.am + sum) / 1000000000000 := YieldTotals.add_mass _ _ _ room
  have carried : z.am = (y.am + sum) % 1000000000000 := rfl
  refine ⟨?_, Nat.mod_lt _ (by decide), Nat.mod_lt _ (by decide), Nat.mod_lt _ (by decide), Nat.le_max_left _ _,
    fun x kept => of_decide_eq_true (List.mem_filter.1 kept).2⟩
  rw [counted, carried]
  omega

/-- The step of the oldest record, once the last bridge sample of its mass interval is delivered. -/
theorem yieldStepProcess_due {s : State} {e : TallyStep} {rest : List TallyStep} (queued : s.sense.yield_.queue = e :: rest)
    (on : s.domain 11 = true)
    (delivered : (e.record.epoch + srcDelay e.sources) / bridgeTb (s.input (srcMass e.sources)).cfg *
      bridgeTb (s.input (srcMass e.sources)).cfg + 300 ≤ s.grid) :
    yieldStepProcess s = s.updYield fun y =>
      stepYield s.grid (({ y with queue := rest } : YieldSt).begin_ e) e.record e.sources := by
  simp only [yieldStepProcess, queued]
  exact if_neg (by simp [on, delivered])

/-! ### A cell written into both lanes (09 R262, R263) -/

section Dram
variable (s : State) (l : Lane) (a : Nat) (b : Bytes)

@[simp] theorem State.dramWrite_lane (k : Lane) : (s.dramWrite l a b).lane k = s.lane k := by
  refine ite_frame (π := fun t => t.lane k) ?_ rfl
  cases k <;> rfl

@[simp] theorem State.dramWrite_xtLane (k : Lane) : (s.dramWrite l a b).xtLane k = s.xtLane k := by
  refine ite_frame (π := fun t => t.xtLane k) ?_ rfl
  cases k <;> rfl

/-- A lane's memory is not the other lane's. -/
theorem State.dramWrite_dramRead_ne {k : Lane} (other : k.code ≠ l.code) (x n : Nat) :
    (s.dramWrite l a b).dramRead k x n = s.dramRead k x n := by
  have memory : (s.dramWrite l a b).memc k.code = s.memc k.code :=
    ite_frame (π := fun t => t.memc k.code) (s.memc_updMem_ne other _) rfl
  rw [State.dramRead, State.dramRead, memory]

end Dram

/-- Each of two running lanes adds the update to the cell it holds itself. -/
theorem yieldCellWrite_both {s : State} {w : CellWrite} {rest : List CellWrite} (queued : s.sense.yield_.writes = w :: rest)
    (due : w.slot ≤ s.slot) (active : (s.xtLane .main).state = .active) (standby : (s.xtLane .mizzen).state = .standby)
    (main : (s.lane .main).running = true) (mizzen : (s.lane .mizzen).running = true) :
    yieldCellWrite s = ((s.updYield fun y => { y with writes := rest }).dramWrite .main w.addr
      (w.add (s.dramRead .main w.addr 16))).dramWrite .mizzen w.addr (w.add (s.dramRead .mizzen w.addr 16)) := by
  let u := s.updYield fun y => { y with writes := rest }
  have lanes (l : Lane) : u.lane l = s.lane l ∧ u.xtLane l = s.xtLane l ∧ u.dramRead l = s.dramRead l := by
    cases l <;> exact ⟨rfl, rfl, rfl⟩
  obtain ⟨laneMain, xtMain, readMain⟩ := lanes .main
  obtain ⟨laneMizzen, xtMizzen, readMizzen⟩ := lanes .mizzen
  simp only [yieldCellWrite, queued, if_neg (Nat.not_lt.2 due), State.dramWrite_lane, State.dramWrite_xtLane,
    State.dramWrite_dramRead_ne _ .main _ _ (k := .mizzen) (by decide), u, laneMain, xtMain, readMain, laneMizzen, xtMizzen,
    readMizzen, active, standby, main, mizzen, Bool.not_true, Bool.false_eq_true, if_false]

theorem yieldGetTotals_requests : Requests opYieldGetTotals .yieldGetTotals := fun _ _ _ => rfl

/-- Settles O33: the read, the oldest record's step and the oldest update's write. -/
theorem yieldCommandsComplete : Obligations.YieldCommandsComplete := by
  refine ⟨?totals, ?step, ?cell⟩
  case totals => exact fun dt s r z ht ha => yieldGetTotals_requests.exec_read ht ha rfl rfl rfl
  case step =>
    intro dt s e rest ht queued on tb delivered u y
    exact runCmd_to ht (yieldStepProcess_due (s := s.elapse dt) queued on delivered)
  case cell =>
    intro dt s w rest ht queued due active standby main mizzen cell u
    exact runCmd_to ht (yieldCellWrite_both (s := s.elapse dt) queued due active standby main mizzen)

end Sys2Proof.Machine

namespace Sys2Proof.Machine
open Sys2Proof

/-! ### What a write into a lane's DRAM leaves alone (16 R424) -/

/-- A block's write is one into each lane's DRAM at most (01 R22). -/
theorem State.fanWrite_frame {α : Type} {π : State → α} {a : Nat} {b : Bytes}
    (each : ∀ t l, π (State.dramWrite t l a b) = π t) (s : State) : π (s.fanWrite a b) = π s :=
  ite_frame ((each _ .mizzen).trans (ite_frame (each s .main) rfl)) (ite_frame (each s .main) rfl)

theorem State.dramWrite_dramRead_outside {a : Nat} {b : Bytes} {x n : Nat} (outside : x + n ≤ a ∨ a + b.length ≤ x)
    (l : Lane) (s : State) (k : Lane) : (s.dramWrite k a b).dramRead l x n = s.dramRead l x n := by
  refine ite_frame (π := fun t => t.dramRead l x n) (List.map_congr_left fun i hi => congrArg deliveredData ?_) rfl
  have inside : i < n := List.mem_range.1 hi
  by_cases same : l.code = k.code
  · rw [same, State.memc_updMem]
    exact MemCtrl.code_write_ne _ _ _ _ b (by omega)
  · rw [State.memc_updMem_ne _ same]

theorem State.fanWrite_dramRead_outside {a : Nat} {b : Bytes} {x n : Nat} (outside : x + n ≤ a ∨ a + b.length ≤ x)
    (l : Lane) (s : State) : (s.fanWrite a b).dramRead l x n = s.dramRead l x n :=
  State.fanWrite_frame (π := fun t => t.dramRead l x n) (State.dramWrite_dramRead_outside outside l) s

theorem State.fanWrite_cams (s : State) (a : Nat) (b : Bytes) : (s.fanWrite a b).cams = s.cams :=
  State.fanWrite_frame (fun _ _ => ite_frame rfl rfl) s

theorem foldl_frame_of_mem {α β : Type} {π : State → α} {g : State → β → State} {l : List β}
    (h : ∀ x ∈ l, ∀ t, π (g t x) = π t) (s : State) : π (l.foldl g s) = π s := by
  induction l generalizing s with
  | nil => rfl
  | cons x l ih => rw [List.foldl_cons, ih fun y later => h y (List.mem_cons_of_mem _ later), h x List.mem_cons_self]

end Sys2Proof.Machine

namespace Sys2Proof.Machine
open Sys2Proof

/-- The bytes of a statistics entry (Table 11-4). -/
theorem statsEntry_length (c : Bytes) {head : Bytes} (full : head.length = 12) (stamp width height : Nat)
    (rows : List (List Taps)) : (statsEntry c head stamp width height rows).length = 10304 := by
  simp only [statsEntry, List.length_append, List.length_flatten, List.map_map, Function.comp_def, length_putLE, length_zeros,
    full, upto, List.map_const', List.length_range, List.sum_replicate, smul_eq_mul]

/-! ### What the close of a frame leaves alone (10 R276, 11 R311, R312) -/

/-- A port whose open frame has ended (R276, R278). -/
def CamPort.closed (f : OpenFrame) (lost : Bool) (c : CamPort) : CamPort :=
  { c with
    frame := none
    shortFrames := sat32 c.shortFrames (b2n (decide (f.received < expectedLines f.set.geom)))
    longFrames := sat32 c.longFrames (b2n (decide (expectedLines f.set.geom < f.received)))
    clockFaults := sat16 c.clockFaults (b2n lost) }

/-- A port but for what its streams report (Table 11-14). -/
def CamPort.asideStreams (c : CamPort) : CamPort := { c with streams := [], targetOff := false }

/-- `π` reads nothing that the writing of a frame of port `p` changes beside the lanes' DRAM: the lanes and the recorder, the
fusion engine and its memory, and what the port's streams report. -/
structure FrameOutput (p : Nat) {α : Type} (π : State → α) : Prop where
  main    : ∀ (s : State) x, π { s with main := x } = π s
  mizzen  : ∀ (s : State) x, π { s with mizzen := x } = π s
  rec_    : ∀ (s : State) x, π { s with rec_ := x } = π s
  fus     : ∀ (s : State) x, π { s with fus := x } = π s
  memory  : ∀ (s : State) f, π (s.updMem 4 f) = π s
  streams : ∀ (s : State) (x : CamPort → List StreamSt) (off : CamPort → Bool),
    π (s.updCam p fun c => { c with streams := x c, targetOff := off c }) = π s

/-- What stream `k` writes of a frame into the lanes' DRAM, `π` does not read (R310). -/
def AsideRows (f : OpenFrame) (rows : List (List Taps)) (k : Nat) {α : Type} (π : State → α) : Prop :=
  let c := f.set.streams.getD k camStreamReset
  bitOf (stPlace c) 0 = true → f.number % stDiv c = 0 →
    ∀ w ∈ streamWrites c rows (stLane c) (f.number / stDiv c % stRing c), ∀ t, π (State.fanWrite t w.1 w.2) = π t

/-- What the statistics of a frame write there, `π` does not read (R317). -/
def AsideEntry (f : OpenFrame) {α : Type} (π : State → α) : Prop :=
  saEnable f.set.stats = true → ∀ b : Bytes, b.length = 10304 →
    ∀ t, π (State.fanWrite t (saBase f.set.stats + f.number % saRing f.set.stats * 16384) b) = π t

namespace FrameOutput
variable {p : Nat} {α : Type} {π : State → α} (h : FrameOutput p π)
include h

theorem raiseCam (s : State) (code q : Nat) (l : List Int) : π (s.raiseCam code q l) = π s := by
  obtain ⟨x, raised⟩ := s.raise_eq code 3 q (details l)
  rw [State.raiseCam, raised, h.rec_]

theorem publishMast (s : State) (code value stamp deliver : Nat) (valid : Bool) :
    π (s.publishMast code value stamp deliver valid) = π s :=
  foldl_frame (fun t _ => t.updLanes_frame h.main h.mizzen _) _ _

theorem fusionWrite (s : State) (w : List (Nat × Bytes)) : π (s.fusionWrite w) = π s := ite_frame (h.memory _ _) rfl

theorem frameSamples (s : State) (q k : Nat) (f : OpenFrame) (flags rows entry : Nat) :
    π (s.frameSamples q k f flags rows entry) = π s :=
  ite_frame rfl (h.fus _ _)

/-- A stream that is due writes its rows. -/
theorem writeStream {k : Nat} {f : OpenFrame} {rows : List (List Taps)} (aside : AsideRows f rows k π)
    (flags : Nat) (s : State) : π (s.writeStream p k f flags rows) = π s := by
  unfold State.writeStream
  dsimp only
  split
  · rfl
  case isFalse due =>
    obtain ⟨-, due⟩ := not_or.1 due
    refine (h.publishMast _ _ _ _ _ _).trans ((h.frameSamples _ _ _ _ _ _ _).trans ?_)
    refine Eq.trans (ite_frame (h.raiseCam _ _ _ _) rfl) ?_
    refine (h.streams _ _ _).trans ?_
    refine Eq.trans (ite_frame (h.fusionWrite _ _) rfl) ?_
    split
    case isTrue lanes => exact foldl_frame_of_mem (aside lanes (not_not.1 due)) s
    case isFalse => rfl

theorem writeStats {f : OpenFrame} (aside : AsideEntry f π) (flags : Nat) (rows : List (List Taps)) (s : State) :
    π (s.writeStats p f flags rows) = π s := by
  unfold State.writeStats
  dsimp only
  split
  · rfl
  case isFalse on =>
    refine (h.publishMast _ _ _ _ _ _).trans ((h.streams _ _ _).trans ?_)
    exact aside (by simpa using on) _ (statsEntry_length _ (by simp) _ _ _ _) s

/-- Of the close of a frame, only its end at the port and its writes into the lanes' DRAM are seen. -/
theorem closeFrame {s : State} {f : OpenFrame} (opened : (s.camPort p).frame = some f)
    (rows : ∀ k < 4, AsideRows f (tapRows f.set (gWidth f.set.geom) f.mosaic) k π) (entry : AsideEntry f π)
    (timeout lost : Bool) : π (s.closeFrame p timeout lost) = π (s.updCam p (CamPort.closed f lost)) := by
  unfold State.closeFrame
  rw [opened]
  dsimp only
  refine (h.writeStats entry _ _ _).trans ?_
  refine (foldl_frame_of_mem (fun k hk => h.writeStream (rows k (List.mem_range.1 hk)) _) _).trans ?_
  refine (h.publishMast _ _ _ _ _ _).trans ?_
  refine Eq.trans (ite_frame (h.raiseCam _ _ _ _) rfl) ?_
  refine Eq.trans (ite_frame (h.raiseCam _ _ _ _) rfl) ?_
  exact ite_frame (h.raiseCam _ _ _ _) rfl

end FrameOutput

/-- The ports, but for what the streams of port `p` report. -/
def State.portsAside (p : Nat) (s : State) : Nat → CamPort := (s.updCam p CamPort.asideStreams).camPort

theorem portsAside_frameOutput (p : Nat) : FrameOutput p (State.portsAside p) where
  main _ _ := rfl
  mizzen _ _ := rfl
  rec_ _ _ := rfl
  fus _ _ := rfl
  memory _ _ := rfl
  streams s _ _ := congrArg State.camPort (s.updCam_updCam p _ CamPort.asideStreams)

theorem dramRead_frameOutput (p : Nat) (l : Lane) (a n : Nat) : FrameOutput p fun s => s.dramRead l a n where
  main _ _ := rfl
  mizzen _ _ := rfl
  rec_ _ _ := rfl
  fus _ _ := rfl
  memory s f := by
    have other : l.code ≠ 4 := by cases l <;> decide
    rw [State.dramRead, s.memc_updMem_ne other, State.dramRead]
  streams _ _ _ := rfl

section Aside
variable {p : Nat} {s t : State} (same : t.portsAside p = s.portsAside p)
include same

theorem camPort_of_portsAside : (t.camPort p).asideStreams = (s.camPort p).asideStreams := by
  simpa only [State.portsAside, State.camPort_updCam] using congrFun same p

theorem camPort_ne_of_portsAside {q : Nat} (other : q ≠ p) : t.camPort q = s.camPort q := by
  simpa only [State.portsAside, State.camPort_updCam_ne _ other] using congrFun same q

end Aside

theorem State.fanWrite_portsAside (p a : Nat) (b : Bytes) (s : State) : (s.fanWrite a b).portsAside p = s.portsAside p := by
  simp only [State.portsAside, State.updCam, funext_iff, State.camPort, State.fanWrite_cams, implies_true]

/-- Settles O38: beside its rows and its entry, the close of a frame changes no lane's DRAM; beside what its streams report, it
only ends the frame at the port. -/
theorem aFrameWritesOnlyItsEntries : Obligations.AFrameWritesOnlyItsEntries := by
  intro s p f timeout lost opened t rows
  have ends : t.portsAside p = (s.updCam p (CamPort.closed f lost)).portsAside p :=
    (portsAside_frameOutput p).closeFrame opened (fun _ _ _ _ _ _ => State.fanWrite_portsAside p _ _)
      (fun _ _ _ => State.fanWrite_portsAside p _ _) timeout lost
  have port := camPort_of_portsAside ends
  rw [State.camPort_updCam] at port
  refine ⟨congrArg (·.frame) port, congrArg (·.next) port, congrArg (·.gen) port, congrArg (·.set) port,
    congrArg (·.shortFrames) port, congrArg (·.longFrames) port,
    fun q other => (camPort_ne_of_portsAside ends other).trans (s.camPort_updCam_ne other _), fun l a apart entry => ?_⟩
  refine (dramRead_frameOutput p l a 1).closeFrame opened (fun k hk place due w hw => ?_) (fun on b size => ?_) timeout lost
  · exact State.fanWrite_dramRead_outside (apart k hk place due w hw) l
  · exact State.fanWrite_dramRead_outside (by rw [size]; exact entry on) l

end Sys2Proof.Machine

namespace Sys2Proof.Machine
open Sys2Proof

/-! ### The rising edge of frame-valid (10 R274, R280, R290, R293, 11 R300) -/

/-- The exposure set that the next frame carries, with its countdown at 1 (R290). -/
def CamPort.carried (c : CamPort) : Option (Nat × Bytes) := (c.carries.filter fun x => x.1 == 1).getLast?

/-- The next frame begins a new generation (R300). -/
def CamPort.renewed (c : CamPort) (swapped : Bool) : Bool := swapped || c.carried.isSome || c.genPending

/-- The frame that opens at a real boundary (R280). -/
def CamPort.opens (c : CamPort) (swapped : Bool) (mast now : Nat) : OpenFrame :=
  { number := c.next
    stamp := mast
    openedAt := now
    gen := if c.renewed swapped then (c.gen + 1) % 65536 else c.gen
    newGen := c.renewed swapped
    uncertain := c.marks.contains 1
    exposure := match c.carried with
      | some (_, b) => b
      | none => c.exposure
    set := c.set
    mismatch := c.mismatch }

section Opens
variable {c : CamPort} (swapped : Bool) (mast now : Nat)

theorem CamPort.opens_exposure_none (none : c.carried = none) : (c.opens swapped mast now).exposure = c.exposure := by
  simp only [CamPort.opens, none]

theorem CamPort.opens_exposure_some {x : Nat × Bytes} (carried : c.carried = some x) :
    (c.opens swapped mast now).exposure = x.2 := by
  simp only [CamPort.opens, carried]

end Opens

/-- What a real boundary leaves of its port. -/
theorem State.realBoundary_camPort {s : State} {p : Nat} {c : CamPort} (port : s.camPort p = c) (swapped : Bool) :
    let f := c.opens swapped s.time.mast s.now
    let d := (s.realBoundary p swapped).camPort p
    d.frame = some f ∧ d.exposure = f.exposure ∧ d.gen = f.gen ∧ d.last = c.next ∧ d.next = (c.next + 1) % 4294967296 ∧
      d.lastStamp = s.time.mast ∧ d.set = c.set ∧ d.fv = c.fv ∧ d.idle = false := by
  subst port
  intro f d
  rw [show d = _ from s.camPort_updCam p _]
  exact ⟨rfl, rfl, rfl, rfl, rfl, rfl, rfl, rfl, rfl⟩

theorem State.swapFrames_of_still {s : State} {p : Nat} (still : s.frameSwaps p = []) : s.swapFrames p = (s, false) := by
  rw [State.swapFrames, still]
  rfl

theorem frameValidRise_opens {s : State} {p : Nat} (on : s.domain 8 = true) (port : p ≤ 7)
    (low : (s.camPort p).fv = false) (enabled : pEnable (s.camPort p).set.port = true) (swapped : s.majorDue = false)
    (still : s.frameSwaps p = []) :
    frameValidRise p s = (s.updCam p fun c => { c with fv := true }).realBoundary p false := by
  have swaps : (s.updCam p fun c => { c with fv := true }).swapFrames p = (_, false) := State.swapFrames_of_still still
  unfold frameValidRise
  simp [on, low, enabled, swapped, swaps, Nat.not_lt.2 port]

/-- Settles O36: with nothing to swap, the edge is the port's real boundary, whose frame carries what the port held. -/
theorem aRisingEdgeOpensOneFrame : Obligations.ARisingEdgeOpensOneFrame := by
  intro dt s p ht on port low enabled swapped still c carried new
  let u := (s.elapse dt).updCam p fun c => { c with fv := true }
  let t := u.realBoundary p false
  have raised : u.camPort p = { c with fv := true } := (s.elapse dt).camPort_updCam p _
  obtain ⟨frame, exposure, gen, last, next, stamp, set, fv, idle⟩ := State.realBoundary_camPort raised false
  have renewed : c.renewed false = new :=
    congrArg (· || c.genPending) (Bool.eq_iff_iff.2 (List.getLast?_isSome.trans decide_eq_true_iff.symm))
  have others (q : Nat) (other : q ≠ p) : t.camPort q = s.camPort q :=
    (u.camPort_updCam_ne other _).trans ((s.elapse dt).camPort_updCam_ne other _)
  refine ⟨t, _, runTaking_to ht (frameValidRise_opens on port low enabled swapped still), frame, rfl, rfl, rfl, rfl, rfl, rfl,
    renewed, by rw [← renewed]; rfl, fun empty => ?_, fun b last => ?_, exposure, gen, last, next, stamp, set, fv, idle, others,
    rfl, rfl, rfl, rfl, rfl⟩
  · exact CamPort.opens_exposure_none _ _ _ (congrArg List.getLast? empty)
  · exact CamPort.opens_exposure_some _ _ _ last

end Sys2Proof.Machine

namespace Sys2Proof.Machine
open Sys2Proof

/-! ### Commands of the camera ports (10 R289, R295, 11 R320) -/

theorem camSensorTransfer_requests : Requests opCamSensorTransfer .camSensorTransfer := fun _ _ _ => rfl
theorem camGetStatus_requests : Requests opCamGetStatus .camGetStatus := fun _ _ _ => rfl
theorem camClearCounters_requests : Requests opCamClearCounters .camClearCounters := fun _ _ _ => rfl
theorem camGetStreamStatus_requests : Requests opCamGetStreamStatus .camGetStreamStatus := fun _ _ _ => rfl

/-- An immediate command that is answered later. -/
theorem Requests.exec_later {op : OpSpec} {c : Nat → Request → Instr} (hc : Requests op c) {dt : Nat} {s t : State}
    {r : Request} {z : Resolved} (ht : s.inTime dt) (ha : op.Accepts (s.elapse dt) r z) (hk : op.kind = .immediate)
    (hr : op.run (op.noted (s.elapse dt) r z) r = (t, none)) : exec (c dt r) s = .next t.settle :=
  (hc dt r s).trans (runTaking_to ht (runRequest_later ha hk hr))

/-! ### What a line adds, and what the pixel clock is judged by (10 R273, R277) -/

/-- A line beyond the expected ones joins no row. -/
theorem OpenFrame.addLine_surplus {f : OpenFrame} (surplus : expectedLines f.set.geom ≤ f.received) (samples : List Nat) :
    f.addLine samples = { f with
      received := f.received + 1
      shortLines := f.shortLines || decide (samples.length < gSkipLeft f.set.geom + gWidth f.set.geom)
      longLines := f.longLines || decide (gSkipLeft f.set.geom + gWidth f.set.geom < samples.length)
      discarded := f.discarded + 1 } := by
  have top : gSkipTop f.set.geom ≤ f.received := (Nat.le_add_right _ _).trans surplus
  simp only [OpenFrame.addLine, Nat.not_lt.2 top, Nat.not_lt.2 surplus, if_false]

/-- A pixel clock within 5 % of what the port expects (R273). -/
def pclkNear (want edges : Nat) : Bool := decide (95 * want ≤ 100 * edges) && decide (100 * edges ≤ 105 * want)

theorem pclkOff_eq (want edges : Nat) :
    decide (5 * want < 100 * (if edges < want then want - edges else edges - want)) = !pclkNear want edges := by
  rw [pclkNear, ← Bool.decide_and, ← decide_not, decide_eq_decide]
  split <;> omega

/-! ### What ends a frame (10 R274, R278) -/

section Ports
variable {s : State} {p : Nat} (on : s.domain 8 = true)
include on

theorem frameValidFall_asserted (port : p ≤ 7) (asserted : (s.camPort p).fv = true) :
    frameValidFall p s = (s.updCam p fun c => { c with fv := false }).closeFrame p false false :=
  if_neg (by simp [on, asserted, port])

section Open
variable {f : OpenFrame} (opened : (s.camPort p).frame = some f)
include opened

theorem frameTimeout_due (due : f.openedAt + pTimeout f.set.port ≤ s.now) :
    frameTimeout p s = s.closeFrame p true false := by
  simp only [frameTimeout, opened]
  exact if_neg (by simp [on, due])

theorem cameraClockLost_due (due : f.openedAt + 10000 ≤ s.now) : cameraClockLost p s = s.closeFrame p false true := by
  simp only [cameraClockLost, opened]
  exact if_neg (by simp [on, due])

end Open

/-! ### Lines (10 R274, R277) -/

section Lines
variable (port : p ≤ 7) (enabled : pEnable (s.camPort p).set.port = true) (line : LineData)
include port enabled

theorem lineEnd_stray (low : (s.camPort p).fv = false) :
    lineEnd p line s = s.updCam p fun c => { c with stray := sat32 c.stray 1 } := by
  unfold lineEnd
  simp [on, port, enabled, low]

theorem lineEnd_discarded (asserted : (s.camPort p).fv = true) (closed : (s.camPort p).frame = none) :
    lineEnd p line s = s.updCam p fun c => { c with discarded := sat32 c.discarded 1 } := by
  unfold lineEnd
  simp [on, port, enabled, asserted, closed]

theorem lineEnd_open {f : OpenFrame} (asserted : (s.camPort p).fv = true) (opened : (s.camPort p).frame = some f) :
    lineEnd p line s = s.updCam p fun c =>
      { c with
        frame := some (f.addLine (portSamples f.set.port line))
        discarded := sat32 c.discarded (b2n (decide (expectedLines f.set.geom ≤ f.received))) } := by
  unfold lineEnd
  simp [on, port, enabled, asserted, opened]

end Lines

/-! ### The measured pixel clock (10 R273) -/

section Clock
variable (port : p ≤ 7) (due : s.grid % 1000000 = 0) {edges : Nat}
include port due

theorem pclkMeasure_due : pclkMeasure p edges s =
    let near := pclkNear (pPclk (s.camPort p).set.port) edges
    let t := s.updCam p fun c => { c with measured := min 300000 edges, mismatch := !near }
    if !near && !(s.camPort p).mismatch then t.raiseCam 0x0804 p [(edges : Int)] else t := by
  unfold pclkMeasure
  dsimp only
  rw [if_neg (by simp [on, port, due]), pclkOff_eq]

/-- A clock that is as expected, or was not before, makes no record. -/
theorem pclkMeasure_known
    (known : pclkNear (pPclk (s.camPort p).set.port) edges = true ∨ (s.camPort p).mismatch = true) :
    pclkMeasure p edges s = s.updCam p fun c =>
      { c with measured := min 300000 edges, mismatch := !pclkNear (pPclk (s.camPort p).set.port) edges } := by
  refine (pclkMeasure_due on port due).trans (if_neg ?_)
  rcases known with near | known
  · simp [near]
  · simp [known]

/-- One that is no longer as expected makes one. -/
theorem pclkMeasure_lost (off : pclkNear (pPclk (s.camPort p).set.port) edges = false)
    (fresh : (s.camPort p).mismatch = false) :
    pclkMeasure p edges s = (s.updCam p fun c =>
      { c with measured := min 300000 edges, mismatch := !pclkNear (pPclk (s.camPort p).set.port) edges }).raiseCam
        0x0804 p [(edges : Int)] :=
  (pclkMeasure_due on port due).trans (if_pos (by simp [off, fresh]))

end Clock

end Ports

/-- Settles O35: what an accepted command leaves its block, and each event in the one branch its premises name. -/
theorem cameraCommandsComplete : Obligations.CameraCommandsComplete := by
  refine ⟨?transfer, ?status, ?clear, ?streamStatus, ?fall, ?ends, ?line, ?clock⟩
  case transfer => exact fun dt s r z ht ha => camSensorTransfer_requests.exec_later ht ha rfl rfl
  case status => exact fun dt s r z ht ha => camGetStatus_requests.exec_read ht ha rfl rfl rfl
  case clear => exact fun dt s r z ht ha => camClearCounters_requests.exec_done ht ha rfl rfl rfl
  case streamStatus => exact fun dt s r z ht ha => camGetStreamStatus_requests.exec_read ht ha rfl rfl rfl
  case fall =>
    exact fun dt s p ht on port asserted => runCmd_to ht (frameValidFall_asserted (s := s.elapse dt) on port asserted)
  case ends =>
    exact fun dt s p f ht on opened => ⟨fun due => runCmd_to ht (frameTimeout_due (s := s.elapse dt) on opened due),
      fun due => runCmd_to ht (cameraClockLost_due (s := s.elapse dt) on opened due)⟩
  case line =>
    intro dt s p line ht on port enabled
    let u := s.elapse dt
    refine ⟨fun low => runCmd_to ht (lineEnd_stray (s := u) on port enabled line low),
      fun asserted closed => runCmd_to ht (lineEnd_discarded (s := u) on port enabled line asserted closed),
      fun f asserted opened expected => runCmd_to ht ?_, fun f asserted opened surplus => runCmd_to ht ?_⟩
    · rw [lineEnd_open (s := u) on port enabled line asserted opened, decide_eq_false (Nat.not_le.2 expected)]
      rfl
    · rw [lineEnd_open (s := u) on port enabled line asserted opened, decide_eq_true surplus, f.addLine_surplus surplus]
      rfl
  case clock =>
    intro dt s p edges ht on port due want near t
    exact ⟨fun known => runCmd_to ht (pclkMeasure_known (s := s.elapse dt) on port due known),
      fun off fresh => runCmd_to ht (pclkMeasure_lost (s := s.elapse dt) on port due off fresh)⟩

end Sys2Proof.Machine

namespace Sys2Proof.Machine
open Sys2Proof

/-! ### Write slots (10 R287) -/

section Slot
variable {s : State} {p : Nat} (on : s.domain 8 = true) (port : p ≤ 7) (slot : s.opSlot 3 (0x10 + p) = true)
  (blank : (s.camPort p).fv = false ∨ pEnable (s.camPort p).set.port = false)
include on port slot blank

theorem writeSlot_usable :
    ¬ (!s.domain 8 || decide (7 < p) || !s.opSlot 3 (0x10 + p) ||
      ((s.camPort p).fv && pEnable (s.camPort p).set.port)) = true := by
  rcases blank with low | disabled
  · simp [on, port, slot, low]
  · simp [on, port, slot, disabled]

/-- The exposure set that waits goes first; one without writes is complete at once (R286). -/
theorem cameraWriteSlot_exposure {b : Bytes} (idle : (s.camPort p).job = none) (waits : (s.camPort p).waiting = some b)
    (undone : (s.camPort p).setDone = false) :
    cameraWriteSlot p s =
      let t := s.updCam p fun c => { c with waiting := none }
      if eWrites b = 0 then t.completeSet p b false else t.startJob p ⟨some b, none, 0, s.now, false⟩ := by
  unfold cameraWriteSlot
  dsimp only
  rw [if_neg (writeSlot_usable on port slot blank), idle, waits, undone]
  rfl

/-- With no set to write, the oldest transfer goes. -/
theorem cameraWriteSlot_transfer {r : Request} {rest : List Request} (idle : (s.camPort p).job = none)
    (noSet : (s.camPort p).waiting = none ∨ (s.camPort p).setDone = true) (queued : (s.camPort p).queue = r :: rest) :
    cameraWriteSlot p s =
      (s.updCam p fun c => { c with queue := rest }).startJob p ⟨none, some r, 0, s.now, false⟩ := by
  unfold cameraWriteSlot
  dsimp only
  rw [if_neg (writeSlot_usable on port slot blank), idle, queued]
  rcases noSet with nothing | done
  · rw [nothing]
    rfl
  · rw [done]
    cases (s.camPort p).waiting <;> rfl

/-- A link that is still busy when a transfer waits is late (log 123). -/
theorem cameraWriteSlot_late {j : LinkJob} (busy : (s.camPort p).job = some j) (queued : (s.camPort p).queue ≠ []) :
    cameraWriteSlot p s = s.blockLate 3 (0x10 + p) := by
  have waits : (s.camPort p).hasTransfer = true := by simp [CamPort.hasTransfer, queued]
  unfold cameraWriteSlot
  dsimp only
  rw [if_neg (writeSlot_usable on port slot blank), busy, waits]
  rfl

end Slot

/-! ### The end of a transaction (10 R286, R289 to R292) -/

/-- A set that no frame boundary has crossed is carried as `LATENCY` gives (R290). -/
theorem State.completeSet_uncrossed (s : State) (p : Nat) (b : Bytes) : s.completeSet p b false =
    s.updCam p fun c =>
      { c with job := none, setDone := true, carries := c.carries ++ [(pLatency (s.camPort p).set.port, b)] } := rfl

section SetJob
variable {j : LinkJob} {b : Bytes} (set : j.set = some b)
include set

theorem LinkJob.sent_of_set : j.sent = writeEntry b j.entry := by simp only [LinkJob.sent, set]

theorem LinkJob.bytes_of_set : j.bytes = (writeEntry b j.entry).length := by simp only [LinkJob.bytes, set]

end SetJob

section TransferJob
variable {j : LinkJob} {r : Request} (noSet : j.set = none) (req : j.req = some r)
include noSet req

theorem LinkJob.sent_of_req : j.sent = transferBytes r.payload := by simp only [LinkJob.sent, noSet, req]

theorem LinkJob.bytes_of_write (write : xRead r.payload = false) : j.bytes = (transferBytes r.payload).length := by
  simp [LinkJob.bytes, noSet, req, write]

end TransferJob

/-- A transaction that has taken its time has put its bytes on the link. -/
theorem linkTransactionEnd_due {s : State} {p : Nat} {j : LinkJob} {x : LinkResult} (on : s.domain 8 = true)
    (job : (s.camPort p).job = some j)
    (due : j.startAt + j.leastTime x (pRate (s.camPort p).set.port) ≤ s.now) :
    linkTransactionEnd p x s = (s.emit (.link p (j.sentBy x))).endTransaction p j x := by
  simp only [linkTransactionEnd, job]
  exact if_neg (by simp [on, due])

/-! #### By its outcome -/

section Outcomes
variable {s : State} {p : Nat} {j : LinkJob} (on : s.domain 8 = true) (job : (s.camPort p).job = some j) {whole : Bytes}
  (sent : j.sent = whole) (d : Bytes) (n : Nat)
include on job sent

theorem linkTransactionEnd_acknowledged (bytes : j.bytes = whole.length)
    (due : j.startAt + (9 * whole.length + 3) * linkBit (pRate (s.camPort p).set.port) ≤ s.now) :
    linkTransactionEnd p ⟨0, d, n⟩ s = (s.emit (.link p whole)).endTransaction p j ⟨0, d, n⟩ := by
  subst sent
  rw [← bytes] at due
  exact linkTransactionEnd_due on job due

theorem linkTransactionEnd_refused
    (due : j.startAt + (9 * (whole.take (max 1 n)).length + 3) * linkBit (pRate (s.camPort p).set.port) ≤ s.now) :
    linkTransactionEnd p ⟨1, d, n⟩ s = (s.emit (.link p (whole.take (max 1 n)))).endTransaction p j ⟨1, d, n⟩ := by
  subst sent
  exact linkTransactionEnd_due on job due

theorem linkTransactionEnd_stretched (due : j.startAt + 1000000 ≤ s.now) :
    linkTransactionEnd p ⟨2, d, n⟩ s = (s.emit (.link p (whole.take n))).endTransaction p j ⟨2, d, n⟩ := by
  subst sent
  exact linkTransactionEnd_due on job due

end Outcomes

section SetEnds
variable (s : State) (p : Nat) {j : LinkJob} {b : Bytes} (set : j.set = some b)
include set

theorem endTransaction_nextWrite {x : LinkResult} (ok : x.outcome = 0) (more : j.entry + 1 < eWrites b) :
    s.endTransaction p j x = s.startJob p { j with entry := j.entry + 1 } := by
  simp only [State.endTransaction, set, ok, more, if_true]

theorem endTransaction_complete {x : LinkResult} (ok : x.outcome = 0) (last : eWrites b ≤ j.entry + 1) :
    s.endTransaction p j x = s.completeSet p b j.crossed := by
  simp only [State.endTransaction, set, ok, Nat.not_lt.2 last, if_true, if_false]

theorem endTransaction_failed {x : LinkResult} (failed : x.outcome ≠ 0) :
    s.endTransaction p j x = s.failSet p b j.entry x.outcome := by
  simp only [State.endTransaction, set, failed, if_false]

end SetEnds

theorem endTransaction_transfer (s : State) (p : Nat) {j : LinkJob} {r : Request} (noSet : j.set = none) (req : j.req = some r)
    (x : LinkResult) :
    s.endTransaction p j x = (s.updCam p fun c => { c with job := none }).answerTransfer r x := by
  simp only [State.endTransaction, noSet, req]

/-- A set that fails marks the frame that would have carried it, which a `LATENCY` other than 0 puts ahead (R292). -/
theorem State.failSet_ahead (s : State) {p : Nat} (ahead : pLatency (s.camPort p).set.port ≠ 0) (b : Bytes)
    (entry outcome : Nat) : s.failSet p b entry outcome =
      (s.updCam p fun c =>
        { c with
          marks := c.marks ++ [pLatency (s.camPort p).set.port]
          job := none
          failures := sat16 c.failures 1 }).raiseCam 0x0806 p
        [(eTag b : Int), (entry : Int), (b2n (outcome == 2) : Int)] := by
  simp only [State.failSet, CamPort.mark, if_neg ahead]

/-- Settles O37: a write slot takes the branch its premises name; the end of a transaction is that of a set or of a transfer, by
its outcome. -/
theorem sensorLinkCommandsComplete : Obligations.SensorLinkCommandsComplete := by
  refine ⟨?exposure, ?transfer, ?late, ?setEnds, ?transferEnds⟩
  case exposure =>
    intro dt s p b ht on port slot idle blank waits undone t
    have begun := cameraWriteSlot_exposure (s := s.elapse dt) on port slot blank idle waits undone
    refine ⟨fun empty => runCmd_to ht (begun.trans ((if_pos empty).trans ?_)),
      fun writes => runCmd_to ht (begun.trans ((if_neg writes).trans rfl))⟩
    rw [State.completeSet_uncrossed, State.camPort_updCam]
    rfl
  case transfer =>
    intro dt s p r rest ht on port slot idle blank noSet queued
    exact runCmd_to ht ((cameraWriteSlot_transfer (s := s.elapse dt) on port slot blank idle noSet queued).trans
      (State.updCam_updCam ..))
  case late =>
    exact fun dt s p j ht on port slot busy blank queued =>
      runCmd_to ht (cameraWriteSlot_late (s := s.elapse dt) on port slot blank busy queued)
  case setEnds =>
    intro dt s p j b data sent ht on job set whole part bit
    let u := s.elapse dt
    have sends := j.sent_of_set set
    refine ⟨fun due => ?_, fun ahead due => ?_⟩
    · have ended := linkTransactionEnd_acknowledged (s := u) on job sends data sent (j.bytes_of_set set) due
      refine ⟨fun more => runTaking_to ht ?_, fun last uncrossed => runTaking_to ht ?_⟩
      · exact ended.trans (endTransaction_nextWrite _ p set rfl more)
      · rw [ended, endTransaction_complete _ p set rfl last, uncrossed]
        exact State.completeSet_uncrossed _ p b
    · refine runTaking_to ht ((linkTransactionEnd_refused (s := u) on job sends data sent due).trans ?_)
      rw [endTransaction_failed _ p set Nat.one_ne_zero]
      exact (u.emit (.link p part)).failSet_ahead ahead b j.entry 1
  case transferEnds =>
    intro dt s p j r data sent ht on job noSet req whole part bit t
    let u := s.elapse dt
    have sends := j.sent_of_req noSet req
    have answers (v : State) (x : LinkResult) := endTransaction_transfer v p noSet req x
    refine ⟨fun due => runTaking_to ht ?_, fun due => runTaking_to ht ?_, fun write due => runTaking_to ht ?_⟩
    · exact (linkTransactionEnd_refused (s := u) on job sends data sent due).trans (answers _ _)
    · exact (linkTransactionEnd_stretched (s := u) on job sends data sent due).trans (answers _ _)
    · have ended := linkTransactionEnd_acknowledged (s := u) on job sends data sent (j.bytes_of_write noSet req write) due
      rw [ended, answers]
      simp only [State.answerTransfer, write]
      rfl

end Sys2Proof.Machine

namespace Sys2Proof.Machine
open Sys2Proof

/-! ### The motion and the warp (12 R327, R328) -/

/-- Whole cells, and what is left within half a cell. -/
theorem toCells_within (v : Int) : -100 ≤ v - 200 * toCells v ∧ v - 200 * toCells v ≤ 100 := by
  unfold toCells
  omega

theorem toCells_whole (n : Int) : toCells (200 * n) = n := by
  unfold toCells
  omega

theorem rotTurn_zero (x y : Int) : rotTurn 0 x y = (x, y) := if_pos rfl

/-- A warp without a turn takes each cell from the one that many rows and columns away. -/
theorem warpSource_unturned (nx ny : Int) (row col r c : Nat) :
    warpSource (nx, ny, 0, row, col) r c = ((r : Int) - nx, (c : Int) + ny) := by
  have rows : 200 * nx + ((row : Int) - r) * 200 = 200 * (nx + (row - r)) := by ring
  have columns : 200 * ny + ((c : Int) - col) * 200 = 200 * (ny + (c - col)) := by ring
  simp only [warpSource, rotTurn_zero, rows, columns, toCells_whole, Prod.mk.injEq]
  omega

section Motion
variable (canvas : Bytes) (t : Nat) {p o : NavRec} (rx ry rh : Int) (near : p.epoch - o.epoch ≤ 10000000000)
include near

/-- The turn of the warp and the heading residual make up the turn and the residual before it. -/
theorem egoMotion_turn : let e := egoMotion canvas t (some p) (some o) rx ry rh
    e.applied = true ∧ e.q * 32768 + e.rho = e.dh + rh ∧ -16384 ≤ e.rho ∧ e.rho ≤ 16384 := by
  simp only [egoMotion, if_neg (Nat.not_lt.2 near), true_and]
  omega

/-- Without a turn the cells of the warp and the residuals make up the displacement and the residuals before it. -/
theorem egoMotion_unturned : let e := egoMotion canvas t (some p) (some o) rx ry rh
    e.q = 0 → 200 * e.nx + e.ex = e.dx + rx ∧ 200 * e.ny + e.ey = e.dy + ry ∧
      -100 ≤ e.ex ∧ e.ex ≤ 100 ∧ -100 ≤ e.ey ∧ e.ey ≤ 100 := by
  simp only [egoMotion, if_neg (Nat.not_lt.2 near)]
  intro unturned
  rw [unturned, neg_zero, rotTurn_zero]
  obtain ⟨lowX, highX⟩ := toCells_within ((egoDisplacement canvas o p).1 + rx)
  obtain ⟨lowY, highY⟩ := toCells_within ((egoDisplacement canvas o p).2 + ry)
  exact ⟨add_sub_cancel .., add_sub_cancel .., lowX, highX, lowY, highY⟩

end Motion

/-- Settles O42: what `toCells` leaves is the residual, and with no pose or no earlier record nothing is applied. -/
theorem theWarpLosesNoMotion : Obligations.TheWarpLosesNoMotion := by
  refine ⟨fun canvas t p o rx ry rh near => ?_, fun _ _ _ _ _ _ => rfl, fun _ _ _ _ _ _ => ⟨rfl, rfl, rfl, rfl⟩,
    fun nx ny row col r c => warpSource_unturned nx ny row col r c⟩
  obtain ⟨applied, turn, low, high⟩ := egoMotion_turn canvas t rx ry rh near
  exact ⟨applied, turn, low, high, egoMotion_unturned canvas t rx ry rh near⟩

end Sys2Proof.Machine

namespace Sys2Proof.Machine
open Sys2Proof

/-! ### The candidates of open rounds (12 R335 to R337) -/

/-- An open round with a sample as one more candidate. -/
def OpenRound.withCandidate (o : OpenRound) (x : Sample) : OpenRound := { o with cands := o.cands ++ [x] }

/-- A sample belongs to an open round (R335). -/
def OpenRound.expects (o : OpenRound) (x : Sample) : Prop :=
  bitOf (rSources o.cfg) x.source = true ∧ belongs x.tick o.tick (rWait o.cfg) = true

/-- An open round has no candidate of a sample's source. -/
def OpenRound.lacks (o : OpenRound) (x : Sample) : Prop := ∀ y ∈ o.cands, y.source ≠ x.source

theorem OpenRound.withCandidate_nodup {o : OpenRound} {x : Sample} (single : (o.cands.map (fun y => y.source)).Nodup)
    (lacks : o.lacks x) : ((o.withCandidate x).cands.map (fun y => y.source)).Nodup := by
  rw [OpenRound.withCandidate, List.map_append, List.map_singleton, ← List.concat_eq_append]
  refine single.concat fun has => ?_
  obtain ⟨y, mem, same⟩ := List.mem_map.1 has
  exact lacks y mem same

/-- `o` is a round of `l`, or one that expects the sample, with it as the first candidate of its source. -/
def OffersTo (l : List OpenRound) (x : Sample) (o : OpenRound) : Prop :=
  o ∈ l ∨ ∃ p ∈ l, p.expects x ∧ p.lacks x ∧ o = p.withCandidate x

theorem State.raise_frame {α : Type} {π : State → α} (rec_ : ∀ (s : State) x, π { s with rec_ := x } = π s) (s : State)
    (code source resource : Nat) (d : Bytes) : π (s.raise code source resource d) = π s := by
  obtain ⟨x, raised⟩ := s.raise_eq code source resource d
  rw [raised, rec_]

@[simp] theorem State.raiseFus_fus (s : State) (code : Nat) (l : List Int) : (s.raiseFus code l).fus = s.fus :=
  s.raise_frame (fun _ _ => rfl) _ _ _ _

section Arrives
variable (s : State) (x : Sample)

/-! #### One sample and one round -/

theorem State.rejectSample_open (n cause : Nat) : (s.rejectSample n cause).fus.open_ = s.fus.open_ :=
  congrArg (·.open_) (State.raiseFus_fus _ _ _)

theorem State.offerPast_open (p : PastRound) : (s.offerPast x p).fus.open_ = s.fus.open_ := by
  unfold State.offerPast
  split
  · rfl
  · exact ite_frame (π := fun t => t.fus.open_) rfl (congrArg (·.open_) (State.raiseFus_fus _ _ _))

/-- An open round with a candidate of the source keeps it; one without takes the sample. -/
theorem State.offerOpen_open (o : OpenRound) : (s.offerOpen x o).fus.open_ = s.fus.open_ ∨
    o.lacks x ∧ (s.offerOpen x o).fus.open_ = s.fus.open_.map (fun p => if p = o then o.withCandidate x else p) := by
  unfold State.offerOpen
  split
  case isTrue => exact .inl rfl
  case isFalse none =>
    refine .inr ⟨fun y mem same => none (List.any_eq_true.2 ⟨y, mem, beq_iff_eq.2 same⟩), ?_⟩
    exact ite_frame (π := fun t => t.fus.open_) rfl (State.rejectSample_open _ _ _)

variable {s x} in
theorem State.offerOpen_offersTo {l : List OpenRound} {o : OpenRound} (mem : o ∈ l) (expects : o.expects x)
    (before : ∀ p ∈ s.fus.open_, OffersTo l x p) : ∀ p ∈ (s.offerOpen x o).fus.open_, OffersTo l x p := by
  rcases s.offerOpen_open x o with same | ⟨lacks, taken⟩
  · rwa [same]
  · rw [taken]
    intro p mapped
    obtain ⟨q, was, rfl⟩ := List.mem_map.1 mapped
    split
    · exact .inr ⟨o, mem, expects, lacks, rfl⟩
    · exact before q was

/-! #### The issue of a round -/

@[simp] theorem State.fusionCover_fus (l : List ((Nat × Nat) × Contents)) : (s.fusionCover l).fus = s.fus :=
  ite_frame rfl rfl

@[simp] theorem State.fusionWrite_fus (w : List (Nat × Bytes)) : (s.fusionWrite w).fus = s.fus := ite_frame rfl rfl

theorem State.workRound_fus (o : OpenRound) (heads : Bytes) (present : Nat → Option Sample) :
    (s.workRound o heads present).fus = s.fus :=
  (State.fusionWrite_fus _ _).trans (State.fusionCover_fus _ _)

theorem State.applyReset_open : s.applyReset.fus.open_ = s.fus.open_ := by
  unfold State.applyReset
  split
  · rfl
  · exact congrArg (·.open_) (State.raiseFus_fus _ _ _)

/-- The round that is issued is open no longer, and every other stays as it is. -/
theorem State.issueRound_open (o : OpenRound) (waited : Bool) :
    (s.issueRound o waited).fus.open_ = s.fus.open_.filter (fun p => p != o) := by
  unfold State.issueRound
  dsimp only
  refine (foldl_frame (π := fun t => t.fus.open_) (fun t n => ?used) _ _).trans ?issued
  case used => exact ite_frame (π := fun t => t.fus.open_) rfl rfl
  refine congrArg (List.filter fun p => p != o) ((congrArg (·.open_) (State.workRound_fus _ _ _ _)).trans ?_)
  cases rUseState o.cfg
  · rfl
  · exact s.applyReset_open

theorem State.issueComplete_open {p : OpenRound} (mem : p ∈ s.issueComplete.fus.open_) : p ∈ s.fus.open_ := by
  unfold State.issueComplete at mem
  split at mem
  · exact mem
  · split at mem
    · rw [State.issueRound_open] at mem
      exact (List.mem_filter.1 mem).1
    · exact mem

/-! #### A sample -/

/-- After a sample each open round is one from before, and has at most that sample as a new candidate. -/
theorem State.sampleArrives_offersTo : ∀ o ∈ (s.sampleArrives x).fus.open_, OffersTo s.fus.open_ x o := by
  intro o mem
  have offered := State.issueComplete_open _ mem
  rw [foldl_frame (π := fun t => t.fus.open_) fun t p => t.offerPast_open x p] at offered
  refine List.foldlRecOn (motive := fun t : State => ∀ o ∈ t.fus.open_, OffersTo s.fus.open_ x o) _ _ ?_ ?_ o offered
  · intro p first
    refine .inl ?_
    split at first <;> exact first
  · intro t before p turn
    obtain ⟨was, expects⟩ := List.mem_filter.1 turn
    exact State.offerOpen_offersTo was ((Bool.and_eq_true _ _).mp expects) before

end Arrives

/-- Settles O41: each open round after a sample is one from before, or one that lacked a candidate of the source, with it. -/
theorem aRoundHasOneCandidateOfASource : Obligations.ARoundHasOneCandidateOfASource := by
  intro s x single
  refine ⟨fun o mem => ?_, fun o mem => ?_⟩
  · obtain was | ⟨p, was, -, lacks, rfl⟩ := s.sampleArrives_offersTo x o mem
    · exact single o was
    · exact OpenRound.withCandidate_nodup (single p was) lacks
  · obtain was | ⟨p, was, ⟨enabled, inWindow⟩, lacks, rfl⟩ := s.sampleArrives_offersTo x o mem
    · exact ⟨o, was, rfl, rfl, rfl, .inl rfl⟩
    · obtain ⟨from_, until_⟩ := (Bool.and_eq_true _ _).mp inWindow
      exact ⟨p, was, rfl, rfl, rfl, .inr ⟨rfl, enabled, of_decide_eq_true from_, of_decide_eq_true until_, lacks⟩⟩

end Sys2Proof.Machine

namespace Sys2Proof.Machine
open Sys2Proof

/-! ### Commands of the fusion engine (12 R346, R351) -/

theorem fusionNetLoadBegin_requests : Requests opFusionNetLoadBegin .fusionNetLoadBegin := fun _ _ _ => rfl
theorem fusionNetLoadData_requests : Requests opFusionNetLoadData .fusionNetLoadData := fun _ _ _ => rfl
theorem fusionNetLoadEnd_requests : Requests opFusionNetLoadEnd .fusionNetLoadEnd := fun _ _ _ => rfl
theorem fusionGetRoundStatus_requests : Requests opFusionGetRoundStatus .fusionGetRoundStatus := fun _ _ _ => rfl
theorem fusionGetSourceStatus_requests : Requests opFusionGetSourceStatus .fusionGetSourceStatus := fun _ _ _ => rfl
theorem fusionGetNetStatus_requests : Requests opFusionGetNetStatus .fusionGetNetStatus := fun _ _ _ => rfl
theorem fusionClearCounters_requests : Requests opFusionClearCounters .fusionClearCounters := fun _ _ _ => rfl

/-- A command's way to its block changes nothing that no reply changes. -/
theorem ReplyFrame.noted {α : Type} {π : State → α} (h : ReplyFrame π) (op : OpSpec) (s : State) (r : Request) (z : Resolved) :
    π (op.noted s r z) = π s :=
  ite_frame rfl (h.offer _ _ _ _ _ _ _)

theorem fusion_replyFrame : ReplyFrame fun s => (s.fus, s.mem) where
  main _ _ := rfl
  mizzen _ _ := rfl
  recvs _ _ := rfl
  reports _ _ := rfl
  rec_ _ _ := rfl
  stay _ _ := rfl
  eths _ _ := rfl
  drops _ _ := rfl
  taken _ _ := rfl
  free _ _ := rfl
  out _ _ := rfl

/-! #### The end of a network load -/

section NetLoadEnd
variable {u : State} {r : Request}

theorem opFusionNetLoadEnd_run_valid (valid : netError (u.netSlot (u8 r.payload 0)) = none) :
    opFusionNetLoadEnd.run u r = (u.updSlot (u8 r.payload 0) fun x => { x with state := 3 }, some (stOk, [])) := by
  simp only [opFusionNetLoadEnd, valid]

theorem opFusionNetLoadEnd_run_invalid {off code : Nat}
    (invalid : netError (u.netSlot (u8 r.payload 0)) = some (off, code)) :
    opFusionNetLoadEnd.run u r = (u.updSlot (u8 r.payload 0) fun x => { x with state := 2 },
      some (0x40, putLE 4 off ++ putLE 2 code ++ zeros 2)) := by
  simp only [opFusionNetLoadEnd, invalid]

end NetLoadEnd

/-! #### Counters cleared -/

/-- Units changed one after the other, each in its own turn: those below `n` are changed once, the others are as before. -/
theorem foldl_upto_get {α : Type} {get : State → Nat → α} {g : State → Nat → State} {f : α → α}
    (self : ∀ t k, get (g t k) k = f (get t k)) (other : ∀ t {j k}, j ≠ k → get (g t k) j = get t j) (n : Nat) (s : State)
    (k : Nat) : get ((upto n).foldl g s) k = if k < n then f (get s k) else get s k := by
  induction n with
  | zero => rfl
  | succ n ih =>
    rw [upto, List.range_succ, List.foldl_append, List.foldl_cons, List.foldl_nil, ← upto]
    by_cases last : k = n
    · subst last
      rw [self, ih, if_neg (Nat.lt_irrefl k), if_pos (Nat.lt_succ_self k)]
    · rw [other _ last, ih]
      exact if_congr (by omega) rfl rfl

def FusRound.cleared (x : FusRound) : FusRound := { x with run := 0, waited := 0, late := 0, skipped := 0, maxIssue := 0 }

def FusSource.cleared (x : FusSource) : FusSource :=
  { x with used := 0, late := 0, surplus := 0, unused := 0, rejected := 0, maxLate := 0 }

/-- The engine with the counters of its rounds at 0. -/
def State.clearRounds (s : State) : State := (upto 8).foldl (fun t k => t.updRound k FusRound.cleared) s

/-- The engine with the counters of its sources at 0. -/
def State.clearSources (s : State) : State := (upto 16).foldl (fun t n => t.updSource n FusSource.cleared) s

section Cleared
variable (s : State)

theorem opFusionClearCounters_run (r : Request) :
    opFusionClearCounters.run s r = (s.clearRounds.clearSources, some (stOk, [])) := rfl

theorem State.clearRounds_fusRound {k : Nat} (round : k < 8) : s.clearRounds.fusRound k = (s.fusRound k).cleared :=
  (foldl_upto_get (get := State.fusRound) (fun t k => t.fusRound_updRound k _) (fun t _ _ ne => t.fusRound_updRound_ne ne _)
    8 s k).trans (if_pos round)

theorem State.clearSources_fusSource {n : Nat} (source : n < 16) : s.clearSources.fusSource n = (s.fusSource n).cleared :=
  (foldl_upto_get (get := State.fusSource) (fun t k => t.fusSource_updSource k _)
    (fun t _ _ ne => t.fusSource_updSource_ne ne _) 16 s n).trans (if_pos source)

variable {α : Type} {π : State → α}

theorem State.clearRounds_frame (round : ∀ (t : State) k f, π (t.updRound k f) = π t) : π s.clearRounds = π s :=
  foldl_frame (fun t k => round t k _) _ _

theorem State.clearSources_frame (source : ∀ (t : State) n f, π (t.updSource n f) = π t) : π s.clearSources = π s :=
  foldl_frame (fun t n => source t n _) _ _

theorem State.clearCounters_frame (round : ∀ (t : State) k f, π (t.updRound k f) = π t)
    (source : ∀ (t : State) n f, π (t.updSource n f) = π t) : π s.clearRounds.clearSources = π s :=
  (State.clearSources_frame _ source).trans (s.clearRounds_frame round)

/-- Clearing the counters leaves the memories, the networks, the open rounds and the Canvas. -/
theorem State.clearCounters_keeps : let t := s.clearRounds.clearSources
    t.mem = s.mem ∧ t.fus.slots = s.fus.slots ∧ t.fus.open_ = s.fus.open_ ∧ t.fus.canvas = s.fus.canvas := by
  have same := s.clearCounters_frame (π := fun t => (t.mem, t.fus.slots, t.fus.open_, t.fus.canvas)) (fun _ _ _ => rfl)
    fun _ _ _ => rfl
  simpa only [Prod.mk.injEq] using same

end Cleared

/-! #### The copy of a network -/

theorem State.fusOn_of {s : State} (compute : s.domain 6 = true) (memory : s.domain 7 = true) : s.fusOn = true :=
  (Bool.and_eq_true _ _).mpr ⟨compute, memory⟩

theorem netSlotCopyComplete_due {s : State} {n : Nat} (compute : s.domain 6 = true) (memory : s.fusionMem = true)
    (valid : (s.netSlot n).state = 3) : netSlotCopyComplete n s =
      (s.updMem 4 fun m => m.write (n * 0x80000000) (s.netSlot n).data).updSlot n fun v => { v with state := 4 } := by
  have on : s.fusOn = true := State.fusOn_of compute ((Bool.and_eq_true _ _).mp memory).1
  simp only [netSlotCopyComplete, on, memory, valid, State.fusionWrite]
  rfl

/-- Settles O39: each accepted command runs in its block, `FUSION_NET_LOAD_END` by the outcome of the checks; the clear reaches
each round and source in its own turn. -/
theorem fusionCommandsComplete : Obligations.FusionCommandsComplete := by
  refine ⟨?begin, ?data, ?ended, ?round, ?source, ?net, ?clear, ?copy⟩
  case begin => exact fun dt s r z ht ha => fusionNetLoadBegin_requests.exec_done ht ha rfl rfl rfl
  case data => exact fun dt s r z ht ha => fusionNetLoadData_requests.exec_read ht ha rfl rfl rfl
  case ended =>
    intro dt s r z ht ha u
    refine ⟨fun valid => ?_, fun off code invalid => ?_⟩
    · exact fusionNetLoadEnd_requests.exec_done ht ha rfl rfl (opFusionNetLoadEnd_run_valid valid)
    · exact fusionNetLoadEnd_requests.exec_failed ht ha rfl (opFusionNetLoadEnd_run_invalid invalid) (by decide)
  case round => exact fun dt s r z ht ha => fusionGetRoundStatus_requests.exec_read ht ha rfl rfl rfl
  case source => exact fun dt s r z ht ha => fusionGetSourceStatus_requests.exec_read ht ha rfl rfl rfl
  case net =>
    intro dt s r z ht ha u
    refine fusionGetNetStatus_requests.exec_read ht ha rfl rfl ?_
    simp only [opFusionGetNetStatus, decide_eq_true_eq]
    rfl
  case clear =>
    intro dt s r z ht ha
    let u := opFusionClearCounters.noted (s.elapse dt) r z
    obtain ⟨fus, mem⟩ : u.fus = s.fus ∧ u.mem = s.mem := Prod.mk.inj (fusion_replyFrame.noted _ _ r z)
    obtain ⟨sameMem, sameSlots, sameOpen, sameCanvas⟩ := u.clearCounters_keeps
    have rounds (k : Nat) : u.fusRound k = s.fusRound k := by rw [State.fusRound, fus, State.fusRound]
    have sources (n : Nat) : u.fusSource n = s.fusSource n := by rw [State.fusSource, fus, State.fusSource]
    refine ⟨u.clearRounds.clearSources,
      fusionClearCounters_requests.exec_done ht ha rfl rfl (opFusionClearCounters_run u r), fun k round => ?_,
      fun n source => ?_, sameMem.trans mem, sameSlots.trans (congrArg _ fus), sameOpen.trans (congrArg _ fus),
      sameCanvas.trans (congrArg _ fus)⟩
    · rw [State.clearSources_frame (π := fun t => t.fusRound k) _ fun _ _ _ => rfl, u.clearRounds_fusRound round, rounds]
      rfl
    · rw [State.clearSources_fusSource _ source,
        State.clearRounds_frame (π := fun t => t.fusSource n) _ fun _ _ _ => rfl, sources]
      rfl
  case copy =>
    exact fun dt s n ht compute memory valid =>
      runCmd_to ht (netSlotCopyComplete_due (s := s.elapse dt) compute memory valid)

end Sys2Proof.Machine

namespace Sys2Proof.Machine
open Sys2Proof

/-! ### What reads of a shared memory leave alone (16 R427 to R431) -/

section SharedReads
variable {α : Type} {π : State → α} (mem : ∀ (s : State) x, π { s with mem := x } = π s)
  (rec_ : ∀ (s : State) x, π { s with rec_ := x } = π s) {c : Nat} (shared : memLane c = none)

include mem rec_ shared

theorem State.noteCorrected_frame (s : State) (a position : Nat) (patrol : Bool) :
    π (s.noteCorrected c a position patrol) = π s := by
  have counted (t : State) (f : MemCtrl → MemCtrl) : π (t.updMem c f) = π t := mem _ _
  have raised (t : State) (code : Nat) (d : Bytes) : π (t.raise code 11 c d) = π t := t.raise_frame rec_ _ _ _ _
  unfold State.noteCorrected
  simp only [shared]
  refine ite_frame rfl (ite_frame (counted _ _) (ite_frame ?known (ite_frame ?entered ?full)))
  case known => exact (counted _ _).trans (counted _ _)
  case entered => exact (raised _ _ _).trans ((counted _ _).trans (counted _ _))
  case full =>
    have overflow (f g : MemCtrl → MemCtrl) : π ((s.updMem c f).updMem c g) = π s := (counted _ _).trans (counted _ _)
    exact ite_frame (overflow _ _) ((raised _ _ _).trans (overflow _ _))

theorem State.noteUncorrectable_frame (s : State) (a reader : Nat) : π (s.noteUncorrectable c a reader) = π s := by
  unfold State.noteUncorrectable
  simp only [shared]
  exact ite_frame rfl ((State.raise_frame rec_ _ _ _ _ _).trans (mem _ _))

theorem State.readByte_frame (s : State) (reader a : Nat) (code : BitVec 13) : π (s.readByte c reader a code).1 = π s := by
  unfold State.readByte
  split
  · rfl
  · exact s.noteCorrected_frame mem rec_ shared _ _ _
  · exact s.noteUncorrectable_frame mem rec_ shared _ _

theorem State.readRun_frame (reader n a : Nat) (s : State) : π (State.readRun c reader n a s).1 = π s := by
  induction n generalizing a s with
  | zero => rfl
  | succ n ih =>
    have read := s.readByte_frame mem rec_ shared reader a ((s.memc c).code c a)
    simp only [State.readRun, shared, Option.isSome_none, Bool.and_false, Bool.false_eq_true, if_false]
    exact (ih _ _).trans read

/-- Reads of a memory that is no lane's change the memories' counters and the recorder at most. -/
theorem State.readRanges_frame (s : State) (reader : Nat) (l : List (Nat × Nat)) : π (s.readRanges c reader l).1 = π s := by
  refine foldl_fst_frame (fun t r => ?_) l (s, true)
  exact t.1.readRun_frame mem rec_ shared reader r.2 r.1

end SharedReads

/-! ### The reads of a round (16 Table 16-6) -/

/-- The engine when a round has read an uncorrectable byte: the round and its record are spoiled. -/
def FusSt.spoil (u : FusSt) : FusSt :=
  { u with
    running := u.running.map fun r => { r with spoiled := true }
    releases := u.releases.map fun x =>
      if u.running.any (fun r => r.round == x.round && r.number == x.number) then { x with spoiled := true } else x }

section RoundReads
variable (s : State)

/-- A round's reads spoil the round or leave the engine as it is. -/
theorem State.roundReads_fus : s.roundReads.fus = s.fus ∨ s.roundReads.fus = s.fus.spoil := by
  have read := s.readRanges_frame (π := State.fus) (fun _ _ => rfl) (fun _ _ => rfl) (c := 4) rfl 3 s.networkReads
  unfold State.roundReads
  split
  case h_1 t good => exact .inl (by rw [← read, good])
  case h_2 t bad => exact .inr (by rw [← read, bad]; rfl)

@[simp] theorem State.roundReads_fusOn : s.roundReads.fusOn = s.fusOn := by
  have read := s.readRanges_frame (π := State.fusOn) (fun _ _ => rfl) (fun _ _ => rfl) (c := 4) rfl 3 s.networkReads
  unfold State.roundReads
  split
  case h_1 t good => rw [← read, good]
  case h_2 t bad => rw [← read, bad]; rfl

/-- The round that runs goes on, spoiled or not. -/
theorem State.roundReads_running {r : RunRound} (running : s.fus.running = some r) :
    ∃ spoiled, s.roundReads.fus.running = some { r with spoiled := spoiled } := by
  rcases s.roundReads_fus with same | spoils
  · exact ⟨r.spoiled, by rw [same, running]⟩
  · exact ⟨true, by rw [spoils, FusSt.spoil, running]; rfl⟩

end RoundReads

/-! ### The events of a round (12 R334 to R340, R345) -/

@[simp] theorem State.fanWrite_fus (s : State) (a : Nat) (b : Bytes) : (s.fanWrite a b).fus = s.fus :=
  State.fanWrite_frame (π := State.fus) (fun _ _ => ite_frame rfl rfl) s

section Events
variable {s : State} (on : s.fusOn = true)
include on

section Instant
variable {k : Nat} (round : k ≤ 7) (enabled : rEnable (s.fusRound k).cfg = true) (slot : s.opSlot 4 k = true)
include round enabled slot

/-- A round with sources opens at its instant, once the engine is free and its network ready. -/
theorem fusionRoundInstant_opens (ready : (s.netSlot (rSlot (s.fusRound k).cfg)).state = 4)
    (free : s.fus.running = none) (sources : rSources (s.fusRound k).cfg ≠ 0) :
    fusionRoundInstant k s = (s.updRound k fun r => { r with next := (r.next + 1) % 4294967296 }).updFus fun u =>
      { u with
        open_ := u.open_ ++ [⟨k, (s.fusRound k).next, (s.fusRound k).cfg, s.time.mast, s.grid, s.now, []⟩] } := by
  unfold fusionRoundInstant
  simp [on, Nat.not_lt.2 round, enabled, slot, ready, free, sources]

/-- It is skipped while the engine runs a round or the network is not ready. -/
theorem fusionRoundInstant_skips {notReady : Bool}
    (network : ((s.netSlot (rSlot (s.fusRound k).cfg)).state != 4) = notReady)
    (late : notReady = true ∨ s.fus.running ≠ none) :
    fusionRoundInstant k s = (s.updRound k fun r => { r with next := (r.next + 1) % 4294967296 }).skipRound k
      (s.fusRound k).next (s.fusRound k).cfg notReady := by
  subst network
  unfold fusionRoundInstant
  dsimp only
  rw [if_neg (by simp [on, Nat.not_lt.2 round, enabled, slot])]
  refine (if_pos ?_).trans rfl
  simpa [Option.isSome_iff_ne_none, or_comm] using late

end Instant

theorem roundWaitExpiry_due {k : Nat} {o : OpenRound} (free : s.fus.running = none)
    (open_ : s.fus.open_.find? (fun o => o.round == k) = some o) (due : o.tick + rWait o.cfg ≤ s.now) :
    roundWaitExpiry k s = s.issueRound o (!o.complete) := by
  simp only [roundWaitExpiry, open_, decide_eq_true due, Bool.true_and]
  exact if_neg (by simp [on, free])

/-- What a round's network leaves: the Canvas read, and where the round uses state the other state buffer. -/
def State.networkLeaves (s : State) (useState : Bool) : State :=
  let k := workAddr (2 - s.fus.gridAt)
  let left : GridBuf := { base := some s.free }
  let state := if useState then [((k, gridBytes), Contents.grid k left)] else []
  ((s.fusionCover (((workAddr 0, gridBytes), Contents.engine s.free) :: state)).updFus fun u =>
    { u with
      running := u.running.map fun r => { r with output := some s.free }
      grid := if useState then left else u.grid
      spare := if useState then u.grid else u.spare
      gridAt := if useState then 1 - u.gridAt else u.gridAt }).useFree

theorem roundNetworkComplete_running {r : RunRound} (running : s.fus.running = some r) (output : r.output = none) :
    roundNetworkComplete s = s.roundReads.networkLeaves r.useState := by
  obtain ⟨spoiled, reads⟩ := s.roundReads_running running
  unfold roundNetworkComplete
  simp [on, running, output, reads, State.networkLeaves, State.updFus]

/-- The entry of a round whose output is written: its record is `OUTPUT_VALID` unless it was spoiled, or late (R339, R343). -/
def State.roundEntry (s : State) (r : RunRound) (n : Nat) : Bytes :=
  let waiting := s.fus.releases.any fun x => x.round == r.round && x.number == r.number
  outputEntry r (r.flags + (if !waiting then 8 else if r.spoiled then 0 else 4)) n

/-- The engine once a round's output is written: it is free, and the round's record is complete (R338). -/
def FusSt.written (r : RunRound) (u : FusSt) : FusSt :=
  { u with
    running := none
    releases := u.releases.map fun x => if x.round = r.round ∧ x.number = r.number then { x with written := true } else x }

theorem roundOutputWritten_running {r : RunRound} {n : Nat} (running : s.fus.running = some r) (output : r.output = some n) :
    roundOutputWritten s = (s.fanWrite (rBase r.cfg + r.number % rRing r.cfg * rStride r.cfg) (s.roundEntry r n)).updFus
      (FusSt.written r) := by
  simp only [roundOutputWritten, running, output]
  exact if_neg (by simp [on])

/-- A record whose output was written in time, and not spoiled, is delivered valid and not late (R339, R340). -/
theorem roundRelease_written {k : Nat} {x : Release} (waits : s.fus.releases.find? (fun x => x.round == k) = some x)
    (due : x.slot * 10000 ≤ s.grid + 100) (written : x.written = true) (sound : x.spoiled = false) :
    roundRelease k s = ((s.updFus fun u => { u with releases := u.releases.filter (fun y => y != x) }).updRound k fun r =>
        { r with number := x.number, presence := x.presence, flags := x.flags + 4, late := sat32 r.late 0 }).publishMast
      (0x4100 + k) (leNat (x.record (x.flags + 4))) x.instant (x.slot * 10000 - 100) true := by
  simp [roundRelease, waits, Nat.not_lt.2 due, on, written, sound, b2n]

/-! #### Samples (12 R330, R331) -/

theorem fusionSampleArrival_due {n : Nat} {f : FrameSample} (camera : fKind (s.fusSource n).cfg = 1)
    (due : s.fus.frames.find? (fun f => f.sample.source == n && decide (f.due ≤ s.now)) = some f) :
    fusionSampleArrival n s =
      (s.updFus fun u => { u with frames := u.frames.filter (fun g => g != f) }).sampleArrives f.sample := by
  simp only [fusionSampleArrival, due]
  exact if_pos (by simp [on, camera])

section Datagram
variable {n : Nat} {d : Bytes} (port : s.domain 13 = true) (source : n ≤ 15) (cloud : fKind (s.fusSource n).cfg = 2)
  (header : 32 ≤ d.length) (size : d.length = 32 + 16 * u16 d 0x10)
include port source cloud header size

/-- A datagram but the last that starts a scan. -/
theorem pointCloudDatagram_starts (more : flagAt d 6 0 = false) (first : u16 d 4 = 0)
    (idle : (s.fusSource n).scan = none) : pointCloudDatagram n d s = s.updSource n fun v =>
      { v with scan := some ⟨u32 d 0, 1, (d.drop 32).take (16 * fMaxPoints (s.fusSource n).cfg), u16 d 0x10⟩ } := by
  unfold pointCloudDatagram
  simp [on, port, Nat.not_lt.2 source, cloud, Nat.not_lt.2 header, ← size, more, first, idle, Scan.add]

/-- A datagram but the last that continues a scan. -/
theorem pointCloudDatagram_continues (more : flagAt d 6 0 = false) {x : Scan} (scan : (s.fusSource n).scan = some x)
    (number : x.number = u32 d 0) (next : x.next = u16 d 4) : pointCloudDatagram n d s = s.updSource n fun v =>
      { v with scan := some (x.add (s.fusSource n).cfg d) } := by
  unfold pointCloudDatagram
  simp [on, port, Nat.not_lt.2 source, cloud, Nat.not_lt.2 header, ← size, more, scan, number, next]

/-- A datagram out of turn breaks the scan. -/
theorem pointCloudDatagram_breaks {x : Scan} (scan : (s.fusSource n).scan = some x) (turn : x.next ≠ u16 d 4)
    (later : u16 d 4 ≠ 0) : pointCloudDatagram n d s =
      (s.updSource n fun v => { v with scan := none }).rejectSample n 0 := by
  unfold pointCloudDatagram
  simp [on, port, Nat.not_lt.2 source, cloud, Nat.not_lt.2 header, ← size, scan, turn, later, State.breakScan]

end Datagram

end Events

/-- Settles O40: each event meets its own condition and leaves what it gives. -/
theorem fusionEventsComplete : Obligations.FusionEventsComplete := by
  refine ⟨?instant, ?expiry, ?network, ?output, ?release, ?frame, ?cloud⟩
  case instant =>
    intro dt s k ht compute memory round enabled slot r u
    have on : (s.elapse dt).fusOn = true := State.fusOn_of compute memory
    refine ⟨fun ready free sources => runCmd_to ht ?_, fun unready => runCmd_to ht ?_, fun ready busy => runCmd_to ht ?_⟩
    · exact fusionRoundInstant_opens on round enabled slot ready free sources
    · exact fusionRoundInstant_skips on round enabled slot (bne_iff_ne.2 unready) (.inl rfl)
    · exact fusionRoundInstant_skips on round enabled slot (bne_eq_false_iff_eq.2 ready) (.inr busy)
  case expiry =>
    exact fun dt s k o ht compute memory free open_ due =>
      runCmd_to ht (roundWaitExpiry_due (s := s.elapse dt) (State.fusOn_of compute memory) free open_ due)
  case network =>
    intro dt s r ht compute memory running output
    exact runCmd_to ht (roundNetworkComplete_running (s := s.elapse dt) (State.fusOn_of compute memory) running output)
  case output =>
    intro dt s r n ht compute memory running output waiting entry
    let u := s.elapse dt
    let addr := rBase r.cfg + r.number % rRing r.cfg * rStride r.cfg
    have written {α : Type} (f : FusSt → α) : f (FusSt.written r (u.fanWrite addr entry).fus) = f (FusSt.written r s.fus) :=
      congrArg (fun v => f (FusSt.written r v)) (u.fanWrite_fus addr entry)
    refine ⟨(u.fanWrite addr entry).updFus (FusSt.written r),
      runCmd_to ht (roundOutputWritten_running (s := u) (State.fusOn_of compute memory) running output), rfl,
      written fun v => v.open_, written fun v => v.releases, rfl, fun l a outside => ?_,
      written fun v => v.rounds, written fun v => v.sources⟩
    exact State.fanWrite_dramRead_outside outside l u
  case release =>
    intro dt s k x ht waits due compute memory written sound flags
    exact runCmd_to ht (roundRelease_written (s := s.elapse dt) (State.fusOn_of compute memory) waits due written sound)
  case frame =>
    exact fun dt s n f ht compute memory camera due =>
      runCmd_to ht (fusionSampleArrival_due (s := s.elapse dt) (State.fusOn_of compute memory) camera due)
  case cloud =>
    intro dt s n d ht compute memory port source cloud header size more
    have on : (s.elapse dt).fusOn = true := State.fusOn_of compute memory
    refine ⟨fun first idle => runCmd_to ht ?_, fun x scan number next => runCmd_to ht ?_,
      fun x scan turn later => runCmd_to ht ?_⟩
    · exact pointCloudDatagram_starts on port source cloud header size more first idle
    · exact pointCloudDatagram_continues on port source cloud header size more scan number next
    · exact pointCloudDatagram_breaks on port source cloud header size scan turn later

end Sys2Proof.Machine

namespace Sys2Proof.Machine
open Sys2Proof

/-! ### The step and the queue (log entry 1) -/

theorem step_of_idle {s : State} (h : s.pending = []) : step s = runCmd 1 s id := by simp only [step, h]

theorem step_of_front {s : State} {c : Instr} {rest : List Instr} (h : s.pending = c :: rest) :
    step s = exec c { s with pending := rest } := by simp only [step, h]

/-- A command that answers a next state keeps the form of the memories, for it has run. -/
theorem exec_keeps_mem_wf {c : Instr} {s t : State} (h : exec c s = .next t) (w : s.mem.wf = true) : t.mem.wf = true := by
  obtain ⟨f, runs, kept⟩ := exec_runs c
  obtain ⟨-, -, mem⟩ := runCmd_kept ((runs s).symm.trans h) kept
  exact mem w

/-- Settles O3: by what stands at the front of the queue. -/
theorem everyStepKeepsTheMemoryForm : Obligations.EveryStepKeepsTheMemoryForm := by
  intro s t w h
  cases hq : s.pending with
  | nil =>
    obtain ⟨-, -, mem⟩ := runCmd_kept ((step_of_idle hq).symm.trans h) Kept.refl
    exact mem w
  | cons c rest => exact exec_keeps_mem_wf ((step_of_front hq).symm.trans h) w

/-- Settles O1: by what stands at the front of the queue. -/
theorem aStepRunsTheFrontCommand : Obligations.AStepRunsTheFrontCommand :=
  ⟨fun _ _ _ h => step_of_front h, fun _ h ht => (step_of_idle h).trans (runCmd_next ht id)⟩

/-! ### Right after reset (18 R467, R468, R470) -/

/-- At power-on D0 alone is on. -/
theorem State.reset_domain : ∀ n < 16, (State.reset.domain n = true ↔ n = 0) := by decide

/-- Settles O4: by the fields of the reset state. -/
theorem resetBeginsAStart : Obligations.ResetBeginsAStart := by
  refine ⟨rfl, rfl, rfl, rfl, rfl, State.reset_domain, rfl, rfl, rfl, rfl, rfl, rfl, ?chans, rfl, rfl, rfl, ?lanes, rfl, ?buckets,
    rfl, ?ports, rfl, rfl, ?mems⟩
  case chans => exact fun _ => ⟨rfl, rfl, rfl⟩
  case lanes =>
    intro l
    cases l <;> exact ⟨rfl, rfl, rfl, rfl⟩
  case buckets => exact fun _ => rfl
  case ports => exact fun _ => ⟨rfl, rfl, rfl⟩
  case mems => exact fun _ => ⟨rfl, rfl⟩

end Sys2Proof.Machine

namespace Sys2Proof.Machine
open Sys2Proof

/-! ### The byte-lane code (16 R424, R425) -/

/-- The exclusive-OR of the bits that a list names. -/
def xorOver (d : Nat → Bool) (l : List Nat) : Bool := l.foldl (fun acc i => acc ^^ d i) false

/-- The data bits that make each check bit (Table 16-2); those of c4 make up the whole and the other four. -/
def checkedBits (i : Nat) : List Nat :=
  match i with
  | 0 => [0, 1, 3, 4, 6]
  | 1 => [0, 2, 3, 5, 6]
  | 2 => [1, 2, 3, 7]
  | 3 => [4, 5, 6, 7]
  | _ => [0, 1, 2, 4, 5, 7]

theorem foldl_xor_sum (a b : Nat → Bool) (l : List Nat) (x y : Bool) :
    l.foldl (fun acc i => acc ^^ (a i ^^ b i)) (x ^^ y) =
      (l.foldl (fun acc i => acc ^^ a i) x ^^ l.foldl (fun acc i => acc ^^ b i) y) := by
  induction l generalizing x y with
  | nil => rfl
  | cons i l ih =>
    have swapped : ((x ^^ y) ^^ (a i ^^ b i)) = ((x ^^ a i) ^^ (y ^^ b i)) := by
      rw [Bool.xor_assoc, Bool.xor_left_comm y, ← Bool.xor_assoc]
    rw [List.foldl_cons, swapped, ih, List.foldl_cons, List.foldl_cons]

/-- A sum of bits is taken bit by bit. -/
theorem xorOver_xor (a b : Nat → Bool) (l : List Nat) : xorOver (fun i => a i ^^ b i) l = (xorOver a l ^^ xorOver b l) :=
  foldl_xor_sum a b l false false

theorem packFlags_testBit (l : List Bool) (i : Nat) : (packFlags l).testBit i = l.getD i false := by
  induction l generalizing i with
  | nil => simp [packFlags]
  | cons b r ih =>
    cases i with
    | zero => cases b <;> simp [packFlags, b2n]
    | succ i =>
      have hd : (b2n b + 2 * packFlags r) / 2 = packFlags r := by
        cases b <;> simp only [b2n, Bool.false_eq_true, if_true, if_false] <;> omega
      rw [packFlags, Nat.testBit_succ, hd, ih, List.getD_cons_succ]

theorem checkBits_getLsbD (d : Byte) {i : Nat} (hi : i < 5) :
    (checkBits d).getLsbD i = xorOver d.getLsbD (checkedBits i) := by
  simp only [checkBits, BitVec.getLsbD_ofNat, packFlags_testBit, hi, decide_true, Bool.true_and, xorOver]
  interval_cases i <;> simp only [List.getD_cons_zero, List.getD_cons_succ, checkedBits, List.foldl_cons, List.foldl_nil,
    Bool.false_xor]
  revert d
  decide

/-- The check bits of a sum are the sum of the check bits: each is a sum of data bits. -/
theorem checkBits_xor (a b : Byte) : checkBits (a ^^^ b) = checkBits a ^^^ checkBits b := by
  refine BitVec.eq_of_getLsbD_eq fun i hi => ?_
  have bits : (a ^^^ b).getLsbD = fun i => a.getLsbD i ^^ b.getLsbD i := funext fun _ => BitVec.getLsbD_xor
  rw [BitVec.getLsbD_xor, checkBits_getLsbD _ hi, checkBits_getLsbD _ hi, checkBits_getLsbD _ hi, bits, xorOver_xor]

theorem codeData_xor (a b : BitVec 13) : codeData (a ^^^ b) = codeData a ^^^ codeData b := BitVec.extractLsb'_xor

theorem codeCheck_xor (a b : BitVec 13) : codeCheck (a ^^^ b) = codeCheck a ^^^ codeCheck b := BitVec.extractLsb'_xor

theorem syndrome_xor (a b : BitVec 13) : syndrome (a ^^^ b) = syndrome a ^^^ syndrome b := by
  have mixed : checkBits (codeData (a ^^^ b)) ^^^ codeCheck (a ^^^ b) =
      (checkBits (codeData a) ^^^ codeCheck a) ^^^ (checkBits (codeData b) ^^^ codeCheck b) := by
    rw [codeData_xor, codeCheck_xor, checkBits_xor]
    ac_rfl
  simp only [syndrome, mixed, BitVec.toNat_xor]
  exact Nat.xor_mod_two_pow (n := 4)

theorem oddOnes_xor (a b : BitVec 13) : oddOnes (a ^^^ b) = (oddOnes a ^^ oddOnes b) := by
  have bits : (a ^^^ b).getLsbD = fun i => a.getLsbD i ^^ b.getLsbD i := funext fun _ => BitVec.getLsbD_xor
  change xorOver (a ^^^ b).getLsbD (upto 13) = _
  rw [bits, xorOver_xor]
  rfl

theorem encodeByte_getLsbD (d : Byte) (i : Nat) :
    (encodeByte d).getLsbD i = if i < 8 then d.getLsbD i else (checkBits d).getLsbD (i - 8) := BitVec.getLsbD_append

theorem codeData_getLsbD (c : BitVec 13) (i : Nat) : (codeData c).getLsbD i = (decide (i < 8) && c.getLsbD i) := by
  rw [codeData, BitVec.getLsbD_extractLsb', Nat.zero_add]

theorem codeCheck_getLsbD (c : BitVec 13) (i : Nat) : (codeCheck c).getLsbD i = (decide (i < 5) && c.getLsbD (8 + i)) :=
  BitVec.getLsbD_extractLsb' ..

@[simp] theorem codeData_encodeByte (d : Byte) : codeData (encodeByte d) = d :=
  BitVec.eq_of_getLsbD_eq fun i hi => by
    simp only [codeData_getLsbD, encodeByte_getLsbD, hi, decide_true, Bool.true_and, if_true]

@[simp] theorem codeCheck_encodeByte (d : Byte) : codeCheck (encodeByte d) = checkBits d :=
  BitVec.eq_of_getLsbD_eq fun i hi => by
    simp only [codeCheck_getLsbD, encodeByte_getLsbD, hi, decide_true, Bool.true_and, Nat.add_sub_cancel_left,
      if_neg (Nat.not_lt.2 (Nat.le_add_right 8 i))]

theorem syndrome_encodeByte (d : Byte) : syndrome (encodeByte d) = 0 := by simp [syndrome]

/-- c4 makes the number of ones even. -/
theorem oddOnes_encodeByte : ∀ d : Byte, oddOnes (encodeByte d) = false := by decide

/-! #### Bits that turn over -/

/-- One bit of a codeword. -/
def oneBit (k : Nat) : BitVec 13 := BitVec.ofNat 13 (2 ^ k)

/-- The codeword position of each stored bit (Table 16-2); 0 for c4. -/
def bitPosition (k : Nat) : Nat := ([3, 5, 6, 7, 9, 10, 11, 12, 1, 2, 4, 8, 0][k]?).getD 0

/-- A bit that turns over shows itself by its position, and the bit mended is that bit. -/
theorem oneBit_syndrome : ∀ k < 13, syndrome (oneBit k) = bitPosition k ∧ bitPosition k ≤ 12 ∧ oddOnes (oneBit k) = true ∧
    codeData (oneBit k) = match dataBit (bitPosition k) with
      | some i => BitVec.ofNat 8 (2 ^ i)
      | none => 0#8 := by decide

/-- No two bits have the same position. -/
theorem bitPosition_inj : ∀ k < 13, ∀ l < 13, k ≠ l → bitPosition k ^^^ bitPosition l ≠ 0 := by decide

theorem decodeByte_of_even {c : BitVec 13} (h : oddOnes c = false) :
    decodeByte c = if syndrome c = 0 then .good else .uncorrectable := by simp only [decodeByte, h, Bool.false_eq_true, if_false]

theorem decodeByte_of_odd {c : BitVec 13} (h : oddOnes c = true) :
    decodeByte c = if syndrome c ≤ 12 then .corrected (syndrome c) else .uncorrectable := by simp only [decodeByte, h, if_true]

theorem deliveredData_of_good {c : BitVec 13} (h : decodeByte c = .good) : deliveredData c = codeData c := by
  unfold deliveredData
  rw [h]

theorem deliveredData_of_corrected {c : BitVec 13} {p : Nat} (h : decodeByte c = .corrected p) :
    deliveredData c = match dataBit p with
      | some i => codeData c ^^^ BitVec.ofNat 8 (2 ^ i)
      | none => codeData c := by
  unfold deliveredData
  generalize decodeByte c = x at h
  subst h
  rfl

theorem deliveredData_of_uncorrectable {c : BitVec 13} (h : decodeByte c = .uncorrectable) : deliveredData c = codeData c := by
  unfold deliveredData
  rw [h]

theorem decodeByte_encodeByte (d : Byte) : decodeByte (encodeByte d) = .good := by
  rw [decodeByte_of_even (oddOnes_encodeByte d), if_pos (syndrome_encodeByte d)]

theorem deliveredData_encodeByte (d : Byte) : deliveredData (encodeByte d) = d := by
  rw [deliveredData_of_good (decodeByte_encodeByte d), codeData_encodeByte]

theorem syndrome_oneBit (d : Byte) {k : Nat} (hk : k < 13) : syndrome (encodeByte d ^^^ oneBit k) = bitPosition k := by
  rw [syndrome_xor, syndrome_encodeByte, (oneBit_syndrome k hk).1, Nat.zero_xor]

theorem oddOnes_oneBit (d : Byte) {k : Nat} (hk : k < 13) : oddOnes (encodeByte d ^^^ oneBit k) = true := by
  obtain ⟨-, -, odd, -⟩ := oneBit_syndrome k hk
  rw [oddOnes_xor, oddOnes_encodeByte, odd, Bool.false_xor]

theorem decodeByte_oneBit (d : Byte) {k : Nat} (hk : k < 13) :
    decodeByte (encodeByte d ^^^ oneBit k) = .corrected (bitPosition k) := by
  obtain ⟨-, inside, -⟩ := oneBit_syndrome k hk
  rw [decodeByte_of_odd (oddOnes_oneBit d hk), syndrome_oneBit d hk, if_pos inside]

theorem deliveredData_oneBit (d : Byte) {k : Nat} (hk : k < 13) : deliveredData (encodeByte d ^^^ oneBit k) = d := by
  obtain ⟨-, -, -, data⟩ := oneBit_syndrome k hk
  rw [deliveredData_of_corrected (decodeByte_oneBit d hk), codeData_xor, codeData_encodeByte, data]
  cases dataBit (bitPosition k) with
  | none => exact BitVec.xor_zero
  | some i => exact (BitVec.xor_assoc ..).trans (by rw [BitVec.xor_self, BitVec.xor_zero])

/-- Two bits leave the number of ones even, and their positions differ. -/
theorem decodeByte_twoBits (d : Byte) {k l : Nat} (hk : k < 13) (hl : l < 13) (hkl : k ≠ l) :
    decodeByte (encodeByte d ^^^ oneBit k ^^^ oneBit l) = .uncorrectable := by
  obtain ⟨found, -, odd, -⟩ := oneBit_syndrome l hl
  have even : oddOnes (encodeByte d ^^^ oneBit k ^^^ oneBit l) = false := by
    rw [oddOnes_xor, oddOnes_oneBit d hk, odd, Bool.true_xor, Bool.not_true]
  rw [decodeByte_of_even even, syndrome_xor, syndrome_oneBit d hk, found, if_neg (bitPosition_inj k hk l hl hkl)]

/-! #### A run of bytes -/

theorem MemCtrl.code_write (m : MemCtrl) (ctrl a : Nat) (data : Bytes) {i : Nat} {d : Byte} (h : data[i]? = some d) :
    (m.write a data).code ctrl (a + i) = encodeByte d := by
  induction data generalizing m a i with
  | nil => simp at h
  | cons b r ih =>
    cases i with
    | zero =>
      obtain rfl : b = d := by simpa using h
      exact (MemCtrl.code_write_ne _ ctrl (a + 1) a r (.inl (by omega))).trans (m.code_store_self ctrl a _)
    | succ i =>
      rw [show a + (i + 1) = a + 1 + i by omega]
      exact ih _ _ (by simpa using h)

/-! #### Any stored bits -/

theorem toNat_mod_sixteen : ∀ x : BitVec 5,
    x.toNat % 16 = b2n (x.getLsbD 0) + 2 * b2n (x.getLsbD 1) + 4 * b2n (x.getLsbD 2) + 8 * b2n (x.getLsbD 3) := by decide

/-- The syndrome, from the stored bits: of each check bit and the data bits that make it. -/
theorem syndrome_eq (c : BitVec 13) : syndrome c =
    b2n (xorOver c.getLsbD (checkedBits 0 ++ [8])) + 2 * b2n (xorOver c.getLsbD (checkedBits 1 ++ [9])) +
      4 * b2n (xorOver c.getLsbD (checkedBits 2 ++ [10])) + 8 * b2n (xorOver c.getLsbD (checkedBits 3 ++ [11])) := by
  have bit (i : Nat) (hi : i < 4) : (checkBits (codeData c) ^^^ codeCheck c).getLsbD i =
      xorOver c.getLsbD (checkedBits i ++ [8 + i]) := by
    rw [BitVec.getLsbD_xor, checkBits_getLsbD _ (by omega), codeCheck_getLsbD]
    interval_cases i <;> simp only [xorOver, checkedBits, codeData_getLsbD, List.foldl_append, List.foldl_cons, List.foldl_nil,
      Nat.reduceLT, Nat.reduceAdd, decide_true, Bool.true_and]
  rw [syndrome, toNat_mod_sixteen, bit 0, bit 1, bit 2, bit 3] <;> decide

theorem oddOnes_eq (c : BitVec 13) : oddOnes c = xorOver c.getLsbD [0, 1, 2, 3, 4, 5, 6, 7, 8, 9, 10, 11, 12] := rfl

/-- Settles O54: a byte as written has syndrome 0 and even parity, and what turns over adds to both. -/
theorem theCodeCorrectsOneBitAndDetectsTwo : Obligations.TheCodeCorrectsOneBitAndDetectsTwo := by
  intro m c a data
  refine ⟨fun i hi d hd => ?_, fun b hb => m.code_write_ne c a b data hb, ?_⟩
  · rw [m.code_write c a data hd]
    exact ⟨decodeByte_encodeByte d, deliveredData_encodeByte d,
      fun k hk => ⟨deliveredData_oneBit d hk, _, decodeByte_oneBit d hk, rfl⟩,
      fun k l hk hl hkl => decodeByte_twoBits d hk hl hkl⟩
  · intro stored d x0 x1 x2 x3 s odd
    have hs : syndrome stored = s := by
      simp only [syndrome_eq, xorOver, checkedBits, List.cons_append, List.nil_append, List.foldl_cons, List.foldl_nil,
        Bool.false_xor]
      rfl
    have ho : oddOnes stored = odd := by
      simp only [oddOnes_eq, xorOver, List.foldl_cons, List.foldl_nil, Bool.false_xor]
      rfl
    rw [← hs, ← ho]
    refine ⟨fun h0 he => ?_, fun h12 h1 => ?_, fun h13 h1 => ?_, fun h1 he => ?_⟩
    · rw [decodeByte_of_even he, if_pos h0]
    · have found := (decodeByte_of_odd h1).trans (if_pos h12)
      exact ⟨found, deliveredData_of_corrected found⟩
    · rw [decodeByte_of_odd h1, if_neg (by omega)]
    · have found := (decodeByte_of_even he).trans (if_neg (by omega))
      exact ⟨found, deliveredData_of_uncorrectable found⟩

end Sys2Proof.Machine

namespace Sys2Proof.Machine
open Sys2Proof

/-! ### Filters of a CAN port (14 R386) -/

/-- Masked values agree where the mask has a 1. -/
theorem and_eq_and_iff {a b m : Nat} : a &&& m = b &&& m ↔ ∀ i, m.testBit i = true → a.testBit i = b.testBit i := by
  constructor
  · intro h i hi
    have hb := congrArg (fun x => x.testBit i) h
    simpa [Nat.testBit_and, hi] using hb
  · intro h
    refine Nat.eq_of_testBit_eq fun i => ?_
    rw [Nat.testBit_and, Nat.testBit_and]
    cases hm : m.testBit i with
    | false => simp
    | true => simp [h i hm]

theorem filterMatches_iff {key : Nat} {e : Bytes} : filterMatches key e = true ↔
    u8 e 8 ≠ 0 ∧ ∀ i, i < 31 → (u32 e 4).testBit i = true → key.testBit i = (u32 e 0).testBit i := by
  have mask (i : Nat) : (u32 e 4 % 2147483648).testBit i = true ↔ i < 31 ∧ (u32 e 4).testBit i = true := by
    rw [show 2147483648 = 2 ^ 31 from rfl, Nat.testBit_mod_two_pow, Bool.and_eq_true, decide_eq_true_eq]
  simp only [filterMatches, Bool.and_eq_true, bne_iff_ne, beq_iff_eq, and_eq_and_iff, mask, and_imp]

theorem CanPort.judge_of_first {c : CanPort} {f : CanFrame} {i : Nat} (hi : i < 64)
    (h : filterMatches (frameKey f) (Tbl.getD c.filters i (zeros 16)) = true)
    (before : ∀ j < i, filterMatches (frameKey f) (Tbl.getD c.filters j (zeros 16)) = false) :
    c.judge f = (i, u8 (Tbl.getD c.filters i (zeros 16)) 8) := by
  have found : (upto 64).find? (fun i => filterMatches (frameKey f) (Tbl.getD c.filters i (zeros 16))) = some i :=
    List.find?_range_eq_some.2 ⟨h, List.mem_range.2 hi, fun j hj => by rw [before j hj]; rfl⟩
  rw [CanPort.judge, found]

theorem CanPort.judge_of_none {c : CanPort} {f : CanFrame}
    (h : ∀ i < 64, filterMatches (frameKey f) (Tbl.getD c.filters i (zeros 16)) = false) :
    c.judge f = (255, if cDefault c.cfg then 2 else 3) := by
  have none : (upto 64).find? (fun i => filterMatches (frameKey f) (Tbl.getD c.filters i (zeros 16))) = none :=
    List.find?_eq_none.2 fun i hi => by rw [h i (List.mem_range.1 hi)]; decide
  rw [CanPort.judge, none]

/-- Settles O48: the search goes through the filters in ascending order. -/
theorem theFirstMatchingFilterDecides : Obligations.TheFirstMatchingFilterDecides :=
  fun _ _ => ⟨fun _ hi h before => CanPort.judge_of_first hi h before, fun h => CanPort.judge_of_none h,
    fun _ _ => filterMatches_iff⟩

/-! ### A CAN port at rest (14 R389, R391) -/

theorem State.canFrameEnd_none {s : State} {p : Nat} (h : (s.canPort p).next = none) : s.canFrameEnd p = s := by
  simp only [State.canFrameEnd, h]

/-- An error-active port with low counters stays error-active. -/
theorem State.canConfine_active {s : State} {p : Nat} (h : (s.canPort p).state = 2) (ht : (s.canPort p).tec ≤ 127)
    (hr : (s.canPort p).rec_ ≤ 127) : s.canConfine p = s := by
  simp [State.canConfine, h, Nat.not_lt.2 ht, Nat.not_lt.2 hr]

theorem State.canConfine_passive {s : State} {p : Nat} (h : (s.canPort p).state = 3) (ht : 127 < (s.canPort p).tec) :
    s.canConfine p = s := by
  simp [State.canConfine, h, ht]

theorem State.canBusOff_below {s : State} {p : Nat} (h : (s.canPort p).tec ≤ 255) : s.canBusOff p = s := if_pos h

@[simp] theorem State.emit_canPort (s : State) (o : Out) (p : Nat) : (s.emit o).canPort p = s.canPort p := rfl

@[simp] theorem State.raiseCan_canPort (s : State) (code q : Nat) (l : List Int) (p : Nat) :
    (s.raiseCan code q l).canPort p = s.canPort p :=
  s.raise_frame (π := fun t => t.canPort p) (fun _ _ => rfl) _ _ _ _

@[simp] theorem State.elapse_canPort (s : State) (dt p : Nat) : (s.elapse dt).canPort p = s.canPort p := rfl

/-! ### What an event of one CAN port leaves alone -/

/-- `π` reads nothing that an event of port `q` changes: the port, the lanes, their memories and the recorder, and the model's own
counts. -/
structure CanFrames (q : Nat) {α : Type} (π : State → α) : Prop where
  port   : ∀ (s : State) f, π (s.updCan q f) = π s
  main   : ∀ (s : State) x, π { s with main := x } = π s
  mizzen : ∀ (s : State) x, π { s with mizzen := x } = π s
  mem    : ∀ (s : State) x, π { s with mem := x } = π s
  rec_   : ∀ (s : State) x, π { s with rec_ := x } = π s
  free   : ∀ (s : State) x, π { s with free := x } = π s
  out    : ∀ (s : State) x, π { s with out := x } = π s

theorem canPort_canFrames {p q : Nat} (h : p ≠ q) : CanFrames q (fun s => s.canPort p) :=
  ⟨fun s f => s.canPort_updCan_ne h f, fun _ _ => rfl, fun _ _ => rfl, fun _ _ => rfl, fun _ _ => rfl, fun _ _ => rfl,
    fun _ _ => rfl⟩

theorem State.publishMast_frame {α : Type} {π : State → α} (main : ∀ (s : State) x, π { s with main := x } = π s)
    (mizzen : ∀ (s : State) x, π { s with mizzen := x } = π s) (s : State) (code value stamp deliver : Nat) (valid : Bool) :
    π (s.publishMast code value stamp deliver valid) = π s :=
  foldl_frame (fun t _ => t.updLanes_frame main mizzen _) _ _

namespace CanFrames
variable {q : Nat} {α : Type} {π : State → α} (h : CanFrames q π)
include h

theorem raiseCan (s : State) (code p : Nat) (l : List Int) : π (s.raiseCan code p l) = π s := s.raise_frame h.rec_ _ _ _ _

theorem canFrameEnd (s : State) : π (s.canFrameEnd q) = π s := by
  unfold State.canFrameEnd
  split
  · exact h.port _ _
  · rfl

theorem canConfine (s : State) : π (s.canConfine q) = π s :=
  ite_frame ((h.raiseCan _ _ _ _).trans (h.port _ _)) (ite_frame (h.port _ _) rfl)

theorem canBusOff (s : State) : π (s.canBusOff q) = π s := ite_frame rfl ((h.raiseCan _ _ _ _).trans (h.port _ _))

theorem canTxComplete (s : State) : π (Machine.canTxComplete q s) = π s := by
  unfold Machine.canTxComplete
  dsimp only
  split
  · rfl
  · exact ite_frame rfl ((h.canFrameEnd _).trans ((h.canConfine _).trans ((h.out _ _).trans (h.port _ _))))

theorem canBusError (e : BusError) (s : State) : π (Machine.canBusError q e s) = π s := by
  have s1 : ∀ f, π (s.updCan q f) = π s := h.port s
  have s3 : ∀ f g, π ((((s.updCan q f).updCan q g).canConfine q).canBusOff q) = π s :=
    fun f g => (h.canBusOff _).trans ((h.canConfine _).trans ((h.port _ _).trans (s1 f)))
  exact ite_frame rfl <| ite_frame (ite_frame (s1 _) ((h.port _ _).trans (s1 _))) <|
    ite_frame ((h.canFrameEnd _).trans (s1 _)) (ite_frame (s3 _ _) ((h.canFrameEnd _).trans (s3 _ _)))

theorem fileFrame (s : State) (f : CanFrame) : π (s.fileFrame q f) = π s := by
  have write : ∀ (t : State) a b, π (t.fanWrite a b) = π t :=
    fun t a b => State.fanWrite_frame (fun _ _ => ite_frame (h.mem _ _) rfl) t
  exact ite_frame (h.port _ _) ((State.publishMast_frame h.main h.mizzen _ _ _ _ _ _).trans ((write _ _ _).trans (h.port _ _)))

theorem detectFrame (s : State) (f : CanFrame) : π (s.detectFrame q f) = π s :=
  ite_frame rfl (ite_frame (h.port _ _) ((h.raiseCan _ _ _ _).trans (h.port _ _)))

theorem canFrameReceived (f : CanFrame) (s : State) : π (Machine.canFrameReceived q f s) = π s :=
  ite_frame rfl <| ite_frame ((h.canFrameEnd _).trans (h.detectFrame _ _)) <|
    ite_frame ((h.canFrameEnd _).trans (h.fileFrame _ _)) <|
      ite_frame ((h.canFrameEnd _).trans ((h.fileFrame _ _).trans ((h.canConfine _).trans
        (ite_frame ((h.free _ _).trans (h.port _ _)) (h.port _ _))))) rfl

theorem busRecovered (s : State) : π (Machine.busRecovered q s) = π s :=
  ite_frame rfl ((h.raiseCan _ _ _ _).trans (h.port _ _))

theorem detectDwellExpiry (s : State) : π (Machine.detectDwellExpiry q s) = π s := ite_frame rfl (h.port _ _)

theorem canIntegrationComplete (s : State) : π (Machine.canIntegrationComplete q s) = π s := ite_frame rfl (h.port _ _)

theorem takeCan (s : State) (item : Nat) (c : Copy) : π (s.takeCan q item c) = π s := by
  refine ite_frame rfl (ite_frame (h.port _ _) ?_)
  split
  · exact (h.raiseCan _ _ _ _).trans (h.port _ _)
  · exact ite_frame ((h.raiseCan _ _ _ _).trans (h.port _ _)) (h.port _ _)

end CanFrames

/-! ### Bus-off (14 R389) -/

section BusOff
variable {s : State} {p : Nat} (off : (s.canPort p).state = 4)
include off

theorem canTxComplete_busOff : canTxComplete p s = s := by
  unfold canTxComplete
  dsimp only
  split
  · rfl
  · exact if_pos (by simp [off])

theorem canBusError_busOff (e : BusError) : canBusError p e s = s := if_pos (by simp [CanPort.off, off])

theorem canFrameReceived_busOff (f : CanFrame) : canFrameReceived p f s = s := by simp [canFrameReceived, off]

theorem busRecovered_busOff : busRecovered p s = s := if_pos (by simp [off])

theorem detectDwellExpiry_busOff : detectDwellExpiry p s = s := if_pos (by simp [off])

theorem canIntegrationComplete_busOff : canIntegrationComplete p s = s := if_pos (by simp [off])

/-- A bus-off port discards every item, as flushed. -/
theorem State.takeCan_busOff (item : Nat) (c : Copy) : ((s.takeCan p item c).canPort p).state = 4 ∧
    ((s.takeCan p item c).canPort p).queue = (s.canPort p).queue := by
  unfold State.takeCan
  dsimp only
  split
  · exact ⟨off, rfl⟩
  · rw [if_pos (by simp [CanPort.off, off]), State.canPort_updCan]
    exact ⟨off, rfl⟩

end BusOff

/-- The ports' status words change no port. -/
theorem canStatusProduce_canPort (s : State) (p : Nat) : (canStatusProduce s).canPort p = s.canPort p := by
  unfold canStatusProduce
  refine ite_frame (π := fun t => t.canPort p) rfl (foldl_frame (π := fun t => t.canPort p) (fun t q => ?_) _ _)
  exact t.publish_frame (π := fun t => t.canPort p) (fun _ _ => rfl) (fun _ _ => rfl) _ _ _ _

/-- An event of some port leaves port `p` alone: by what the event leaves alone, or because `p` takes no part. -/
theorem canPort_event {f : Nat → State → State} {s : State} {p q : Nat} (own : f p s = s)
    (other : p ≠ q → (f q s).canPort p = s.canPort p) : (f q s).canPort p = s.canPort p := by
  by_cases h : p = q
  · rw [← h, own]
  · exact other h

theorem CanPort.restartCounts_state (c : CanPort) (old new : Bytes) : (c.restartCounts old new).state = c.state := by
  unfold CanPort.restartCounts
  split <;> rfl

/-- A swap to mode 1 leaves a bus-off port bus-off. -/
theorem CanPort.setPort_busOff {c : CanPort} {x : Bytes} (off : c.state = 4) (mode : cMode x = 1) (busy : Bool) (now : Nat) :
    (c.setPort x busy now).state = 4 := by
  have kept := (c.restartCounts_state c.cfg x).trans off
  unfold CanPort.setPort
  split
  · exact kept
  · split
    · exact off
    · simp [CanPort.reconfigure, CanPort.off, off, kept, mode]

/-- A command in time that answers `t` has its effect in `t`. -/
theorem eq_of_runCmd {dt : Nat} {s t : State} {f : State → State} (h : runCmd dt s f = .next t) : t = f (s.elapse dt) := by
  unfold runCmd at h
  split at h
  · exact (Host.Outcome.next.inj h).symm
  · cases h

/-- Settles O47: events of another port leave the port alone, and in those of its own it takes no part. -/
theorem noEventLeavesBusOff : Obligations.NoEventLeavesBusOff := by
  intro s p off waits
  refine ⟨fun c hc t ht => ?event, fun q item c => ?item, fun x busy now mode => CanPort.setPort_busOff off mode busy now⟩
  case event =>
    have off' (dt : Nat) : ((s.elapse dt).canPort p).state = 4 := off
    obtain ⟨dt, q, rfl⟩ | ⟨dt, q, e, rfl⟩ | ⟨dt, q, f, rfl⟩ | ⟨dt, q, rfl⟩ | ⟨dt, q, rfl⟩ | ⟨dt, q, rfl⟩ |
      ⟨dt, rfl⟩ := hc
    all_goals rw [eq_of_runCmd ht]
    · exact canPort_event (canTxComplete_busOff (off' dt)) fun h => (canPort_canFrames h).canTxComplete _
    · exact canPort_event (f := fun q => canBusError q e) (canBusError_busOff (off' dt) e)
        fun h => (canPort_canFrames h).canBusError e _
    · exact canPort_event (f := fun q => canFrameReceived q f) (canFrameReceived_busOff (off' dt) f)
        fun h => (canPort_canFrames h).canFrameReceived f _
    · exact canPort_event (busRecovered_busOff (off' dt)) fun h => (canPort_canFrames h).busRecovered _
    · exact canPort_event (detectDwellExpiry_busOff (off' dt)) fun h => (canPort_canFrames h).detectDwellExpiry _
    · exact canPort_event (canIntegrationComplete_busOff (off' dt)) fun h => (canPort_canFrames h).canIntegrationComplete _
    · exact canStatusProduce_canPort _ p
  case item =>
    by_cases h : p = q
    · rw [← h]
      exact State.takeCan_busOff off item c
    · have same := (canPort_canFrames h).takeCan s item c
      exact ⟨(congrArg CanPort.state same).trans off, congrArg CanPort.queue same⟩

/-- Filing a frame leaves the settings that wait for its end. -/
theorem State.fileFrame_next (s : State) (p : Nat) (f : CanFrame) : ((s.fileFrame p f).canPort p).next = (s.canPort p).next := by
  unfold State.fileFrame
  dsimp only
  split
  · rw [State.canPort_updCan]
  · refine (State.publishMast_frame (π := fun t => (t.canPort p).next) (fun _ _ => rfl) (fun _ _ => rfl) _ _ _ _ _ _).trans ?_
    refine (State.fanWrite_frame (π := fun t => (t.canPort p).next) (fun _ _ => ?_) _).trans ?_
    · exact ite_frame (π := fun t : State => (t.canPort p).next) rfl rfl
    · rw [State.canPort_updCan]

/-! ### What the commands and events of a port leave (14 R384 to R394) -/

theorem canRecover_requests : Requests opCanRecover .canRecover := fun _ _ _ => rfl
theorem canGetStatus_requests : Requests opCanGetStatus .canGetStatus := fun _ _ _ => rfl
theorem canClearCounters_requests : Requests opCanClearCounters .canClearCounters := fun _ _ _ => rfl

section CanEvents
variable {s : State} {p : Nat} (on : s.domain 12 = true)
include on

/-- The head frame of an error-active port leaves the queue. -/
theorem canTxComplete_head {t : TxFrame} {rest : List TxFrame} (active : (s.canPort p).state = 2)
    (next : (s.canPort p).next = none) (head : (s.canPort p).queue = t :: rest) (ends : t.at_ ≤ s.now)
    (ht : (s.canPort p).tec ≤ 128) (hr : (s.canPort p).rec_ ≤ 127) :
    canTxComplete p s = (s.updCan p fun c =>
      { c with
        queue := rest
        tec := c.tec - 1
        txFrames := sat32 c.txFrames 1
        maxLatency := min max32 (max c.maxLatency (s.now - t.at_)) }).emit
      (.can p (frameBytes { t.frame with esi := false })) := by
  simp only [canTxComplete, head, on, active, Nat.not_lt.2 ends, Bool.not_true, beq_self_eq_true, Bool.true_or, Bool.or_self,
    decide_false, Bool.false_eq_true, if_false, Nat.reduceBEq, Bool.and_false]
  rw [State.canConfine_active (by simpa using active) (by simpa using ht) (by simpa using hr),
    State.canFrameEnd_none (by simpa using next)]

/-- The port with an error, or a lost arbitration, counted (R384, R389). -/
def CanPort.noted (e : BusError) (c : CanPort) : CanPort :=
  ({ c with
    errors := sat32 c.errors (b2n (!(e == .arbitrationLost)))
    arbLost := sat32 c.arbLost (b2n (e == .arbitrationLost)) } : CanPort).count e

theorem canBusError_noted (port : p ≤ 11) (takes : (s.canPort p).state = 2 ∨ (s.canPort p).state = 3) (e : BusError) :
    canBusError p e s =
      let t := ((s.updCan p (CanPort.noted e)).canConfine p).canBusOff p
      if e == .arbitrationLost then t else t.canFrameEnd p := by
  obtain h | h := takes <;>
    simp only [canBusError, on, Nat.not_lt.2 port, h, CanPort.off, Bool.not_true, decide_false, Nat.reduceBEq, Bool.or_self,
      Bool.false_eq_true, if_false, Nat.reduceEqDiff, State.updCan_updCan] <;> rfl

/-- An error that takes TEC past 255 puts an error-passive port off the bus. -/
theorem canBusError_leaves (port : p ≤ 11) (passive : (s.canPort p).state = 3) (next : (s.canPort p).next = none)
    (ht : 247 < (s.canPort p).tec) :
    canBusError p .transmit s = (s.updCan p fun c =>
      { c with
        errors := sat32 c.errors 1
        arbLost := sat32 c.arbLost 0
        tec := c.tec + 8
        queue := []
        flushed := sat32 c.flushed c.queue.length
        state := 4
        since := s.now
        busOffs := sat32 c.busOffs 1 }).raiseCan 0x0B01 p
      [((s.canPort p).tec + 8 : Int), ((s.canPort p).queue.length : Int)] := by
  let t := s.updCan p (CanPort.noted .transmit)
  have noted : t.canPort p = (s.canPort p).noted .transmit := s.canPort_updCan p _
  have tec : (t.canPort p).tec = (s.canPort p).tec + 8 := congrArg CanPort.tec noted
  have passive' : t.canConfine p = t :=
    State.canConfine_passive ((congrArg CanPort.state noted).trans passive) (by omega)
  have off : t.canBusOff p = _ := if_neg (by omega)
  rw [canBusError_noted on port (.inr passive), passive', off, State.updCan_updCan, noted]
  exact State.canFrameEnd_none (by simpa [CanPort.noted, CanPort.count, CanPort.flush] using next)

/-- A lost arbitration is counted and leaves the error counters as they are. -/
theorem canBusError_lost (port : p ≤ 11) (active : (s.canPort p).state = 2) (ht : (s.canPort p).tec ≤ 127)
    (hr : (s.canPort p).rec_ ≤ 127) :
    canBusError p .arbitrationLost s = s.updCan p fun c =>
      { c with errors := sat32 c.errors 0, arbLost := sat32 c.arbLost 1 } := by
  let t := s.updCan p (CanPort.noted .arbitrationLost)
  have noted : t.canPort p = (s.canPort p).noted .arbitrationLost := s.canPort_updCan p _
  have tec : (t.canPort p).tec = (s.canPort p).tec := (congrArg CanPort.tec noted :)
  have active' : t.canConfine p = t :=
    State.canConfine_active ((congrArg CanPort.state noted).trans active) (by omega) ((congrArg CanPort.rec_ noted).trans_le hr)
  have stays : t.canBusOff p = t := State.canBusOff_below (by omega)
  rw [canBusError_noted on port (.inl active), active', stays]
  rfl


/-- A port that listens only files the frame, and no settings wait for its end. -/
theorem canFrameReceived_listenOnly (port : p ≤ 11) (listens : (s.canPort p).state = 6) (next : (s.canPort p).next = none)
    (f : CanFrame) : canFrameReceived p f s = s.fileFrame p f := by
  have filed : ((s.fileFrame p f).canPort p).next = none := (s.fileFrame_next p f).trans next
  simp only [canFrameReceived, on, Nat.not_lt.2 port, listens, Bool.not_true, decide_false, Bool.or_self, Bool.false_eq_true,
    if_false, if_true, Nat.reduceEqDiff, State.canFrameEnd_none filed]

end CanEvents

section Filed
variable {s : State} {p : Nat} {f : CanFrame} {k : Nat}

theorem State.fileFrame_rejected (h : (s.canPort p).judge f = (k, 3)) :
    s.fileFrame p f = s.updCan p fun c => { c with rejected := sat32 c.rejected 1 } := by
  simp only [State.fileFrame, h, if_true]

theorem State.fileFrame_first (h : (s.canPort p).judge f = (k, 1)) :
    s.fileFrame p f = (((s.updCan p fun c => { c with rxFrames := sat32 c.rxFrames 1, rx0 := (c.rx0 + 1) % 4294967296 }).fanWrite
        (cRxBase (s.canPort p).cfg + (s.canPort p).rx0 % 128 * 96) (rxEntry f s.time.mast k (s.canPort p).rx0)).publishMast
          (0x7100 + p) (((s.canPort p).rx0 + 1) % 4294967296) s.time.mast (s.grid + 500) true) := by
  simp only [State.fileFrame, h]
  rfl

theorem State.fileFrame_second (h : (s.canPort p).judge f = (k, 2)) :
    s.fileFrame p f = (((s.updCan p fun c => { c with rxFrames := sat32 c.rxFrames 1, rx1 := (c.rx1 + 1) % 4294967296 }).fanWrite
        (cRxBase (s.canPort p).cfg + 12288 + (s.canPort p).rx1 % 128 * 96)
          (rxEntry f s.time.mast k (s.canPort p).rx1)).publishMast
          (0x7200 + p) (((s.canPort p).rx1 + 1) % 4294967296) s.time.mast (s.grid + 500) true) := by
  simp only [State.fileFrame, h]
  rfl

end Filed

section Timers
variable {s : State} {p : Nat} (on : s.domain 12 = true)
include on

theorem busRecovered_due (h : (s.canPort p).state = 5)
    (due : 2 * (s.canPort p).since + 1408 * nomBit2 (s.canPort p).cfg ≤ 2 * s.now) :
    busRecovered p s = (s.updCan p fun c => { c with state := 2, tec := 0, rec_ := 0, since := s.now }).raiseCan 0x0B02 p
      [((s.now - (s.canPort p).since) / 1000 : Nat)] := if_neg (by simp [on, h, due])

theorem detectDwellExpiry_due (h : (s.canPort p).state = 7)
    (due : (s.canPort p).since + cDwell (s.canPort p).cfg ≤ s.now) : detectDwellExpiry p s = s.nextDwell p :=
  if_neg (by simp [on, h, due])

theorem canIntegrationComplete_due (h : (s.canPort p).state = 1)
    (due : 2 * (s.canPort p).since + 11 * nomBit2 (s.canPort p).cfg ≤ 2 * s.now) :
    canIntegrationComplete p s = s.updCan p fun c => { c with state := 2, since := s.now } := if_neg (by simp [on, h, due])

theorem canStatusProduce_due (grid : s.grid % 100000 = 0) (major : s.majorDue = false) :
    canStatusProduce s = (upto 12).foldl (fun t p =>
      t.publish (0x7300 + p) ((s.canPort p).state + 256 * min 255 (s.canPort p).tec + 65536 * (s.canPort p).rec_ +
        16777216 * (s.canPort p).queue.length) s.grid (s.grid + 500)) s := if_neg (by simp [on, grid, major])

end Timers

/-- Settles O46: each accepted command runs in its port, and each event meets its own condition. -/
theorem canCommandsComplete : Obligations.CanCommandsComplete := by
  refine ⟨?recover, ?status, ?clear, ?sent, ?leaves, ?lost, ?received, ?recovered, ?dwell, ?integrated, ?words⟩
  case recover => exact fun dt s r z ht ha => canRecover_requests.exec_done ht ha rfl rfl rfl
  case status => exact fun dt s r z ht ha => canGetStatus_requests.exec_read ht ha rfl rfl rfl
  case clear => exact fun dt s r z ht ha => canClearCounters_requests.exec_done ht ha rfl rfl rfl
  case sent =>
    exact fun dt s p t rest ht on active next head ends tec rec_ =>
      runCmd_to ht (canTxComplete_head (s := s.elapse dt) on active next head ends tec rec_)
  case leaves =>
    exact fun dt s p ht on port passive next tec => runCmd_to ht (canBusError_leaves (s := s.elapse dt) on port passive next tec)
  case lost =>
    exact fun dt s p ht on port active tec rec_ => runCmd_to ht (canBusError_lost (s := s.elapse dt) on port active tec rec_)
  case received =>
    intro dt s p f k a ht on port listens next judged
    have filed := canFrameReceived_listenOnly (s := s.elapse dt) on port listens next f
    refine ⟨?_, ?_, ?_⟩ <;> rintro rfl <;> refine runCmd_to ht (filed.trans ?_)
    · exact State.fileFrame_rejected judged
    · exact State.fileFrame_first judged
    · exact State.fileFrame_second judged
  case recovered => exact fun dt s p ht on state due => runCmd_to ht (busRecovered_due (s := s.elapse dt) on state due)
  case dwell => exact fun dt s p ht on state due => runCmd_to ht (detectDwellExpiry_due (s := s.elapse dt) on state due)
  case integrated => exact fun dt s p ht on state due => runCmd_to ht (canIntegrationComplete_due (s := s.elapse dt) on state due)
  case words => exact fun dt s ht on grid major => runCmd_to ht (canStatusProduce_due (s := s.elapse dt) on grid major)

end Sys2Proof.Machine

namespace Sys2Proof.Machine
open Sys2Proof

/-! ### Commands and events of the GNSS block (13 R352 to R371) -/

theorem gnssAid_requests : Requests opGnssAid .gnssAid := fun _ _ _ => rfl
theorem gnssResetData_requests : Requests opGnssResetData .gnssResetData := fun _ _ _ => rfl
theorem gnssGetStatus_requests : Requests opGnssGetStatus .gnssGetStatus := fun _ _ _ => rfl
theorem gnssClearCounters_requests : Requests opGnssClearCounters .gnssClearCounters := fun _ _ _ => rfl

theorem opGnssAid_run (u : State) (r : Request) :
    let v := ((aidsOf r.payload).getD ([], [])).1.foldl (fun t b => takeAid t b.2)
      (u.updGnss fun g => { g with aidsAccepted := 0, aidsRejected := 0 })
    opGnssAid.run u r = (v.updGnss fun g =>
      { g with
        aidsAccepted := sat16 u.gnss.aidsAccepted v.gnss.aidsAccepted
        aidsRejected := sat16 u.gnss.aidsRejected v.gnss.aidsRejected },
      some (stOk, putLE 2 v.gnss.aidsAccepted ++ putLE 2 v.gnss.aidsRejected)) := by
  cases h : aidsOf r.payload with
  | none => simp only [opGnssAid, h, Option.getD_none]
  | some x => simp only [opGnssAid, h, Option.getD_some]

section GnssEvents
variable {s : State}

theorem gnssDataSave_due (on : s.domain 10 = true) (due : s.gnss.savedAt + 600000000000 ≤ s.now) :
    gnssDataSave s = s.saveGnss.updGnss fun g => { g with savedAt := s.now } := if_pos (by simp [on, due])

theorem State.gnssOn_of_data (on : s.domain 10 = true) : s.gnssOn = true := by simp [State.gnssOn, on]

section Antenna
variable (on : s.gnssOn = true) {a current : Nat} (antenna : a ≤ 1)
include on antenna

theorem antennaOpen_low (low : current < 2000) (open_ : Bool) : antennaOpen a open_ current s =
    let was := if a = 0 then s.gnss.a0Open else s.gnss.a1Open
    let t := s.updGnss fun g => if a = 0 then { g with a0Open := open_ } else { g with a1Open := open_ }
    if open_ && !was then t.raiseGnss 0x0A01 [a, 0, current] else t :=
  if_neg (by simp [on, Nat.not_lt.2 antenna, Nat.not_le.2 low])

theorem antennaSupplyFault_new (high : 150000 < current) (supplied : gSupply s.gnss.config a ≠ 0)
    (sound : (if a = 0 then s.gnss.a0Fault else s.gnss.a1Fault) = false) : antennaSupplyFault a current s =
      (s.updGnss fun g => g.setFault a true (some (s.now + 1000000000))).raiseGnss 0x0A01 [(a : Int), 1, (current : Int)] := by
  simp [antennaSupplyFault, on, Nat.not_lt.2 antenna, sound, supplied, Nat.not_le.2 high]

end Antenna

theorem antennaSupplyRetry_due {a t : Nat} (antenna : a ≤ 1)
    (retry : (if a = 0 then s.gnss.a0Retry else s.gnss.a1Retry) = some t) (due : t ≤ s.now) (exceeds : Bool) :
    antennaSupplyRetry a exceeds s = s.updGnss fun g =>
      if exceeds then g.setFault a true (some (s.now + 1000000000)) else g.setFault a false none := by
  simp only [antennaSupplyRetry, retry, Nat.not_lt.2 due, Nat.not_lt.2 antenna, decide_false, Bool.or_self, Bool.false_eq_true,
    if_false]

section Pulse
variable {tp : Nat} (output : tp ≤ 1)
include output

theorem timePulseStart_due {i : Nat} (enabled : tpEnable (s.pulse tp).cfg = true)
    (instant : pulseInstant (s.pulse tp).cfg s.time.mast = some i) (new : (s.pulse tp).bound ≤ i) :
    timePulseStart tp s =
      let u := s.updPulse tp fun p => { p with bound := s.time.mast + 1 }
      if pulseSuppressed s.gnss.timeState (tpGate (s.pulse tp).cfg) then u
      else (u.updPulse tp fun q => { q with endAt := some (s.now + tpWidth (s.pulse tp).cfg) }).emit
        (.pulse tp (!tpLow (s.pulse tp).cfg) s.time.mast) := by
  simp only [timePulseStart, enabled, Nat.not_lt.2 output, instant, Nat.not_lt.2 new, Bool.not_true, decide_false, Bool.or_self,
    Bool.false_eq_true, if_false]

theorem timePulseEnd_due {t : Nat} (ends : (s.pulse tp).endAt = some t) (due : t ≤ s.now) : timePulseEnd tp s =
    (s.updPulse tp fun q => { q with endAt := none }).emit (.pulse tp (tpLow (s.pulse tp).cfg) s.time.mast) := by
  simp only [timePulseEnd, ends, Nat.not_lt.2 due, Nat.not_lt.2 output, or_self, if_false]

end Pulse

end GnssEvents

/-- Settles O43: each accepted command runs in its block, and each event meets its own condition. -/
theorem gnssCommandsComplete : Obligations.GnssCommandsComplete := by
  refine ⟨?aid, ?reset, ?status, ?clear, ?exclusion, ?save, ?opened, ?fault, ?retry, ?pulse, ?pulseEnd⟩
  case aid => exact fun dt s r z ht ha _ => gnssAid_requests.exec_done ht ha rfl rfl (opGnssAid_run _ r)
  case reset => exact fun dt s r z ht ha => gnssResetData_requests.exec_done ht ha rfl rfl rfl
  case status => exact fun dt s r z ht ha => gnssGetStatus_requests.exec_read ht ha rfl rfl rfl
  case clear => exact fun dt s r z ht ha => gnssClearCounters_requests.exec_done ht ha rfl rfl rfl
  case exclusion => exact fun dt s key ht => runCmd_next ht _
  case save => exact fun dt s ht on due => runCmd_to ht (gnssDataSave_due (s := s.elapse dt) on due)
  case opened =>
    intro dt s current ht on low
    have gnssOn : (s.elapse dt).gnssOn = true := State.gnssOn_of_data on
    have first := antennaOpen_low (s := s.elapse dt) gnssOn (Nat.zero_le 1) low
    have second := antennaOpen_low (s := s.elapse dt) gnssOn (Nat.le_refl 1) low
    exact ⟨fun shut => runCmd_to ht ((first true).trans (if_pos (by simp [shut]))),
      fun shut => runCmd_to ht ((second true).trans (if_pos (by simp [shut]))), runCmd_to ht (first false)⟩
  case fault =>
    exact fun dt s a current ht on antenna high supplied sound => runCmd_to ht
      (antennaSupplyFault_new (s := s.elapse dt) (State.gnssOn_of_data on) antenna high supplied sound)
  case retry =>
    intro dt s a t ht antenna retry due
    have retried := antennaSupplyRetry_due (s := s.elapse dt) antenna retry due
    exact ⟨runCmd_to ht (retried true), runCmd_to ht (retried false)⟩
  case pulse =>
    intro dt s tp i ht output enabled instant new
    have started := timePulseStart_due (s := s.elapse dt) output enabled instant new
    exact ⟨fun suppressed => runCmd_to ht (started.trans (if_pos suppressed)),
      fun passes => runCmd_to ht (started.trans (if_neg (Bool.eq_false_iff.1 passes)))⟩
  case pulseEnd =>
    exact fun dt s tp t ht output ends due => runCmd_to ht (timePulseEnd_due (s := s.elapse dt) output ends due)

end Sys2Proof.Machine

namespace Sys2Proof.Machine
open Sys2Proof

/-! ### Replies and the signal tables (04 R113 to R125) -/

/-- A change of a lane that keeps its signal table keeps the one of MAIN. -/
theorem State.updLane_signals {f : LaneSt → LaneSt} (h : ∀ a, (f a).signals = a.signals) (s : State) (l : Lane) :
    (s.updLane l f).main.signals = s.main.signals := by
  cases l with
  | main => exact h _
  | mizzen => rfl

/-- What a receiver hands on changes no lane. -/
theorem State.handAll_signals (x : State × List Taken) : (State.handAll x).main.signals = x.1.main.signals :=
  (congrArg (fun t : State => t.main.signals) (foldl_frame (π := State.asideItems) AsideItems.handOn x.2 x.1) :)

theorem State.logTrouble_signals (s : State) (l : Lane) (kind code : Nat) (d : Bytes) :
    (s.logTrouble l kind code d).main.signals = s.main.signals :=
  State.updLane_signals (fun a => by split <;> rfl) s l

theorem State.offer_signals (s : State) (w : Senders) (powered : Bool) (block resource item : Nat) (c : Lane → Cargo) :
    (s.offer w powered block resource item c).1.main.signals = s.main.signals := by
  refine foldl_fst_frame (π := fun t : State => t.main.signals) (fun t l => ?_) _ _
  dsimp only
  split
  · unfold State.sendSingle
    split <;> rfl
  · unfold State.sendCopy
    dsimp only
    split <;> cases l <;> rfl

theorem State.pushMail_signals (s : State) (ls : List Lane) (task : Nat) (packet : Lane → Bytes) :
    (s.pushMail ls task packet).main.signals = s.main.signals := by
  unfold State.pushMail
  dsimp only
  split
  · rfl
  · split <;> refine foldl_frame (π := fun t : State => t.main.signals) (fun t l => ?_) (ls.filter s.computes) s <;> split
    · rfl
    · cases l <;> rfl
    · rfl
    · cases l <;> rfl

theorem State.sendReply_signals (s : State) (w : Senders) (p : Lane → Reply) :
    (s.sendReply w p).main.signals = s.main.signals := by
  have sent (n port item : Nat) (b : Bool) (c : Lane → Cargo) :
      (State.handAll (s.offer w b n port item c)).main.signals = s.main.signals :=
    (State.handAll_signals _).trans (State.offer_signals _ _ _ _ _ _ _)
  have logged (k c : Nat) (d : Bytes) (t : State) :
      (w.lanes.foldl (fun t l => t.logTrouble l k c d) t).main.signals = t.main.signals :=
    foldl_frame (π := fun t : State => t.main.signals) (fun t l => t.logTrouble_signals l k c d) _ t
  unfold State.sendReply
  split
  case h_1 | h_2 | h_3 => exact sent _ _ _ _ _
  case h_4 =>
    exact foldl_frame (π := fun t : State => t.main.signals)
      (fun t l => (rfl : (t.emit (.reply (p l))).main.signals = t.main.signals)) _ _
  case h_5 => exact s.pushMail_signals _ _ _
  case h_6 =>
    dsimp only
    split
    · exact logged _ _ _ _
    · exact (logged _ _ _ _).trans ((State.handAll_signals _).trans ((State.offer_signals _ _ _ _ _ _ _).trans (logged _ _ _ _)))

theorem State.answer_signals (s : State) (opcode : Nat) (r : Request) (status boundary : Nat) (payload : Bytes) :
    (s.answer opcode r status boundary payload).main.signals = s.main.signals :=
  ite_frame (π := fun t : State => t.main.signals) (s.sendReply_signals _ _) (s.sendReply_signals _ _)

theorem State.logChange_signals (s : State) (kind opcode : Nat) (r : Request) (status boundary : Nat) :
    (s.logChange kind opcode r status boundary).main.signals = s.main.signals :=
  (State.handAll_signals _).trans (State.offer_signals _ _ _ _ _ _ _)

/-! ### An accepted offset, part by part (13 R368) -/

/-- The marks of the clock check are cleared. -/
def State.offsetCleared (s : State) : State :=
  s.updGnss fun g => { g with suspect := false, checkFailing := false, acceptCount := 0 }

/-- The offset is to be stepped. -/
def State.offsetStep (s : State) (p : PendingStep) : State :=
  { s with
    time := { s.time with pendingStep := some p, slewing := false }
    gnss := { s.gnss with slew := 0 } }

/-- The offset is to be slewed. -/
def State.offsetSlew (s : State) (offset : Int) : State :=
  { s with
    time := { s.time with slewing := offset != 0, noTime := false }
    gnss := { s.gnss with slew := -offset, slewAt := s.now } }

theorem State.acceptOffset_eq (s : State) (offset rem : Int) (bound : Nat) : s.acceptOffset offset rem bound =
    let step := decide (1000 ≤ rem.natAbs) || s.time.pendingStep.isSome
    let t := (if step then s.offsetCleared.dropManual.offsetStep ⟨-offset, s.nextSecond, none⟩
      else s.offsetCleared.offsetSlew offset).lockTime bound
    if s.gnss.timeState = 1 then t else t.raiseGnss 0x0A08 [rem, (b2n step : Int)] := rfl

/-! ### The time state at an epoch, part by part (13 R366, R368) -/

/-- A valid offset is the block's clock offset. -/
def State.offsetNoted (s : State) (valid : Bool) (offset : Int) : State :=
  if valid then s.updGnss (fun g => { g with clockOffset := satS 32 offset }) else s

/-- The epoch fails the clock check and counts towards acceptance. -/
def State.accepting (s : State) (rem : Int) : State :=
  (s.clockFails rem).updGnss fun g => { g.countEpoch rem with timeState := 3 }

theorem State.accepting_eq (s : State) (rem : Int) : ∃ n k, s.accepting rem =
    (s.clockFails rem).updGnss fun g => { g with timeState := 3, acceptCount := n, acceptFirst := k } := by
  by_cases near : 0 < (s.clockFails rem).gnss.acceptCount ∧ (rem - (s.clockFails rem).gnss.acceptFirst).natAbs ≤ 100
  · exact ⟨(s.clockFails rem).gnss.acceptCount + 1, (s.clockFails rem).gnss.acceptFirst, by
      simp only [State.accepting, State.updGnss, GnssSt.countEpoch, if_pos near]⟩
  · exact ⟨1, rem, by simp only [State.accepting, State.updGnss, GnssSt.countEpoch, if_neg near]⟩

/-- What a station on its master's time does. -/
def State.judgeFollowing (s : State) (valid : Bool) (rem : Int) (bound : Nat) : State :=
  if valid then
    (if decide (gClockTol s.gnss.config ≤ rem.natAbs) then s.clockFails rem
      else s.updGnss fun g => { g with suspect := false, checkFailing := false }).lockTime bound
  else s.loseTime.updGnss fun g => { g with timeState := 2 }

section Judged
variable (s : State) (rate : Nat) (offset : Int) (bound : Nat)

theorem State.judgeTime_following (h : s.time.timeFromMaster = true) (valid : Bool) :
    s.judgeTime rate valid offset bound =
      ((s.offsetNoted valid offset).judgeFollowing valid (offset + s.unapplied) bound).refreshTime := by
  unfold State.judgeTime
  dsimp only
  rw [if_pos h]
  cases valid <;> rfl

theorem State.judgeTime_lost (h : s.time.timeFromMaster = false) :
    s.judgeTime rate false offset bound = s.loseTime.refreshTime := by
  simp only [State.judgeTime, h, Bool.false_eq_true, if_false, Bool.not_false, if_true]

theorem State.judgeTime_accepts (h : s.time.timeFromMaster = false)
    (sound : s.gnss.timeState = 0 ∨ (offset + s.unapplied).natAbs < gClockTol s.gnss.config) :
    s.judgeTime rate true offset bound =
      ((s.offsetNoted true offset).acceptOffset offset (offset + s.unapplied) bound).refreshTime := by
  have passes : s.gnss.timeState = 0 ∨
      (!decide (gClockTol s.gnss.config ≤ (offset + s.unapplied).natAbs)) = true := by
    simpa only [Bool.not_eq_true', decide_eq_false_iff_not, Nat.not_le] using sound
  simp only [State.judgeTime, h, Bool.false_eq_true, if_false, Bool.not_true, passes, if_true, State.offsetNoted]

theorem State.judgeTime_fails (h : s.time.timeFromMaster = false) (known : s.gnss.timeState ≠ 0)
    (fails : gClockTol s.gnss.config ≤ (offset + s.unapplied).natAbs) :
    s.judgeTime rate true offset bound =
      let t := (s.offsetNoted true offset).accepting (offset + s.unapplied)
      (if gAcceptS s.gnss.config * rate ≤ t.gnss.acceptCount then t.acceptOffset offset (offset + s.unapplied) bound
        else t).refreshTime := by
  simp only [State.judgeTime, h, Bool.false_eq_true, if_false, Bool.not_true, known, fails, decide_true, or_self, if_true,
    State.offsetNoted, State.accepting]

end Judged

/-! ### What an epoch leaves alone (13 R354 to R369) -/

/-- A manual step that waits is answered and dropped: a reply and a change-log entry. -/
theorem State.dropManual_frame {α : Type} {π : State → α}
    (answer : ∀ (s : State) opcode r status boundary payload, π (s.answer opcode r status boundary payload) = π s)
    (logChange : ∀ (s : State) kind opcode r status boundary, π (s.logChange kind opcode r status boundary) = π s)
    (s : State) : π s.dropManual = π s := by
  unfold State.dropManual
  split
  · split
    · exact (logChange _ _ _ _ _ _).trans (answer _ _ _ _ _ _)
    · rfl
  · rfl

/-- What no epoch changes of itself: Mast time with its steps and the grid's shift, the memories, the signal table of MAIN, and of
the GNSS block its settings, its channels, the epoch it works on and what waits for delivery. -/
def State.fixedInEpoch (s : State) :
    (Nat × Int × Nat) × MemSt × Tbl SigRec × Bytes × Bytes × List Channel × Option (Nat × Nat) × List NavDelivery :=
  ((s.time.mast, s.time.gridShift, s.time.stepCount), s.mem, s.main.signals, s.gnss.config, s.gnss.watch, s.gnss.channels,
    s.gnss.epochAt, s.gnss.deliveries)

namespace FixedInEpoch
variable (s : State)

theorem raiseGnss (code : Nat) (l : List Int) : (s.raiseGnss code l).fixedInEpoch = s.fixedInEpoch :=
  s.raise_frame (π := State.fixedInEpoch) (fun _ _ => rfl) _ _ _ _

theorem dropManual : s.dropManual.fixedInEpoch = s.fixedInEpoch := by
  have aside : ReplyFrame fun t : State => (t.time, t.mem, t.gnss) := by constructor <;> intros <;> rfl
  have kept := State.dropManual_frame (π := fun t : State => (t.time, t.mem, t.gnss)) aside.answer aside.logChange s
  have signals := State.dropManual_frame (π := fun t : State => t.main.signals) State.answer_signals State.logChange_signals s
  obtain ⟨time, mem, gnss⟩ : s.dropManual.time = s.time ∧ s.dropManual.mem = s.mem ∧ s.dropManual.gnss = s.gnss := by
    simpa using kept
  simp only [State.fixedInEpoch, time, mem, gnss, signals]

theorem refreshTime : s.refreshTime.fixedInEpoch = s.fixedInEpoch := ite_frame rfl rfl

theorem lockTime (bound : Nat) : (s.lockTime bound).fixedInEpoch = s.fixedInEpoch := rfl

theorem acceptOffset (offset rem : Int) (bound : Nat) : (s.acceptOffset offset rem bound).fixedInEpoch = s.fixedInEpoch := by
  have corrected (c : Prop) [Decidable c] (p : PendingStep) : ((if c then s.offsetCleared.dropManual.offsetStep p
      else s.offsetCleared.offsetSlew offset).lockTime bound).fixedInEpoch = s.fixedInEpoch :=
    (lockTime _ _).trans (ite_frame (dropManual s.offsetCleared) rfl)
  rw [State.acceptOffset_eq]
  exact ite_frame (corrected _ _) ((raiseGnss _ _ _).trans (corrected _ _))

theorem clockFails (rem : Int) : (s.clockFails rem).fixedInEpoch = s.fixedInEpoch := ite_frame rfl (raiseGnss _ _ _)

theorem loseTime : s.loseTime.fixedInEpoch = s.fixedInEpoch := ite_frame rfl (ite_frame (raiseGnss _ _ _) rfl)

theorem accepting (rem : Int) : (s.accepting rem).fixedInEpoch = s.fixedInEpoch := by
  obtain ⟨n, k, h⟩ := s.accepting_eq rem
  rw [h]
  exact clockFails s rem

theorem judgeFollowing (valid : Bool) (rem : Int) (bound : Nat) :
    (s.judgeFollowing valid rem bound).fixedInEpoch = s.fixedInEpoch :=
  ite_frame ((lockTime _ _).trans (ite_frame (clockFails _ _) rfl)) (loseTime s)

theorem offsetNoted (valid : Bool) (offset : Int) : (s.offsetNoted valid offset).fixedInEpoch = s.fixedInEpoch :=
  ite_frame rfl rfl

theorem judgeTime (rate : Nat) (valid : Bool) (offset : Int) (bound : Nat) :
    (s.judgeTime rate valid offset bound).fixedInEpoch = s.fixedInEpoch := by
  by_cases master : s.time.timeFromMaster = true
  · rw [s.judgeTime_following rate offset bound master]
    exact (refreshTime _).trans ((judgeFollowing _ _ _ _).trans (offsetNoted s _ _))
  · rw [Bool.not_eq_true] at master
    cases valid with
    | false =>
      rw [s.judgeTime_lost rate offset bound master]
      exact (refreshTime _).trans (loseTime s)
    | true =>
      by_cases sound : s.gnss.timeState = 0 ∨ (offset + s.unapplied).natAbs < gClockTol s.gnss.config
      · rw [s.judgeTime_accepts rate offset bound master sound]
        exact (refreshTime _).trans ((acceptOffset _ _ _ _).trans (offsetNoted s _ _))
      · obtain ⟨known, fails⟩ := not_or.1 sound
        rw [s.judgeTime_fails rate offset bound master known (Nat.not_lt.1 fails)]
        have waits := (accepting (s.offsetNoted true offset) (offset + s.unapplied)).trans (offsetNoted s true offset)
        exact (refreshTime _).trans (ite_frame ((acceptOffset _ _ _ _).trans waits) waits)

/-! #### The other parts of an epoch -/

theorem noteJamming (bands : Nat) (e : EpochData) : (s.noteJamming bands e).fixedInEpoch = s.fixedInEpoch := by
  unfold State.noteJamming
  dsimp only
  exact foldl_frame (fun t i => ite_frame (raiseGnss t _ _) rfl) _ _

theorem excludeSat (cause key : Nat) : (s.excludeSat cause key).fixedInEpoch = s.fixedInEpoch := ite_frame (raiseGnss _ _ _) rfl

theorem excludeConst (c metres : Nat) : (s.excludeConst c metres).fixedInEpoch = s.fixedInEpoch := ite_frame (raiseGnss _ _ _) rfl

theorem checkEpoch (seen : List Bytes) (e : EpochData) : (s.checkEpoch seen e).1.fixedInEpoch = s.fixedInEpoch := by
  unfold State.checkEpoch
  dsimp only
  have excluded (cause : Nat) (l : List Nat) (t : State) : (l.foldl (State.excludeSat · cause ·) t).fixedInEpoch = t.fixedInEpoch :=
    foldl_frame (fun u key => excludeSat u cause key) l t
  split
  · exact (excludeConst _ _ _).trans ((excluded _ _ _).trans (excluded _ _ _))
  · exact (excluded _ _ _).trans (excluded _ _ _)

theorem noteSpoof (by_ : Option Nat) : (s.noteSpoof by_).fixedInEpoch = s.fixedInEpoch := by
  unfold State.noteSpoof
  dsimp only
  split
  · exact ite_frame rfl (raiseGnss _ _ _)
  · rfl

theorem noteHeading (seen : List Bytes) (e : EpochData) : (s.noteHeading seen e).fixedInEpoch = s.fixedInEpoch :=
  ite_frame (raiseGnss _ _ _) rfl

theorem keepPosition (pos : Bool) (d : EpochData) : (s.keepPosition pos d).fixedInEpoch = s.fixedInEpoch := ite_frame rfl rfl

theorem decodeLeap (l : List NavMessage) : (s.decodeLeap l).fixedInEpoch = s.fixedInEpoch := by
  unfold State.decodeLeap
  dsimp only
  split
  · rfl
  · split
    · exact ite_frame rfl (raiseGnss _ _ _)
    · split
      · rfl
      · exact ite_frame rfl rfl

end FixedInEpoch

/-! ### Corrections of Mast time (13 R366, R368) -/

/-- What corrects Mast time: a step that waits, a slew in progress, and whether the station has time. -/
def State.corrections (s : State) : Option PendingStep × Bool × Int × Bool :=
  (s.time.pendingStep, s.time.slewing, s.gnss.slew, s.time.noTime)

namespace Corrections
variable (s : State)

theorem refreshTime : s.refreshTime.corrections = s.corrections := ite_frame rfl rfl

theorem offsetNoted (valid : Bool) (offset : Int) : (s.offsetNoted valid offset).corrections = s.corrections := ite_frame rfl rfl

theorem raiseGnss (code : Nat) (l : List Int) : (s.raiseGnss code l).corrections = s.corrections :=
  s.raise_frame (π := State.corrections) (fun _ _ => rfl) _ _ _ _

theorem clockFails (rem : Int) : (s.clockFails rem).corrections = s.corrections := ite_frame rfl (raiseGnss _ _ _)

theorem loseTime : s.loseTime.corrections = s.corrections := ite_frame rfl (ite_frame (raiseGnss _ _ _) rfl)

theorem judgeFollowing (valid : Bool) (rem : Int) (bound : Nat) :
    (s.judgeFollowing valid rem bound).corrections = s.corrections :=
  ite_frame (ite_frame (π := fun t => (t.lockTime bound).corrections) (clockFails s rem) rfl) (loseTime s)

theorem accepting (rem : Int) : (s.accepting rem).corrections = s.corrections := by
  obtain ⟨n, k, h⟩ := s.accepting_eq rem
  rw [h]
  exact clockFails s rem

end Corrections

@[simp] theorem State.raiseGnss_gnss (s : State) (code : Nat) (l : List Int) : (s.raiseGnss code l).gnss = s.gnss :=
  s.raise_frame (π := State.gnss) (fun _ _ => rfl) _ _ _ _

@[simp] theorem State.raiseGnss_time (s : State) (code : Nat) (l : List Int) : (s.raiseGnss code l).time = s.time :=
  s.raise_frame (π := State.time) (fun _ _ => rfl) _ _ _ _

@[simp] theorem State.refreshTime_gnss (s : State) : s.refreshTime.gnss = s.gnss := ite_frame rfl rfl

@[simp] theorem State.refreshTime_pendingStep (s : State) : s.refreshTime.time.pendingStep = s.time.pendingStep :=
  ite_frame (π := fun t : State => t.time.pendingStep) rfl rfl

theorem State.clockFails_gnss (s : State) (rem : Int) :
    ∃ n, (s.clockFails rem).gnss = { s.gnss with suspect := true, checkFailing := true, clockFails := n } := by
  unfold State.clockFails
  dsimp only
  split
  · exact ⟨s.gnss.clockFails, rfl⟩
  · exact ⟨_, State.raiseGnss_gnss _ _ _⟩

/-- The count of consistent epochs goes by what is counted so far alone. -/
theorem GnssSt.countEpoch_acceptCount (g : GnssSt) (rem : Int) : (g.countEpoch rem).acceptCount =
    if 0 < g.acceptCount ∧ (rem - g.acceptFirst).natAbs ≤ 100 then g.acceptCount + 1 else 1 := by
  unfold GnssSt.countEpoch
  split <;> rfl

theorem GnssSt.countEpoch_suspect (g : GnssSt) (rem : Int) : (g.countEpoch rem).suspect = g.suspect := by
  unfold GnssSt.countEpoch
  split <;> rfl

theorem State.accepting_gnss (s : State) (rem : Int) : (s.accepting rem).gnss.timeState = 3 ∧
    (s.accepting rem).gnss.suspect = true ∧ (s.accepting rem).gnss.acceptCount = (s.gnss.countEpoch rem).acceptCount := by
  obtain ⟨n, h⟩ := s.clockFails_gnss rem
  have counted : (s.accepting rem).gnss = { (s.clockFails rem).gnss.countEpoch rem with timeState := 3 } := rfl
  rw [counted, h]
  exact ⟨rfl, GnssSt.countEpoch_suspect _ _, by simp only [GnssSt.countEpoch_acceptCount]⟩

theorem State.dropManual_gnss (s : State) : s.dropManual.gnss = s.gnss := by
  have aside : ReplyFrame State.gnss := by constructor <;> intros <;> rfl
  exact State.dropManual_frame aside.answer aside.logChange s

/-- An accepted offset locks the time, and one of 1,000 ns or more waits to be stepped. -/
theorem State.acceptOffset_locks (s : State) (offset rem : Int) (bound : Nat) :
    (s.acceptOffset offset rem bound).gnss.timeState = 1 ∧ (s.acceptOffset offset rem bound).gnss.suspect = false ∧
    (1000 ≤ rem.natAbs → (s.acceptOffset offset rem bound).time.pendingStep = some ⟨-offset, s.nextSecond, none⟩) := by
  let d := s.offsetCleared.dropManual.offsetStep ⟨-offset, s.nextSecond, none⟩
  let t (step : Bool) := (if step then d else s.offsetCleared.offsetSlew offset).lockTime bound
  have clear : d.gnss.suspect = false := congrArg GnssSt.suspect s.offsetCleared.dropManual_gnss
  have locked (step : Bool) : (t step).gnss.timeState = 1 ∧ (t step).gnss.suspect = false := by
    cases step
    · exact ⟨rfl, rfl⟩
    · exact ⟨rfl, clear⟩
  have noted (u : State) (c : Prop) [Decidable c] (l : List Int) : (if c then u else u.raiseGnss 0x0A08 l).gnss = u.gnss ∧
      (if c then u else u.raiseGnss 0x0A08 l).time = u.time :=
    ⟨ite_frame rfl (State.raiseGnss_gnss _ _ _), ite_frame rfl (State.raiseGnss_time _ _ _)⟩
  rw [State.acceptOffset_eq]
  dsimp only
  rw [(noted _ _ _).1, (noted _ _ _).2]
  refine ⟨(locked _).1, (locked _).2, fun far => ?_⟩
  rw [decide_eq_true far, Bool.true_or, if_pos rfl]
  rfl

/-- A station on its own time that fails the clock check waits, until the last of its consistent epochs. -/
theorem State.judgeTime_waits {s : State} {rate : Nat} {offset : Int} (own : s.time.timeFromMaster = false)
    (known : s.gnss.timeState ≠ 0) (fails : gClockTol s.gnss.config ≤ (offset + s.unapplied).natAbs)
    (few : (s.gnss.countEpoch (offset + s.unapplied)).acceptCount < gAcceptS s.gnss.config * rate) (bound : Nat) :
    s.judgeTime rate true offset bound = ((s.offsetNoted true offset).accepting (offset + s.unapplied)).refreshTime := by
  obtain ⟨-, -, counted⟩ := (s.offsetNoted true offset).accepting_gnss (offset + s.unapplied)
  have same : ((s.offsetNoted true offset).gnss.countEpoch (offset + s.unapplied)).acceptCount =
      (s.gnss.countEpoch (offset + s.unapplied)).acceptCount := by
    simp only [GnssSt.countEpoch_acceptCount]
    rfl
  rw [s.judgeTime_fails rate offset bound own known fails]
  dsimp only
  rw [if_neg (by omega)]

/-- Settles O45: by whose time the station has, whether the epoch has a solution, and what the clock check finds. -/
theorem mastTimeIsCorrectedOnlyOnAcceptance : Obligations.MastTimeIsCorrectedOnlyOnAcceptance := by
  intro s rate valid offset bound t rem
  have fixed := congrArg Prod.fst (FixedInEpoch.judgeTime s rate valid offset bound)
  obtain ⟨mast, shift, steps⟩ : t.time.mast = s.time.mast ∧ t.time.gridShift = s.time.gridShift ∧
      t.time.stepCount = s.time.stepCount := by simpa [State.fixedInEpoch] using fixed
  refine ⟨mast, shift, steps, fun h => ?uncorrected, ?failing, ?accepted⟩
  case uncorrected =>
    have same : t.corrections = s.corrections := by
      cases master : s.time.timeFromMaster with
      | true =>
        exact (congrArg State.corrections (s.judgeTime_following rate offset bound master valid)).trans
          ((Corrections.refreshTime _).trans ((Corrections.judgeFollowing _ _ _ _).trans (Corrections.offsetNoted s _ _)))
      | false =>
        obtain h | rfl | ⟨known, fails, few⟩ := h
        · exact absurd (master.symm.trans h) (by decide)
        · exact (congrArg State.corrections (s.judgeTime_lost rate offset bound master)).trans
            ((Corrections.refreshTime _).trans (Corrections.loseTime s))
        · cases valid with
          | false =>
            exact (congrArg State.corrections (s.judgeTime_lost rate offset bound master)).trans
              ((Corrections.refreshTime _).trans (Corrections.loseTime s))
          | true =>
            exact (congrArg State.corrections (State.judgeTime_waits master known fails few bound)).trans
              ((Corrections.refreshTime _).trans ((Corrections.accepting _ _).trans (Corrections.offsetNoted s _ _)))
    simpa [State.corrections] using same
  case failing =>
    rintro own rfl known fails few
    obtain ⟨waits, suspect, -⟩ := (s.offsetNoted true offset).accepting_gnss rem
    have judged : t.gnss = _ := (congrArg State.gnss (State.judgeTime_waits own known fails few bound)).trans
      (State.refreshTime_gnss _)
    exact ⟨(congrArg GnssSt.timeState judged).trans waits, (congrArg GnssSt.suspect judged).trans suspect⟩
  case accepted =>
    rintro own rfl sound
    obtain ⟨locked, clear, steps⟩ := (s.offsetNoted true offset).acceptOffset_locks offset rem bound
    have judged : t = _ := s.judgeTime_accepts rate offset bound own sound
    rw [judged, State.refreshTime_gnss, State.refreshTime_pendingStep]
    exact ⟨locked, clear, steps⟩

end Sys2Proof.Machine

namespace Sys2Proof.Machine
open Sys2Proof

/-! ### The channels of an epoch (13 R354, R372) -/

theorem giveChannel_length {limit window : Nat} {before pool : List Channel} (h : pool.length ≤ limit) (want : Channel) :
    (giveChannel limit window before pool want).length ≤ limit := by
  unfold giveChannel
  split
  · exact h
  next free =>
    have room : pool.length < limit := Nat.not_le.1 (not_or.1 free).2
    split <;> simpa using room

theorem foldl_giveChannel_length {limit window : Nat} {before pool : List Channel} (h : pool.length ≤ limit)
    (wanted : List Channel) : (wanted.foldl (giveChannel limit window before) pool).length ≤ limit := by
  induction wanted generalizing pool with
  | nil => exact h
  | cons x r ih => exact ih (giveChannel_length h x)

theorem GnssSt.allocate_length (g : GnssSt) (limit window : Nat) (demand searches : List Channel) :
    (g.allocate limit window demand searches).length ≤ limit :=
  foldl_giveChannel_length (foldl_giveChannel_length (List.length_take_le _ _) _) _

/-- Lost channels are freed. -/
theorem trackLocks_length (now : Nat) (seen : List Bytes) (pool : List Channel) :
    (trackLocks now seen pool).length ≤ pool.length :=
  (List.length_filter_le _ _).trans_eq (List.length_map _)

/-! ### The record and the entry of an epoch (13 R359, Table 13-8) -/

theorem length_fitTo (n : Nat) (b : Bytes) : (fitTo n b).length = n := by
  simp [fitTo]

theorem measEntry_length (epoch : Nat) (l : List Bytes) : (measEntry epoch l).length = 32 + 32 * l.length := by
  simp only [measEntry, List.length_append, length_putLE, length_zeros, List.length_flatten, List.map_map, Function.comp_def,
    length_fitTo, List.map_const', List.sum_replicate, smul_eq_mul]
  omega

theorem measEntry_epoch (epoch : Nat) (l : List Bytes) : (measEntry epoch l).take 8 = putLE 8 epoch := by
  simp only [measEntry, List.append_assoc]
  exact List.take_left' (length_putLE 8 epoch)

/-- What tracking an epoch leaves. -/
theorem trackEpoch_fixedInEpoch (s : State) (epoch : Nat) (pool : List Channel) (decodes : Bool) (d : EpochData) :
    (s.trackEpoch epoch pool decodes d).1.fixedInEpoch = ((s.time.mast, s.time.gridShift, s.time.stepCount), s.mem,
      s.main.signals, s.gnss.config, s.gnss.watch, trackLocks s.now (measured pool d.measurements) pool, some (epoch, s.now),
      s.gnss.deliveries) := rfl

/-- An epoch that is due leaves the state with its record as the last and its delivery behind those that wait. -/
theorem gnssEpoch_forms {s : State} {e : Nat} (on : s.domain 9 = true) (due : s.epochDue (gRate s.gnss.config) = some e)
    (d : EpochData) : ∃ (u : State) (heading : GnssSt → Option (Nat × Nat)) (n : NavDelivery),
      gnssEpoch d s = (u.updGnss fun g =>
        { g with last := n.record.bytes, lastHeading := heading g, deliveries := g.deliveries ++ [n] }) ∧
      u.fixedInEpoch = (s.trackEpoch e s.allocateFull true d).1.fixedInEpoch ∧
      n.number = e * gRate s.gnss.config / 1000000000 % 4294967296 ∧ n.mast = e + gDelay s.gnss.config ∧
      n.count = (measured s.allocateFull d.measurements).length ∧
      ∃ f : Bytes → Bytes, n.entry = measEntry e ((measured s.allocateFull d.measurements).map f) := by
  unfold gnssEpoch
  dsimp only
  rw [due]
  dsimp only
  rw [if_neg (by simp [on])]
  refine ⟨_, _, ⟨_, _, _, ⟨_, _⟩, _, _⟩, rfl, ?_, rfl, rfl, rfl, _, rfl⟩
  exact (FixedInEpoch.keepPosition _ _ _).trans <| (FixedInEpoch.noteHeading _ _ _).trans <|
    (FixedInEpoch.judgeTime _ _ _ _ _).trans <| (FixedInEpoch.decodeLeap _ _).trans <| (FixedInEpoch.noteSpoof _ _).trans <|
      (FixedInEpoch.checkEpoch _ _ _).trans (FixedInEpoch.noteJamming _ _ _)

/-- A burst that is due leaves what tracking its epoch leaves, and no record. -/
theorem watchBurst_fixedInEpoch {s : State} {e : Nat} (off : s.domain 9 = false) (on : s.domain 10 = true)
    (due : s.epochDue 1 = some e) (d : EpochData) : ∃ decodes, (watchBurst d s).fixedInEpoch =
      (s.beginBurst.trackEpoch e s.beginBurst.allocateWatch decodes d).1.fixedInEpoch := by
  unfold watchBurst
  rw [due]
  dsimp only
  rw [if_neg (by simp [off, on])]
  refine ⟨_, (FixedInEpoch.keepPosition _ _ _).trans <| (FixedInEpoch.judgeTime _ _ _ _ _).trans <|
    (ite_frame (FixedInEpoch.decodeLeap _ _) rfl).trans <| (FixedInEpoch.noteSpoof _ _).trans <|
      (FixedInEpoch.checkEpoch _ _ _).trans (FixedInEpoch.noteJamming _ _ _)⟩

/-! ### Deliveries (13 R360, R363) -/

theorem State.tallyRecord_frame {α : Type} {π : State → α} (sense : ∀ (s : State) x, π { s with sense := x } = π s) (s : State)
    (r : NavRec) : π (s.tallyRecord r) = π s := by
  unfold State.tallyRecord
  dsimp only
  split
  · rfl
  · exact ite_frame (sense _ _) (sense _ _)

theorem State.publishSolution_frame {α : Type} {π : State → α} (main : ∀ (s : State) x, π { s with main := x } = π s)
    (mizzen : ∀ (s : State) x, π { s with mizzen := x } = π s) (s : State) (n : NavDelivery) : π (s.publishSolution n) = π s := by
  have pub (t : State) (code value stamp deliver : Nat) (valid : Bool) :
      π (t.publishMast code value stamp deliver valid) = π t := State.publishMast_frame main mizzen t _ _ _ _ _
  exact (pub _ _ _ _ _ _).trans <| (pub _ _ _ _ _ _).trans <| (pub _ _ _ _ _ _).trans <| (pub _ _ _ _ _ _).trans (pub _ _ _ _ _ _)

/-- The record and the entry in their rings, and the delivery off the list. -/
def State.ringsWritten (s : State) (n : NavDelivery) : State :=
  let c := s.gnss.config
  let s1 := s.updGnss fun g =>
    { g with
      deliveries := g.deliveries.erase n
      ttffMs := (match g.startAt with
        | some t => if flagAt n.record.bytes 0x0C 0 then min max32 ((s.now - t) / 1000000) else g.ttffMs
        | none => g.ttffMs)
      startAt := if flagAt n.record.bytes 0x0C 0 then none else g.startAt }
  let s2 := if u8 c 0x1F = 0 then s1 else s1.fanWrite (u64 c 0x28 + n.number % u8 c 0x1F * 128) n.record.bytes
  if u8 c 0x1E = 0 then s2 else s2.fanWrite (u64 c 0x20 + n.number % u8 c 0x1E * 28672) n.entry

/-- The rings are written in the lanes' DRAM, and the list of deliveries with the time of the first fix in the block. -/
theorem State.ringsWritten_frame {α : Type} {π : State → α} (mem : ∀ (s : State) x, π { s with mem := x } = π s) (s : State)
    (n : NavDelivery) {v : α} (own : ∀ ms start, π (s.updGnss fun g =>
      { g with deliveries := g.deliveries.erase n, ttffMs := ms, startAt := start }) = v) : π (s.ringsWritten n) = v := by
  have write (t : State) (a : Nat) (b : Bytes) : π (t.fanWrite a b) = π t :=
    State.fanWrite_frame (fun _ _ => ite_frame (mem _ _) rfl) t
  exact ((ite_frame rfl (write _ _ _)).trans (ite_frame rfl (write _ _ _))).trans (own _ _)

theorem State.ringsWritten_dramRead {s : State} {n : NavDelivery} {a : Nat}
    (nav : u8 s.gnss.config 0x1F ≠ 0 →
      a < u64 s.gnss.config 0x28 + n.number % u8 s.gnss.config 0x1F * 128 ∨
      u64 s.gnss.config 0x28 + n.number % u8 s.gnss.config 0x1F * 128 + n.record.bytes.length ≤ a)
    (meas : u8 s.gnss.config 0x1E ≠ 0 →
      a < u64 s.gnss.config 0x20 + n.number % u8 s.gnss.config 0x1E * 28672 ∨
      u64 s.gnss.config 0x20 + n.number % u8 s.gnss.config 0x1E * 28672 + n.entry.length ≤ a) (l : Lane) :
    (s.ringsWritten n).dramRead l a 1 = s.dramRead l a 1 := by
  have write (t : State) {c : Nat} {x : Nat} {b : Bytes} (h : c ≠ 0 → a < x ∨ x + b.length ≤ a) :
      (if c = 0 then t else t.fanWrite x b).dramRead l a 1 = t.dramRead l a 1 := by
    split
    · rfl
    next on => exact State.fanWrite_dramRead_outside ((h on).imp_left Nat.succ_le_of_lt) l t
  exact (write _ meas).trans (write _ nav)

/-- What follows the rings: the tally, the pose stream and the signals. -/
def State.recordShared (s : State) (n : NavDelivery) : State :=
  ((if s.domain 11 then s.tallyRecord n.record else s).egoRecord n.record).publishSolution n

theorem State.recordShared_frame {α : Type} {π : State → α} (sense : ∀ (s : State) x, π { s with sense := x } = π s)
    (fus : ∀ (s : State) x, π { s with fus := x } = π s) (main : ∀ (s : State) x, π { s with main := x } = π s)
    (mizzen : ∀ (s : State) x, π { s with mizzen := x } = π s) (s : State) (n : NavDelivery) : π (s.recordShared n) = π s :=
  (State.publishSolution_frame main mizzen _ _).trans <| (ite_frame (fus _ _) rfl).trans <|
    ite_frame (State.tallyRecord_frame sense _ _) rfl

theorem State.recordShared_poses {s : State} (d6 : s.domain 6 = true) (n : NavDelivery) :
    n.record ∈ (s.recordShared n).fus.poses := by
  have domain : (if s.domain 11 then s.tallyRecord n.record else s).domain 6 = true :=
    (ite_frame (π := fun t : State => t.domain 6)
      (State.tallyRecord_frame (π := fun t => t.domain 6) (fun _ _ => rfl) s n.record) rfl).trans d6
  rw [State.recordShared, State.publishSolution_frame (π := State.fus) (fun _ _ => rfl) fun _ _ => rfl, State.egoRecord,
    if_pos domain]
  exact List.mem_append_right _ List.mem_cons_self

theorem gnssDelivery_due {s : State} {n : NavDelivery} (on : s.domain 9 = true) (first : firstDelivery s.gnss.deliveries = some n)
    (due : n.due ≤ s.now) : gnssDelivery s = (s.ringsWritten n).recordShared n := by
  have domain : (s.ringsWritten n).domain 11 = s.domain 11 :=
    State.ringsWritten_frame (π := fun t => t.domain 11) (fun _ _ => rfl) s n fun _ _ => rfl
  rw [State.recordShared, domain]
  unfold gnssDelivery
  rw [first]
  exact if_neg (by simp [on, due])

/-- Settles O44: by what an epoch and a burst leave alone behind their tracking, and a delivery behind its rings. -/
theorem epochsComplete : Obligations.EpochsComplete := by
  refine ⟨?epoch, ?burst, ?delivery⟩
  case epoch =>
    intro dt s d e ht on due
    obtain ⟨u, heading, n, formed, fixed, number, mast, count, f, entry⟩ := gnssEpoch_forms (s := s.elapse dt) on due d
    rw [trackEpoch_fixedInEpoch] at fixed
    simp only [State.fixedInEpoch, Prod.mk.injEq] at fixed
    obtain ⟨⟨time, -, -⟩, mem, signals, config, -, channels, epochAt, deliveries⟩ := fixed
    refine ⟨_, n, runTaking_to ht formed, ?_, number, count, entry ▸ measEntry_epoch _ _, ?_, ?_, mast, rfl, epochAt, time, mem,
      signals, config⟩
    · exact congrArg (· ++ [n]) deliveries
    · rw [entry, measEntry_length, List.length_map, count]
    · exact (congrArg List.length channels).trans_le
        ((trackLocks_length _ _ _).trans (GnssSt.allocate_length _ _ _ _ _))
  case burst =>
    intro dt s d e ht off on due
    obtain ⟨decodes, fixed⟩ := watchBurst_fixedInEpoch (s := s.elapse dt) off on due d
    rw [trackEpoch_fixedInEpoch] at fixed
    simp only [State.fixedInEpoch, Prod.mk.injEq] at fixed
    obtain ⟨⟨time, -, -⟩, mem, -, config, -, channels, epochAt, deliveries⟩ := fixed
    refine ⟨_, runTaking_to ht rfl, deliveries, ?_, epochAt, time, mem, config⟩
    exact (congrArg List.length channels).trans_le ((trackLocks_length _ _ _).trans (GnssSt.allocate_length _ _ _ _ _))
  case delivery =>
    intro dt s n ht on first due
    have shared {α : Type} (π : State → α) (sense fus main mizzen) :=
      State.recordShared_frame (π := π) sense fus main mizzen ((s.elapse dt).ringsWritten n) n
    have rings {α : Type} (π : State → α) (mem) {v : α} (own) := State.ringsWritten_frame (π := π) mem (s.elapse dt) n (v := v) own
    refine ⟨_, runCmd_to ht (gnssDelivery_due (s := s.elapse dt) on first due), ?_, ?_, fun d6 => ?_, fun l a nav meas => ?_⟩
    · exact (shared (fun t => t.gnss.deliveries) (fun _ _ => rfl) (fun _ _ => rfl) (fun _ _ => rfl) fun _ _ => rfl).trans
        (rings (fun t => t.gnss.deliveries) (fun _ _ => rfl) fun _ _ => rfl)
    · exact (shared (fun t => t.gnss.last) (fun _ _ => rfl) (fun _ _ => rfl) (fun _ _ => rfl) fun _ _ => rfl).trans
        (rings (fun t => t.gnss.last) (fun _ _ => rfl) fun _ _ => rfl)
    · exact State.recordShared_poses ((rings (fun t => t.domain 6) (fun _ _ => rfl) fun _ _ => rfl).trans d6) n
    · exact (shared (fun t => t.dramRead l a 1) (fun _ _ => rfl) (fun _ _ => rfl) (fun _ _ => rfl) fun _ _ => rfl).trans
        (State.ringsWritten_dramRead (s := s.elapse dt) nav meas l)

end Sys2Proof.Machine

namespace Sys2Proof.Machine
open Sys2Proof

/-! ### Commands and events of the Stay block (15 R404 to R411, R420, R421) -/

theorem stayGetStatus_requests : Requests opStayGetStatus .stayGetStatus := fun _ _ _ => rfl
theorem stayGetStation_requests : Requests opStayGetStation .stayGetStation := fun _ _ _ => rfl
theorem stayClearCounters_requests : Requests opStayClearCounters .stayClearCounters := fun _ _ _ => rfl

section StayEvents
variable {s : State}

theorem State.stayBroadcast_all (first : Bool) (payload : State → Nat → Bytes) : s.stayBroadcast none first payload =
    ((upto 4).filter fun p => treePort s.cascade p).foldl (fun t p => t.stayOut p first (payload t p)) s := by
  have every : (fun p => treePort s.cascade p && some p != none) = fun p => treePort s.cascade p :=
    funext fun p => Bool.and_true _
  rw [State.stayBroadcast, every]

theorem timeFrameSend_due (on : s.domain 13 = true) (master : s.stay.membership = 3) (whole : s.grid % 1000000 = 0) :
    timeFrameSend s = s.stayBroadcast none true fun t p => stayPayload 3 t.sys.station 0 true 0 0 (timeBody t p) :=
  if_neg (by simp [on, master, whole])

theorem listenerTimeStep_due {x : SlotStep} (step : s.stay.step = some x) (none_ : s.stay.adopt = none) (due : x.due ≤ s.now) :
    listenerTimeStep s = ({ s with
      stay := { s.stay with step := none }
      time := { s.time with
        mast := ((s.time.mast : Int) + x.delta).toNat
        gridShift := x.shift
        stepCount := x.count
        lastStep := x.delta
        timeStep := true } } : State).raise 0x0201 8 255 (putS 8 x.delta ++ putLE 4 x.count) := by
  unfold listenerTimeStep
  rw [step]
  exact if_neg (by simp [none_, due])

theorem gridShiftAdopt_due {x : SlotStep} (adopt : s.stay.adopt = some x) (due : x.due ≤ s.now) :
    gridShiftAdopt s = ({ s with
      stay := { s.stay with adopt := none, stepSkew := false }
      time := { s.time with
        mast := ((s.time.mast : Int) + x.delta).toNat
        gridShift := s.time.gridShift + x.delta
        stepCount := x.count
        lastStep := x.delta
        timeStep := true } } : State).raise 0x0201 8 255 (putS 8 x.delta ++ putLE 4 x.count) := by
  unfold gridShiftAdopt
  rw [adopt]
  exact if_neg (Nat.not_lt.2 due)

theorem peerDelayRequest_due {p : Nat} (on : s.domain 13 = true) (up : (s.stayPort p).up = true)
    (due : (s.stayPort p).askAt ≤ s.now) : peerDelayRequest p s =
      (s.stayOut p true (peerPayload s 0 0 0)).updStayPort p fun x =>
        { x with asked := some (s.sendStamp p), askAt := s.now + 1000000000 } :=
  if_neg (by simp [on, up, due])

theorem masterElectionTimeout_due {tick : Nat} (on : s.domain 13 = true) (cascade : s.inCascade = true)
    (listener : s.stay.membership = 1) (alone : s.stay.following = false) (own : cascadeMaster s.cascade = s.sys.station)
    (link : s.stay.linkAt = some tick) (due : tick + 10000000 ≤ s.now) : masterElectionTimeout s = s.becomeMaster 0 := by
  unfold masterElectionTimeout
  rw [link]
  exact if_pos (by simp [on, cascade, listener, alone, own, due])

/-- What `becomeMaster` sets of the membership; the record and the time status leave it. -/
theorem State.becomeMaster_stay (s : State) (rank : Nat) : (s.becomeMaster rank).stay.membership = 3 ∧
    (s.becomeMaster rank).stay.rank = rank ∧ (s.becomeMaster rank).stay.master = s.sys.station ∧
    (s.becomeMaster rank).time.timeFromMaster = false := by
  have recorded {α : Type} (π : State → α) (rec_) (t : State) (c x : Nat) (l : List Int) : π (t.raiseStay c x l) = π t :=
    State.raise_frame rec_ _ _ _ _ _
  have refreshed (t : State) : t.refreshTime.stay = t.stay := ite_frame rfl rfl
  have follows (t : State) : t.refreshTime.time.timeFromMaster = t.time.timeFromMaster :=
    ite_frame (π := fun t : State => t.time.timeFromMaster) rfl rfl
  have stay : (s.becomeMaster rank).stay = _ := (recorded State.stay (fun _ _ => rfl) _ _ _ _).trans (refreshed _)
  exact ⟨congrArg StaySt.membership stay, congrArg StaySt.rank stay, congrArg StaySt.master stay,
    (recorded (·.time.timeFromMaster) (fun _ _ => rfl) _ _ _ _).trans (follows _)⟩

theorem masterLost_due (on : s.domain 13 = true) (following : s.stay.following = true) (first : s.stay.masterLost = false)
    (other : s.stay.membership ≠ 3) (due : s.stay.frameAt + 3000000 ≤ s.now) : masterLost s = ({ s with
      stay := { s.stay with masterLost := true, lostBounds := 0, synced := false, syncRun := 0 }
      time := { s.time with holdover := true } } : State).raiseStay 0x0C04 255 [(s.stay.master : Int)] :=
  if_neg (by simp [on, following, first, other, due])

theorem beaconSend_due (on : s.domain 13 = true) (cascade : s.inCascade = true) (late : s.grid % s.majorLen = 5000)
    (ranked : s.stay.rank ≠ 255) : beaconSend s =
      if s.stay.master = s.sys.station then s.takeBeacon s.sys.station (beaconBody s)
      else s.stayUnicast s.stay.master (stayPayload 4 s.sys.station s.stay.master false 0 0 (beaconBody s)) :=
  if_neg (by simp [on, cascade, late, ranked])

/-- The change that a control frame names for the boundary `ahead` major boundaries behind the first that is still to come. -/
def State.framedChange (s : State) (b : Bytes) (ahead : Nat) : Change :=
  ⟨u8 b 0 == 1, u8 b 1, u16 b 2 % 4096, u32 b 4, (s.grid / s.majorLen + (if s.majorDue then 0 else 1) + ahead) * s.majorLen⟩

theorem State.takeControl_staged {source : Nat} {b : Bytes} (on : s.domain 13 = true) (cascade : s.inCascade = true)
    (following : s.stay.following = true) (master : source = s.stay.master) (length : b.length = 8)
    (action : u8 b 0 = 1 ∨ u8 b 0 = 2) :
    let d := wrapDiff (u32 b 4) ((s.grid / s.majorLen + (if s.majorDue then 0 else 1)) % 4294967296)
    let staged (ahead : Nat) := s.updStay fun x => { x with changes := x.changes ++ [s.framedChange b ahead] }
    s.takeControl source b = if d ≤ 2147483647 then staged d
      else (staged 0).raiseStay 0x0C08 255 [((u16 b 2 % 4096 : Nat) : Int), toSigned 32 (u32 b 4)] := by
  intro d staged
  have named : (u8 b 0 == 1 || u8 b 0 == 2) = true := by simpa using action
  unfold State.takeControl
  dsimp only
  rw [if_neg (by simp [on, cascade, following, master, length, named])]
  by_cases early : d ≤ 2147483647
  · have late : decide (2147483647 < d) = false := decide_eq_false (Nat.not_lt.2 early)
    rw [if_pos early, if_neg (Bool.eq_false_iff.1 late)]
    have ahead : (if decide (2147483647 < d) then 0 else d) = d := if_neg (Bool.eq_false_iff.1 late)
    exact congrArg staged ahead
  · have late : decide (2147483647 < d) = true := decide_eq_true (Nat.not_le.1 early)
    rw [if_neg early, if_pos late]
    have ahead : (if decide (2147483647 < d) then 0 else d) = 0 := if_pos late
    exact congrArg (fun n => (staged n).raiseStay 0x0C08 255 [((u16 b 2 % 4096 : Nat) : Int), toSigned 32 (u32 b 4)]) ahead

section Link
variable {p : Nat} (on : s.domain 13 = true) (cascade : s.inCascade = true) (enabled : portEnabled s.cascade p = true)
include on cascade enabled

/-- A link that comes up has no delay measured. -/
theorem stayLinkChange_up (down : (s.stayPort p).up = false) : stayLinkChange p true s =
    ((s.updStayPort p fun _ => { up := true, askAt := s.now }).updStay fun x =>
      { x with linkAt := some (x.linkAt.getD s.now) }).raiseStay 0x0C02 p [8, (p : Int), 0] := by
  have delay : ((s.updStayPort p fun _ => { up := true, askAt := s.now }).updStay fun x =>
      { x with linkAt := some (x.linkAt.getD s.now) }).linkDelay p = 0 :=
    congrArg (fun x : StayPort => meanDelay x.delays)
      (State.stayPort_updStayPort s p fun _ => { up := true, askAt := s.now })
  rw [← delay]
  exact (if_neg (by simp [on, cascade, enabled, down])).trans (if_pos rfl)

theorem stayLinkChange_down (up : (s.stayPort p).up = true) : stayLinkChange p false s =
    (s.updStayPort p fun _ => {}).raiseStay 0x0C01 p [8, (p : Int)] :=
  (if_neg (by simp [on, cascade, enabled, up])).trans (if_neg Bool.false_ne_true)

end Link
end StayEvents

/-- Settles O49: the commands as their blocks run them, the events as each is due. -/
theorem stayCommandsComplete : Obligations.StayCommandsComplete := by
  refine ⟨?status, ?station, ?clear, ?frame, ?step, ?adopt, ?delay, ?election, ?lost, ?beacon, ?control, ?link⟩
  case status => exact fun dt s r z ht ha => stayGetStatus_requests.exec_read ht ha rfl rfl rfl
  case station => exact fun dt s r z ht ha => stayGetStation_requests.exec_read ht ha rfl rfl rfl
  case clear => exact fun dt s r z ht ha => stayClearCounters_requests.exec_done ht ha rfl rfl rfl
  case frame =>
    intro dt s ht on master whole
    exact runCmd_to ht ((timeFrameSend_due (s := s.elapse dt) on master whole).trans (State.stayBroadcast_all _ _))
  case step => exact fun dt s x ht step none_ due => runCmd_to ht (listenerTimeStep_due (s := s.elapse dt) step none_ due)
  case adopt => exact fun dt s x ht adopt due => runCmd_to ht (gridShiftAdopt_due (s := s.elapse dt) adopt due)
  case delay => exact fun dt s p ht on up due => runCmd_to ht (peerDelayRequest_due (s := s.elapse dt) on up due)
  case election =>
    intro dt s tick ht on cascade listener alone own link due
    exact ⟨_, runCmd_to ht (masterElectionTimeout_due (s := s.elapse dt) on cascade listener alone own link due),
      State.becomeMaster_stay _ 0⟩
  case lost =>
    exact fun dt s ht on following first other due =>
      runCmd_to ht (masterLost_due (s := s.elapse dt) on following first other due)
  case beacon =>
    exact fun dt s ht on cascade late ranked => runCmd_to ht (beaconSend_due (s := s.elapse dt) on cascade late ranked)
  case control =>
    intro dt s f ht on cascade following master length action
    exact runCmd_to (f := fun u => u.takeControl f.source f.body) ht
      (State.takeControl_staged (s := s.elapse dt) on cascade following master length action)
  case link =>
    exact fun dt s p ht on cascade enabled =>
      ⟨fun down => runCmd_to ht (stayLinkChange_up (s := s.elapse dt) on cascade enabled down),
        fun up => runCmd_to ht (stayLinkChange_down (s := s.elapse dt) on cascade enabled up)⟩

end Sys2Proof.Machine

namespace Sys2Proof.Machine
open Sys2Proof

/-! ### A Stay frame by its header (15 R397, R398) -/

section StayFrames
variable {s : State} {p : Nat}

section Header
variable {f : StayFrame} (on : s.domain 13 = true) (cascade : s.inCascade = true) (up : (s.stayPort p).up = true) (port : p ≤ 3)
include on cascade up port

theorem stayFrameReceived_bad (bad : stayFrameOk f = false) : stayFrameReceived p f s = s.stayDiscard := by
  unfold stayFrameReceived
  dsimp only
  rw [if_neg (by simp [on, cascade, up, port]), if_pos (by simp [bad])]

section Single
variable (known : (s.stayPort p).neighbour.isSome = true) (ok : stayFrameOk f = true) (kind : u8 f.payload 1 ≠ 6)
  (single : flagAt f.payload 5 4 = false)
include known ok kind single

/-- A frame for one station, of a known neighbour, is taken or goes on. -/
theorem stayFrameReceived_single : stayFrameReceived p f s =
    if u16 f.payload 4 % 4096 = s.sys.station then s.takeStay p f.payload
    else if decide (31 ≤ u8 f.payload 6) then s.stayDiscard
    else s.stayUnicast (u16 f.payload 4 % 4096) (forwardPayload s p (route s.cascade (u16 f.payload 4 % 4096)) f.payload) := by
  have unknown : ¬ (s.stayPort p).neighbour.isNone = true := by simpa [Option.isSome_iff_ne_none] using known
  unfold stayFrameReceived
  dsimp only
  rw [if_neg (by simp [on, cascade, up, port]), if_neg (by simp [ok]), if_neg unknown, if_neg kind,
    if_neg (Bool.eq_false_iff.1 single)]

theorem stayFrameReceived_onward (time : u8 f.payload 1 ≠ 3) (other : u16 f.payload 4 % 4096 ≠ s.sys.station) :
    stayFrameReceived p f s =
      if 31 ≤ u8 f.payload 6 ∨ 3 < route s.cascade (u16 f.payload 4 % 4096) then s.stayDiscard
      else s.stayOut (route s.cascade (u16 f.payload 4 % 4096)) false
        (setBytes f.payload 6 (putLE 1 (u8 f.payload 6 + 1))) := by
  rw [stayFrameReceived_single on cascade up port known ok kind single, if_neg other]
  have payload (n : Nat) : forwardPayload s p n f.payload = setBytes f.payload 6 (putLE 1 (u8 f.payload 6 + 1)) := if_neg time
  by_cases last : 31 ≤ u8 f.payload 6
  · rw [if_pos (decide_eq_true last), if_pos (.inl last)]
  · rw [if_neg (by simpa using last), payload, State.stayUnicast, if_neg (by simp [cascade])]
    by_cases out : 3 < route s.cascade (u16 f.payload 4 % 4096)
    · rw [if_pos out, if_pos (.inr out)]
    · rw [if_neg out, if_neg (not_or.2 ⟨last, out⟩)]

end Single
end Header

/-! ### Signals of other stations (15 R402, R413) -/

theorem State.takeStay_signal {q : Bytes} (kind : u8 q 1 = 1) : s.takeStay p q =
    if s.departedLate p (u16 q 2 % 4096) then s.departedDiscard
    else s.takeSignal (u32 q 8) ((q.drop 16).take (u16 q 12)) := by
  unfold State.takeStay
  dsimp only
  rw [kind]
  rfl

theorem State.departedLate_late {source b : Nat} (departed : Tbl.find s.stay.departed source = some b)
    (late : b + (s.recv (recvKey 8 p)).windowNs < s.grid) : s.departedLate p source = true := by
  rw [State.departedLate, departed]
  exact decide_eq_true late

theorem State.departedLate_timely {source : Nat}
    (timely : ∀ b, Tbl.find s.stay.departed source = some b → s.grid ≤ b + (s.recv (recvKey 8 p)).windowNs) :
    s.departedLate p source = false := by
  unfold State.departedLate
  cases departed : Tbl.find s.stay.departed source with
  | none => rfl
  | some b => exact decide_eq_false (Nat.not_lt.2 (timely b departed))

section Signal
variable {seq : Nat} {body : Bytes}
  (listed : (s.sched.image.signals.any fun x => x.id == u32 body 0 % 33554432 && x.source == 4) = true)
include listed

theorem State.takeSignal_stale (numbered : seq ≠ 0) (stale : ∃ last,
    Tbl.find s.stay.importSeq (u32 body 0 % 33554432) = some last ∧ ¬(1 ≤ wrapDiff seq last ∧ wrapDiff seq last ≤ 1048576)) :
    s.takeSignal seq body = s.updStay fun x => { x with staleDiscards := sat32 x.staleDiscards 1 } := by
  obtain ⟨last, found, unfit⟩ := stale
  unfold State.takeSignal
  dsimp only
  rw [if_neg (by simp [listed]), found]
  exact if_pos ⟨numbered, by simpa only [← Bool.decide_and, Bool.not_eq_true', decide_eq_false_iff_not] using unfit⟩

theorem State.takeSignal_taken (fits : seq = 0 ∨ ∀ last, Tbl.find s.stay.importSeq (u32 body 0 % 33554432) = some last →
      1 ≤ wrapDiff seq last ∧ wrapDiff seq last ≤ 1048576) : s.takeSignal seq body =
    (s.updStay fun x => { x with importSeq := Tbl.put x.importSeq (u32 body 0 % 33554432) seq }).updLanes fun a =>
      if a.running then { a with
        deliveries := a.deliveries ++ [⟨visibleSlot (s.grid + 200), u32 body 0 % 33554432, leNat ((body.drop 0x10).take 16),
          u64 body 8, s.tickOf (u64 body 8), flagAt body 4 0, some (u32 body 0x20, flagAt body 4 3, flagAt body 4 4)⟩] }
      else a := by
  unfold State.takeSignal
  dsimp only
  rw [if_neg (by simp [listed])]
  refine if_neg fun ⟨numbered, unfit⟩ => ?_
  obtain zero | fits := fits
  · exact numbered zero
  cases found : Tbl.find s.stay.importSeq (u32 body 0 % 33554432) with
  | none => simp [found] at unfit
  | some last => simp [found, fits last found] at unfit

end Signal

/-! ### Time frames (15 R405, R408) -/

/-- The station with the numbers of a time frame of the master it follows, and of that master's step count. -/
def State.followed (s : State) (f : TimeFrame) : State :=
  let b := f.body
  { s with
    stay := { s.stay with
      lostBounds := 0
      rank := tRank b
      hops := min 31 (f.hops + 1)
      frameAt := s.now
      stepSkew := false
      adopt := none }
    time := { s.time with
      uncertainty := u32 b 0x18
      leapSeconds := u8 b 0x21
      holdover := flagAt b 0x20 0
      leapValid := flagAt b 0x20 3
      noTime := flagAt b 0x20 7
      timeFromMaster := true } }

section Time
variable {f : TimeFrame} (following : s.stay.following = true) (heard : s.stay.masterLost = false)
include following heard

theorem State.acceptTime_followed (master : tMaster f.body = s.stay.master) (count : tStep f.body = s.time.stepCount) :
    s.acceptTime p f = (s.followed f).judgeOffset f.body (s.timeOffset p f.body 0) := by
  have same : (tStep f.body != s.time.stepCount) = false := by simp [count]
  have kept : (s.stay.following && tMaster f.body != s.stay.master) = false := by simp [master]
  unfold State.acceptTime
  dsimp only
  rw [same, kept]
  simp only [Bool.false_eq_true, if_false, Bool.not_false, Bool.and_true, master]
  unfold State.followed State.updStay
  simp only [following, heard]

variable (on : s.domain 13 = true) (cascade : s.inCascade = true) (up : (s.stayPort p).up = true) (length : f.body.length = 40)
  (membership : s.stay.membership = 1 ∨ s.stay.membership = 2)
include on cascade up length membership

theorem State.takeTime_followed (master : tMaster f.body = s.stay.master) (toward : route s.cascade s.stay.master = p)
    (count : tStep f.body = s.time.stepCount) :
    s.takeTime p f = (s.followed f).judgeOffset f.body (s.timeOffset p f.body 0) := by
  unfold State.takeTime
  dsimp only
  rw [if_neg (by simp [on, cascade, up, length]), if_neg (by omega), if_neg (by simp [master]), if_neg (by simp [master, toward])]
  exact State.acceptTime_followed following heard master count

theorem State.takeTime_foreign (foreign : tMaster f.body ≠ s.stay.master) : s.takeTime p f = s.foreignMaster f.body := by
  unfold State.takeTime
  dsimp only
  rw [if_neg (by simp [on, cascade, up, length]), if_neg (by omega), if_pos (by simp [following, heard, foreign])]

end Time

theorem State.foreignMaster_again {b : Bytes} (seen : s.stay.foreignSeen = true) : s.foreignMaster b =
    s.updStay fun x => { x with foreignFrames := sat32 x.foreignFrames 1 } := by
  unfold State.foreignMaster State.updStay
  simp only [seen, if_true]

theorem State.foreignMaster_first {b : Bytes} (unseen : s.stay.foreignSeen = false) : s.foreignMaster b =
    (s.updStay fun x => { x with foreignFrames := sat32 x.foreignFrames 1, foreignSeen := true }).raiseStay 0x0C09 255
      [(tMaster b : Int), (tRank b : Int)] :=
  if_neg (Bool.eq_false_iff.1 unseen)

theorem State.judgeOffset_near {b : Bytes} {o : Int} (near : o.natAbs < 1000) : s.judgeOffset b o =
    let run := if o.natAbs < 200 then s.stay.syncRun + 1 else 0
    { s with
      stay := { s.stay with offset := satS 32 o, syncRun := run, synced := s.stay.synced || decide (10 ≤ run) }
      time := { s.time with slewing := o != 0 } } := if_pos near

theorem State.judgeOffset_far {b : Bytes} {o : Int} (far : 1000 ≤ o.natAbs)
    (membership : s.stay.membership = 1 ∨ s.stay.membership = 2) :
    (s.judgeOffset b o).stay.membership = 1 ∧ (s.judgeOffset b o).stay.synced = false ∧
      (s.stay.membership = 1 → (s.judgeOffset b o).stay.step = some ⟨-o, tShift b, tStep b, s.nextSlotTick⟩) := by
  have away : s.judgeOffset b o = _ := if_neg (Nat.not_lt.2 far)
  obtain listener | member := membership
  · rw [if_neg (by simp [listener])] at away
    rw [away]
    exact ⟨listener, rfl, fun _ => rfl⟩
  · rw [if_pos member] at away
    have stay : (s.judgeOffset b o).stay = _ :=
      (congrArg State.stay away).trans (State.raise_frame (π := State.stay) (fun _ _ => rfl) _ _ _ _ _)
    exact ⟨congrArg StaySt.membership stay, congrArg StaySt.synced stay,
      fun listener => absurd (listener.symm.trans member) (by decide)⟩

end StayFrames

/-- Settles O50: by what a frame's header, its kind and, for a time frame, its master and its offset decide. -/
theorem stayFramesComplete : Obligations.StayFramesComplete := by
  refine ⟨?frame, ?signal, ?time⟩
  case frame =>
    intro dt s p f ht on cascade up port known
    refine ⟨fun bad => runTaking_to ht (stayFrameReceived_bad (s := s.elapse dt) on cascade up port bad),
      fun ok kind single own => runTaking_to ht ?_, fun ok kind time single other => runTaking_to ht ?_⟩
    · exact (stayFrameReceived_single (s := s.elapse dt) on cascade up port known ok kind single).trans (if_pos own)
    · exact stayFrameReceived_onward (s := s.elapse dt) on cascade up port known ok kind single time other
  case signal =>
    intro s p q kind
    refine ⟨fun b departed late => ?_, fun timely listed => ⟨fun numbered stale => ?_, fun fits => ?_⟩⟩ <;>
      rw [State.takeStay_signal kind]
    · rw [State.departedLate_late departed late]
      rfl
    · rw [State.departedLate_timely timely]
      exact State.takeSignal_stale listed numbered stale
    · rw [State.departedLate_timely timely]
      exact State.takeSignal_taken listed fits
  case time =>
    intro dt s p f ht on cascade up length membership following heard
    have offset : (s.elapse dt).timeOffset p f.body 0 =
        ((((s.elapse dt).time.mast : Int) - u64 f.body 0) * 65536 - s64 f.body 8) / 65536 - s.linkDelay p := by
      rw [State.timeOffset, Int.add_zero]
      rfl
    have taken (master toward count) :=
      (State.takeTime_followed (s := s.elapse dt) (f := f) (p := p) following heard on cascade up length membership master toward
        count).trans (congrArg _ offset)
    have foreign (other) := State.takeTime_foreign (s := s.elapse dt) (f := f) (p := p) following heard on cascade up length
      membership other
    refine ⟨fun master toward count near => ?_, fun master toward count far => ?_, fun other seen => ?_, fun other unseen => ?_⟩
    · exact runCmd_to (f := fun u => u.takeTime p f) ht ((taken master toward count).trans (State.judgeOffset_near near))
    · exact ⟨_, runCmd_to (f := fun u => u.takeTime p f) ht (taken master toward count), State.judgeOffset_far far membership⟩
    · exact runCmd_to (f := fun u => u.takeTime p f) ht ((foreign other).trans (State.foreignMaster_again seen))
    · exact runCmd_to (f := fun u => u.takeTime p f) ht ((foreign other).trans (State.foreignMaster_first unseen))

end Sys2Proof.Machine

namespace Sys2Proof.Machine
open Sys2Proof

/-! ### Membership aside from the cascade's own decisions (15 R405, R407, R411) -/

/-- The membership in the cascade: alone, listener, member or master. -/
def State.membership (s : State) : Nat := s.stay.membership

section Membership
variable (s : State)

theorem State.raise_membership (code source resource : Nat) (d : Bytes) :
    (s.raise code source resource d).membership = s.membership :=
  State.raise_frame (fun _ _ => rfl) _ _ _ _ _

/-! #### Frames that leave -/

theorem State.ethOut_membership (p : Nat) (o : Out) : (s.ethOut p o).membership = s.membership := ite_frame rfl rfl

theorem State.ethMail_membership (p : Nat) (packet : Bytes) : (s.ethMail p packet).membership = s.membership :=
  ite_frame rfl (ite_frame rfl (s.ethOut_membership _ _))

theorem State.stayOut_membership (p : Nat) (first : Bool) (payload : Bytes) :
    (s.stayOut p first payload).membership = s.membership :=
  ite_frame rfl (ite_frame rfl rfl)

theorem State.stayBroadcast_membership (except : Option Nat) (first : Bool) (payload : State → Nat → Bytes) :
    (s.stayBroadcast except first payload).membership = s.membership :=
  foldl_frame (fun t _ => t.stayOut_membership _ _ _) _ _

theorem State.stayUnicast_membership (dest : Nat) (payload : Bytes) : (s.stayUnicast dest payload).membership = s.membership :=
  ite_frame rfl (ite_frame rfl (s.stayOut_membership _ _ _))

/-! #### Records of the command path -/

theorem State.handOn_membership (t : Taken) : (s.handOn t).membership = s.membership := by
  unfold State.handOn
  split
  case h_3 p =>
    unfold State.deliverReply
    split
    case h_1 => exact s.ethOut_membership _ _
    case h_2 => exact s.stayUnicast_membership _ _
    all_goals rfl
  case h_4 => exact ite_frame (s.stayUnicast_membership _ _) (s.ethMail_membership _ _)
  all_goals rfl

theorem State.offer_membership (w : Senders) (powered : Bool) (block resource item : Nat) (c : Lane → Cargo) :
    (s.offer w powered block resource item c).1.membership = s.membership := by
  have lane (t : State) (l : Lane) (f : LaneSt → LaneSt) : (t.updLane l f).membership = t.membership :=
    congrArg StaySt.membership (t.updLane_stay l f)
  refine foldl_fst_frame (fun t l => ?_) _ _
  dsimp only
  split
  · unfold State.sendSingle
    split <;> rfl
  · unfold State.sendCopy
    dsimp only
    split <;> exact lane _ _ _

theorem State.raisePaired_membership (w : Senders) (code : Nat) (d : Bytes) :
    (s.raisePaired w code d).membership = s.membership :=
  (foldl_frame (fun t l => congrArg StaySt.membership (t.updLane_stay l _)) _ _).trans <|
    (foldl_frame State.handOn_membership _ _).trans (s.offer_membership _ _ _ _ _ _)

theorem State.unitArrival_membership (path : Path) (unit : Bytes) : (s.unitArrival path unit).membership = s.membership :=
  ite_frame rfl (State.raisePaired_membership _ _ _ _)

/-! #### What the events of the links and the frames leave -/

theorem State.takeBeacon_membership (source : Nat) (b : Bytes) : (s.takeBeacon source b).membership = s.membership := by
  have issue (t : State) (join : Bool) (cause idx : Nat) : (t.issueChange join cause source idx).membership = t.membership :=
    t.stayBroadcast_membership none false _
  exact ite_frame rfl (ite_frame (issue _ _ _ _) (ite_frame (issue _ _ _ _) (ite_frame (issue _ _ _ _) rfl)))

theorem State.takeControl_membership (source : Nat) (b : Bytes) : (s.takeControl source b).membership = s.membership :=
  ite_frame rfl (ite_frame (State.raise_membership _ _ _ _ _) rfl)

theorem State.peerDelay_membership (p : Nat) (body : Bytes) : (s.peerDelay p body).membership = s.membership := by
  refine ite_frame (s.stayOut_membership _ _ _) (ite_frame rfl ?_)
  split <;> rfl

theorem State.takeSignal_membership (seq : Nat) (body : Bytes) : (s.takeSignal seq body).membership = s.membership :=
  ite_frame rfl (ite_frame rfl rfl)

theorem State.foreignMaster_membership (b : Bytes) : (s.foreignMaster b).membership = s.membership :=
  ite_frame rfl (State.raise_membership _ _ _ _ _)

theorem listenerTimeStep_membership : (listenerTimeStep s).membership = s.membership := by
  unfold listenerTimeStep
  split
  · rfl
  · exact ite_frame rfl (State.raise_membership _ _ _ _ _)

theorem gridShiftAdopt_membership : (gridShiftAdopt s).membership = s.membership := by
  unfold gridShiftAdopt
  split
  · rfl
  · exact ite_frame rfl (State.raise_membership _ _ _ _ _)

theorem peerDelayRequest_membership (p : Nat) : (peerDelayRequest p s).membership = s.membership :=
  ite_frame rfl (s.stayOut_membership _ _ _)

theorem timeFrameSend_membership : (timeFrameSend s).membership = s.membership :=
  ite_frame rfl (s.stayBroadcast_membership _ _ _)

theorem masterLost_membership : (masterLost s).membership = s.membership :=
  ite_frame rfl (State.raise_membership _ _ _ _ _)

theorem beaconSend_membership : (beaconSend s).membership = s.membership :=
  ite_frame rfl (ite_frame (s.takeBeacon_membership _ _) (s.stayUnicast_membership _ _))

theorem stayLinkChange_membership (p : Nat) (up : Bool) : (stayLinkChange p up s).membership = s.membership :=
  ite_frame rfl (ite_frame (State.raise_membership _ _ _ _ _) (State.raise_membership _ _ _ _ _))

end Membership

/-! ### The ways in which an event changes a membership (15 R405, R407) -/

/-- The membership stays, or falls from member to listener. -/
def State.StaysOrLeaves (s t : State) : Prop := t.membership = s.membership ∨ s.membership = 2 ∧ t.membership = 1

theorem State.StaysOrLeaves.of_same {s t u : State} (same : t.membership = s.membership) (h : t.StaysOrLeaves u) :
    s.StaysOrLeaves u := by
  rwa [State.StaysOrLeaves, same] at h

section StaysOrLeaves
variable {s : State}

theorem State.judgeOffset_staysOrLeaves (b : Bytes) (o : Int) : s.StaysOrLeaves (s.judgeOffset b o) := by
  unfold State.judgeOffset
  dsimp only
  split
  · exact .inl rfl
  · split
    next member => exact .inr ⟨member, State.raise_membership _ _ _ _ _⟩
    · exact .inl rfl

theorem State.acceptTime_staysOrLeaves (p : Nat) (f : TimeFrame) : s.StaysOrLeaves (s.acceptTime p f) := by
  unfold State.acceptTime
  dsimp only
  refine .of_same ?_ (State.judgeOffset_staysOrLeaves _ _)
  split
  · exact State.raise_membership _ _ _ _ _
  · rfl

theorem State.takeTime_staysOrLeaves (p : Nat) (f : TimeFrame) : s.StaysOrLeaves (s.takeTime p f) := by
  unfold State.takeTime
  dsimp only
  split
  · exact .inl rfl
  split
  · exact .inl (ite_frame rfl (s.foreignMaster_membership _))
  split
  · exact .inl (s.foreignMaster_membership _)
  split
  · exact .inl rfl
  · exact State.acceptTime_staysOrLeaves p f

theorem State.takeStay_staysOrLeaves (p : Nat) (q : Bytes) : s.StaysOrLeaves (s.takeStay p q) := by
  unfold State.takeStay
  dsimp only
  split
  · exact .inl (ite_frame rfl (s.takeSignal_membership _ _))
  · exact .inl (ite_frame rfl (ite_frame rfl (s.unitArrival_membership _ _)))
  · exact State.takeTime_staysOrLeaves _ _
  · exact .inl (s.takeBeacon_membership _ _)
  · exact .inl (s.takeControl_membership _ _)
  · exact .inl rfl

theorem stayFrameReceived_staysOrLeaves (p : Nat) (f : StayFrame) : s.StaysOrLeaves (stayFrameReceived p f s) := by
  unfold stayFrameReceived
  dsimp only
  generalize first : (if (s.stayPort p).neighbour.isNone then s.updStayPort p fun x => { x with neighbour := some f.mac } else s)
    = s1
  have known : s1.membership = s.membership := first ▸ ite_frame rfl rfl
  split
  · exact .inl rfl
  split
  · exact .inl rfl
  refine .of_same known ?_
  split
  · exact .inl (s1.peerDelay_membership _ _)
  split
  · split
    · exact .inl rfl
    · refine .of_same ?_ (State.takeStay_staysOrLeaves _ _)
      exact ite_frame (s1.stayBroadcast_membership _ _ _) (ite_frame rfl rfl)
  split
  · exact State.takeStay_staysOrLeaves _ _
  · exact .inl (ite_frame rfl (s1.stayUnicast_membership _ _))

end StaysOrLeaves

/-- Only the designated master becomes master without having been a member. -/
theorem masterElectionTimeout_membership (s : State) : (masterElectionTimeout s).membership = s.membership ∨
    s.membership = 1 ∧ (masterElectionTimeout s).membership = 3 ∧ cascadeMaster s.cascade = s.sys.station := by
  unfold masterElectionTimeout
  split
  · exact .inl rfl
  · split
    next due =>
      simp only [Bool.and_eq_true, beq_iff_eq] at due
      obtain ⟨⟨⟨⟨-, listener⟩, -⟩, own⟩, -⟩ := due
      obtain ⟨master, -⟩ := s.becomeMaster_stay 0
      exact .inr ⟨listener, master, own⟩
    · exact .inl rfl

/-- The ways that the events of the links have of changing a membership. -/
def State.KeepsMembership (s t : State) : Prop :=
  t.membership = s.membership ∨ (s.membership = 2 ∧ t.membership = 1) ∨
    (s.membership = 1 ∧ t.membership = 3 ∧ cascadeMaster s.cascade = s.sys.station)

theorem State.StaysOrLeaves.keeps {s t : State} (h : s.StaysOrLeaves t) : s.KeepsMembership t := h.imp_right .inl

/-- Settles O51: an event of the links keeps the membership, but for the far offset of a time frame and the master's election. -/
theorem noFrameMakesAMember : Obligations.NoFrameMakesAMember := by
  refine fun s => ⟨fun t c event run => ?event, fun dt p f ht => ?frame⟩
  case event =>
    have ends {dt : Nat} {f : State → State} (run : runCmd dt s f = .next t) (kept : s.KeepsMembership (f (s.elapse dt))) :
        s.KeepsMembership t := eq_of_runCmd run ▸ kept
    obtain ⟨dt, p, f, rfl⟩ | ⟨dt, f, rfl⟩ | ⟨dt, rfl⟩ | ⟨dt, rfl⟩ | ⟨dt, p, rfl⟩ | ⟨dt, rfl⟩ | ⟨dt, rfl⟩ | ⟨dt, rfl⟩ |
      ⟨dt, rfl⟩ | ⟨dt, p, up, rfl⟩ := event
    · exact ends (f := fun u => u.takeTime p f) run (State.takeTime_staysOrLeaves (s := s.elapse dt) p f).keeps
    · exact ends (f := fun u => u.takeControl f.source f.body) run (.inl ((s.elapse dt).takeControl_membership _ _))
    · exact ends run (.inl (beaconSend_membership (s.elapse dt)))
    · exact ends run (.inl (timeFrameSend_membership (s.elapse dt)))
    · exact ends run (.inl (peerDelayRequest_membership (s.elapse dt) p))
    · exact ends run (.inl (listenerTimeStep_membership (s.elapse dt)))
    · exact ends run (.inl (gridShiftAdopt_membership (s.elapse dt)))
    · exact ends run (.inl (masterLost_membership (s.elapse dt)))
    · exact ends run ((masterElectionTimeout_membership (s.elapse dt)).imp_right .inr)
    · exact ends run (.inl (stayLinkChange_membership (s.elapse dt) p up))
  case frame =>
    exact ⟨_, runTaking_to ht rfl, (stayFrameReceived_staysOrLeaves (s := s.elapse dt) p f).keeps⟩

end Sys2Proof.Machine

namespace Sys2Proof.Machine
open Sys2Proof

/-! ### Commands and events of the Ethernet ports (15 R416 to R418, R420, R421) -/

theorem ethGetStatus_requests : Requests opEthGetStatus .ethGetStatus := fun _ _ _ => rfl

section EthFrames
variable {s : State} {p : Nat} {f : EthFrame}

/-- The port with the frame counted. -/
def State.ethCounted (s : State) (p : Nat) : State := s.updEth p fun x => { x with rxFrames := sat32 x.rxFrames 1 }

variable (on : s.domain 13 = true) (up : (s.eth p).up = true) (port : p ≤ 3)
include on up port

theorem ethFrameReceived_untagged (tag : tagFits (s.eth p).cfg f = false) :
    ethFrameReceived p f s = (s.ethCounted p).ethDiscard p := by
  unfold ethFrameReceived
  dsimp only
  rw [if_neg (by simp [on, up, port]), if_pos (by simp [tag])]
  rfl

section Tagged
variable (tag : tagFits (s.eth p).cfg f = true)
include tag

theorem ethFrameReceived_unknown (body : f.body = .fragment ∨ f.body = .other) :
    ethFrameReceived p f s = (s.ethCounted p).ethDiscard p := by
  unfold ethFrameReceived
  dsimp only
  rw [if_neg (by simp [on, up, port]), if_neg (by simp [tag])]
  obtain body | body := body <;> rw [body] <;> rfl

theorem ethFrameReceived_arp {target sender : Nat} (body : f.body = .arpRequest target sender) : ethFrameReceived p f s =
    if target = eAddress (s.eth p).cfg then
      (s.ethCounted p).ethOut p (.eth p 0 (putLE 4 (eAddress (s.eth p).cfg) ++ putLE 4 sender))
    else (s.ethCounted p).ethDiscard p := by
  unfold ethFrameReceived
  dsimp only
  rw [if_neg (by simp [on, up, port]), if_neg (by simp [tag]), body]
  rfl

theorem ethFrameReceived_echo {dst src : Nat} {data : Bytes} (body : f.body = .echoRequest dst src data) :
    ethFrameReceived p f s =
      if dst = eAddress (s.eth p).cfg then
        (s.ethCounted p).ethOut p (.eth p 1 (putLE 4 (eAddress (s.eth p).cfg) ++ putLE 4 src ++ data))
      else (s.ethCounted p).ethDiscard p := by
  unfold ethFrameReceived
  dsimp only
  rw [if_neg (by simp [on, up, port]), if_neg (by simp [tag]), body]
  rfl

theorem ethFrameReceived_halyard {dst src sport : Nat} {data : Bytes} (body : f.body = .udp dst 50417 src sport data) :
    ethFrameReceived p f s =
      if dst = eAddress (s.eth p).cfg then
        ((s.ethCounted p).updEth p fun x => { x with halyardRx := sat32 x.halyardRx 1 }).unitArrival (.eth p src sport) data
      else (s.ethCounted p).ethDiscard p := by
  unfold ethFrameReceived
  dsimp only
  rw [if_neg (by simp [on, up, port]), if_neg (by simp [tag]), body]
  rfl

theorem ethFrameReceived_announce (body : f.body = .announce) (gptp : eGptp (s.eth p).cfg = true) : ethFrameReceived p f s =
    let v := (s.ethCounted p).updEth p fun x => { x with announces := sat32 x.announces 1, foreignSeen := true };
    if (s.eth p).foreignSeen then v else v.raiseEth 0x0C0A p [(p : Int)] := by
  unfold ethFrameReceived
  dsimp only
  rw [if_neg (by simp [on, up, port]), if_neg (by simp [tag]), body]
  exact if_neg (by simp [gptp])

end Tagged

/-- A Sync that is due, and no Announce with it. -/
theorem gptpSyncSend_due (gptp : eGptp (s.eth p).cfg = true) (due : (s.eth p).syncAt ≤ s.now)
    (between : (s.eth p).syncs % 8 ≠ 0) : gptpSyncSend p s =
      ((s.ethOut p (.eth p 2 (putLE 2 (s.eth p).syncs))).ethOut p
        (.eth p 3 (putLE 2 (s.eth p).syncs ++ ptpStamp s.time.mast))).updEth p fun x =>
          { x with syncs := x.syncs + 1, syncAt := x.syncAt + 125000000 } :=
  (if_neg (by simp [on, up, port, gptp, due])).trans (if_pos between)

end EthFrames

section EthLink
variable {s : State} {p : Nat} (on : s.domain 13 = true) (port : p ≤ 4) (enabled : p = 4 ∨ eEnable (s.eth p).cfg = true)
include on port enabled

theorem ethLinkChange_up (down : (s.eth p).up = false) : ethLinkChange p true s =
    (s.updEth p fun x => { x with up := true, foreignSeen := false, syncAt := s.now }).raiseEth 0x0C02 p
      [9, (p : Int), meanDelay (s.eth p).delays] :=
  (if_neg (by simpa [on, port, down] using or_iff_not_imp_left.1 enabled)).trans (if_pos rfl)

theorem ethLinkChange_down (up : (s.eth p).up = true) : ethLinkChange p false s =
    (s.updEth p fun x => { x with up := false, asked := none, delays := [] }).raiseEth 0x0C01 p [9, (p : Int)] :=
  (if_neg (by simpa [on, port, up] using or_iff_not_imp_left.1 enabled)).trans (if_neg Bool.false_ne_true)

end EthLink

/-- Settles O52: a frame by its tag and what it carries, the links and the Sync as each is due. -/
theorem ethernetCommandsComplete : Obligations.EthernetCommandsComplete := by
  refine ⟨?status, ?frame, ?sync, ?link⟩
  case status => exact fun dt s r z ht ha => ethGetStatus_requests.exec_read ht ha rfl rfl rfl
  case frame =>
    intro dt s p f ht on up port
    refine ⟨fun dropped => runTaking_to ht ?_, fun tag => ⟨fun target sender body => runTaking_to ht ?_,
      fun dst src data body => runTaking_to ht ?_, fun dst src sport data body => runTaking_to ht ?_,
      fun body gptp => runTaking_to ht ?_⟩⟩
    · cases tag : tagFits (s.eth p).cfg f with
      | false => exact ethFrameReceived_untagged (s := s.elapse dt) on up port tag
      | true =>
        have body : f.body = .fragment ∨ f.body = .other := by simpa [tag] using dropped
        exact ethFrameReceived_unknown (s := s.elapse dt) on up port tag body
    · exact ethFrameReceived_arp (s := s.elapse dt) on up port tag body
    · exact ethFrameReceived_echo (s := s.elapse dt) on up port tag body
    · exact ethFrameReceived_halyard (s := s.elapse dt) on up port tag body
    · exact ethFrameReceived_announce (s := s.elapse dt) on up port tag body gptp
  case sync =>
    intro dt s p ht on port up gptp due between
    refine runCmd_to ht ((gptpSyncSend_due (s := s.elapse dt) on up port gptp due between).trans ?_)
    simp only [ptpStamp, List.append_assoc]
    rfl
  case link =>
    exact fun dt s p ht on port enabled => ⟨fun down => runCmd_to ht (ethLinkChange_up (s := s.elapse dt) on port enabled down),
      fun up => runCmd_to ht (ethLinkChange_down (s := s.elapse dt) on port enabled up)⟩

end Sys2Proof.Machine

namespace Sys2Proof.Machine
open Sys2Proof

/-! ### The immediate memory commands (16 R425, R429, R434 to R436, R439) -/

theorem memGetStatus_requests : Requests opMemGetStatus .memGetStatus := fun _ _ _ => rfl
theorem memClearLog_requests : Requests opMemClearLog .memClearLog := fun _ _ _ => rfl
theorem memRewrite_requests : Requests opMemRewrite .memRewrite := fun _ _ _ => rfl
theorem memTestWrite_requests : Requests opMemTestWrite .memTestWrite := fun _ _ _ => rfl
theorem memTestRead_requests : Requests opMemTestRead .memTestRead := fun _ _ _ => rfl

/-- The bytes of a word that no read can correct. -/
def MemCtrl.badBytes (m : MemCtrl) (c a : Nat) : List (Nat × BitVec 13) :=
  (m.word c a).filter fun x => decodeByte x.2 == .uncorrectable

theorem MemCtrl.badBytes_eq (m : MemCtrl) (c a : Nat) : m.badBytes c a =
    ((upto 16).filter fun i => decodeByte (m.code c (a + i)) == .uncorrectable).map fun i => (a + i, m.code c (a + i)) := by
  rw [MemCtrl.badBytes, MemCtrl.word, List.filter_map]
  rfl

theorem MemCtrl.badBytes_nil {m : MemCtrl} {c a : Nat} :
    m.badBytes c a = [] ↔ ∀ i, i < 16 → decodeByte (m.code c (a + i)) ≠ .uncorrectable := by
  simp [MemCtrl.badBytes_eq, upto]

theorem opMemRewrite_run_good {u : State} {r : Request} (good : (u.memc r.target).badBytes r.target (u64 r.payload 0) = []) :
    opMemRewrite.run u r = (u.updMem r.target fun m => (upto 16).foldl (fun m i => m.store (u64 r.payload 0 + i)
      (encodeByte (deliveredData ((u.memc r.target).code r.target (u64 r.payload 0 + i))))) m, some (stOk, [])) := by
  refine (if_pos good).trans ?_
  simp only [MemCtrl.word, List.foldl_map]

theorem opMemRewrite_run_bad {u : State} {r : Request} (bad : (u.memc r.target).badBytes r.target (u64 r.payload 0) ≠ []) :
    opMemRewrite.run u r = ((((upto 16).filter fun i =>
      decodeByte ((u.memc r.target).code r.target (u64 r.payload 0 + i)) == .uncorrectable).map (u64 r.payload 0 + ·)).foldl
        (fun t b => t.noteUncorrectable r.target b 2) u, some (0x40, [])) := by
  refine (if_neg bad).trans ?_
  rw [← MemCtrl.badBytes, MemCtrl.badBytes_eq, List.foldl_map, List.foldl_map]

theorem opMemTestWrite_run (u : State) (r : Request) : opMemTestWrite.run u r =
    (u.updMem r.target fun m =>
      if flagAt r.payload 0 0 then (upto 16).foldl (fun m i => m.store (u64 r.payload 8 + i)
        (givenCode ((r.payload.drop 16).take 16) ((r.payload.drop 32).take 10) i)) m
      else (upto 16).foldl (fun m i => { m with
        test := m.test.put (u64 r.payload 8 + i) (givenCode ((r.payload.drop 16).take 16) ((r.payload.drop 32).take 10) i) }) m,
      some (stOk, [])) := by
  cases stored : flagAt r.payload 0 0 <;> simp only [opMemTestWrite, stored, Bool.false_eq_true, if_true, if_false]

/-! ### Errors in a memory that no lane owns (16 R427 to R431) -/

section Shared
variable {s : State} {c a : Nat} (shared : memLane c = none) (running : s.xt.stopped = false)
include shared running

theorem State.noteCorrected_quiet (quiet : (s.memc c).isQuiet c a = true) (p : Nat) (patrol : Bool) :
    s.noteCorrected c a p patrol = s.updMem c fun m => { m with corrected := sat32 m.corrected 1 } := by
  unfold State.noteCorrected
  rw [shared]
  dsimp only
  rw [if_neg (by simp [running]), State.memc_updMem]
  exact if_pos quiet

theorem State.noteCorrected_new (loud : (s.memc c).isQuiet c a = false)
    (unlisted : (s.memc c).table.any (fun e => e.word == a / 16 * 16 && e.byte == a % 16) = false)
    (room : (s.memc c).table.length < 32) (p : Nat) (patrol : Bool) : s.noteCorrected c a p patrol =
      ((s.updMem c fun m => { m with corrected := sat32 m.corrected 1 }).updMem c fun m => { m with
        table := m.table ++ [⟨a / 16 * 16, s.time.mast, s.time.mast, 1, a % 16, p, patrol⟩] }).raise 0x0D01 11 c
          (memDetails c (a / 16 * 16) (a % 16) p) := by
  unfold State.noteCorrected
  rw [shared]
  dsimp only
  rw [if_neg (by simp [running]), State.memc_updMem]
  exact (if_neg (Bool.eq_false_iff.1 loud)).trans ((if_neg (Bool.eq_false_iff.1 unlisted)).trans (if_pos room))

theorem State.noteUncorrectable_shared (reader : Nat) : s.noteUncorrectable c a reader =
    (s.updMem c fun m => { m with uncorrectable := sat32 m.uncorrectable 1 }).raise 0x0D02 11 c
      (memDetails c (a / 16 * 16) (a % 16) reader) := by
  unfold State.noteUncorrectable
  rw [shared]
  exact if_neg (by simp [running])

end Shared

/-! ### The patrol read of the shared SRAM (16 R433) -/

section Patrol
variable {s : State}

theorem State.patrolSram_due (on : s.domain 0 = true) (due : (s.memc 5).patrolDue ≤ s.now) (found : List (Nat × BitVec 13))
    (items : List (Nat × BitVec 13 × SharedItem)) : State.patrolSram ⟨5, found, items⟩ s =
      found.foldl (fun t x => (t.patrolByte 5 x.1 x.2).1) (s.updMem 5 fun m => { m with patrolDue := s.now + 1000000000 }) :=
  if_pos ⟨.inr (.inr rfl), on, due⟩

theorem State.patrolByte_corrected {c a p : Nat} {code : BitVec 13} (h : decodeByte code = .corrected p) :
    (s.patrolByte c a code).1 = (s.noteCorrected c a p true).updMem c fun m => { m with found := sat32 m.found 1 } := by
  unfold State.patrolByte
  rw [h]

theorem State.patrolByte_uncorrectable {c a : Nat} {code : BitVec 13} (h : decodeByte code = .uncorrectable) :
    (s.patrolByte c a code).1 = s.noteUncorrectable c a 1 := by
  unfold State.patrolByte
  rw [h]

theorem State.readShared_uncorrectable {a : Nat} {code : BitVec 13} (h : decodeByte code = .uncorrectable) (x : SharedItem) :
    s.readShared (a, code, x) = (s.noteUncorrectable 5 a 4).dropShared x := by
  unfold State.readShared State.readByte
  rw [h]
  rfl

/-- A discarded item changes the receivers, the CAN ports, the recorder and the camera ports alone. -/
theorem State.dropShared_frame {α : Type} {π : State → α} (recvs : ∀ (s : State) x, π { s with recvs := x } = π s)
    (cans : ∀ (s : State) x, π { s with cans := x } = π s) (rec_ : ∀ (s : State) x, π { s with rec_ := x } = π s)
    (cams : ∀ (s : State) x, π { s with cams := x } = π s) (s : State) (x : SharedItem) : π (s.dropShared x) = π s := by
  cases x with
  | copy => exact recvs _ _
  | txFrame => exact cans _ _
  | record => exact ite_frame (rec_ _ _) rfl
  | line => exact cams _ _

end Patrol

/-! ### The end of a fill (16 R438) -/

/-- The memory filled, with its record. -/
def State.filled (s : State) (c since : Nat) : State :=
  (s.updMem c fun m => { m with cells := [], filled := true, grounds := [], fillFrom := none }).raise 0x0D05 11 c
    (details [(c : Int), (msUp (s.now - since) : Int)])

section Fill
variable {s : State} {c since : Nat} (filling : (s.memc c).fillFrom = some since)

theorem State.filled_frame {α : Type} {π : State → α} (mem : ∀ (s : State) x, π { s with mem := x } = π s)
    (rec_ : ∀ (s : State) x, π { s with rec_ := x } = π s) : π (s.filled c since) = π s :=
  (State.raise_frame rec_ _ _ _ _ _).trans (mem _ _)

theorem State.filled_fillFrom : ((s.filled c since).memc c).fillFrom = none :=
  (State.raise_frame (π := fun t : State => (t.memc c).fillFrom) (fun _ _ => rfl) _ _ _ _ _).trans
    (congrArg MemCtrl.fillFrom (State.memc_updMem _ _ _))

variable (on : s.domain (memDomainOf c) = true) (running : s.xt.stopped = false)
include filling on running

theorem memFillDone_filled : memFillDone c s = s.filled c since := by
  unfold memFillDone
  rw [filling]
  exact (if_neg (by simp [on])).trans (if_neg (by exact Bool.eq_false_iff.1 running))

/-- No lane waits for the fill. -/
theorem fillDone_alone (alone : ∀ l, memLane c = some l → (s.xtLane l).filling = false) :
    fillDone c s = s.filled c since := by
  unfold fillDone
  rw [memFillDone_filled filling on running]
  dsimp only
  split
  · rfl
  next l lane =>
    have owner : memLane c = some l := by
      split at lane
      · exact lane
      · cases lane
    have waits : ((s.filled c since).xtLane l).filling = false :=
      (State.filled_frame (π := fun t => (t.xtLane l).filling) (fun _ _ => rfl) fun _ _ => rfl).trans (alone l owner)
    exact if_neg (by simp [waits])

/-- The lane that waits for the fill is released. -/
theorem fillDone_release {l : Lane} (lane : c < 2) (owner : memLane c = some l) (waits : (s.xtLane l).filling = true)
    (held : (s.xtLane l).hold.isSome = true) (cores : s.domain (coreDomain l) = true) :
    fillDone c s = (s.filled c since).release l := by
  have kept {α : Type} (π : State → α) (mem) (rec_) : π (s.filled c since) = π s := State.filled_frame mem rec_
  unfold fillDone
  rw [memFillDone_filled filling on running, if_pos lane, owner]
  refine if_pos ?_
  simp only [kept (fun t => (t.xtLane l).filling) (fun _ _ => rfl) fun _ _ => rfl,
    kept (fun t => (t.xtLane l).hold) (fun _ _ => rfl) fun _ _ => rfl, kept (·.xt.stopped) (fun _ _ => rfl) fun _ _ => rfl,
    kept (·.domain (coreDomain l)) (fun _ _ => rfl) fun _ _ => rfl, State.filled_fillFrom, filling, waits, held, running, cores,
    Option.isSome_some, Option.isNone_none, Bool.not_false, Bool.and_self]

end Fill

/-- Settles O53: the commands as the controllers run them, the patrol by what it finds, the fill by the lane that waits for it. -/
theorem memoryCommandsComplete : Obligations.MemoryCommandsComplete := by
  refine ⟨?status, ?clear, ?rewrite, ?testWrite, ?testRead, ?patrol, ?fill⟩
  case status => exact fun dt s r z ht ha => memGetStatus_requests.exec_read ht ha rfl rfl rfl
  case clear => exact fun dt s r z ht ha => memClearLog_requests.exec_done ht ha rfl rfl rfl
  case rewrite =>
    intro dt s r z ht ha
    refine ⟨fun good => ?_, fun ⟨i, inside, bad⟩ => ⟨_, ?_, rfl⟩⟩
    · exact memRewrite_requests.exec_done ht ha rfl rfl (opMemRewrite_run_good (MemCtrl.badBytes_nil.2 good))
    · have some_ : (((opMemRewrite.noted (s.elapse dt) r z).memc r.target).badBytes r.target (u64 r.payload 0)) ≠ [] :=
        fun none_ => MemCtrl.badBytes_nil.1 none_ i inside bad
      exact memRewrite_requests.exec_failed ht ha rfl (opMemRewrite_run_bad some_) (by decide)
  case testWrite => exact fun dt s r z ht ha => memTestWrite_requests.exec_done ht ha rfl rfl (opMemTestWrite_run _ _)
  case testRead => exact fun dt s r z ht ha => memTestRead_requests.exec_read ht ha rfl rfl rfl
  case patrol =>
    intro dt s ht on due
    have patrolled := State.patrolSram_due (s := s.elapse dt) on due
    let u := (s.elapse dt).updMem 5 fun m => { m with patrolDue := s.now + dt + 1000000000 }
    have one {a : Nat} {code : BitVec 13} {t : State} (read : (u.patrolByte 5 a code).1 = t) :
        sramPatrol ⟨5, [(a, code)], []⟩ (s.elapse dt) = t := (patrolled _ _).trans read
    have due_ : u.memc 5 = { s.memc 5 with patrolDue := s.now + dt + 1000000000 } := State.memc_updMem _ _ _
    refine ⟨runCmd_to ht (patrolled [] []), fun running => ⟨fun a code p corrected => ⟨fun quiet => runCmd_to ht ?_,
      fun loud unlisted room => runCmd_to ht ?_⟩, fun a code bad => runCmd_to ht ?_, fun a code x bad => runCmd_to ht ?_⟩⟩
    · have noted := State.noteCorrected_quiet (s := u) rfl running (by rw [due_]; exact quiet) p true
      exact one ((State.patrolByte_corrected corrected).trans (congrArg (State.updMem · 5 _) noted))
    · have noted := State.noteCorrected_new (s := u) rfl running (by rw [due_]; exact loud) (by rw [due_]; exact unlisted)
        (by rw [due_]; exact room) p true
      exact one ((State.patrolByte_corrected corrected).trans (congrArg (State.updMem · 5 _) noted))
    · exact one ((State.patrolByte_uncorrectable bad).trans (State.noteUncorrectable_shared (s := u) rfl running 1))
    · have read : (s.elapse dt).readShared (a, code, x) = _ := (State.readShared_uncorrectable bad x).trans
        (congrArg (State.dropShared · x) (State.noteUncorrectable_shared (s := s.elapse dt) (c := 5) rfl running 4))
      have kept {α : Type} (π : State → α) (recvs cans rec_ cams) := (State.dropShared_frame (π := π) recvs cans rec_ cams
        _ x).trans (State.raise_frame rec_ ((s.elapse dt).updMem 5 fun m => { m with uncorrectable := sat32 m.uncorrectable 1 })
          0x0D02 11 5 (memDetails 5 (a / 16 * 16) (a % 16) 4))
      have now := kept State.now (fun _ _ => rfl) (fun _ _ => rfl) (fun _ _ => rfl) fun _ _ => rfl
      have domain := kept (·.domain 0) (fun _ _ => rfl) (fun _ _ => rfl) (fun _ _ => rfl) fun _ _ => rfl
      have memory := kept (·.memc 5) (fun _ _ => rfl) (fun _ _ => rfl) (fun _ _ => rfl) fun _ _ => rfl
      unfold sramPatrol
      simp only [if_true, List.foldl_cons, List.foldl_nil]
      rw [read, State.patrolSram_due (domain.trans on) (by rw [memory, now, State.memc_updMem]; exact due), now]
      rfl
  case fill =>
    exact fun dt s c since ht filling on running => ⟨fun alone => runTaking_to ht (fillDone_alone (s := s.elapse dt) filling on
      running alone), fun l lane owner waits held cores =>
        runTaking_to ht (fillDone_release (s := s.elapse dt) filling on running lane owner waits held cores)⟩

end Sys2Proof.Machine

namespace Sys2Proof.Machine
open Sys2Proof

/-! ### The immediate commands of the recorder (17 R452 to R454, R459, R460) -/

theorem recRead_requests : Requests opRecRead .recRead := fun _ _ _ => rfl
theorem recReadTrouble_requests : Requests opRecReadTrouble .recReadTrouble := fun _ _ _ => rfl
theorem recGetStatus_requests : Requests opRecGetStatus .recGetStatus := fun _ _ _ => rfl
theorem recFreeze_requests : Requests opRecFreeze .recFreeze := fun _ _ _ => rfl
theorem recUnfreeze_requests : Requests opRecUnfreeze .recUnfreeze := fun _ _ _ => rfl
theorem recClear_requests : Requests opRecClear .recClear := fun _ _ _ => rfl
theorem recGetRate_requests : Requests opRecGetRate .recGetRate := fun _ _ _ => rfl

section RecorderRuns
variable {u : State} {r : Request}

theorem opRecReadTrouble_run_up (up : u.computes (troubleLane r) = true) :
    let a := u.lane (troubleLane r)
    opRecReadTrouble.run u r = (u, some (stOk, readReply (a.trouble.map fun t => (t.entry, t.bytes))
      (wrapDiff a.troubleNext a.trouble.length) a.troubleNext (u32 r.payload 0) (u8 r.payload 5))) := if_pos up

theorem opRecReadTrouble_run_down (down : ¬ u.computes (troubleLane r) = true) :
    opRecReadTrouble.run u r = (u, some (0x42, [])) := if_neg down

theorem opRecUnfreeze_run_frozen (frozen : u.rec_.frozen.isSome = true) :
    opRecUnfreeze.run u r = (u.endFreeze false, some (stOk, [])) := if_pos frozen

theorem opRecUnfreeze_run_free (free : ¬ u.rec_.frozen.isSome = true) : opRecUnfreeze.run u r = (u, some (0x41, [])) := if_neg free

/-- The record that a clear leaves in the store (R453). -/
def State.clearRecord (u : State) (r : Request) : EventRec :=
  ⟨u.rec_.next, ownEvent u 0x0E01 (putLE 4 u.rec_.store.length ++ putLE 4 r.origin ++ putLE 4 r.sequence),
    u.time.noTime || !u.time.leapValid, false, true, utcFields u.time u.time.mast⟩

theorem opRecClear_run_frozen (frozen : u.rec_.frozen.isSome = true) : opRecClear.run u r = (u, some (0x40, [])) := if_pos frozen

theorem opRecClear_run_free (free : ¬ u.rec_.frozen.isSome = true) : opRecClear.run u r = ({ u with rec_ := { u.rec_ with
    store := [u.clearRecord r]
    next := (u.rec_.next + 1) % 4294967296
    history := (u.rec_.history ++ [(u.clearRecord r).bytes]).drop (u.rec_.history.length + 1 - 64)
    clears := sat32 u.rec_.clears 1 } }, some (stOk, [])) := by
  have only : ([u.clearRecord r].map EventRec.bytes).flatten = (u.clearRecord r).bytes := List.append_nil _
  rw [← only]
  exact if_neg free

end RecorderRuns

/-! ### Records that arrive, wait and are committed (17 R445 to R447, R450, R455) -/

theorem Bucket.startTimer_eq (b : Bucket) (now : Nat) : b.startTimer now =
    { b with due := if b.tokens < b.capacity then some (b.due.getD (now + b.refillMs * 1000000)) else none } := by
  unfold Bucket.startTimer
  split
  · cases due : b.due with
    | some d =>
      dsimp only
      rw [Option.getD_some, ← due]
    | none => rw [Option.getD_none]
  · rfl

section RecorderEvents
variable {s : State} {e : Event} {rest : List Event}

section Arrival
variable (arriving : s.rec_.arriving = e :: rest) (on : s.domain 14 = true) (other : isOwnCode e.code = false)
include arriving on other

theorem eventRecordArrival_judged : eventRecordArrival s =
    let s1 := s.updRec fun r => { r with arriving := rest }
    let b := s.bucket e.code
    if 0 < b.tokens then
      (s1.updRec fun r => { r with
        buckets := Tbl.put r.buckets e.code (Bucket.startTimer { b with tokens := b.tokens - 1 } s.now) }).holdEvent e
    else s1.updRec fun r => { r with
      buckets := Tbl.put r.buckets e.code { b with
        suppressed := sat32 b.suppressed 1
        first := if b.suppressed = 0 then e.mast else b.first
        last := e.mast }
      suppressed := sat32 r.suppressed 1 } := by
  unfold eventRecordArrival
  rw [arriving]
  exact (if_neg (by simpa using on)).trans (if_neg (Bool.eq_false_iff.1 other))

theorem eventRecordArrival_held (tokens : 0 < (s.bucket e.code).tokens) (room : s.rec_.held < 1024) :
    eventRecordArrival s = { s with rec_ := { s.rec_ with
      arriving := rest
      hold := s.rec_.hold ++ [(e, false)]
      buckets := Tbl.put s.rec_.buckets e.code { s.bucket e.code with
        tokens := (s.bucket e.code).tokens - 1
        due := if (s.bucket e.code).tokens - 1 < (s.bucket e.code).capacity then
          some ((s.bucket e.code).due.getD (s.now + (s.bucket e.code).refillMs * 1000000)) else none } } } := by
  rw [eventRecordArrival_judged arriving on other]
  dsimp only
  rw [if_pos tokens, Bucket.startTimer_eq, State.holdEvent]
  exact congrArg (fun x => { s with rec_ := x }) (if_pos room)

theorem eventRecordArrival_suppressed (empty : (s.bucket e.code).tokens = 0) :
    eventRecordArrival s = { s with rec_ := { s.rec_ with
      arriving := rest
      suppressed := sat32 s.rec_.suppressed 1
      buckets := Tbl.put s.rec_.buckets e.code { s.bucket e.code with
        suppressed := sat32 (s.bucket e.code).suppressed 1
        first := if (s.bucket e.code).suppressed = 0 then e.mast else (s.bucket e.code).first
        last := e.mast } } } := by
  rw [eventRecordArrival_judged arriving on other]
  exact if_neg (by omega)

end Arrival

theorem State.formOwed_none (freeze : s.rec_.owedFreeze = false) (expired : s.rec_.owedExpired = none)
    (lost : s.rec_.lost.count = 0) : s.formOwed = s := by
  simp [State.formOwed, freeze, expired, lost]

theorem recordCommit_held {h : Bool} {waiting : List (Event × Bool)} (hold : s.rec_.hold = (e, h) :: waiting)
    (thawed : s.rec_.frozen = none) (on : s.domain 14 = true) (freeze : s.rec_.owedFreeze = false)
    (expired : s.rec_.owedExpired = none) (lost : s.rec_.lost.count = 0) :
    recordCommit s = (s.updRec fun r => { r with hold := waiting }).commit e h false := by
  unfold recordCommit
  rw [hold]
  exact (if_neg (by simp [thawed, on])).trans (State.formOwed_none freeze expired lost)

section Refill
variable {code due : Nat} (timer : (s.bucket code).due = some due) (reached : due ≤ s.now)
include timer reached

theorem tokenRefill_token (none_ : (s.bucket code).suppressed = 0) : tokenRefill code s = s.updRec fun x => { x with
    buckets := Tbl.put x.buckets code { s.bucket code with
      tokens := min ((s.bucket code).tokens + 1) (s.bucket code).capacity
      due := if (s.bucket code).tokens + 1 < (s.bucket code).capacity then some (due + (s.bucket code).refillMs * 1000000)
        else none } } := by
  have below : (min ((s.bucket code).tokens + 1) (s.bucket code).capacity < (s.bucket code).capacity) =
      ((s.bucket code).tokens + 1 < (s.bucket code).capacity) := by
    rw [min_lt_iff, or_iff_left (lt_irrefl _)]
  unfold tokenRefill
  dsimp only
  rw [timer]
  dsimp only
  rw [if_neg (Nat.not_lt.2 reached), if_neg (by simp [none_]), Bucket.startTimer_eq, Option.getD_none]
  simp only [below]

theorem tokenRefill_suppressed (some_ : 0 < (s.bucket code).suppressed) (room : s.rec_.ownHeld < 16) :
    let b := s.bucket code
    tokenRefill code s = s.updRec fun x => { x with
      buckets := Tbl.put x.buckets code { b with
        suppressed := 0
        first := 0
        last := 0
        due := some (due + b.refillMs * 1000000) }
      hold := x.hold ++ [(ownEvent s 0x0E02
        (details [(code : Int), toSigned 32 b.suppressed] ++ putLE 8 b.first ++ putLE 8 b.last), false)] } := by
  unfold tokenRefill
  dsimp only
  rw [timer]
  exact (if_neg (Nat.not_lt.2 reached)).trans (if_pos (by simp [some_, room]))

end Refill

theorem freezeExpired_due {due : Nat} (frozen : s.rec_.frozen = some due) (reached : due ≤ s.now) :
    freezeExpired s = s.endFreeze true := by
  unfold freezeExpired
  rw [frozen]
  exact if_pos reached

theorem changeLogEntry_stored {b : Bytes} {later : List Bytes} (arriving : s.rec_.changeArriving = b :: later)
    (on : s.domain 14 = true) : changeLogEntry s = { s with rec_ := { s.rec_ with
      changeArriving := later
      change := (s.rec_.change ++ [b]).drop (s.rec_.change.length + 1 - 253952)
      changeNext := (s.rec_.changeNext + 1) % 4294967296 } } := by
  unfold changeLogEntry
  rw [arriving]
  exact if_pos on

end RecorderEvents

/-- Settles O55: the commands as the recorder runs them, its events by what waits, by the buckets and by the freeze. -/
theorem recorderCommandsComplete : Obligations.RecorderCommandsComplete := by
  refine ⟨?read, ?trouble, ?status, ?freeze, ?unfreeze, ?clear, ?rate, ?arrival, ?commit, ?refill, ?expired, ?change⟩
  case read => exact fun dt s r z ht ha => recRead_requests.exec_read ht ha rfl rfl rfl
  case trouble =>
    intro dt s r z ht ha
    by_cases up : (opRecReadTrouble.noted (s.elapse dt) r z).computes (troubleLane r) = true
    · refine (recReadTrouble_requests.exec_read ht ha rfl rfl (opRecReadTrouble_run_up up)).trans ?_
      exact congrArg (Host.Outcome.next ∘ State.settle) (if_pos up).symm
    · refine (recReadTrouble_requests.exec_failed ht ha rfl (opRecReadTrouble_run_down up) (by decide)).trans ?_
      exact congrArg (Host.Outcome.next ∘ State.settle) (if_neg up).symm
  case status => exact fun dt s r z ht ha => recGetStatus_requests.exec_read ht ha rfl rfl rfl
  case freeze => exact fun dt s r z ht ha => recFreeze_requests.exec_done ht ha rfl rfl rfl
  case unfreeze =>
    intro dt s r z ht ha
    dsimp only
    split
    next frozen => exact recUnfreeze_requests.exec_done ht ha rfl rfl (opRecUnfreeze_run_frozen frozen)
    next free => exact recUnfreeze_requests.exec_failed ht ha rfl (opRecUnfreeze_run_free free) (by decide)
  case clear =>
    intro dt s r z ht ha
    dsimp only
    split
    next frozen => exact recClear_requests.exec_failed ht ha rfl (opRecClear_run_frozen frozen) (by decide)
    next free => exact recClear_requests.exec_done ht ha rfl rfl (opRecClear_run_free free)
  case rate => exact fun dt s r z ht ha => recGetRate_requests.exec_read ht ha rfl rfl rfl
  case arrival =>
    exact fun dt s e rest ht arriving on other =>
      ⟨fun tokens room => runCmd_to ht (eventRecordArrival_held (s := s.elapse dt) arriving on other tokens room),
        fun empty => runCmd_to ht (eventRecordArrival_suppressed (s := s.elapse dt) arriving on other empty)⟩
  case commit =>
    exact fun dt s e h rest ht hold thawed on freeze expired lost =>
      runCmd_to ht (recordCommit_held (s := s.elapse dt) hold thawed on freeze expired lost)
  case refill =>
    exact fun dt s code due ht timer reached =>
      ⟨fun none_ => runCmd_to ht (tokenRefill_token (s := s.elapse dt) timer reached none_),
        fun some_ room => runCmd_to ht (tokenRefill_suppressed (s := s.elapse dt) timer reached some_ room)⟩
  case expired =>
    exact fun dt s due ht frozen reached => runCmd_to ht (freezeExpired_due (s := s.elapse dt) frozen reached)
  case change =>
    exact fun dt s e rest ht arriving on => runCmd_to ht (changeLogEntry_stored (s := s.elapse dt) arriving on)

end Sys2Proof.Machine

namespace Sys2Proof.Machine
open Sys2Proof

/-! ### Supply, wake sources and temperatures (18 R462, R463, R466, R472, R475, R477) -/

theorem pwrGetStatus_requests : Requests opPwrGetStatus .pwrGetStatus := fun _ _ _ => rfl

theorem PwrSt.esupMean_of_sampled {p : PwrSt} (sampled : p.esup ≠ []) : p.esupMean = p.esup.sum / p.esup.length := by
  rw [PwrSt.esupMean, if_neg sampled, sumNat, List.sum_eq_foldl]

/-- The supply's last millisecond with one more sample. -/
def State.esupSampled (s : State) (mv watts : Nat) : State :=
  s.updPwr fun p => { p with esup := (mv :: p.esup).take 10, electronicsW := watts }

section Supply
variable {s : State} {mv watts : Nat}

theorem esupMeasure_on (on : s.domain 0 = true) {m : Nat}
    (mean : (s.esupSampled mv watts).pwr.esup.sum / (s.esupSampled mv watts).pwr.esup.length = m) :
    esupMeasure ⟨mv, watts, []⟩ s = ((s.esupSampled mv watts).updPwr fun p =>
      { p with esupFailAt := if m < 10000 then some (p.esupFailAt.getD s.now) else none }).judgeSupply m := by
  have measured : (s.esupSampled mv watts).pwr.esupMean = m := (PwrSt.esupMean_of_sampled (List.cons_ne_nil _ _)).trans mean
  rw [← measured]
  exact if_pos on

theorem esupMeasure_sound (on : s.domain 0 = true) {m : Nat}
    (mean : (s.esupSampled mv watts).pwr.esup.sum / (s.esupSampled mv watts).pwr.esup.length = m) (high : 14000 ≤ m) :
    esupMeasure ⟨mv, watts, []⟩ s =
      ((s.esupSampled mv watts).updPwr fun p => { p with esupFailAt := none }).judgeSupply m := by
  have steady : ¬ m < 10000 := by omega
  simp only [esupMeasure_on on mean, steady, if_false]

theorem State.judgeSupply_low {m : Nat} (low : m < 14000) : s.judgeSupply m = s.updPwr fun p =>
    { p with
      supplyLow := true
      lowestEsup := if p.supplyLow then min p.lowestEsup m else m
      supplyLowEvents := sat32 p.supplyLowEvents (if p.supplyLow then 0 else 1) } := by
  rw [State.judgeSupply, if_pos low, State.updPwr, State.updPwr]
  cases s.pwr.supplyLow <;> rfl

theorem State.judgeSupply_recovered {m : Nat} (high : 14000 ≤ m) (was : s.pwr.supplyLow = true) : s.judgeSupply m =
    (s.updPwr fun p => { p with supplyLow := false }).raisePwr 0x0F02 [(s.pwr.lowestEsup : Int)] :=
  (if_neg (Nat.not_lt.2 high)).trans (if_pos was)

theorem State.judgeSupply_steady {m : Nat} (high : 14000 ≤ m) (was : s.pwr.supplyLow = false) : s.judgeSupply m = s :=
  (if_neg (Nat.not_lt.2 high)).trans (if_neg (Bool.eq_false_iff.1 was))

end Supply

/-! #### Entering a low state -/

section Entry
variable {s : State}

theorem State.gateDown_time (s : State) : s.gateDown.time = s.time := by
  have held (t : State) (c : Nat) : (t.gateHold c).time = t.time := by
    have odd : (t.clearOdd c).time = t.time := ite_frame rfl rfl
    exact ite_frame ((State.raise_frame (π := State.time) (fun _ _ => rfl) _ _ _ _ _).trans odd) odd
  have dropped (l : List Nat) : (((l.foldl State.gateHold s).setDomain 15 false).bumpGen l.length).time = s.time :=
    foldl_frame (π := State.time) held l s
  exact dropped s.heads

/-- What the recorder takes and commits at a power-down changes the recorder alone. -/
theorem State.flushRecorder_frame {α : Type} {π : State → α} (rec_ : ∀ (s : State) x, π { s with rec_ := x } = π s)
    (s : State) : π s.flushRecorder = π s := by
  have arrival (t : State) : π (eventRecordArrival t) = π t := by
    unfold eventRecordArrival
    split
    · rfl
    · exact ite_frame (rec_ _ _) (ite_frame ((rec_ _ _).trans (rec_ _ _)) (ite_frame ((rec_ _ _).trans ((rec_ _ _).trans
        (rec_ _ _))) ((rec_ _ _).trans (rec_ _ _))))
  have change (t : State) : π (changeLogEntry t) = π t := by
    unfold changeLogEntry
    split
    · rfl
    · exact ite_frame ((rec_ _ _).trans (rec_ _ _)) (rec_ _ _)
  exact (rec_ _ _).trans <| (foldl_frame (fun t _ => change t) _ _).trans <|
    (foldl_frame (fun t _ => rec_ t _) _ _).trans (foldl_frame (fun t _ => arrival t) _ _)

theorem State.saveMast_flushed (s : State) : s.flushRecorder.saveMast.pwr.savedMast = s.time.mast :=
  congrArg TimeSt.mast (State.flushRecorder_frame (π := State.time) (fun _ _ => rfl) s)

theorem supplyFail_due {since : Nat} (failing : s.pwr.esupFailAt = some since) (on : s.domain 0 = true)
    (due : since + 10000000 ≤ s.now) : (supplyFail s).pwr.module_ = .unpowered ∧ (supplyFail s).pwr.domains = 0 ∧
      (supplyFail s).pwr.resetCause = 1 ∧ (supplyFail s).rec_.hold = [] ∧ (supplyFail s).pwr.savedMast = s.time.mast := by
  let e : Event := ⟨0x0F03, 0x14, s.time.mast, s.time.stepCount, 255, fitTo 32 (details [(s.pwr.esupMean : Int)])⟩
  let saved := ((if s.domain 15 then s.gateDown else s).commit e false false).flushRecorder.saveMast
  have failed : supplyFail s = ((if s.domain 10 then saved.saveGnss else saved).toSleep 1).updPwr fun p =>
      { p with module_ := .unpowered, alarmAt := none } := by
    unfold supplyFail
    rw [failing]
    exact if_neg (by simp [on, due])
  rw [failed]
  refine ⟨rfl, rfl, rfl, rfl, ?_⟩
  have kept : (if s.domain 10 then saved.saveGnss else saved).pwr.savedMast = saved.pwr.savedMast :=
    ite_frame (π := fun t => t.pwr.savedMast) rfl rfl
  have time : (if s.domain 15 then s.gateDown else s).time = s.time := ite_frame s.gateDown_time rfl
  exact kept.trans ((State.saveMast_flushed _).trans (congrArg TimeSt.mast time))

theorem State.enterLow_sleep (s : State) (command : Bool) (cause : Nat) :
    (s.enterLow 0 command cause).pwr.module_ = .sleep ∧ (s.enterLow 0 command cause).pwr.domains = 0 ∧
      (s.enterLow 0 command cause).pwr.resetCause = cause ∧ (s.enterLow 0 command cause).pwr.savedMast = s.time.mast := by
  have recorded (l : List Int) : (s.raisePwr 0x0F05 l).time = s.time := State.raise_frame (fun _ _ => rfl) _ _ _ _ _
  have time (t : State) (same : t.time = s.time) : (if s.domain 15 then t.gateDown else t).time = s.time :=
    (ite_frame t.gateDown_time rfl).trans same
  exact ⟨rfl, rfl, rfl, (State.saveMast_flushed _).trans (congrArg TimeSt.mast (time _ (recorded _)))⟩

theorem thermalLimit_due {since : Nat} (hot : s.pwr.hotSince = some since) (up : s.pwr.down = false)
    (due : since + 10000000000 ≤ s.now) (temp : Int) :
    thermalLimit temp s = (s.raisePwr 0x0F09 [1, temp, 0]).enterLow 0 false 5 := by
  unfold thermalLimit
  rw [hot]
  exact if_neg (by simp [up, due])

end Entry

/-! #### Wake sources, connectors and the outlet's warning -/

section Wake
variable {s : State}

theorem powerOn_unpowered (off : s.pwr.module_ = .unpowered) (held : Bool) : powerOn held s =
    s.updPwr fun p => { p with resetCause := 0, esup := [], rtcLost := p.rtcLost || !held } := if_pos off

theorem wakeChange_asserted : wakeChange true s = s.updPwr fun p => { p with wake := true, runOn := none } := rfl

theorem wakeChange_released (up : s.pwr.down = false) (wake : s.pwr.wake = true) : wakeChange false s =
    s.updPwr fun p => { p with wake := false, runOn := some s.now } := by
  simp [wakeChange, State.updPwr, up, wake]

theorem State.wakeEvent_down (down : s.pwr.down = true) (supplied : 16000 ≤ s.pwr.esupMean) :
    s.wakeEvent = s.updPwr fun p => { p with wakePending := true } :=
  if_pos (by simp [down, supplied])

theorem canWakePattern_enabled {n : Nat} (enabled : (u16 s.pwr.config 2 % 4096).testBit n = true) (off : s.domain 12 = false) :
    canWakePattern n s = s.wakeEvent :=
  if_pos (by simp [bitOf_eq_testBit, enabled, off])

theorem rtcAlarm_due {c : Nat} (alarm : s.pwr.alarmAt = some c) (due : c ≤ s.time.mast / 1000000000) :
    rtcAlarm s = s.wakeEvent.updPwr fun p => { p with alarmAt := s.nextAlarm } := by
  unfold rtcAlarm
  rw [alarm]
  exact if_neg (Nat.not_lt.2 due)

theorem runOnExpiry_due {since : Nat} (running : s.pwr.runOn = some since) (set : u16 s.pwr.config 4 ≠ 0)
    (released : s.pwr.wake = false) (due : since + u16 s.pwr.config 4 * 1000000000 ≤ s.now) :
    runOnExpiry s = s.updPwr fun p => { p with runOn := none, lowEntry := some (u8 p.config 0, false) } := by
  unfold runOnExpiry
  rw [running]
  exact if_neg (by simp [set, released, due])

theorem connector_named {n : Nat} (first : 1 ≤ n) (last : n ≤ 8) (on : s.domain 0 = true) (mated : Bool) :
    connector n mated s = (s.updPwr fun p => { p with connectors := setBit p.connectors (n - 1) mated }).raisePwr
      (if mated then 0x0F07 else 0x0F06) [(n : Int)] := by
  have named : n ≠ 0 ∧ ¬ 8 < n := by omega
  exact if_neg (by simp [named, on])

/-- The cold plate's outlet comes to its warning level. -/
theorem State.senseTemp_outlet_warned {temp : Int} (on : s.domain 0 = true) (cool : s.pwr.thermalWarn.testBit 1 = false)
    (level : 10 * (u8 s.pwr.config 12 : Int) ≤ temp) : s.senseTemp 1 temp = (s.updPwr fun p =>
      { p with
        temps := Tbl.put p.temps 1 temp
        hotSince := if 950 ≤ temp then some (p.hotSince.getD s.now) else none
        thermalWarn := setBit p.thermalWarn 1 true }).raisePwr 0x0F08 [1, temp] := by
  let t := s.updPwr fun p =>
    { p with temps := Tbl.put p.temps 1 temp, hotSince := if 950 ≤ temp then some (p.hotSince.getD s.now) else none }
  have measured : t.temp 1 = temp := Tbl.getD_put_self _ _ _ _
  have warned : t.judgeWarning 1 =
      (t.updPwr fun p => { p with thermalWarn := setBit p.thermalWarn 1 true }).raisePwr 0x0F08 [1, t.temp 1] :=
    if_pos (by simpa [bitOf_eq_testBit, measured] using ⟨cool, level⟩)
  have unlimited (u : State) : u.judgeLimit 1 = u := by simp [State.judgeLimit, sensorLane]
  have judged : s.senseTemp 1 temp = (t.judgeWarning 1).judgeLimit 1 := if_pos on
  rw [judged, unlimited, warned, measured]
  rfl

end Wake

/-- Settles O57: each event by the condition under which the controller acts on it. -/
theorem powerCommandsComplete : Obligations.PowerCommandsComplete := by
  refine ⟨?status, ?on, ?supply, ?fail, ?wake, ?can, ?alarm, ?runOn, ?connector, ?warning, ?limit⟩
  case status => exact fun dt s r z ht ha => pwrGetStatus_requests.exec_read ht ha rfl rfl rfl
  case on => exact fun dt s held ht off => runCmd_to ht (powerOn_unpowered (s := s.elapse dt) off held)
  case supply =>
    intro dt s mv watts ht on u mean
    have sound := esupMeasure_sound (s := s.elapse dt) (mv := mv) (watts := watts) on rfl
    exact ⟨fun high was => runTaking_to ht ((sound high).trans (State.judgeSupply_steady high was)),
      fun high was => runTaking_to ht ((sound high).trans (State.judgeSupply_recovered high was)),
      fun low => runTaking_to ht ((esupMeasure_on (s := s.elapse dt) on rfl).trans (State.judgeSupply_low low))⟩
  case fail =>
    exact fun dt s since ht failing on due => ⟨_, runCmd_to ht rfl, supplyFail_due (s := s.elapse dt) failing on due⟩
  case wake =>
    exact fun dt s ht => ⟨runCmd_to ht wakeChange_asserted,
      fun up wake => runCmd_to ht (wakeChange_released (s := s.elapse dt) up wake)⟩
  case can =>
    exact fun dt s n ht enabled off down supplied => runCmd_to ht
      ((canWakePattern_enabled (s := s.elapse dt) enabled off).trans (State.wakeEvent_down down supplied))
  case alarm =>
    intro dt s c ht alarm due down supplied set
    refine runCmd_to ht ((rtcAlarm_due (s := s.elapse dt) alarm due).trans ?_)
    rw [State.wakeEvent_down (s := s.elapse dt) down supplied]
    have next : (s.elapse dt).nextAlarm = _ := if_neg set
    rw [next]
    rfl
  case runOn =>
    exact fun dt s since ht running set released due =>
      runCmd_to ht (runOnExpiry_due (s := s.elapse dt) running set released due)
  case connector =>
    exact fun dt s n ht first last on => ⟨runCmd_to ht (connector_named (s := s.elapse dt) first last on true),
      runCmd_to ht (connector_named (s := s.elapse dt) first last on false)⟩
  case warning =>
    exact fun dt s temp ht on cool level => runTaking_to (f := fun u => u.senseTemp 1 temp) ht
      (State.senseTemp_outlet_warned (s := s.elapse dt) on cool level)
  case limit =>
    intro dt s since temp ht hot up due
    have time : ((s.elapse dt).raisePwr 0x0F09 [1, temp, 0]).time = (s.elapse dt).time :=
      State.raise_frame (fun _ _ => rfl) _ _ _ _ _
    obtain ⟨module_, domains, cause, saved⟩ := State.enterLow_sleep ((s.elapse dt).raisePwr 0x0F09 [1, temp, 0]) false 5
    exact ⟨_, runCmd_to ht (thermalLimit_due (s := s.elapse dt) hot up due temp), module_, domains, cause,
      saved.trans (congrArg TimeSt.mast time)⟩

end Sys2Proof.Machine

namespace Sys2Proof.Machine
open Sys2Proof

/-! ### What a start and a module reset keep (18 R465, R466, R470, R471) -/

theorem State.endPulses_frame {α : Type} {π : State → α} (out : ∀ (s : State) x, π { s with out := x } = π s) (s : State) :
    π s.endPulses = π s :=
  (ite_frame (out _ _) rfl).trans (ite_frame (out _ _) rfl)

/-- A start clears the module but for what R470 keeps. -/
structure Restarted (s t : State) : Prop where
  module_  : t.pwr.module_ = .starting
  staged   : t.staged = []
  power    : t.power = {}
  origins  : t.main.origins = []
  trouble  : t.main.trouble = []
  store    : t.rec_.store = s.rec_.store
  change   : t.rec_.change = s.rec_.change
  keys     : t.sys.keys = s.sys.keys
  anchored : t.time.anchored = false

theorem State.cleared_restarted {s t : State} {time : TimeSt} {g : GnssSt} {p : PwrSt} (rec_ : s.rec_ = t.rec_)
    (sys : s.sys = t.sys) (anchored : time.anchored = false) (starting : p.module_ = .starting) :
    Restarted t (s.cleared time g p) :=
  ⟨starting, rfl, rfl, rfl, rfl, (congrArg RecSt.store rec_ :), (congrArg RecSt.change rec_ :), (congrArg SysSt.keys sys :),
    anchored⟩

theorem State.endPulses_cleared_restarted (s : State) {time : TimeSt} {g : GnssSt} {p : PwrSt} (anchored : time.anchored = false)
    (starting : p.module_ = .starting) : Restarted s (s.endPulses.cleared time g p) :=
  State.cleared_restarted (State.endPulses_frame (π := State.rec_) (fun _ _ => rfl) s)
    (State.endPulses_frame (π := State.sys) (fun _ _ => rfl) s) anchored starting

section Starts
variable {s : State}

/-- The controller as a start begins. -/
def PwrSt.started (p : PwrSt) (now phase domains : Nat) : PwrSt :=
  { p with
    module_ := .starting
    phase1At := now
    wakePending := false
    alarmAt := none
    rtcLost := false
    phase := phase
    domains := domains }

theorem moduleStart_watch (may : s.mayStart = true) (watch : s.pwr.module_ = .watch) : moduleStart s =
    s.endPulses.cleared s.keptTime { s.gnss.resetSettings with tp0 := { cfg := pulseReset }, tp1 := { cfg := pulseReset } }
      (s.pwr.started s.now 2 17409) := by
  unfold moduleStart
  rw [if_neg (by simp [may])]
  exact if_pos watch

theorem moduleStart_off (may : s.mayStart = true) (off : s.pwr.module_ ≠ .watch) : moduleStart s =
    s.cleared { s.clockTime s.gnss.saved.leap with mast := s.mastAtStart } s.gnss (s.pwr.started s.now 1 1) := by
  unfold moduleStart
  rw [if_neg (by simp [may])]
  exact if_neg off

theorem moduleResetBegin_due {due : Nat} (reset : s.pwr.resetAt = some due) (reached : due ≤ s.now) :
    let g := { (s.gnss.trackerDown s.now).resetSettings with tp0 := { cfg := pulseReset }, tp1 := { cfg := pulseReset } }
    moduleResetBegin s = s.endPulses.cleared s.keptTime (if s.domain 10 then g else { g with data := g.saved })
      { s.pwr.carried with
        module_ := .starting
        phase := 2
        resetCause := 4
        domains := 17409
        phase1At := s.now } := by
  unfold moduleResetBegin
  rw [reset]
  exact if_neg (Nat.not_lt.2 reached)

theorem startPhaseComplete_next {n : Nat} (starting : s.pwr.module_ = .starting) (phase : s.pwr.phase = n) (first : 1 ≤ n)
    (last : n ≤ 6) (filled : n = 4 → (s.memc 0).fillFrom = none ∧ (s.memc 1).fillFrom = none) :
    startPhaseComplete s = (s.beginPhase (n + 1)).tryNameStart := by
  subst phase
  have named : s.pwr.phase ≠ 0 ∧ s.pwr.phase ≤ 7 ∧ s.pwr.phase ≠ 7 := by omega
  unfold startPhaseComplete
  dsimp only
  rw [if_neg (by simp [starting, named]), if_neg (by simpa using filled), if_neg (by simp [named])]

/-! ### The domains of each phase (18 R467, Table 18-2) -/

theorem foldl_domainOn_domain (l : List Nat) (s : State) (k : Nat) :
    (l.foldl State.domainOn s).domain k = (decide (k ∈ l) || s.domain k) := by
  induction l generalizing s with
  | nil => simp
  | cons n r ih =>
    rw [List.foldl_cons, ih, (s.domainOn_switched n).domain]
    by_cases same : k = n <;> simp [same]

theorem State.refreshTime_frame {α : Type} {π : State → α} (time : ∀ (s : State) x, π { s with time := x } = π s) (s : State) :
    π s.refreshTime = π s := ite_frame rfl (time _ _)

theorem State.linksDown_frame {α : Type} {π : State → α} (rec_ : ∀ (s : State) x, π { s with rec_ := x } = π s) (s : State)
    (keep : Nat → Bool) : π (s.linksDown keep) = π s :=
  foldl_frame (fun t _ => State.raise_frame rec_ t _ _ _ _) _ _

theorem State.cascadeChanged_pwr (s : State) : s.cascadeChanged.pwr = s.pwr := by
  have down (keep : Nat → Bool) : (s.linksDown keep).pwr = s.pwr := State.linksDown_frame (fun _ _ => rfl) s keep
  unfold State.cascadeChanged
  split
  · exact (State.refreshTime_frame (π := State.pwr) (fun _ _ => rfl) _).trans (down _)
  · exact down _

/-- Phase 3 switches on the shared domains. -/
theorem State.phase3_domain (s : State) (k : Nat) :
    s.phase3.domain k = (decide (k ∈ [1, 15, 7, 6, 8, 9, 10, 11, 12, 13]) || s.domain k) := by
  have last (u : State) : ((((u.setDomain 1 true).setDomain 15 true).memOn 5).cascadeChanged.updPwr fun p =>
      { p with d15At := s.now }).domain k = if k = 15 then true else if k = 1 then true else u.domain k := by
    have pwr := State.cascadeChanged_pwr (((u.setDomain 1 true).setDomain 15 true).memOn 5)
    have switched : ((u.setDomain 1 true).setDomain 15 true).domain k =
        if k = 15 then true else if k = 1 then true else u.domain k := by
      rw [State.setDomain_domain, State.setDomain_domain]
    exact (congrArg (fun p : PwrSt => bitOf p.domains k) pwr).trans switched
  unfold State.phase3
  obtain ⟨b, i⟩ := s.startImage
  refine (last _).trans ?_
  rw [foldl_domainOn_domain]
  have image (n : Nat) : ({ s with sched := { s.sched with image := i, activeBank := b } } : State).domain n = s.domain n := rfl
  simp only [image, List.mem_filter, List.mem_cons, List.not_mem_nil]
  by_cases switched : k = 15 ∨ k = 1
  · obtain rfl | rfl := switched <;> simp
  · obtain ⟨other, neither⟩ := not_or.1 switched
    cases s.domain k <;> simp [other, neither]

/-- Phase 4 switches on the lanes' memories. -/
theorem State.phase4_domain (s : State) : s.phase4.domain 3 = true ∧ s.phase4.domain 5 = true := by
  have filled (t : State) (k : Nat) : ((t.startFill 0).startFill 1).domain k = t.domain k :=
    State.domain_of_regime ((State.startFill_regime _ _).trans (State.startFill_regime _ _)) k
  have memory (k : Nat) : ((s.domainOn 3).domainOn 5).domain k = if k = 5 then true else if k = 3 then true else s.domain k := by
    rw [((s.domainOn 3).domainOn_switched 5).domain, (s.domainOn_switched 3).domain]
  exact ⟨(filled _ 3).trans ((memory 3).trans rfl), (filled _ 5).trans ((memory 5).trans rfl)⟩

/-- Phase 5 switches on the cores, and both lanes' firmware runs. -/
theorem State.phase5_runs (s : State) : s.phase5.domain 2 = true ∧ s.phase5.domain 4 = true ∧ s.phase5.main.running = true ∧
    s.phase5.mizzen.running = true := by
  have boots (t : State) : ((t.boot .main).boot .mizzen).pwr = t.pwr ∧ ((t.boot .main).boot .mizzen).main.running = true ∧
      ((t.boot .main).boot .mizzen).mizzen.running = true := ⟨rfl, rfl, rfl⟩
  obtain ⟨pwr, running⟩ := boots ((s.setDomain 2 true).setDomain 4 true)
  have cores (k : Nat) : s.phase5.domain k = if k = 4 then true else if k = 2 then true else s.domain k := by
    rw [State.phase5, State.domain_of_domains (congrArg PwrSt.domains pwr), State.setDomain_domain, State.setDomain_domain]
  exact ⟨by rw [cores, if_neg (by decide), if_pos rfl], by rw [cores, if_pos rfl], running⟩

/-! ### The start-up boundary (18 R468) -/

theorem State.boundaryAhead_mod (s : State) : s.boundaryAhead % s.majorLen = 0 := Nat.mul_mod_left _ _

theorem State.boundaryAhead_bounds {s : State} (image : 0 < s.majorLen) :
    s.grid + 1000000 ≤ s.boundaryAhead ∧ s.boundaryAhead < s.grid + 1000000 + s.majorLen := by
  unfold State.boundaryAhead
  generalize s.grid + 1000000 = least at *
  have whole := Nat.div_add_mod (least + s.majorLen - 1) s.majorLen
  have part := Nat.mod_lt (least + s.majorLen - 1) image
  rw [Nat.mul_comm] at whole
  omega

theorem State.tryNameStart_names (starting : s.pwr.module_ = .starting) (unnamed : s.pwr.startupAt = none)
    (running : s.xt.stopped = false) (main : s.xt.main.ready = true) (mizzen : s.xt.mizzen.ready = true)
    (settled : s.pwr.d15At + 10000000 ≤ s.now) (time : s.timeWaitOver = true) (cascade : s.cascadeWaitOver = true) :
    s.tryNameStart = (s.anchor.updPwr fun p => { p with startupAt := some s.anchor.boundaryAhead }).initFor
      s.anchor.boundaryAhead := by
  unfold State.tryNameStart
  rw [unnamed]
  exact if_pos (by simp [starting, running, main, mizzen, settled, time, cascade])

theorem startupBoundary_entered {g : Nat} (named : s.pwr.startupAt = some g) (starting : s.pwr.module_ = .starting)
    (main : s.xt.main.ready = true) (mizzen : s.xt.mizzen.ready = true) (due : g ≤ s.anchor.grid)
    (whole : s.anchor.grid % s.majorLen = 0) :
    let u := s.anchor
    let v : State := { u with time := { u.time with anchored := true, lastMajor := some u.grid } }
    let w := ((v.setImage v.sched.image v.sched.activeBank).lanesStart.cascadeChanged.swapMajor 0).joinStops.restartStreams
    let x := w.updPwr fun p => p.enterRun w.now w.major
    startupBoundary s = (x.raisePwr 0x0F01 [(x.pwr.resetCause : Int), toSigned 32 w.major, (x.pwr.startMs : Int)]).tellLanes := by
  have anchored : s.anchor.pwr.module_ = .starting ∧ s.anchor.grid % s.anchor.majorLen = 0 ∧
      s.anchor.xt.main.ready = true ∧ s.anchor.xt.mizzen.ready = true := ⟨starting, whole, main, mizzen⟩
  unfold startupBoundary
  rw [named]
  exact if_neg (by simp [anchored, due])

end Starts

/-- Settles O58: a start and a reset by what they clear and keep, the phases by what they switch on, the boundary as it is named
and entered. -/
theorem startsComplete : Obligations.StartsComplete := by
  refine ⟨?start, ?reset, ?next, ?phases, ?name, ?boundary⟩
  case start =>
    intro dt s ht may
    by_cases watch : s.pwr.module_ = .watch
    · have cleared := (s.elapse dt).endPulses_cleared_restarted (time := (s.elapse dt).keptTime)
        (g := { (s.elapse dt).gnss.resetSettings with tp0 := { cfg := pulseReset }, tp1 := { cfg := pulseReset } })
        (p := (s.elapse dt).pwr.started (s.elapse dt).now 2 17409) rfl rfl
      exact ⟨_, runCmd_to ht (moduleStart_watch (s := s.elapse dt) may watch), cleared.module_, rfl, cleared.staged,
        cleared.power, cleared.origins, cleared.trouble, cleared.store, cleared.change, cleared.keys, cleared.anchored,
        fun _ => ⟨rfl, rfl, rfl, rfl, rfl⟩, fun off => absurd watch off⟩
    · exact ⟨_, runCmd_to ht (moduleStart_off (s := s.elapse dt) may watch), rfl, rfl, rfl, rfl, rfl, rfl, rfl, rfl, rfl, rfl,
        fun on => absurd on watch, fun _ => ⟨rfl, rfl, rfl, rfl⟩⟩
  case reset =>
    intro dt s due ht reset reached
    have rec_ := State.endPulses_frame (π := State.rec_) (fun _ _ => rfl) (s.elapse dt)
    have sys := State.endPulses_frame (π := State.sys) (fun _ _ => rfl) (s.elapse dt)
    refine ⟨_, runCmd_to ht (moduleResetBegin_due (s := s.elapse dt) reset reached), rfl, rfl, rfl, rfl, rfl, rfl,
      (congrArg RecSt.store rec_ :), (congrArg SysSt.keys sys :), rfl, rfl, ?_⟩
    exact apply_ite GnssSt.data (s.domain 10 = true) _ _
  case next =>
    exact fun dt s n ht starting phase first last filled =>
      runTaking_to ht (startPhaseComplete_next (s := s.elapse dt) starting phase first last filled)
  case phases =>
    intro s
    have shared (k : Nat) (named : k ∈ [1, 15, 7, 6, 8, 9, 10, 11, 12, 13]) : (s.beginPhase 3).domain k = true :=
      (State.phase3_domain _ k).trans (by simp [named])
    obtain ⟨memMain, memMizzen⟩ := (s.updPwr fun p => { p with phase := 4 }).phase4_domain
    obtain ⟨coresMain, coresMizzen, main, mizzen⟩ := (s.updPwr fun p => { p with phase := 5 }).phase5_runs
    refine ⟨(State.domainOn_switched _ 14).domain 14, shared 1 (by decide), shared 15 (by decide), fun n low high => ?_, memMain,
      memMizzen, coresMain, coresMizzen, main, mizzen⟩
    have middle : ∀ n, n < 14 → 6 ≤ n → n ∈ [1, 15, 7, 6, 8, 9, 10, 11, 12, 13] := by decide
    exact shared n (middle n (by omega) low)
  case name =>
    intro dt s ht starting unnamed running main mizzen settled time cascade
    exact ⟨runTaking_to ht (State.tryNameStart_names (s := s.elapse dt) starting unnamed running main mizzen settled time cascade),
      State.boundaryAhead_mod _, State.boundaryAhead_bounds⟩
  case boundary =>
    intro dt s g ht named starting main mizzen due whole
    exact ⟨runTaking_to ht (startupBoundary_entered (s := s.elapse dt) named starting main mizzen due whole),
      fun p => ⟨rfl, rfl, rfl⟩, fun y => ⟨rfl, rfl, rfl⟩⟩

end Sys2Proof.Machine
